-- ==== Sys2Proof/Word.lean ====
section
/-! DEFINITION. The plain types every other file uses: a byte, a register word, a string of bytes,
and a sparse table (a list of key and value pairs in one canonical form). -/

namespace Sys2Proof

/-- One byte. -/
abbrev Byte := BitVec 8

/-- One register (R14: registers are 32 bits wide) or a counter that wraps at 2^32. -/
abbrev Word := BitVec 32

/-- A string of bytes, lowest address first. -/
abbrev Bytes := List Byte

/-- A sparse table: keys strictly rising, and no entry equal to what an unlisted key reads as. -/
abbrev Tab (α : Type) := List (Nat × α)

/-- A store of bytes by address: a sparse table of `Host.Cell`. -/
abbrev Memory := List Host.Cell

end Sys2Proof
end

