-- ==== Sys2Proof/Machine/Bits.lean ====
section
/-! DEFINITION. Byte order, bit fields, fixed-point conversions and sparse tables: the helpers that
the meanings of every chapter use. -/

namespace Sys2Proof.Machine

/-- The element at index `i`, or `d` beyond the end. -/
def getD' {α : Type} : List α → Nat → α → α
  | [], _, d => d
  | x :: _, 0, _ => x
  | _ :: r, i + 1, d => getD' r i d

/-- The byte of `p` at offset `i`, as a number; 0 beyond the end. -/
def rd8 (p : Bytes) (i : Nat) : Nat := (getD' p i 0).toNat

/-- A little-endian number of `n` bytes at offset `i`. -/
def rdLE (p : Bytes) : Nat → Nat → Nat
  | _, 0 => 0
  | i, n + 1 => rd8 p i + 256 * rdLE p (i + 1) n

/-- The little-endian 16-bit field at offset `i`. -/
def rd16 (p : Bytes) (i : Nat) : Nat := rdLE p i 2
/-- The little-endian 32-bit field at offset `i`. -/
def rd32 (p : Bytes) (i : Nat) : Nat := rdLE p i 4
/-- The little-endian 64-bit field at offset `i`. -/
def rd64 (p : Bytes) (i : Nat) : Nat := rdLE p i 8

/-- The number `n` read as a two's-complement value of `w` bits. -/
def signed (w n : Nat) : Int :=
  if n % 2 ^ w < 2 ^ (w - 1) then ((n % 2 ^ w : Nat) : Int) else ((n % 2 ^ w : Nat) : Int) - 2 ^ w

/-- The little-endian signed 16-bit field at offset `i`. -/
def rdS16 (p : Bytes) (i : Nat) : Int := signed 16 (rd16 p i)
/-- The little-endian signed 32-bit field at offset `i`. -/
def rdS32 (p : Bytes) (i : Nat) : Int := signed 32 (rd32 p i)

/-- The low `w` bits of an integer, as a natural number (its two's-complement code). -/
def code (w : Nat) (x : Int) : Nat := (x % (2 ^ w : Int)).toNat

/-- The number `n` as `k` little-endian bytes. -/
def leB : Nat → Nat → Bytes
  | 0, _ => []
  | k + 1, n => BitVec.ofNat 8 n :: leB k (n / 256)

/-- The number `n` as `k` big-endian bytes. -/
def beB (k n : Nat) : Bytes := (leB k n).reverse

/-- `k` bytes of zero. -/
def zeros (k : Nat) : Bytes := List.replicate k 0

/-- A signed value as `k` little-endian bytes. -/
def leI (k : Nat) (x : Int) : Bytes := leB k (code (8 * k) x)

/-- The bytes of `p` from offset `i`, `n` of them; zeros stand for bytes beyond the end. -/
def slice (p : Bytes) (i n : Nat) : Bytes := (List.range n).map fun k => getD' p (i + k) 0

/-- Every byte of `p` from offset `i`, `n` of them, is zero. -/
def zeroAt (p : Bytes) (i n : Nat) : Bool := (List.range n).all fun k => rd8 p (i + k) == 0

/-- A big-endian number read from bytes. -/
def rdBE (p : Bytes) (i n : Nat) : Nat := (slice p i n).foldl (fun a b => 256 * a + b.toNat) 0

/-- Bits `hi` down to `lo` of `n`. -/
def bits (n hi lo : Nat) : Nat := n / 2 ^ lo % 2 ^ (hi + 1 - lo)

/-- Bit `i` of `n`. -/
def bit (n i : Nat) : Bool := n / 2 ^ i % 2 == 1

/-- A flag as a number. -/
def b2n (b : Bool) : Nat := if b then 1 else 0

/-- The word with bit `i` set. -/
def setBit (w : Word) (i : Nat) : Word := w ||| (1#32 <<< i)

/-- The word with bit `i` set when `b` holds. -/
def setBitIf (b : Bool) (w : Word) (i : Nat) : Word := if b then setBit w i else w

/-- W1C (R15, R542): every bit written as 1 clears. -/
def w1c (w v : Word) : Word := w &&& ~~~ v

/-- A word from a number. -/
def wd (n : Nat) : Word := BitVec.ofNat 32 n

/-! Fixed-point arithmetic (R23, R24). -/

/-- The arithmetic right shift that truncates toward minus infinity (R24). -/
def sar (x : Int) (k : Nat) : Int := x / (2 ^ k : Int)

/-- Clamp to a range. -/
def clampI (lo hi x : Int) : Int := if x < lo then lo else if hi < x then hi else x

/-- Saturate to a signed word of 32 bits: Q1.31 or Q4.28 (R24, R25). -/
def sat32 (x : Int) : Int := clampI (-(2 ^ 31)) (2 ^ 31 - 1) x

/-- Saturate to the 80-bit accumulator's range. -/
def sat80 (x : Int) : Int := clampI (-(2 ^ 79)) (2 ^ 79 - 1) x

/-- Keep the low bits of the target width (R24 with the saturation mode bit clear). -/
def keep (w : Nat) (x : Int) : Int := signed w (code w x)

/-- A product of two Q1.31 values truncated to Q1.31 (R24). -/
def mulQ31 (a b : Int) : Int := sar (a * b) 31

/-- The exact integer square root. -/
def isqrt (n : Nat) : Nat :=
  (List.range (n.log2 / 2 + 1)).reverse.foldl
    (fun r i => if (r + 2 ^ i) * (r + 2 ^ i) ≤ n then r + 2 ^ i else r) 0

/-- The sum of a list of integers. -/
def sumI (l : List Int) : Int := l.foldl (· + ·) 0

/-- The sum of a list of natural numbers. -/
def sumN (l : List Nat) : Nat := l.foldl (· + ·) 0

/-- Division rounded up. -/
def ceilDiv (a b : Nat) : Nat := (a + b - 1) / b

/-- Integer division rounded up, for a positive divisor. -/
def ceilDivI (a b : Int) : Int := -((-a) / b)

/-! Sparse tables. -/

/-- The value at key `k`; `d` where the table lists none. -/
def tabGet {α : Type} (d : α) : Tab α → Nat → α
  | [], _ => d
  | (k', v) :: r, k => if k = k' then v else tabGet d r k

/-- Write `v` at key `k`, where `d` is what the unlisted key reads as: the canonical form is kept. -/
def tabSet {α : Type} [DecidableEq α] (d : α) : Tab α → Nat → α → Tab α
  | [], k, v => if v = d then [] else [(k, v)]
  | (k', v') :: r, k, v =>
    if k < k' then (if v = d then (k', v') :: r else (k, v) :: (k', v') :: r)
    else if k = k' then (if v = d then r else (k, v) :: r)
    else (k', v') :: tabSet d r k v

/-- Write a run of values from key `k` upward. -/
def tabFill {α : Type} [DecidableEq α] (d : α) : Tab α → Nat → List α → Tab α
  | t, _, [] => t
  | t, k, v :: vs => tabFill d (tabSet d t k v) (k + 1) vs

/-- Change every listed entry; `d` is what unlisted keys read as. -/
def tabMap {α : Type} [DecidableEq α] (d : α) (f : α → α) (t : Tab α) : Tab α :=
  (t.map fun e => (e.1, f e.2)).filter fun e => decide (e.2 ≠ d)

/-- Change every listed entry as its key tells. -/
def tabMapK {α : Type} [DecidableEq α] (d : α) (f : Nat → α → α) (t : Tab α) : Tab α :=
  (t.map fun e => (e.1, f e.1 e.2)).filter fun e => decide (e.2 ≠ d)

/-- Remove every entry whose key lies in `[lo, hi)`. -/
def tabDrop {α : Type} (t : Tab α) (lo hi : Nat) : Tab α :=
  t.filter fun e => decide (e.1 < lo) || decide (hi ≤ e.1)

/-- Every key of the table is at least `lo`, keys rise strictly, and no entry equals what its key reads as unlisted. -/
def tabWfFrom {α : Type} [DecidableEq α] (d : Nat → α) : Nat → Tab α → Bool
  | _, [] => true
  | lo, (k, v) :: r => decide (lo ≤ k) && decide (v ≠ d k) && tabWfFrom d (k + 1) r

/-- The canonical form of a sparse table. -/
def tabWf {α : Type} [DecidableEq α] (d : Nat → α) (t : Tab α) : Bool := tabWfFrom d 0 t

/-! Byte stores: an unlisted byte reads as 0. -/

/-- The byte at an address. -/
def memGet (m : Memory) (a : Nat) : Byte := tabGet 0 m a

/-- Write one byte. -/
def memSet (m : Memory) (a : Nat) (b : Byte) : Memory := tabSet 0 m a b

/-- Write a run of bytes from address `a` upward. -/
def memFill (m : Memory) (a : Nat) (bs : Bytes) : Memory := tabFill 0 m a bs

/-- Read `n` bytes from address `a` upward. -/
def memRead (m : Memory) (a n : Nat) : Bytes := (List.range n).map fun i => memGet m (a + i)

/-- A little-endian number of `n` bytes at address `a` of a store. -/
def memLE (m : Memory) (a : Nat) : Nat → Nat
  | 0 => 0
  | n + 1 => (memGet m a).toNat + 256 * memLE m (a + 1) n

/-- The canonical form of a byte store. -/
def Memory.wf (m : Memory) : Bool := tabWf (fun _ => (0 : Byte)) m

/-! Lists used as arrays. -/

/-- Replace the element at index `i`. -/
def setAt {α : Type} : List α → Nat → α → List α
  | [], _, _ => []
  | _ :: r, 0, v => v :: r
  | x :: r, i + 1, v => x :: setAt r i v

/-- Change the element at index `i`. -/
def modAt {α : Type} : List α → Nat → (α → α) → List α
  | [], _, _ => []
  | x :: r, 0, f => f x :: r
  | x :: r, i + 1, f => x :: modAt r i f

/-- Insert into a list ordered by `before`, after every element that is not greater. -/
def insertBy {α : Type} (before : α → α → Bool) (x : α) : List α → List α
  | [] => [x]
  | y :: r => if before x y then x :: y :: r else y :: insertBy before x r

/-- Sort a list stably by `before`. -/
def sortBy {α : Type} (before : α → α → Bool) (l : List α) : List α :=
  l.foldl (fun acc x => insertBy before x acc) []

/-- The first failing test, or `none`. -/
def firstSome {α : Type} : List (Option α) → Option α
  | [] => none
  | some a :: _ => some a
  | none :: r => firstSome r


end Sys2Proof.Machine
end

