-- ==== Sys2Proof/Machine/ObjTypes.lean ====
section
/-! DEFINITION. The data of objects, bed inputs, their metadata blocks and layouts (chapters "Objects,
Beds and Motion in Scene Time" and "Layouts, Facet Panning and Pair Delay"). -/

namespace Sys2Proof.Machine

/-- A linear ramp of a value (R78, R80, R124, R137, R165): from `g0` at `start`, in `len` steps, to `g1`. -/
structure Ramp where
  g0 : Int
  g1 : Int
  start : Nat
  len : Nat
  deriving DecidableEq, Repr

/-- A ramp that rests at `g`. -/
def Ramp.at (g : Int) : Ramp := { g0 := g, g1 := g, start := 0, len := 0 }

/-- A point or a vector, per axis. -/
structure V3 where
  x : Int
  y : Int
  z : Int
  deriving DecidableEq, Repr

/-- The zero vector. -/
def V3.zero : V3 := { x := 0, y := 0, z := 0 }

/-- An exclusion zone: a box in venue mm, bounds inclusive (R86). -/
structure Zone where
  xmin : Int
  xmax : Int
  ymin : Int
  ymax : Int
  zmin : Int
  zmax : Int
  deriving DecidableEq, Repr

/-- The running segment of an object's path (R74 to R76): from `p0` with velocity `v0` at the boundary `b`,
over `len` ticks, to `p1`. Positions are in 1/256 mm and velocities in 1/65536 mm per tick. -/
structure Seg where
  p0 : V3
  v0 : V3
  p1 : V3
  b : Nat
  len : Nat
  deriving DecidableEq, Repr

/-- What one metadata block or one object command changes. A field that is `none` keeps its value (R70). -/
structure Blk where
  /-- the boundary at which it applies -/
  tick : Nat
  /-- the order among blocks of one boundary (R70): the frame's start and place, or the ASEQ -/
  ordA : Nat
  ordB : Nat
  /-- true: from a command; false: from S-ADM -/
  fromCmd : Bool
  /-- the object commands that belong to the source SRC (R71) -/
  ofSource : Bool
  acid : Option Nat
  source : Option Bool
  pos : Option V3
  /-- the segment's length in ticks (R74); R67 shortens it for a block that takes effect late -/
  len : Nat
  /-- the length of gain and spread ramps: ticks for an object, samples for a bed input (R78, R80, R85) -/
  ramp : Nat
  gain : Option Int
  /-- some true: mute; some false: unmute (R79) -/
  mute : Option Bool
  spread : Option (Bool × Nat)
  zones : Option (List Zone)
  mask : Option Nat
  atten : Option (Nat × Nat × Nat)
  /-- audioBlockFormatID, for continuation blocks (R72) -/
  blockId : Option Nat
  /-- the first block accepted for an object that a stale flow has faded: it brings the gain back (R90) -/
  back : Bool
  deriving DecidableEq, Repr

/-- A block that changes nothing, at a boundary. -/
def Blk.empty (tick ordA ordB : Nat) (fromCmd : Bool) : Blk :=
  { tick, ordA, ordB, fromCmd, ofSource := false, acid := none, source := none, pos := none, len := 1, ramp := 1,
    gain := none, mute := none, spread := none, zones := none, mask := none, atten := none, blockId := none, back := false }

/-- One selection change (R88): the zones and the LAYOUT_MASK in force from the boundary `tick`. -/
structure Sel where
  tick : Nat
  zones : List Zone
  mask : Nat
  deriving DecidableEq, Repr

/-- Staleness of an object (R89, R90). -/
inductive Stale where
  | no | held | faded
  deriving DecidableEq, Repr

/-- One object context (R55, R56). -/
structure ObjCtx where
  acid : Nat
  /-- SRC: false = S-ADM, true = command -/
  src : Bool
  stale : Stale
  /-- the boundary at which a stale object is active again, once a block has been accepted for it (R90, R561) -/
  wake : Option Nat
  seg : Seg
  gain : Ramp
  /-- the last unmuted target (R79) -/
  target : Int
  muted : Bool
  /-- the selection in force, and the selection changes whose fades run (R88), oldest first -/
  base : Sel
  sels : List Sel
  spreadAngle : Bool
  spread : Nat
  /-- the running spread ramp (R85): σ0 for each layout, its start and its length -/
  sigRamp : Option (List Int × Nat × Nat)
  alpha : Nat
  dref : Nat
  dmax : Nat
  pend : List Blk
  /-- the boundary of the last applied block -/
  lastTick : Option Nat
  /-- the S-ADM flow that the object is bound through (R89) -/
  flow : Option Nat
  /-- audioBlockFormatID of the running segment (R72) -/
  blockId : Option Nat
  deriving DecidableEq, Repr

/-- An object context as R56 gives it after reset. -/
def ObjCtx.reset : ObjCtx :=
  { acid := 0, src := false, stale := .no, wake := none, seg := { p0 := .zero, v0 := .zero, p1 := .zero, b := 0, len := 1 },
    gain := .at 0, target := 0, muted := false, base := { tick := 0, zones := [], mask := 0xFFFF }, sels := [],
    spreadAngle := false, spread := 0, sigRamp := none, alpha := 0, dref := 1000, dmax := 100000, pend := [],
    lastTick := none, flow := none, blockId := none }

/-- One bed input (R57, R80): its ramps count in samples. -/
structure BedCtx where
  acid : Nat
  gain : Ramp
  target : Int
  muted : Bool
  pend : List Blk
  lastTick : Option Nat
  deriving DecidableEq, Repr

/-- A bed input after reset (R57). -/
def BedCtx.reset : BedCtx :=
  { acid := 0, gain := .at 0, target := 0, muted := false, pend := [], lastTick := none }

/-- The scene transform (R62). -/
structure Xform where
  o : V3
  h : V3
  dp : Int
  yaw : Nat
  deriving DecidableEq, Repr

/-- The hold time and policy of one S-ADM flow index (META_POLICY, R89, R90). -/
structure MetaPol where
  fade : Bool
  holdMs : Nat
  deriving DecidableEq, Repr

/-- META_POLICY after reset: HOLD with 500 ms (R92). -/
def MetaPol.reset : MetaPol := { fade := false, holdMs := 500 }

/-- The OBJ block: contexts, bed inputs, transform, policies, events and counters (R54 to R93). -/
structure ObjSt where
  objs : Tab ObjCtx
  beds : Tab BedCtx
  xform : Xform
  pol : Tab MetaPol
  /-- the start, in samples, of the newest frame accepted from each S-ADM flow (R89) -/
  frameAt : Tab (Option Nat)
  /-- the records of R55 as they stood at the last completed tick (OBJ_QUERY) -/
  seen : Tab ObjCtx
  seenTick : Nat
  evt : Word
  acceptCnt : Word
  lateCnt : Word
  staleCnt : Word
  dropCnt : Word
  unsupCnt : Word
  deriving DecidableEq, Repr

/-- A decimal value of an ADM attribute: `num / 10^exp` (R60). -/
structure AdmDec where
  num : Int
  exp : Nat
  deriving DecidableEq, Repr

/-- A position of an ADM block: cartesian, or polar in degrees and distance. -/
inductive AdmPos where
  | cart (x y z : AdmDec)
  | polar (az el d : AdmDec)
  deriving DecidableEq, Repr

/-- A zone of a zoneExclusion element: cartesian bounds, or polar. -/
inductive AdmZone where
  | cart (xmin xmax ymin ymax zmin zmax : AdmDec)
  | polar
  deriving DecidableEq, Repr

/-- One audioBlockFormat (R59). Times are in seconds. -/
structure AdmBlock where
  id : Nat
  rtime : AdmDec
  duration : AdmDec
  jump : Option AdmDec
  cartesian : Bool
  pos : Option AdmPos
  gain : Option AdmDec
  width : Option AdmDec
  height : Option AdmDec
  depth : Option AdmDec
  zones : Option (List AdmZone)
  deriving DecidableEq, Repr

/-- One audioChannelFormat: its typeDefinition (1 = DirectSpeakers, 3 = Objects), its ACID and its blocks. -/
structure AdmChannel where
  typ : Nat
  acid : Nat
  blocks : List AdmBlock
  deriving DecidableEq, Repr

/-- frameFormat type of an S-ADM frame (BS.2125). -/
inductive AdmFormat where
  | full
  | divided
  | intermediate
  | header
  | all
  deriving DecidableEq, Repr

/-- An S-ADM frame as the parser gives it (R58, R59). -/
structure AdmFrame where
  /-- it reads as uncompressed XML -/
  xml : Bool
  format : AdmFormat
  channels : List AdmChannel
  deriving DecidableEq, Repr

/-- The module accepts a frame of uncompressed XML whose type is full or divided (R58). Its length is judged where its packets are
put together. -/
def AdmFrame.supported (f : AdmFrame) : Bool := f.xml && (f.format == .full || f.format == .divided)

end Sys2Proof.Machine
end

