-- ==== Sys2Proof/Machine/RteTypes.lean ====
section
/-! DEFINITION. The data of routing and of feed correction (chapters "Routing: Crosspoint and Compiled
Graph" and "Feed Correction and Hinges"), and where a deferred reply goes. -/

namespace Sys2Proof.Machine

/-- The path a command came by: PCIe, a MGMT datagram from an IPv4 address and port, or a relay of the follower. -/
inductive CmdSrc where
  | pcie
  | mgmt (ip port : Nat)
  | relay (seq : Nat)
  | none
  deriving DecidableEq, Repr

/-- Where the reply of a deferred command goes, and what it answers (R349 to R351). -/
structure ReplyRef where
  src : CmdSrc
  opcode : Nat
  tag : Nat
  aseq : Nat
  deriving DecidableEq, Repr

/-- A hinge that runs: its start tick and its fade length in samples (R173). -/
structure HingeRun where
  start : Nat
  fade : Nat
  deriving DecidableEq, Repr

/-- A route hinge that waits for its boundary (R149, R152). -/
structure RtePend where
  tick : Nat
  fade : Nat
  ref : ReplyRef
  deriving DecidableEq, Repr

/-- The RTE block (R128 to R159). -/
structure RteSt where
  graph : Bool
  bank : Nat
  /-- the route program of each bank -/
  prog0 : Memory
  prog1 : Memory
  /-- gain slot `i` of bank `b` at `16384 * b + i`: a ramp counted in samples (R132, R133) -/
  gains : Tab Ramp
  xpSrc : Tab Nat
  xpDst : Tab Nat
  align : Tab Nat
  staging : Memory
  frozen : Bool
  hinge : Option HingeRun
  pend : Option RtePend
  /-- ROUTE_GAIN changes that wait for their boundary: tick, ASEQ, slots and values (R133) -/
  gainPend : List (Nat × Nat × List (Nat × Int))
  /-- the bank whose summing nodes take j from their target in the given tick (R149) -/
  fresh : Option (Nat × Nat)
  /-- scale index j and target index of node `n` of bank `b` at `4096 * b + n`, of destination `d` at `8192 + d` -/
  scale : Tab Nat
  target : Tab Nat
  /-- DELAY lines: sample `m` of node `n` of bank `b` at `4096 * (4096 * b + n) + m % 4096` -/
  lines : Tab Int
  /-- bed buses after gain, before alignment: sample `m` of bed `b` at `4096 * b + m % 4096` (R130) -/
  bedLine : Tab Int
  /-- node outputs, with their scale index: node `n` of bank `b` in tick `t` at `16 * (8192 * (t % 4) + 4096 * b + n) + i` -/
  nodeOut : Tab (Int × Nat)
  /-- feed inputs that a program or the crosspoint writes: feed `f`, bank `b`, tick `t` at `16 * (2048 * (t % 4) + 1024 * b + f) + i` -/
  feedOut : Tab Int
  ingress : Nat
  evt : Word
  satCnt : Word
  hingeCnt : Word
  wdiscardCnt : Word
  deriving DecidableEq, Repr

/-- One biquad section's state (R164). -/
structure Biq where
  x1 : Int
  x2 : Int
  y1 : Int
  y2 : Int
  e : Int
  deriving DecidableEq, Repr

/-- A biquad section's state at the start of its life. -/
def Biq.zero : Biq := { x1 := 0, x2 := 0, y1 := 0, y2 := 0, e := 0 }

/-- One feed's correction state besides its records (R160 to R183). -/
structure FeedCor where
  bank : Nat
  hinge : Option HingeRun
  /-- feed gain: a ramp counted in samples (R165) -/
  gain : Ramp
  gainSeen : Int
  dirty : Bool
  /-- the start boundary of the feed's last hinge (R214), and the number of its request -/
  lastHinge : Option Nat
  lastReq : Option Nat
  /-- the state of sections 0 to 7 of banks 0 and 1 -/
  biq0 : List Biq
  biq1 : List Biq
  deriving DecidableEq, Repr

/-- A feed's correction state after reset (R165, R167). -/
def FeedCor.reset : FeedCor :=
  { bank := 0, hinge := none, gain := Ramp.at 0x10000000, gainSeen := 0x10000000, dirty := false,
    lastHinge := none, lastReq := none, biq0 := List.replicate 8 Biq.zero, biq1 := List.replicate 8 Biq.zero }

/-- What a hinge of calibration's own brings (R212, R214): the gains of an adoption, or those that a veto returns to. -/
inductive CalHinge where
  | adopt (g : List Int)
  | revert (g : List Int)
  deriving DecidableEq, Repr

/-- A correction request: pending until it starts, then running until its fade ends (R179 to R182). -/
structure CorReq where
  id : Nat
  feeds : List Nat
  start : Nat
  fade : Nat
  revert : Bool
  /-- calibration requested it, and for what -/
  cal : Option CalHinge
  ref : ReplyRef
  deriving DecidableEq, Repr

/-- A fold group (R171). -/
structure Fold where
  target : Nat
  members : List Nat
  deriving DecidableEq, Repr

/-- The COR block (R160 to R186). -/
structure CorSt where
  /-- the coefficient records of both banks (R168); an unlisted byte reads as the identity gives it (R167) -/
  records : Memory
  feeds : Tab FeedCor
  /-- bit `m` set: feed `2m` is long and feed `2m + 1` absorbed (R170) -/
  longMask : Nat
  folds : Tab (Option Fold)
  pend : List CorReq
  running : List CorReq
  nextId : Nat
  /-- COR_GAIN changes that wait for their boundary -/
  gainPend : List (Nat × Nat × List (Nat × Int))
  /-- feed-input history: sample `m` of feed `f` at `131072 * f + m % 131072`; at 48 kHz `m % 65536` (R162) -/
  line : Tab Int
  /-- chain outputs after the hinge mix, for the fold sum: of tick `t` at `16 * (1024 * (t % 4) + f) + n` (R172) -/
  chain : Tab Int
  /-- incoming banks whose transform of R179 is done, as request number and feed -/
  prep : List (Nat × Nat)
  /-- the shadow of each feed's biquad, gain-ramp and hinge state, as its last COR commit wrote it (R35) -/
  shadow : Tab (Option FeedCor)
  /-- the shadow's chain state entering a tick, for the check of R322: of feed `f` and tick `t` at `4 * f + t % 4`, with its tick -/
  entering : Tab (Option (Nat × FeedCor))
  evt : Word
  satCnt : Word
  hingeCnt : Word
  supersedeCnt : Word
  wdiscardCnt : Word
  prepLateCnt : Word
  deriving DecidableEq, Repr

end Sys2Proof.Machine
end

