-- ==== Sys2Proof/Machine/CalTypes.lean ====
section
/-! DEFINITION. The data of in-service calibration (chapter "In-Service Calibration"). -/

namespace Sys2Proof.Machine

/-- The calibration policy (R219). Levels and gains are in 0.01 dB. -/
structure CalPolicy where
  margin : Int
  ceil : Int
  gmin : Int
  gmax : Int
  rate : Int
  deadband : Int
  confMin : Int
  qblk : Int
  suspect : Int
  navg : Nat
  period : Nat
  hold : Nat
  lead : Nat
  fade : Nat
  maxage : Nat
  vetoHold : Nat
  k : List Int
  deriving DecidableEq, Repr

/-- The policy after reset (R187, R219). -/
def CalPolicy.reset : CalPolicy :=
  { margin := 1200, ceil := -6000, gmin := -600, gmax := 300, rate := 150, deadband := 25, confMin := 2000,
    qblk := 300, suspect := 1000, navg := 16, period := 10, hold := 60, lead := 5000, fade := 4096, maxage := 120,
    vetoHold := 3600, k := [1200, 1000, 800, 600, 600, 600, 600, 600] }

/-- One accepted band estimate (R204): its block and its R_b and Q_b. -/
structure CalEst where
  block : Nat
  r : Int
  q : Int
  deriving DecidableEq, Repr

/-- An enrolled feed (R191 to R211). -/
structure CalFeed where
  /-- 1 = MEASURE, 2 = AUTO -/
  mode : Nat
  cap : Nat
  lagLo : Nat
  g : List Int
  ref : List (Option Int)
  /-- the accepted estimates of each band, newest first (R206) -/
  est : List (List CalEst)
  /-- the bands for which CAL_BASELINE MODE 0 waits for the first full window, with its boundary (R207) -/
  basePend : List (Option Nat)
  suspect : Bool
  /-- the tick at which veto hold ends (R214) -/
  vetoEnd : Nat
  /-- the start boundary of the last adoption (R209) -/
  lastAdopt : Option Nat
  arrival : Option Nat
  /-- gain history: from each boundary on, the gains in force (R211), newest first -/
  gHist : List (Nat × List Int)
  /-- P_b of the newest tick (R197) -/
  p : List Int
  /-- the deadbolt has acted on the probe lane: no probe until the feed is enrolled again (R215) -/
  stopped : Bool
  /-- the boundary from which the estimates count: enrolment, or the last change of capture channel or LAG_LO (R193) -/
  since : Nat
  /-- blocks that have been estimated, rejected or abandoned -/
  ended : List Nat
  deriving DecidableEq, Repr

/-- The filters of a probed feed: the tick they last ran in, those of the masking analysis, which run on without reset, with
ℓ_b of that tick (R196), and those of the probe, set to zero at every block boundary (R195). -/
structure CalRun where
  last : Nat
  mask : List Biq
  exc : List Biq
  ell : List Int
  deriving DecidableEq, Repr

/-- The probe gains of one enrolled feed in one tick, kept for estimation (R200), and whether a pause of probing
faded or zeroed them (R202, R215). -/
structure CalProbe where
  tick : Nat
  prev : List Int
  p : List Int
  faded : Bool
  /-- the tick was one of SWEEP -/
  swept : Bool
  deriving DecidableEq, Repr

/-- A report record (R219). -/
structure CalReport where
  seq : Nat
  feed : Nat
  status : Nat
  decision : Nat
  start : Option Nat
  gOld : List Int
  gNew : List Int
  arrival : Nat
  minConf : Int
  /-- the correction request of this adoption -/
  req : Nat
  /-- the correction request of the revert hinge that a veto of this adoption requested (R214) -/
  revert : Option Nat
  deriving DecidableEq, Repr

/-- One capture channel (R199, R220). -/
structure CapChan where
  bind : Option (Nat × Nat)
  /-- the time in ns at which a sample was last stored -/
  last : Option Nat
  /-- whether the channel counts as LIVE -/
  live : Bool
  clip : Bool
  deriving DecidableEq, Repr

/-- A capture channel after reset. -/
def CapChan.reset : CapChan := { bind := none, last := none, live := false, clip := false }

/-- The CAL block (R187 to R220). -/
structure CalSt where
  policy : CalPolicy
  caps : Tab CapChan
  /-- capture samples: index and value of channel `c` at `2^20 * c + index % 2^20` (R200) -/
  samples : Tab (Option (Nat × Int))
  /-- enrolled feeds -/
  feeds : Tab (Option CalFeed)
  /-- the latest record of each feed (R219); 0 when none -/
  lastSeq : Tab Nat
  /-- the payloads of CAL_QUERY at the last completed tick, by feed -/
  seen : Tab Bytes
  run : Tab (Option CalRun)
  /-- probe gains of feed `f` in tick `N` at `65536 * f + N % 65536` (R200) -/
  probes : Tab (Option CalProbe)
  /-- blocks whose alignment has run and whose estimation has not: feed and block (R203) -/
  aligned : List (Nat × Nat)
  reports : List CalReport
  seq : Nat
  /-- the LEVEL of the sweep that runs (R217) -/
  level : Int
  /-- PEAK, read on entry to RENDER (R197) -/
  peak : Int
  /-- the tick of the last decision round -/
  lastRound : Option Nat
  evt : Word
  blockCnt : Word
  rejectCnt : Word
  abandonCnt : Word
  adoptCnt : Word
  vetoCnt : Word
  clipCnt : Word
  deriving DecidableEq, Repr

end Sys2Proof.Machine
end

