-- ==== Sys2Proof/Machine/PanTypes.lean ====
section
/-! DEFINITION. The data of layouts, the pair store and the geometry engine (chapter "Layouts, Facet
Panning and Pair Delay"). -/

namespace Sys2Proof.Machine

/-- A layout record (R99). -/
structure LayoutRec where
  first : Nat
  count : Nat
  method : Nat
  dslew : Nat
  facetFirst : Nat
  facetCount : Nat
  ref : V3
  datum : Nat
  sound : Nat
  near : Nat
  deriving DecidableEq, Repr

/-- A facet record (R101). -/
structure FacetRec where
  v : List Nat
  nv : Nat
  nb : List Nat
  m : List Int
  deriving DecidableEq, Repr

/-- A pair-store entry, taken apart (R103): delays in Q14.12 and gain codes. -/
structure PairEntry where
  dE : Nat
  dS : Nat
  gE : Nat
  gS : Nat
  deriving DecidableEq, Repr

/-- The PAN block and the geometry engine (R94 to R127). -/
structure PanSt where
  staging : Memory
  /-- the current layout image; zeros define no layout -/
  image : Memory
  /-- the speed of sound of each WAVEFRONT layout: a ramp counted in ticks (R124) -/
  sound : Tab Ramp
  /-- c as it stood at the last completed tick, and whether a ramp ran (PAN_SOUND) -/
  soundSeen : Tab (Nat × Bool)
  /-- both banks of the pair store: 80-bit entries at `bank * 393216 + index` (R103) -/
  pairs : Tab Nat
  /-- the entries of the bank of the last completed tick (PAIR_QUERY) -/
  seen : Tab Nat
  /-- S of R118 for object `o` and layout `l`, at `16 * o + l` -/
  norm : Tab Nat
  /-- the next bank is the first bank of R113 -/
  first : Bool
  /-- the tick of the last complete bank -/
  ready : Option Nat
  /-- the tick of the bank being built and its start in ns -/
  building : Option (Nat × Nat)
  kernelId : Nat
  evt : Word
  slewCnt : Word
  walkCnt : Word
  geomLast : Nat
  geomMax : Nat
  deriving DecidableEq, Repr

/-- An entry as an 80-bit number (R103). -/
def PairEntry.enc (e : PairEntry) : Nat :=
  e.dE % 2 ^ 26 + e.dS % 2 ^ 26 * 2 ^ 26 + e.gE % 2 ^ 14 * 2 ^ 52 + e.gS % 2 ^ 14 * 2 ^ 66

/-- An 80-bit number as an entry (R103). -/
def PairEntry.dec (n : Nat) : PairEntry :=
  { dE := n % 2 ^ 26, dS := n / 2 ^ 26 % 2 ^ 26, gE := n / 2 ^ 52 % 2 ^ 14, gS := n / 2 ^ 66 % 2 ^ 14 }

/-- What an entry holds that no bank has written: delay D_MIN = 3 samples and code 0 (R108, R122). -/
def pairIdle : Nat := PairEntry.enc { dE := 12288, dS := 12288, gE := 0, gS := 0 }

end Sys2Proof.Machine
end

