-- ==== Sys2Proof/Machine/NetTypes.lean ====
section
/-! DEFINITION. The data of the four ports, the flow tables, PTP and scene time (chapters "Media, Management
and Hasp Ports" and "Media Time, Scene Time and Timestamps"). Ports: 0 = MEDIA_A, 1 = MEDIA_B, 2 = MGMT, 3 = HASP. -/

namespace Sys2Proof.Machine

/-- A UDP datagram as a port receives it: its arrival in ns, the port, the VID of its tag (0 = untagged), its
addresses and UDP ports, and its payload (an RTP packet for a media flow). -/
structure Udp where
  t : Nat
  port : Nat
  vid : Nat
  src : Nat
  dst : Nat
  sport : Nat
  dport : Nat
  body : Bytes
  deriving DecidableEq, Repr

/-- One host frame ring (R394). -/
structure HostRing where
  en : Bool
  baseLo : Word
  baseHi : Word
  size : Nat
  pi : Nat
  ci : Nat
  phase : Bool
  /-- the posted slots that have not completed, oldest first -/
  slots : List Bytes
  deriving DecidableEq, Repr

/-- A host ring after reset. -/
def HostRing.reset : HostRing :=
  { en := false, baseLo := 0, baseHi := 0, size := 0, pi := 0, ci := 0, phase := true, slots := [] }

/-- The statistics of one flow entry (R417). -/
structure FlowStats where
  pktA : Word
  pktB : Word
  drop : Word
  missA : Word
  missB : Word
  lostPkt : Word
  late : Word
  early : Word
  mismatch : Word
  conceal : Word
  skew : Int
  skewMax : Nat
  frames : Word
  frameDrop : Word
  deriving DecidableEq, Repr

/-- Statistics after reset. -/
def FlowStats.zero : FlowStats :=
  { pktA := 0, pktB := 0, drop := 0, missA := 0, missB := 0, lostPkt := 0, late := 0, early := 0, mismatch := 0,
    conceal := 0, skew := 0, skewMax := 0, frames := 0, frameDrop := 0 }

/-- One packet of a flow inside the 10 ms merge window (R406): arrival of each path's copy, and its timestamp. -/
structure RxPkt where
  seq : Nat
  ts : Nat
  tA : Option Nat
  tB : Option Nat
  deriving DecidableEq, Repr

/-- One packet of an S-ADM frame that is being collected (R409). -/
structure SadmPart where
  seq : Nat
  ts : Nat
  marker : Bool
  body : Bytes
  t : Nat
  deriving DecidableEq, Repr

/-- The receive state of one ingress entry (R405 to R409). -/
structure FlowRx where
  pkts : List RxPkt
  /-- the lowest sequence number whose loss is not settled -/
  next : Option Nat
  /-- concealment of each channel: the level q and x_L (R407), by channel -/
  q : Tab Nat
  xl : Tab Int
  /-- a packet has come since the entry changed: samples before the first packet are not lost (R401) -/
  live : Bool
  parts : List SadmPart
  /-- the first sequence number of the frame that is being collected -/
  frame : Option Nat
  /-- payloads of an ASYNC entry, newest first, as the sample-rate converter takes them -/
  heard : List Bytes
  deriving DecidableEq, Repr

/-- The receive state of an entry that has received nothing; an unlisted q is 16, its value in steady state. -/
def FlowRx.idle : FlowRx := { pkts := [], next := none, q := [], xl := [], live := true, parts := [], frame := none, heard := [] }

/-- An ingress change that waits for its boundary (R401). -/
structure FlowPend where
  tick : Nat
  index : Nat
  record : Bytes
  deriving DecidableEq, Repr

/-- The tables and engines the ports share (R392 to R417). -/
structure NetSt where
  /-- VLAN table: VID + 4096 * PCP by entry -/
  vlan : Tab Nat
  flowIn : Tab Bytes
  flowOut : Tab Bytes
  pend : List FlowPend
  /-- the tables as they stood at the last completed tick (FLOW_QUERY) -/
  seenIn : Tab Bytes
  seenOut : Tab Bytes
  statIn : Tab FlowStats
  statOut : Tab FlowStats
  rx : Tab FlowRx
  /-- received samples that the render has not taken: entry `e`, channel `c`, index `m` at `(64 * e + c) * 65536 + m % 65536` -/
  raw : Tab (Option Int)
  /-- replaced entries whose cross-fade runs (R401): the entry, its old record and the boundary's sample index. The old record's
  receive state stands at 1,024 + entry -/
  fading : List (Nat × Bytes × Nat)
  /-- groups reported (R414): port, group and source -/
  members : List (Nat × Nat × Nat)
  /-- second reports: port, group, source, join or leave, and the time in ns at which they are due -/
  repeats : List (Nat × Nat × Nat × Bool × Nat)
  /-- leaves that wait for a sample index (R401): port, group, source -/
  leaves : List (Nat × Nat × Nat × Nat)
  /-- RTP sequence counters of the S-ADM relays (R412), by egress entry -/
  relaySeq : Tab Nat
  /-- frames accepted for relay and not yet sent: egress entry, its packets' payloads, RTP timestamp -/
  relayed : List (Nat × List Bytes × Nat)
  /-- a follower's own S-ADM frames that no mirrored set has covered (R308): entry, RTP timestamp, payloads, the frame -/
  unheard : List (Nat × Nat × List Bytes × AdmFrame)
  hrx : HostRing
  htx : HostRing
  deriving DecidableEq, Repr

/-- An Announce as a port keeps it (R424): grandmaster, its data set, stepsRemoved, UTC offset and receipt timeout in ns. -/
structure Announce where
  gm : Nat
  prio1 : Nat
  cls : Nat
  accuracy : Nat
  variance : Nat
  prio2 : Nat
  steps : Nat
  utc : Int
  /-- logAnnounceInterval, and announceReceiptTimeout in announce intervals -/
  log : Int
  receipt : Nat
  deriving DecidableEq, Repr

/-- A PTP message as a port receives it (R423): its capture at the connector in 2^-16 ns of media time, and the fields used. -/
structure PtpMsg where
  t : Nat
  port : Nat
  /-- the VID of its tag (0 = untagged), and the sender's IPv4 address -/
  vid : Nat
  ip : Nat
  domain : Nat
  /-- clockIdentity of the sender's grandmaster for an Announce; of the sender otherwise -/
  source : Nat
  seq : Nat
  twoStep : Bool
  /-- origin, precise origin or receive timestamp, and correctionField, in 2^-16 ns -/
  stamp : Int
  corr : Int
  /-- ingress capture of an event message, in 2^-16 ns of media time -/
  rx : Int
  logInterval : Int
  ann : Announce
  deriving DecidableEq, Repr

/-- 2^n seconds in ns. -/
def logNs (n : Int) : Nat := if 0 ≤ n then 1000000000 * 2 ^ n.toNat else 1000000000 / 2 ^ (-n).toNat

/-- The announce receipt timeout in ns (R423). -/
def Announce.timeout (x : Announce) : Nat := x.receipt * logNs x.log

/-- A master that a port hears: its last Announce, when it came, and whether the master is qualified. -/
structure Foreign where
  source : Nat
  ip : Nat
  ann : Announce
  heardAt : Nat
  known : Bool
  deriving DecidableEq, Repr

/-- One PTP port. -/
structure PtpPort where
  /-- the Announce data of the port's best master; that master and its address -/
  ann : Option Announce
  parent : Nat
  masterIp : Nat
  /-- every master that the port hears -/
  foreign : List Foreign
  syncInt : Int
  /-- a two-step Sync that waits for its Follow_Up: sequence, capture and correction -/
  wait : Option (Nat × Int × Int)
  /-- Delay_Req messages sent: sequence and egress capture, newest first -/
  reqs : List (Nat × Int)
  nextReq : Nat
  /-- the time in ns of the last Delay_Req -/
  reqAt : Option Nat
  /-- the last Delay_Resp pair: t3, t4 minus correction, and the time in ns -/
  resp : Option (Int × Int × Nat)
  reqInt : Int
  /-- the time in ns of the last usable Sync, and its offset -/
  usableAt : Option Nat
  /-- offsets of the last usable Syncs in 2^-16 ns, newest first, at most 16 -/
  offs : List Int
  deriving DecidableEq, Repr

/-- A PTP port after reset (R423). -/
def PtpPort.reset : PtpPort :=
  { ann := none, parent := 0, masterIp := 0, foreign := [], syncInt := 0, wait := none, reqs := [], nextReq := 0, reqAt := none, resp := none, reqInt := -3,
    usableAt := none, offs := [] }

/-- PTP_CONFIG (R442). -/
structure PtpCfg where
  profile : Nat
  domain : Nat
  delayMode : Nat
  ports : Nat
  slew : Nat
  lockWin : Nat
  offsetLim : Nat
  asymA : Int
  asymB : Int
  vlanA : Nat
  vlanB : Nat
  deriving DecidableEq, Repr

/-- PTP_CONFIG after reset (R442); VLAN entries 0. -/
def PtpCfg.reset : PtpCfg :=
  { profile := 0, domain := 127, delayMode := 0, ports := 3, slew := 20, lockWin := 1000, offsetLim := 1000000, asymA := 0,
    asymB := 0, vlanA := 0, vlanB := 0 }

/-- Scene time (R437): N, D, NL, the source and the edge. -/
structure Scene where
  num : Nat
  den : Nat
  lines : Nat
  strobe : Bool
  falling : Bool
  deriving DecidableEq, Repr

/-- The PTM block (R419 to R443). -/
structure PtmSt where
  cfg : PtpCfg
  a : PtpPort
  b : PtpPort
  /-- PTM_STAT.LOCK -/
  lock : Nat
  activeB : Bool
  gm : Option Nat
  /-- consecutive usable Syncs on the active port within LOCK_WIN, beyond OFFSET_LIM, and within it -/
  inWin : Nat
  beyond : Nat
  within : Nat
  /-- Syncs still to judge after a change of grandmaster (R429), and how many of them lay beyond OFFSET_LIM -/
  newGm : Option (Nat × Nat)
  lost : Bool
  lostRec : Bool
  slewing : Bool
  /-- declared losses (true) and regains whose mode change waits for its boundary (R430) -/
  declared : List (Nat × Bool)
  /-- last offset, signed Q24.8 ns -/
  offset : Int
  /-- frequency against the crystal, in 0.001 ppm -/
  freq : Int
  portDiff : Int
  utc : Int
  /-- media time: at `baseNow` ns it was `baseMedia` ns, and it advances at `freq` from there -/
  baseNow : Nat
  baseMedia : Int
  everLocked : Bool
  lockedAt : Option Nat
  swts : Bool
  scene : Option Scene
  phi : Nat
  dev : Int
  strobeLive : Bool
  /-- the last edge of each polarity that was timestamped: its time in ns (R533) and its media time (R438) -/
  edgeRise : Option Nat
  edgeFall : Option Nat
  riseAt : Option Nat
  fallAt : Option Nat
  evt : Word
  syncCnt : Word
  lossCnt : Word
  stepCnt : Word
  driftCnt : Word
  deriving DecidableEq, Repr

end Sys2Proof.Machine
end

