-- ==== Sys2Proof/Machine/PwrTypes.lean ====
section
/-! DEFINITION. The data of clocks, power, DRAM, the bus matrix and the monitor outputs (chapters "Clock Generation and
Control", "Power Feeds, Domains and Low-Power States", "DRAM Controller and Bus Matrix" and "Monitor DAC Outputs"). -/

namespace Sys2Proof.Machine

/-- One clock of R444: its CLK_PLLp and CLK_MEASp. -/
structure Pll where
  lock : Bool
  coast : Bool
  freqErr : Bool
  bypass : Bool
  forced : Bool
  khz : Nat
  deriving DecidableEq, Repr

/-- CLK_PLLp after reset (R458). -/
def Pll.reset (p : Nat) : Pll :=
  { lock := false, coast := false, freqErr := false, bypass := decide (p < 3), forced := false, khz := 0 }

/-- CLK_GATEg.STATE. -/
inductive GateState where
  | closed | opened | pending
  deriving DecidableEq, Repr

/-- One gate of R455. -/
structure Gate where
  run : Bool
  sleep : Bool
  deep : Bool
  st : GateState
  timeout : Bool
  deriving DecidableEq, Repr

/-- CLK_GATEg after reset (R455, R458). -/
def Gate.reset (g : Nat) : Gate :=
  { run := decide (g = 8 ∨ g = 12 ∨ g = 14), sleep := decide (g = 6 ∨ g = 8 ∨ g = 12 ∨ g = 14), deep := decide (g = 14),
    st := if g = 8 ∨ g = 12 ∨ g = 14 then .opened else .closed, timeout := false }

/-- A host write that a PENDING gate holds (R456): a value for a register of BAR0, or bytes for a window of BAR2. -/
structure HeldWrite where
  gate : Nat
  addr : Nat
  val : Nat
  data : Option Bytes
  deriving DecidableEq, Repr

/-- A REG_READ or REG_WRITE that a PENDING gate holds (R456): what is left of it, and its reply. -/
structure HeldCmd where
  gate : Nat
  write : Bool
  /-- the address at which it stands, the values still to write or the number still to read, and the values read -/
  addr : Nat
  left : Nat
  data : Bytes
  ref : ReplyRef
  deriving DecidableEq, Repr

/-- The CLK block (R444 to R458). -/
structure ClkSt where
  xtalOk : Bool
  evt : Word
  forcedCnt : Word
  timeoutCnt : Word
  plls : List Pll
  gates : List Gate
  held : List HeldWrite
  heldCmds : List HeldCmd
  deriving DecidableEq, Repr

/-- A power-state request: PWR_SLEEP, PWR_DEEP or PWR_WAKE, its parameter and its reply (R473). -/
structure PwrReq where
  op : Nat
  after : Nat
  ref : ReplyRef
  deriving DecidableEq, Repr

/-- A running feed exercise (R464 to R466). -/
structure Exercise where
  ref : ReplyRef
  start : Nat
  minB : Nat
  maxB : Nat
  maxI : Nat
  /-- FEED_A's current fell below 50 mA within 100 µs of the disconnect -/
  transferred : Bool
  /-- it fell below 50 mA at any time -/
  fell : Bool
  deriving DecidableEq, Repr

/-- The PWR block and the sequencer (R459 to R483). -/
structure PwrSt where
  source : Nat
  aOk : Bool
  bOk : Bool
  holdupReady : Bool
  /-- PWR_STAT.TRANS and the next step of the transition, its request, and the start of it in ns -/
  trans : Nat
  stepNo : Nat
  cur : Option PwrReq
  transAt : Nat
  queued : Option PwrReq
  /-- SLEEP was entered from PAUSED (true) or STAGED (R360) -/
  fromPaused : Bool
  /-- HELD: gates that stayed open (R477) -/
  heldGates : Nat
  exercise : Option Exercise
  domains : Nat
  rail : Nat
  tries : Nat
  aMv : Nat
  aMa : Nat
  bMv : Nat
  bMa : Nat
  /-- the samples of R463 of the current 1 ms: mV and mA of FEED_A, then of FEED_B -/
  samples : List (Nat × Nat × Nat × Nat)
  holdupMv : Nat
  now : Nat
  max : Nat
  minA : Nat
  minB : Nat
  lastSwitch : Nat
  /-- the time in ns of the last change of SOURCE -/
  srcAt : Nat
  /-- the time in ns since which FEED_B has stayed in 10.8–13.2 V (R464) -/
  bSince : Option Nat
  evt : Word
  switchCnt : Word
  returnCnt : Word
  holdupCnt : Word
  exerciseCnt : Word
  discardCnt : Word
  /-- the time in ns at which the wake timer expires (R480) -/
  wakeAt : Option Nat
  /-- the module is off under R462, R470 or R538: only the always-on island may act -/
  off : Bool
  /-- the next step of R468, while bring-up runs, and the reset source that it ends with -/
  bring : Option (Nat × Nat)
  /-- off until MOD_RST_N is pulsed or the feeds are cycled (R470, R538) -/
  stuck : Bool
  /-- MOD_RST_N is low (R363) -/
  resetLow : Bool
  perst : Bool
  deriving DecidableEq, Repr

/-- The DRAM controller (R484 to R495, R502) and its training (R487). -/
structure DdrSt where
  trained0 : Bool
  trained1 : Bool
  setpoint : Bool
  selfRefresh : Bool
  debt0 : Int
  debt1 : Int
  rate : Nat
  evt : Word
  tries0 : Nat
  tries1 : Nat
  step0 : Nat
  step1 : Nat
  ms : Nat
  /-- the training step that runs next on each channel: 0 to 9; 10 = done -/
  next0 : Nat
  next1 : Nat
  crc0 : Word
  crc1 : Word
  poison : Word
  promote : Word
  forcedRef : Word
  scrub : Word
  /-- the time in ns of the last CLR_MAX: the longest request times count from there -/
  latClr : Nat
  deriving DecidableEq, Repr

/-- A record of FAB_ERRi (R503). -/
structure FabErr where
  addr : Nat
  hi : Nat
  master : Nat
  id : Nat
  write : Bool
  code : Nat
  ts : Nat
  deriving DecidableEq, Repr

/-- A DRAM read whose line fails its CRC (R278, R485): the channel, the line's offset in it, whether the read was for a write that
covers less than the line, and the access of a master that the line was to answer (R498). -/
structure LineFail where
  ch : Nat
  addr : Nat
  merge : Bool
  req : Option FabErr
  deriving DecidableEq, Repr

/-- The failed reads of a scrub pass over the duplicated regions, or, without `pass`, of the requesters (R278, R486). -/
structure LineCheck where
  pass : Bool
  bad : List LineFail
  deriving DecidableEq, Repr

/-- The PLL that loses its reference, and for PCIE's the accesses that the endpoint has outstanding (R450, R501). -/
structure RefLoss where
  pll : Nat
  outstanding : List FabErr
  deriving DecidableEq, Repr

/-- The FAB block (R496 to R503). -/
structure FabSt where
  drain : Nat
  evt : Word
  head : Nat
  /-- FAB_ERRi by `i` -/
  errs : Tab (Option FabErr)
  wdiscard : Word
  gated : Word
  off : Word
  unmap : Word
  timeout : Word
  rst : Word
  deriving DecidableEq, Repr

/-- A span change: its channels, span, start boundary, and the reply still due (R514, R515). -/
structure SpanReq where
  mask : Nat
  span : Nat
  start : Nat
  ref : ReplyRef
  /-- 0 pending, 1 falling or at zero, 3 rising; and whether the output stage has switched -/
  phase : Nat
  switched : Bool
  deriving DecidableEq, Repr

/-- One monitor channel: its feed, and the feeds it carried before with the sample index of each change, newest first, while a
cross-fade has not been read out whole (R506). -/
structure DacCh where
  feed : Option Nat
  old : List (Option Nat × Nat)
  span : Nat
  deriving DecidableEq, Repr

/-- A channel after reset (R506, R513). -/
def DacCh.reset : DacCh := { feed := none, old := [], span := 0 }

/-- The DAC block (R504 to R522). -/
structure DacSt where
  chans : List DacCh
  reqs : List SpanReq
  /-- span changes that have started and have not been read out whole: channels and first sample index (R514) -/
  ramps : List (Nat × Nat)
  frame0 : Bool
  frame1 : Bool
  eps0 : Int
  eps1 : Int
  clamped : Bool
  running : Bool
  evt : Word
  spanCnt : Word
  modrstCnt : Word
  /-- fades to 0 V of a yield in samples left (R286) -/
  yieldFade : Nat
  deriving DecidableEq, Repr

/-- A pause or resume that waits for its boundary (R43, R46). -/
structure PausePend where
  resume : Bool
  tick : Nat
  ref : ReplyRef
  deriving DecidableEq, Repr

end Sys2Proof.Machine
end

