-- ==== Sys2Proof/Machine/SysTypes.lean ====
section
/-! DEFINITION. The data of modes, the keyway, boot, integrity, the deadbolt and twin operation (chapters
"The Keyway Command Protocol", "Modes, Power-Up and Image Download", "Integrity, Recomputation and the Deadbolt"
and "Twin Operation over the Hasp"). -/

namespace Sys2Proof.Machine

/-- The twelve modes (R9). -/
inductive Mode where
  | cold | awaitImage | staged | locking | render | renderCoast | liveProbe | sweep | paused | sleep | deepSleep | yielded
  deriving DecidableEq, Repr

/-- SYS_STAT.MODE (R545). -/
def Mode.num : Mode → Nat
  | .cold => 0
  | .awaitImage => 1
  | .staged => 2
  | .locking => 3
  | .render => 4
  | .renderCoast => 5
  | .liveProbe => 6
  | .sweep => 7
  | .paused => 8
  | .sleep => 9
  | .deepSleep => 10
  | .yielded => 11

/-- The modes in which the tick runs (R17). -/
def Mode.renders : Mode → Bool
  | .render | .renderCoast | .liveProbe | .sweep | .paused => true
  | _ => false

/-- The status codes (R349). -/
inductive Status where
  | ok | noImage | badOpcode | badLength | badParam | badMode | busy | refusedFull | superseded | late | overBudget
  | denied | aborted | inProgress | busError
  deriving DecidableEq, Repr

/-- The code of a status (R349). -/
def Status.code : Status → Nat
  | .ok => 0
  | .noImage => 1
  | .badOpcode => 2
  | .badLength => 3
  | .badParam => 4
  | .badMode => 5
  | .busy => 6
  | .refusedFull => 7
  | .superseded => 8
  | .late => 9
  | .overBudget => 10
  | .denied => 11
  | .aborted => 12
  | .inProgress => 13
  | .busError => 14

/-- A keyway header as it arrives with a command (R330): the path, the time of arrival in ns, and the fields. -/
structure Hdr where
  src : CmdSrc
  t : Nat
  tag : Nat
  /-- LENGTH of the header -/
  length : Nat
  flags : Nat
  when : Nat
  deriving DecidableEq, Repr

/-- A reply (R338). -/
structure Reply where
  tag : Nat
  status : Status
  opcode : Nat
  deferred : Bool
  relayed : Bool
  replay : Bool
  payload : Bytes
  aseq : Nat
  deriving DecidableEq, Repr

/-- A stored MGMT command with its reply, for the repeat rule (R346). -/
structure Stored where
  ip : Nat
  port : Nat
  cmd : Bytes
  t : Nat
  aseq : Nat
  reply : Option Reply
  deriving DecidableEq, Repr

/-- The SYS block (R545). -/
structure SysSt where
  mode : Mode
  evt : Word
  rstSource : Nat
  rstReason : Nat
  imageId : Nat
  imageVer : Nat
  scratch : Word
  wdiscardCnt : Word
  /-- the straps sampled at reset release (R533): ADDR_ID, and MGMT_MODE low = SGMII -/
  addrId : Nat
  sgmii : Bool
  deriving DecidableEq, Repr

/-- The KEY block and the two transports (R333 to R352, R546). -/
structure KeySt where
  cmdEn : Bool
  rplEn : Bool
  evt : Word
  irqCount : Nat
  irqTimer : Nat
  udpPort : Nat
  cmdBaseLo : Word
  cmdBaseHi : Word
  cmdSize : Nat
  cmdPi : Nat
  cmdCi : Nat
  rplBaseLo : Word
  rplBaseHi : Word
  rplSize : Nat
  rplPi : Nat
  rplCi : Nat
  aseq : Word
  cmdCnt : Word
  refuseCnt : Word
  rplDropCnt : Word
  repeatCnt : Word
  denyCnt : Word
  /-- KEY_ALLOWi and KEY_ALLOW_LENi -/
  allow : Tab (Word × Nat)
  /-- reading has stopped after a failed read (R337) -/
  fetchStopped : Bool
  /-- PHASE of the current pass (R339) -/
  phase : Bool
  /-- replies that wait for ring space (R343) -/
  waiting : List Reply
  /-- replies written since the last interrupt, and the time in ns of the first of them (R344) -/
  irqSince : Nat
  irqFirst : Option Nat
  /-- accepted commands whose deferred replies are due (R351) -/
  due : List ReplyRef
  /-- immediate replies that wait for an earlier command of their path (R351), and NOPs that wait for earlier commands (R357) -/
  parked : List (CmdSrc × Reply)
  nops : List ReplyRef
  stored : List Stored
  /-- datagrams of the keyway port that arrived while a gate holds a command, with their opcodes: oldest first (R351) -/
  later : List (Nat × Hdr × Bytes)
  /-- the time in ns at which a SYS_RESET whose reply has been written takes effect (R359) -/
  resetAt : Option Nat
  deriving DecidableEq, Repr

/-- The states of the download (R376). -/
inductive BootState where
  | idle | receiving | verifying | loading | selftest | starting | done | failed
  deriving DecidableEq, Repr

/-- The code of IMG_STATUS.STATE (R377). -/
def BootState.num : BootState → Nat
  | .idle => 0
  | .receiving => 1
  | .verifying => 2
  | .loading => 3
  | .selftest => 4
  | .starting => 5
  | .done => 6
  | .failed => 7

/-- The BOOT block, the image staging area and the copy of the running image (R366 to R378, R547). -/
structure BootSt where
  state : BootState
  result : Nat
  failedEng : Nat
  offset : Nat
  received : Nat
  size : Nat
  wdiscardCnt : Word
  imgHash : Bytes
  staging : Memory
  image : Memory
  imageTotal : Nat
  /-- a staged line failed its CRC, and nothing has written it anew: its offset (R284, R373) -/
  badLine : Option Nat
  deriving DecidableEq, Repr

/-- A fault record (R289). -/
structure FaultRec where
  time : Nat
  kind : Nat
  outcome : Nat
  source : Nat
  detail : Nat
  deriving DecidableEq, Repr

/-- A word of the calibration store or of the firmware SRAM whose parity fails on a read (R276, R284). -/
inductive SramFault where
  /-- firmware code, or one copy of firmware state; `both`, the other copy as well -/
  | fw (addr : Nat) (both : Bool)
  /-- a table word of the calibration store -/
  | calTable (addr : Nat)
  /-- a state word of an enrolled feed -/
  | calState (feed addr : Nat)
  deriving DecidableEq, Repr

/-- A write of INTG_WDOG at `t` (R287): the words of firmware and calibration memory that failed their parity since the write before. -/
structure WdogWrite where
  t : Nat
  faults : List SramFault
  deriving DecidableEq, Repr

/-- The geometry engine completes its bank at `t` (R33): the kinds of its residue and parity faults while it built the bank (R276). -/
structure GeomDone where
  t : Nat
  faults : List Nat
  deriving DecidableEq, Repr

/-- The engine whose unit commits, and the kinds of faults of the summing-ring pass that the commit starts (R276, R284). -/
structure UnitEnd where
  engine : Nat
  ring : List Nat
  deriving DecidableEq, Repr

/-- Where a check of a unit fails: a word's address, or the lane of a residue (R251). -/
structure FaultSite where
  addr : Nat
  lane : Nat
  deriving DecidableEq, Repr

/-- The deadbolt's check of its settings (R276, R302): the feeds whose settings fail, and how many of the module's own words do. -/
structure SettingsCheck where
  feeds : List Nat
  words : Nat
  deriving DecidableEq, Repr

/-- The INTG block (R276 to R304). -/
structure IntgSt where
  /-- homeless shards (R283) -/
  homeless : List Nat
  reason : Nat
  evt : Word
  yieldTick : Nat
  /-- a yield that waits for its boundary (R286): its boundary and its reason -/
  yieldPend : Option (Nat × Nat)
  kick : Nat
  /-- the time in ns of firmware's last write of INTG_WDOG -/
  kickAt : Nat
  tj : Nat
  tjMax : Nat
  /-- how many of the last two samples, newest first, stood at 115 °C or more, and a sample below 97 °C since the last
  TEMP_WARN (R537) -/
  hot : Nat
  cool : Bool
  parityCnt : Word
  residueCnt : Word
  dramCrcCnt : Word
  dramLostCnt : Word
  hardCnt : Word
  selfCnt : Word
  repairCnt : Word
  /-- fault records, record `i` at `i % 65536`, and the number written (R289, R304) -/
  log : Tab (Option FaultRec)
  /-- the places of the log in DRAM whose record is marked damaged (R284) -/
  damaged : List Nat
  head : Nat
  deriving DecidableEq, Repr

/-- The deadbolt's running state for one feed (R295 to R302). -/
structure DbFeed where
  /-- the mute level M, 0 to 64, and its direction: down, up or neither (R297) -/
  m : Nat
  falling : Bool
  rising : Bool
  sum : Int
  high : Nat
  low : Nat
  q : Nat
  blocked : Bool
  held : Bool
  guard : Bool
  /-- egress state: the last sample sent, and an underrun in progress (R42) -/
  last : Int
  under : Bool
  /-- checked samples of the block last read out -/
  out : List Int
  deriving DecidableEq, Repr

/-- A feed's deadbolt state on entry to RENDER (R297, R298). -/
def DbFeed.reset : DbFeed :=
  { m := 64, falling := false, rising := false, sum := 0, high := 0, low := 0, q := 0, blocked := false, held := false,
    guard := false, last := 0, under := false, out := [] }

/-- The DBLT block (R290 to R303, R548). -/
structure DbltSt where
  /-- deadbolt-class registers by offset; an unlisted one holds its reset value (R291) -/
  settings : Tab Word
  locked : Bool
  evt : Word
  digest : Word
  feeds : Tab DbFeed
  /-- the tick before which the sums were last judged (R297) -/
  dcDone : Nat
  /-- token buckets of MEDIA_A and MEDIA_B in 1/8,000 of a byte, and the times in ns of their last fill (R301) -/
  tokA : Nat
  tokB : Nat
  fillA : Nat
  fillB : Nat
  lockedWrCnt : Word
  rangeCnt : Word
  probeCnt : Word
  dcCnt : Word
  riseCnt : Word
  ceilCnt : Word
  wlDropA : Word
  wlDropB : Word
  capDropA : Word
  capDropB : Word
  deriving DecidableEq, Repr

/-- The states of a twin (R306). -/
inductive TwnState where
  | off | seeking | joining | lockstep | alone
  deriving DecidableEq, Repr

/-- TWN_STAT.STATE (R329). -/
def TwnState.num : TwnState → Nat
  | .off => 0
  | .seeking => 1
  | .joining => 2
  | .lockstep => 3
  | .alone => 4

/-- A path between the twins: HASP or a media port (R309, R311). -/
inductive TwinPath where
  | hasp | netA | netB
  deriving DecidableEq, Repr

/-- A tumbler (R310). -/
structure Tumbler where
  state : Nat
  decider : Bool
  id : Nat
  timeLocked : Bool
  ready : Bool
  joinReq : Bool
  reason : Nat
  digest : Word
  tick : Nat
  appliedHi : Nat
  stateDigest : Word
  deriving DecidableEq, Repr

/-- A command as it is scheduled for a boundary or mirrored: its order, opcode and parameters. -/
structure Sched' where
  tick : Nat
  ord : Nat
  op : Nat
  body : Bytes
  ref : ReplyRef
  deriving DecidableEq, Repr

/-- What the decider accepted of an S-ADM frame (R73): the blocks (bed input or object, its number, the flow and the block), what it
counted as late, stale and dropped, and the events it set (R93); and the frame's entry, packets and RTP timestamp, for its relays
(R412). -/
structure SadmSet where
  blocks : List (Bool × Nat × Nat × Blk)
  late : Word
  stale : Word
  drop : Word
  evts : Word
  entry : Nat
  bodies : List Bytes
  ts : Nat
  deriving DecidableEq, Repr

/-- What a MIRROR record carries (R315, R317, R318, R324, R325). -/
inductive MirAct where
  /-- a command: opcode, parameters, and its ASEQ at the decider -/
  | cmd (op : Nat) (body : Bytes) (aseq : Nat)
  /-- the set that the decider accepted of an S-ADM frame -/
  | sadm (x : SadmSet)
  /-- a calibration adoption: feed, new gains, fade and report sequence number -/
  | adopt (feed : Nat) (gains : List Int) (fade seq : Nat)
  /-- a feed becomes suspect, or is so no more: feed, and the number of its record -/
  | suspect (feed : Nat) (on : Bool) (seq : Nat)
  /-- a loss (true) or regain of the time reference -/
  | timeRef (lost : Bool)
  /-- the start boundary, the snapshot boundary, the egress boundary -/
  | start
  | snap
  | egress
  deriving DecidableEq, Repr

/-- A MIRROR record (R317). -/
structure Mirror where
  mseq : Nat
  tick : Nat
  act : MirAct
  deriving DecidableEq, Repr

/-- A CHECK of one tick (R321): C_f for feed 0 upward, APPLIED_HI and GAP. -/
structure Check where
  tick : Nat
  crcs : List Word
  appliedHi : Nat
  gap : Bool
  deriving DecidableEq, Repr

/-- A join in progress (R325). -/
structure JoinSt where
  asDecider : Bool
  k : Nat
  g : Option Nat
  matched : Nat
  /-- the snapshot has been sent or loaded -/
  snap : Bool
  /-- for a joiner: the MSEQ from which on records are not part of the snapshot -/
  first : Nat
  deriving DecidableEq, Repr

/-- A relayed command that awaits the decider's answer (R316). -/
structure Relay where
  seq : Nat
  op : Nat
  body : Bytes
  flags : Nat
  when : Nat
  ref : ReplyRef
  /-- the boundary of its MIRROR record, once that has arrived: the decider has accepted the command -/
  decided : Option Nat
  deriving DecidableEq, Repr

/-- The TWN block (R305 to R329). -/
structure TwnSt where
  id : Nat
  autoJoin : Bool
  wait : Nat
  port : Nat
  seed : Nat
  peerA : Nat
  peerB : Nat
  group : Nat
  state : TwnState
  decider : Bool
  haspUp : Bool
  netaUp : Bool
  netbUp : Bool
  missHasp : Nat
  missA : Nat
  missB : Nat
  /-- a tumbler has been seen on some path, and the partner was lost since (R312) -/
  wasLost : Bool
  tookOver : Bool
  /-- a takeover is due at the next tick boundary (R307) -/
  takeover : Bool
  peer : Option Tumbler
  ready : Bool
  /-- the time in ns from which READY has been set (R324) -/
  readyAt : Nat
  joinReq : Bool
  /-- TWIN_JOIN has asked for a join (R324) -/
  want : Bool
  /-- the state that the start boundary enters (R324, R382) -/
  startAs : TwnState
  /-- the time reference of the module or pair as last declared lost (R318, R430) -/
  refLost : Bool
  digest : Word
  stateDigest : Word
  frozen : Bool
  nextMseq : Nat
  appliedHi : Nat
  /-- records that wait for their ACK, each with the sequence number of its message -/
  unacked : List (Nat × Mirror)
  inbox : List Mirror
  relays : List Relay
  /-- tumblers that arrived before an image ran, newest first: the last 64 (R369) -/
  logged : List Tumbler
  /-- sequence numbers already received, by message type (R309) -/
  seenSeq : List (Nat × Nat)
  nextSeq : List Nat
  /-- C_f, and whether the running CRCs are formed (R321) -/
  crc : Tab Word
  checking : Bool
  gaps : List Nat
  mine : List Check
  theirs : List Check
  /-- this twin's verdict for a tick: self-fault or clean, and when it was sent -/
  verdict : Option (Nat × Bool × Nat)
  /-- the partner's verdict, by tick -/
  peerVerdict : Option (Nat × Bool)
  join : Option JoinSt
  retryAt : Option Nat
  evt : Word
  mirrorCnt : Word
  retxCnt : Word
  mismatchCnt : Word
  missHaspCnt : Word
  missNetaCnt : Word
  missNetbCnt : Word
  deriving DecidableEq, Repr

end Sys2Proof.Machine
end

