-- ==== Sys2Proof/Machine/TapTypes.lean ====
section
/-! DEFINITION. The data of the tap engines, the dispatcher and the render core's tick (chapters "Tap Engine
Programmer's Model", "Work Dispatch" and "Render Core and the Tick"). -/

namespace Sys2Proof.Machine

/-- The state of an engine, TAP_STAT.STATE (R256). -/
inductive EngState where
  | idle | run | halt | failed | spare
  deriving DecidableEq, Repr

/-- A register write that has not landed yet (R228): the word after which it is visible, and the write. -/
inductive RegWrite where
  | reg (code : Nat) (v : Nat)
  /-- a post-modify, whose pending base and length have taken effect -/
  | ptr (i : Nat) (v : Nat)
  | vec (v : Nat) (lanes : List Nat)
  | setB (i : Nat) (v : Nat)
  | setL (i : Nat) (v : Nat)
  deriving DecidableEq, Repr

/-- A loop that runs (R241): its level, first word, last word and iterations left. -/
structure TapLoop where
  lvl : Nat
  first : Nat
  last : Nat
  left : Nat
  deriving DecidableEq, Repr

/-- The software-visible registers of an engine and the pipeline around them (R222, R227 to R233, R250). -/
structure TapCpu where
  /-- S0–S15, P0–P7, M0–M7 by register code; P and M hold 22 bits -/
  regs : Tab Nat
  b : Tab Nat
  l : Tab Nat
  /-- SETC values held pending (R233) -/
  pendB : Tab (Option Nat)
  pendL : Tab (Option Nat)
  /-- lane `i` of V`k` at `32 * k + i` -/
  v : Tab Nat
  /-- lane `i` of A`k` at `32 * k + i`, and the accumulators at the ends of the last words, newest first (R229) -/
  a : Tab Int
  aOld : List (Tab Int)
  /-- LC0 and LC1: iterations that follow the one that runs -/
  lc0 : Nat
  lc1 : Nat
  sr : Nat
  /-- a pointer was trimmed, an accumulator has overflowed, in this unit: TAP_EVT takes both, whatever CLRSR clears -/
  trimmed : Bool
  ovf : Bool
  /-- the unit has written an accumulator (R249) -/
  wrote : Bool
  /-- the word being executed, counted from the start of the unit, and its place in the slot -/
  word : Nat
  pc : Nat
  /-- results that are not visible yet, with the word from which they are -/
  pend : List (Nat × RegWrite)
  loops : List TapLoop
  /-- a branch whose delay slots run: target and slots left (R240) -/
  branch : Option (Nat × Nat)
  /-- the commit buffer, by word address (R250) -/
  held : Tab (Option Nat)
  /-- words of SCRATCH that the unit has written (R224) -/
  scratch : Tab (Option Nat)
  stalls : Nat
  deriving DecidableEq, Repr

/-- The registers at the start of a unit: every one reads 0, except P0 (R223). -/
def TapCpu.start : TapCpu :=
  { regs := [(0x10, 0x278000)], b := [], l := [], pendB := [], pendL := [], v := [], a := [], aOld := [], lc0 := 0,
    lc1 := 0, sr := 0, trimmed := false, ovf := false, wrote := false, word := 0, pc := 0, pend := [], loops := [], branch := none, held := [], scratch := [], stalls := 0 }

/-- One tap engine (R222 to R256). -/
structure Engine where
  st : EngState
  shard : Option Nat
  slot : Nat
  /-- SEQ of the unit that runs, and the time in ns at which it was dispatched -/
  unit : Option Nat
  since : Nat
  /-- the time in ns at which a HALT froze the engine, and the ns for which the running unit has been frozen (R244) -/
  haltAt : Nat
  frozen : Nat
  /-- ns of the current slot during which the engine was RUN or HALT -/
  busy : Nat
  loadLast : Nat
  loadMax : Nat
  evt : Word
  chk : Word
  unitCnt : Word
  faultCnt : Word
  stallCnt : Word
  kovrCnt : Word
  inj : Word
  /-- CUSTOM, by word address (R224) -/
  custom : Tab Nat
  cpu : TapCpu
  /-- ticks of this engine's faults, newest first (R281) -/
  faults : List Nat
  deriving DecidableEq, Repr

/-- An engine after reset: E0 to E31 hold their shards, E32 and E33 are spares (R19, R256). -/
def Engine.reset (k : Nat) : Engine :=
  { st := if k < 32 then .idle else .spare, shard := if k < 32 then some k else none, slot := 0, unit := none, since := 0, haltAt := 0, frozen := 0,
    busy := 0, loadLast := 0, loadMax := 0, evt := 0, chk := 0, unitCnt := 0, faultCnt := 0, stallCnt := 0, kovrCnt := 0,
    inj := 0, custom := [], cpu := TapCpu.start, faults := [] }

/-- One customer slot (TAP_KSLOT, R253 to R256). -/
structure KSlot where
  loaded : Bool
  disabledOvr : Bool
  budget : Nat
  /-- consecutive overruns (R254) -/
  overruns : Nat
  deriving DecidableEq, Repr

/-- The TAP block (R222 to R256). -/
structure TapSt where
  engines : List Engine
  testEn : Bool
  en : Nat
  enPend : Option Nat
  refused : Bool
  kslots : List KSlot
  deriving DecidableEq, Repr

/-- A work-unit descriptor (R257). -/
structure Desc where
  seq : Nat
  kind : Nat
  output : Bool
  level : Nat
  any : Bool
  shard : Nat
  tick : Nat
  slot : Nat
  entry : Nat
  limit : Nat
  ringmask : Nat
  waits : List (Nat × Nat)
  key : Nat
  arg : Nat
  /-- the 48 bytes as the producer wrote them -/
  raw : Bytes
  deriving DecidableEq, Repr

/-- Where a queued unit stands (R269). -/
inductive UnitState where
  | held
  | ready
  | running (engine : Nat)
  deriving DecidableEq, Repr

/-- A queued unit (R263 to R273). -/
structure QUnit where
  d : Desc
  lvl : Nat
  any : Bool
  /-- to load its inputs and state from the DRAM shadow before it runs (R270) -/
  shadow : Bool
  st : UnitState
  /-- the batch of units that became READY in one cycle with it (R266), and the time in ns -/
  ord : Nat
  readyAt : Nat
  /-- executions so far, and whether its last execution failed (R281) -/
  runs : Nat
  failedOn : Option Nat
  deriving DecidableEq, Repr

/-- The DISP block (R257 to R275). -/
structure DispSt where
  queue : List QUnit
  nextSeq : Nat
  /-- the newest batch of units that became READY, and its time while it can still grow (R266) -/
  nextOrd : Nat
  batchAt : Option Nat
  /-- the last submission's time and control core (R260) -/
  lastSub : Option (Nat × Nat)
  /-- the tick after the last one for which a KRN unit was submitted, by 32 · slot + shard (R253) -/
  krnNext : Tab Nat
  /-- output units of the open ticks that have ended: kind, index, tick -/
  commits : List (Nat × Nat × Nat)
  raised : Bool
  /-- level 6 returns to level 5 at the next slot opening (R267) -/
  lower : Bool
  shed : Nat
  /-- refused submissions that the firmware sends again: the core and the descriptor's bytes (R261) -/
  refusedUnits : List (Nat × Bytes)
  slotStart : Nat
  evt : Word
  dispatchCnt : Word
  refuseCnt : Word
  refuseOutCnt : Word
  requeueCnt : Word
  waitLast : List Nat
  waitMax : List Nat
  deriving DecidableEq, Repr

/-- SCHED (R53). -/
inductive Sched where
  | idle | onTime | late
  deriving DecidableEq, Repr

/-- The direction of the pause fade (R43). -/
inductive FadeDir where
  | hold | down | up
  deriving DecidableEq, Repr

/-- One 16-sample block of a feed in the cushion: both lanes, after the pause fade (R16). -/
structure CushBlk where
  prog : List Int
  probe : List Int
  deriving DecidableEq, Repr

end Sys2Proof.Machine
end

