-- ==== Sys2Proof/Machine/RndTypes.lean ====
section
/-! DEFINITION. The data of the render core's tick (chapter "Render Core and the Tick"), and what the module sends out. -/

namespace Sys2Proof.Machine

/-- A tick whose boundary has passed and that has not completed (R29 to R41), with what its units obey: every control as the
boundary left it (R51). Of the three blocks the units read the controls only; their signal state runs on in the blocks. -/
structure OpenTick where
  tick : Nat
  /-- the render slot has opened; the nominal deadline has passed -/
  opened : Bool
  late : Bool
  mode : Mode
  /-- the pause fade level before the tick's first sample, and its direction -/
  level : Nat
  dir : FadeDir
  /-- PAUSED or RENDER_COAST, entered from LIVE_PROBE: probing pauses (R215) -/
  halted : Bool
  obj : ObjSt
  sound : Tab Ramp
  flowIn : Tab Bytes
  flowOut : Tab Bytes
  rte : RteSt
  cor : CorSt
  cal : CalSt
  /-- the tick's pair-store bank, kept when its PAIR units have committed (PAIR_QUERY) -/
  pairs : Tab Nat
  /-- a conversion of routing, of correction has saturated in the tick: the tick counts once (R159, R186) -/
  rteSat : Bool
  corSat : Bool
  deriving DecidableEq, Repr

/-- The snapshot of a join (R325): the state entering tick `tick`. The members are those that R325 lists, inside the blocks
that hold them. -/
structure Snapshot where
  tick : Nat
  /-- the MSEQ of the first record mirrored after boundary `tick` -/
  mseq : Nat
  startS : Nat
  ord : Nat
  mode : Mode
  obj : ObjSt
  pan : PanSt
  rte : RteSt
  cor : CorSt
  cal : CalSt
  level : Nat
  dir : FadeDir
  pend : Option PausePend
  retMode : Mode
  coastLive : Bool
  refLost : Bool
  lostRec : Bool
  declared : List (Nat × Bool)
  flowIn : Tab Bytes
  flowPend : List FlowPend
  relaySeq : Tab Nat
  feeds : Tab DbFeed
  sched : List Sched'
  deriving DecidableEq, Repr

/-- The RND block and the sample stores (R16 to R53). -/
structure RndSt where
  rate96 : Bool
  sched : Sched
  shed : Nat
  /-- the pause fade level L and its direction (R43) -/
  level : Nat
  dir : FadeDir
  pend : Option PausePend
  /-- the mode before the pause (R45) -/
  retMode : Mode
  /-- a loss was declared in LIVE_PROBE, or in a pause entered from it: the regain returns there (R430) -/
  coastLive : Bool
  /-- the last completed tick -/
  lastTick : Nat
  margin : Nat
  minMargin : Nat
  episode : Nat
  /-- late ticks of the running LATE episode, and the largest lateness in it -/
  epRun : Nat
  largest : Nat
  evt : Word
  lateCnt : Word
  underrunCnt : Word
  recompCnt : Word
  migrateCnt : Word
  /-- the engine that holds each shard -/
  shardEng : List Nat
  moved : List Bool
  /-- shards that move at the next tick boundary: the shard and the spare that loads it (R19, R270) -/
  moves : List (Nat × Nat)
  /-- ticks whose boundary has passed and that have not completed, oldest first -/
  open_ : List OpenTick
  /-- the next tick whose input closes -/
  nextIn : Nat
  /-- the start boundary S (R382): chosen, then passed -/
  startAt : Option Nat
  startS : Nat
  /-- the boundary at which the tick stops (SLEEP entry, R476) -/
  stopAt : Option Nat
  /-- input samples: sample `m` of object `o` at `65536 * o + m % 65536`, and the same of a bed input. The windows of R18 and the
  shadow of R35 are the newest of them; what a unit that commits late reads stays unchanged (R34) -/
  hist : Tab Int
  bedHist : Tab Int
  /-- partial sums: shard `s`, feed `f`, sample `n` at `((s * 768 + f) * 16 + n) * 4 + tick % 4` (R21) -/
  partials : Tab Int
  /-- render buses of a tick, Q4.28: at `(f * 16 + n) * 4 + tick % 4` (R22) -/
  buses : Tab Int
  /-- the cushion: feed `f` of tick `N` at `4 * f + N % 4` with its tick (R16) -/
  cushion : Tab (Option (Nat × CushBlk))
  /-- the last four completed ticks of a twin that checks, newest first, each with every C_f before it (R321, R322) -/
  kept : List (OpenTick × List Word)
  /-- the next 16-sample block to read out -/
  nextOut : Nat
  /-- packets of each egress entry sent since the start boundary -/
  pktNext : Tab Nat
  /-- checked samples of feed `f` at `f * 1024 + m % 1024`, from which packets and monitor channels are made -/
  sent : Tab Int
  /-- the snapshot that a decider has taken at its boundary and not sent (R325) -/
  joinSnap : Option Snapshot
  deriving DecidableEq, Repr

end Sys2Proof.Machine
end

