-- ==== Sys2Proof/Machine/PortTypes.lean ====
section
/-! DEFINITION. What the ports send and hold (chapters "Media, Management and Hasp Ports" and "Twin Operation over the Hasp"): the
twins' messages, the frames of the transmit queues, the MACs, and what leaves the module. -/

namespace Sys2Proof.Machine

/-- A received frame that is not delivered: its VLAN, and whether it had no buffer left (R395, R418). -/
structure FrameDrop where
  vid : Option Nat
  nobuf : Bool
  deriving DecidableEq, Repr

/-- Low-power idle on a port: entered by the module's transmitter, or by the link partner, which enters or leaves it (R415). -/
structure LpiEvent where
  port : Nat
  partner : Option Bool
  deriving DecidableEq, Repr

/-- A message between twins (R309). The spec lays out the bytes of a tumbler (R310) and no others. -/
inductive TwinMsg where
  | tumbler (bytes : Bytes)
  | mirror (m : Mirror)
  | ack (mseq : Nat)
  | check (c : Check)
  | verdict (tick : Nat) (clean : Bool)
  | relay (seq op : Nat) (body : Bytes) (flags when : Nat)
  | answer (seq : Nat) (status : Status) (payload : Bytes) (deferred : Bool)
  | snapshot (s : Snapshot)
  deriving DecidableEq, Repr

/-- The type of a message (R309). -/
def TwinMsg.type : TwinMsg → Nat
  | .tumbler _ => 1
  | .mirror _ => 2
  | .ack _ => 3
  | .check _ => 4
  | .verdict _ _ => 5
  | .relay .. => 6
  | .answer .. => 6
  | .snapshot _ => 7

/-- What a frame carries that the module makes itself, where the spec does not lay out its bytes. -/
inductive Content where
  /-- an ARP request for an address, or the answer to the asker's address -/
  | arp (request : Bool) (ip : Nat)
  | icmp (body : Bytes)
  /-- an IGMPv3 report or leave -/
  | igmp (join : Bool) (group src : Nat)
  | lldp
  /-- a PTP Delay_Req with its sequence number -/
  | delayReq (seq : Nat)
  /-- a twin message with the sequence number of its type and the bytes of its payload -/
  | twin (path : TwinPath) (seq len : Nat) (m : TwinMsg)
  deriving DecidableEq, Repr

/-- A frame in a transmit queue (R396, R397). -/
structure TxFrame where
  /-- transmit queue, 0 to 7 -/
  queue : Nat
  /-- launch time, media ns; 0 = none -/
  launch : Nat
  /-- VLAN table entry; 255 = sent exactly as written -/
  vlan : Nat
  /-- IPv4 destination; 0 for a frame that is no IP packet -/
  dst : Nat
  sport : Nat
  dport : Nat
  /-- UDP payload, or the whole frame where it is no UDP datagram; empty where `own` tells what the frame carries -/
  body : Bytes
  own : Option Content
  /-- DSCP and TTL of a media flow -/
  dscp : Nat
  ttl : Nat
  /-- the slot of the host transmit ring, for a host frame -/
  slot : Option Nat
  /-- the egress entry, for a media or relay packet -/
  flow : Option Nat
  deriving DecidableEq, Repr

/-- A frame of a queue that carries one UDP datagram and no launch time. -/
def TxFrame.udp (queue dst sport dport : Nat) (body : Bytes) : TxFrame :=
  { queue, launch := 0, vlan := 255, dst, sport, dport, body, own := none, dscp := 0, ttl := 64, slot := none, flow := none }

/-- A frame of the module's own, untagged and without a launch time. -/
def TxFrame.made (queue dst dport : Nat) (c : Content) : TxFrame :=
  { queue, launch := 0, vlan := 255, dst, sport := dport, dport, body := [], own := some c, dscp := 0, ttl := 64, slot := none, flow := none }

/-- One MAC (R387 to R397, R415, R416, R418). -/
structure MacSt where
  link : Bool
  txLpi : Bool
  rxLpi : Bool
  /-- the time in ns at which the present pause ends (R416) -/
  pausedTo : Option Nat
  eeeAgreed : Bool
  pauseEn : Bool
  eeeEn : Bool
  speed : Bool
  evt : Word
  twUs : Nat
  rxFrame : Word
  rxDrop : Word
  rxFcs : Word
  rxNobuf : Word
  rxVlan : Word
  rxPause : Word
  txFrame : Word
  txLate : Word
  txNoarp : Word
  lpi : Word
  /-- IPv4 address (0 = none), prefix length and gateway -/
  ip : Nat
  prefixLen : Nat
  gateway : Nat
  /-- an address that NET_ADDR has set and that takes effect after its reply (R390) -/
  ipNext : Option (Nat × Nat × Nat)
  /-- ARP entries by IPv4 address, the unresolved addresses asked for, and the time of each one's last request -/
  arp : Tab (Option Nat)
  asked : Tab (Option Nat)
  /-- frames that wait, by queue, oldest first -/
  queue : List TxFrame
  deriving DecidableEq, Repr

/-- A MAC after reset (R418); EEE_EN is 1 except on HASP. -/
def MacSt.reset (eee : Bool) : MacSt :=
  { link := false, txLpi := false, rxLpi := false, pausedTo := none, eeeAgreed := false, pauseEn := false, eeeEn := eee,
    speed := false, evt := 0, twUs := 0, rxFrame := 0, rxDrop := 0, rxFcs := 0, rxNobuf := 0, rxVlan := 0, rxPause := 0,
    txFrame := 0, txLate := 0, txNoarp := 0, lpi := 0, ip := 0, prefixLen := 0, gateway := 0, ipNext := none, arp := [],
    asked := [], queue := [] }

/-- What leaves the module at its connector, newest first in the state's outbox. -/
inductive Out where
  /-- a write into host memory: a ring slot or a host frame buffer -/
  | host (addr : Nat) (bytes : Bytes)
  /-- MSI-X vector 0 (R344) -/
  | msix
  /-- a frame started on a port: its source MAC address, the TCI of its tag, and its egress capture in ns of media time modulo 2^32 -/
  | frame (port src : Nat) (tci : Option Nat) (f : TxFrame) (ts : Nat)
  /-- a frame that the deadbolt, the lack of an ARP entry or its EtherType keeps from leaving -/
  | dropped (port : Nat) (f : TxFrame)
  /-- sixteen samples of a monitor channel, before conversion -/
  | dac (ch : Nat) (samples : List Int)
  deriving DecidableEq, Repr

end Sys2Proof.Machine
end

