-- ==== Sys2Proof/Syntax.lean ====
section
/-! DEFINITION. The commands of the block: one constructor per row of spec/opcode_table.json. A keyway command carries its
header and parameters; a register write its value; an event the time in ns at which it happens and what is observed. -/

namespace Sys2Proof

open Sys2Proof.Machine

/-- Everything that can happen to the module from outside, or at an instant its rules name. -/
inductive Instr where
  /-- SYS_INFO (R357): Command that returns the 32-byte system information payload. -/
  | sysInfo (h : Hdr) (p : Bytes)
  /-- SYS_RESET (R359): Command that aborts due deferred replies, replies, and schedules a full module reset 1 ms later. -/
  | sysReset (h : Hdr) (p : Bytes)
  /-- NOP (R357): Command whose reply is written only after every command with a lower ASEQ on either path has been answered or scheduled. -/
  | nop (h : Hdr) (p : Bytes)
  /-- RENDER_CONFIG (R48): STAGED command that selects the sample rate and resets every rate-dependent setting when the rate changes. -/
  | renderConfig (h : Hdr) (p : Bytes)
  /-- PAUSE (R46): Command that schedules a fade to silence at a tick boundary and replaces any pending pause or resume. -/
  | pause (h : Hdr) (p : Bytes)
  /-- RESUME (R46): Command that schedules a fade back from pause at a tick boundary and replaces any pending pause or resume. -/
  | resume (h : Hdr) (p : Bytes)
  /-- DBLT_WRITE (R294): STAGED command that writes deadbolt-class registers and refuses ranges that touch other offsets. -/
  | dbltWrite (h : Hdr) (p : Bytes)
  /-- DBLT_READ (R294): Command that returns a range of DBLT registers. -/
  | dbltRead (h : Hdr) (p : Bytes)
  /-- IMG_BEGIN (R376): Boot command that starts receiving an image of a given size. -/
  | imgBegin (h : Hdr) (p : Bytes)
  /-- IMG_DATA (R376): Boot command that stores image bytes in the staging area. -/
  | imgData (h : Hdr) (p : Bytes)
  /-- IMG_END (R376): Boot command that ends reception and starts verification. -/
  | imgEnd (h : Hdr) (p : Bytes)
  /-- IMG_STATUS (R377): Command that returns the download state and result. -/
  | imgStatus (h : Hdr) (p : Bytes)
  /-- STAGE_COMMIT (R380): Command that checks the deadbolt digest and moves the module from STAGED to LOCKING. -/
  | stageCommit (h : Hdr) (p : Bytes)
  /-- STAGE_RETURN (R381): Command that returns the module from LOCKING to STAGED and stops delay requests. -/
  | stageReturn (h : Hdr) (p : Bytes)
  /-- OBJ_BIND (R61): Command that sets an object's ACID at a resolved boundary. -/
  | objBind (h : Hdr) (p : Bytes)
  /-- OBJ_SOURCE (R71): Command that changes an object's SRC at a boundary and discards the old source's pending blocks. -/
  | objSource (h : Hdr) (p : Bytes)
  /-- OBJ_MOVE (R75): Command that starts a position segment for an object. -/
  | objMove (h : Hdr) (p : Bytes)
  /-- OBJ_GAIN (R78): Command that sets an object gain ramp, mute or unmute. -/
  | objGain (h : Hdr) (p : Bytes)
  /-- OBJ_SPREAD (R85): Command that changes an object's spread mode and value with a ramp. -/
  | objSpread (h : Hdr) (p : Bytes)
  /-- OBJ_ZONES (R86): Command that replaces an object's exclusion zones. -/
  | objZones (h : Hdr) (p : Bytes)
  /-- OBJ_LAYOUTS (R88): Command that sets an object's LAYOUT_MASK with a selection cross-fade. -/
  | objLayouts (h : Hdr) (p : Bytes)
  /-- OBJ_ATTEN (R82): Command that sets an object's distance law, DREF and DMAX. -/
  | objAtten (h : Hdr) (p : Bytes)
  /-- SCENE_XFORM (R62): STAGED command that sets the scene transform. -/
  | sceneXform (h : Hdr) (p : Bytes)
  /-- META_POLICY (R89): Command that stores the hold time and stale policy for one S-ADM flow index. -/
  | metaPolicy (h : Hdr) (p : Bytes)
  /-- BED_GAIN (R80): Command that sets a bed input's gain ramp, mute or unmute. -/
  | bedGain (h : Hdr) (p : Bytes)
  /-- BED_BIND (R61): Command that sets a bed input's ACID. -/
  | bedBind (h : Hdr) (p : Bytes)
  /-- OBJ_QUERY (R55): Command that returns an object context record. -/
  | objQuery (h : Hdr) (p : Bytes)
  /-- LAYOUT_WRITE (R97): STAGED command that writes bytes into the layout staging area. -/
  | layoutWrite (h : Hdr) (p : Bytes)
  /-- LAYOUT_LOAD (R102): STAGED command that checks the staged layout image and makes it current. -/
  | layoutLoad (h : Hdr) (p : Bytes)
  /-- LAYOUT_QUERY (R126): Command that returns one current layout record. -/
  | layoutQuery (h : Hdr) (p : Bytes)
  /-- SOUND_SPEED (R124): Command that ramps a wavefront layout's speed of sound. -/
  | soundSpeed (h : Hdr) (p : Bytes)
  /-- PAIR_QUERY (R126): Command that returns one pair's delays and gains from the last completed tick. -/
  | pairQuery (h : Hdr) (p : Bytes)
  /-- ROUTE_MODE (R147): STAGED command that selects crosspoint or graph mode and clears gain slots and banks. -/
  | routeMode (h : Hdr) (p : Bytes)
  /-- XP_MAP (R134): STAGED command that sets the crosspoint map. -/
  | xpMap (h : Hdr) (p : Bytes)
  /-- ROUTE_GAIN (R133): Command that ramps routing gain slots over 64 samples from a boundary. -/
  | routeGain (h : Hdr) (p : Bytes)
  /-- ROUTE_WRITE (R148): Command that writes bytes into the route staging area unless it is frozen. -/
  | routeWrite (h : Hdr) (p : Bytes)
  /-- ROUTE_COMMIT (R148): Command that checks the staged route program and loads it or schedules a route hinge. -/
  | routeCommit (h : Hdr) (p : Bytes)
  /-- BED_ALIGN (R130): STAGED command that sets a bed input's alignment delay. -/
  | bedAlign (h : Hdr) (p : Bytes)
  /-- LAT_QUERY (R156): Command that reports the latency terms of a source-to-feed path. -/
  | latQuery (h : Hdr) (p : Bytes)
  /-- COR_WRITE (R178): Command that writes bytes into a feed's incoming-bank coefficient record. -/
  | corWrite (h : Hdr) (p : Bytes)
  /-- COR_HINGE (R179): Command that requests a correction hinge on a set of feeds. -/
  | corHinge (h : Hdr) (p : Bytes)
  /-- COR_GAIN (R165): Command that ramps feed gains over 64 samples from a boundary. -/
  | corGain (h : Hdr) (p : Bytes)
  /-- COR_LONG (R170): STAGED command that sets which even feeds are long. -/
  | corLong (h : Hdr) (p : Bytes)
  /-- COR_FOLD (R171): STAGED command that defines or deletes a fold group. -/
  | corFold (h : Hdr) (p : Bytes)
  /-- COR_QUERY (R185): Command that returns a feed's correction state. -/
  | corQuery (h : Hdr) (p : Bytes)
  /-- CAL_CAPTURE (R199): Command that binds or unbinds a capture channel. -/
  | calCapture (h : Hdr) (p : Bytes)
  /-- CAL_ENROLL (R191): Command that enrols, changes or unenrols feeds for calibration. -/
  | calEnroll (h : Hdr) (p : Bytes)
  /-- CAL_POLICY (R219): Command that sets every calibration policy field. -/
  | calPolicy (h : Hdr) (p : Bytes)
  /-- CAL_START (R216): Command that moves RENDER to LIVE_PROBE. -/
  | calStart (h : Hdr) (p : Bytes)
  /-- CAL_STOP (R216): Command that returns LIVE_PROBE to RENDER. -/
  | calStop (h : Hdr) (p : Bytes)
  /-- SWEEP_START (R216): Command that moves PAUSED to SWEEP at a level. -/
  | sweepStart (h : Hdr) (p : Bytes)
  /-- SWEEP_STOP (R216): Command that returns SWEEP to PAUSED. -/
  | sweepStop (h : Hdr) (p : Bytes)
  /-- CAL_BASELINE (R207): Command that sets, arms or clears calibration baselines. -/
  | calBaseline (h : Hdr) (p : Bytes)
  /-- CAL_VETO (R214): Command that withdraws or reverts a calibration adoption. -/
  | calVeto (h : Hdr) (p : Bytes)
  /-- CAL_REPORT (R219): Command that returns one calibration report record. -/
  | calReport (h : Hdr) (p : Bytes)
  /-- CAL_QUERY (R219): Command that returns one feed's calibration state. -/
  | calQuery (h : Hdr) (p : Bytes)
  /-- NET_ADDR (R390): Command that sets a port's IPv4 address, prefix and gateway. -/
  | netAddr (h : Hdr) (p : Bytes)
  /-- VLAN_SET (R392): STAGED command that changes a VLAN table entry. -/
  | vlanSet (h : Hdr) (p : Bytes)
  /-- FLOW_IN_SET (R401): Command that writes an ingress flow entry at once or at a boundary 200 ms ahead. -/
  | flowInSet (h : Hdr) (p : Bytes)
  /-- FLOW_OUT_SET (R410): STAGED command that writes an egress flow entry. -/
  | flowOutSet (h : Hdr) (p : Bytes)
  /-- FLOW_QUERY (R417): Command that returns a flow entry and its statistics. -/
  | flowQuery (h : Hdr) (p : Bytes)
  /-- PTP_CONFIG (R442): STAGED command that sets the PTP parameters. -/
  | ptpConfig (h : Hdr) (p : Bytes)
  /-- SCENE_TIME (R437): STAGED command that sets the frame rate, line count and frame source. -/
  | sceneTime (h : Hdr) (p : Bytes)
  /-- TIME_QUERY (R442): Command that returns the time state. -/
  | timeQuery (h : Hdr) (p : Bytes)
  /-- TIME_CONVERT (R440): Command that resolves a WHEN to a sample index, tick and media time. -/
  | timeConvert (h : Hdr) (p : Bytes)
  /-- DAC_CONFIG (R511): STAGED command that selects each latch group's strobe source. -/
  | dacConfig (h : Hdr) (p : Bytes)
  /-- DAC_MAP (R506): Command that maps feeds to monitor channels with a 64-sample cross-fade. -/
  | dacMap (h : Hdr) (p : Bytes)
  /-- DAC_SPAN (R514): Command that schedules an output span change on monitor channels. -/
  | dacSpan (h : Hdr) (p : Bytes)
  /-- DAC_QUERY (R521): Command that returns the DAC status registers. -/
  | dacQuery (h : Hdr) (p : Bytes)
  /-- PWR_QUERY (R482): Command that returns the power status registers. -/
  | pwrQuery (h : Hdr) (p : Bytes)
  /-- PWR_SLEEP (R476): Command that starts or queues the transition into SLEEP. -/
  | pwrSleep (h : Hdr) (p : Bytes)
  /-- PWR_DEEP (R479): Command that starts or queues the transition into DEEP_SLEEP. -/
  | pwrDeep (h : Hdr) (p : Bytes)
  /-- PWR_WAKE (R478): Command that starts or queues the wake transition from SLEEP. -/
  | pwrWake (h : Hdr) (p : Bytes)
  /-- FEED_EXERCISE (R464): Command that moves the load to FEED_B for 200 ms and measures it. -/
  | feedExercise (h : Hdr) (p : Bytes)
  /-- CLK_QUERY (R457): Command that returns the clock status and measurements. -/
  | clkQuery (h : Hdr) (p : Bytes)
  /-- TWIN_CONFIG (R305): STAGED command that sets the twin parameters. -/
  | twinConfig (h : Hdr) (p : Bytes)
  /-- TWIN_JOIN (R324): Command that starts a join to a partner running alone. -/
  | twinJoin (h : Hdr) (p : Bytes)
  /-- TWIN_QUERY (R328): Command that returns the twin status and digests. -/
  | twinQuery (h : Hdr) (p : Bytes)
  /-- LOG_READ (R357): Command that returns fault log records from DRAM. -/
  | logRead (h : Hdr) (p : Bytes)
  /-- REG_READ (R358): Command that reads consecutive BAR0 registers. -/
  | regRead (h : Hdr) (p : Bytes)
  /-- REG_WRITE (R358): Command that writes consecutive host-class BAR0 registers. -/
  | regWrite (h : Hdr) (p : Bytes)
  /-- UNKNOWN_OPCODE (R356): A packet with an unlisted opcode is answered BAD_OPCODE. -/
  | unknownOpcode (h : Hdr) (op : Nat) (p : Bytes)
  /-- PAD_SKIP (R334): A PAD on the command ring sends reading to slot 0, or draws BAD_OPCODE when it stands in slot 0. -/
  | padSkip (t tag : Nat)
  /-- CMD_FETCH_ERROR (R337): A failed PCIe read of the command ring stops reading and raises vector 0. -/
  | cmdFetchError (t : Nat)
  /-- MGMT_SHORT_DATAGRAM (R346): An MGMT datagram shorter than 16 bytes is dropped and counted without a reply. -/
  | mgmtShortDatagram (t : Nat)
  /-- MGMT_DENIED (R346): A datagram from a source outside KEY_ALLOW is answered DENIED and not executed. -/
  | mgmtDenied (h : Hdr) (op : Nat) (p : Bytes)
  /-- MGMT_REPEAT (R346): A byte-identical repeat within 2 s is answered with the stored reply marked REPLAY, or with IN_PROGRESS. -/
  | mgmtRepeat (h : Hdr) (op : Nat) (p : Bytes)
  /-- CMD_RING_ENABLE (R333): Writing 1 to KEY_CTL.CMD_EN starts the command ring with both indices at 0, or is discarded for a bad size. -/
  | cmdRingEnable (t : Nat)
  /-- CMD_RING_DISABLE (R337): Writing 0 to KEY_CTL.CMD_EN stops the module reading the command ring. -/
  | cmdRingDisable (t : Nat)
  /-- RPL_RING_ENABLE (R338): Writing 1 to KEY_CTL.RPL_EN starts the reply ring on its first pass. -/
  | rplRingEnable (t : Nat)
  /-- RPL_RING_DISABLE (R345): Writing 0 to KEY_CTL.RPL_EN makes later ring replies be discarded and counted. -/
  | rplRingDisable (t : Nat)
  /-- KEY_RING_CFG_WRITE (R333): A write to a ring base or size register is accepted only while its enable is 0 and a valid size is given. -/
  | keyRingCfgWrite (t off v : Nat)
  /-- KEY_CMD_PI_WRITE (R335): The host doorbell makes the packets up to the new producer index available. -/
  | keyCmdPiWrite (t v : Nat)
  /-- KEY_RPL_CI_WRITE (R342): The host consumes reply entries by writing the reply consumer index. -/
  | keyRplCiWrite (t v : Nat)
  /-- REPLY_RING_SPACE (R343): A reply held for lack of ring space is written once enough slots are free. -/
  | replyRingSpace (t : Nat)
  /-- KEY_IRQ_TIMER (R344): MSI-X vector 0 fires when TIMER µs pass after the first unsignalled reply. -/
  | keyIrqTimer (t : Nat)
  /-- SYS_RESET_EXEC (R359): One millisecond after the SYS_RESET reply, the module resets and enters COLD. -/
  | sysResetExec (t : Nat)
  /-- W1C_CLEAR (R542): Writing 1 to an event bit clears it unless hardware sets it in the same cycle. -/
  | w1cClear (t addr v : Nat)
  /-- REGISTER_WRITE (R541): A host write to a register with no row of its own is applied to host-class fields or discarded and counted. -/
  | registerWrite (t addr v be : Nat)
  /-- RND_CLR_MIN (R53): Writing 1 to RND_CTL.CLR_MIN sets MIN_MARGIN to MARGIN. -/
  | rndClrMin (t v : Nat)
  /-- PAN_CLR_MAX (R127): Writing 1 to PAN_CTL.CLR_MAX sets PAN_GEOM_MAX to PAN_GEOM_LAST. -/
  | panClrMax (t v : Nat)
  /-- DISP_CLR_MAX (R275): Writing 1 to DISP_CTL.CLR_MAX resets every wait and load maximum to its last value. -/
  | dispClrMax (t v : Nat)
  /-- INTG_CLR_TJMAX (R304): Writing 1 to INTG_CTL.CLR_TJMAX sets TJ_MAX to TJ. -/
  | intgClrTjmax (t v : Nat)
  /-- DDR_CLR_MAX (R502): Writing 1 to DDR_CTL.CLR_MAX sets every DDR_LATMAX to 0. -/
  | ddrClrMax (t v : Nat)
  /-- PWR_CLR_MINMAX (R483): Writing 1 to PWR_CTL.CLR_MINMAX resets PWR_MIN and PWR_POWER.MAX to present values. -/
  | pwrClrMinmax (t v : Nat)
  /-- TAP_KCTL_WRITE (R255): A write of customer slot enables is refused or held pending until the next tick boundary. -/
  | tapKctlWrite (t v : Nat)
  /-- TAP_INJ_WRITE (R252): A write of TAP_INJ arms a one-shot or persistent injected fault. -/
  | tapInjWrite (t k v : Nat)
  /-- TAP_TEST_EN_WRITE (R256): Writing 1 to TAP_CFG.TEST_EN in STAGED enables HALT and PERSIST until reset. -/
  | tapTestEnWrite (t v : Nat)
  /-- DBLT_REG_WRITE (R549): A PCIe write to a deadbolt-class register is applied in STAGED or discarded and counted. -/
  | dbltRegWrite (t off v : Nat)
  /-- IMG_WINDOW_WRITE (R376): A BAR2 image window write is stored in RECEIVING or discarded and counted. -/
  | imgWindowWrite (t off : Nat) (data : Bytes)
  /-- COR_WINDOW_WRITE (R178): A BAR2 correction window write is accepted into an idle non-current bank or discarded and counted. -/
  | corWindowWrite (t off : Nat) (data : Bytes)
  /-- LAYOUT_WINDOW_WRITE (R544): A BAR2 layout staging write is stored in STAGED or discarded and counted. -/
  | layoutWindowWrite (t off : Nat) (data : Bytes)
  /-- ROUTE_WINDOW_WRITE (R148): A BAR2 route staging write is stored unless the area is frozen. -/
  | routeWindowWrite (t off : Nat) (data : Bytes)
  /-- RO_WINDOW_WRITE (R544): A BAR2 write to a read-only window is discarded and counted. -/
  | roWindowWrite (t off : Nat) (data : Bytes)
  /-- HOST_RX_ENABLE (R393): Setting MACM_HCTL.RX_EN enables the host receive ring from index 0. -/
  | hostRxEnable (t : Nat)
  /-- HOST_TX_ENABLE (R394): Setting MACM_HCTL.TX_EN enables the host transmit ring from index 0. -/
  | hostTxEnable (t : Nat)
  /-- HOST_TX_DISABLE (R418): Clearing MACM_HCTL.TX_EN marks queued host frames ABORTED. -/
  | hostTxDisable (t : Nat)
  /-- HOST_RX_PI_WRITE (R394): The host posts receive buffers by writing the receive ring PI. -/
  | hostRxPiWrite (t v : Nat) (slots : List Bytes)
  /-- HOST_TX_PI_WRITE (R394): The host posts transmit frames by writing the transmit ring PI. -/
  | hostTxPiWrite (t v : Nat) (slots frames : List Bytes)
  /-- WDOG_KICK (R287): Firmware writes INTG_WDOG once per tick to restart the watchdog. -/
  | wdogKick (w : WdogWrite)
  /-- WATCHDOG_EXPIRY (R287): Four ms without a watchdog write in a rendering mode makes INTG yield with reason WATCHDOG. -/
  | watchdogExpiry (t : Nat)
  /-- RESET_PIN (R363): MOD_RST_N held low for at least 10 µs resets the module into COLD. -/
  | resetPin (t : Nat)
  /-- PERST (R365): PCIe PERST# resets only the endpoint and clears both ring enables. -/
  | perst (t : Nat) (low : Bool) (outstanding : List FabErr)
  /-- DRAIN_RELEASE (R501): Sixty-four FAB cycles after the last drained response, the master's port is released. -/
  | drainRelease (t m : Nat)
  /-- WAKE_PIN (R480): WAKE_N held low for 1 ms in DEEP_SLEEP restarts bring-up from the 4 ms step. -/
  | wakePin (t : Nat)
  /-- DEEP_WAKE_TIMER (R480): Expiry of the wake timer leaves DEEP_SLEEP through bring-up. -/
  | deepWakeTimer (t : Nat)
  /-- FRAME_STB_EDGE (R438): A frame strobe edge is timestamped and compared with the strobe phase. -/
  | frameStbEdge (t : Nat) (falling : Bool)
  /-- STROBE_SILENT (R438): A strobe silent for 2 frame periods clears STROBE_LIVE and sets STROBE_LOSS. -/
  | strobeSilent (t : Nat)
  /-- FEED_SWITCH_B (R460): FEED_A out of range for 20 µs moves the load to FEED_B. -/
  | feedSwitchB (t : Nat)
  /-- FEED_B_FAIL_RETURN (R460): FEED_B failing for 20 µs while it carries the load returns the load to FEED_A at once. -/
  | feedBFailReturn (t : Nat)
  /-- FEED_RETURN_A (R460): FEED_A in range for 500 ms returns the load to FEED_A. -/
  | feedReturnA (t : Nat)
  /-- HOLDUP_CARRY (R461): With both feeds failed, the hold-up store carries the load. -/
  | holdupCarry (t : Nat)
  /-- HOLDUP_END (R460): A feed that leaves the failed state takes the load back from the hold-up store. -/
  | holdupEnd (t : Nat) (aOk bOk : Bool)
  /-- HOLDUP_EXHAUSTED (R462): After 2 ms on the hold-up store, the power-down order runs. -/
  | holdupExhausted (t : Nat)
  /-- FEED_QUALIFIED (R462): A feed in range for 10 ms starts the bring-up sequence. -/
  | feedQualified (t : Nat) (aOk bOk : Bool)
  /-- BRINGUP_STEP (R468): Each bring-up step runs at its time once earlier rails reach power-good. -/
  | bringupStep (t : Nat)
  /-- RAIL_FAULT (R470): A rail missing power-good or leaving regulation powers the module down and records the rail. -/
  | railFault (t rail : Nat)
  /-- RAIL_RETRY (R470): One second after a rail fault, bring-up is retried, up to three times. -/
  | railRetry (t : Nat)
  /-- POWER_MONITOR_SAMPLE (R463): Each feed's voltage and current is sampled every 100 µs. -/
  | powerMonitorSample (t aMv aMa bMv bMa hMv : Nat)
  /-- FEED_EXERCISE_END (R466): The feed exercise ends, reconnects FEED_A and writes its deferred reply with its result. -/
  | feedExerciseEnd (t : Nat)
  /-- XTAL_FAIL (R451): A failed crystal forces YIELDED with reason XTAL. -/
  | xtalFail (t : Nat)
  /-- PLL_REF_LOSS (R450): A PLL without reference edges for 8 periods opens its loop and coasts. -/
  | pllRefLoss (t : Nat) (p : RefLoss)
  /-- PLL_RELOCK (R452): A SerDes or PCIe PLL relocks when its reference returns. -/
  | pllRelock (t p : Nat)
  /-- FREQ_MON_WINDOW (R453): At the end of each 1 ms window every clock's count is written and checked. -/
  | freqMonWindow (t : Nat) (khz : List Nat) (locked : List Bool)
  /-- MUX_SWITCH (R448): A clock mux switch stops the output after an old edge and releases it on a new edge. -/
  | muxSwitch (t p : Nat) (toXtal alive : Bool)
  /-- MUX_FORCED_SWITCH (R449): No old-clock edge within 64 crystal cycles forces the mux switch. -/
  | muxForcedSwitch (t p : Nat) (toXtal : Bool)
  /-- GATE_IDLE (R456): A block's idle handshake closes its pending gate and answers held accesses GATED. -/
  | gateIdle (t g : Nat)
  /-- GATE_CLOSE_TIMEOUT (R456): No idle handshake within 4,096 FAB cycles leaves the gate open and sets TIMEOUT. -/
  | gateCloseTimeout (t g : Nat)
  /-- TEMP_SAMPLE (R537): The junction temperature is sampled every 1 ms and acted on. -/
  | tempSample (t tj : Nat)
  /-- LINK_CHANGE (R418): A MAC's link goes up or down. -/
  | linkChange (t port : Nat) (up : Bool)
  /-- ST2110_30_PACKET (R405): A received audio packet is matched, merged and written at its sample indices, or dropped and counted. -/
  | st2110Packet (u : Udp)
  /-- SADM_PACKET (R409): A received ST 2110-41 packet is merged and collected into its frame. -/
  | sadmPacket (u : Udp) (frames : List AdmFrame)
  /-- PTP_SYNC (R427): A usable Sync updates the servo, which steps or slews media time. -/
  | ptpSync (m : PtpMsg)
  /-- PTP_FOLLOW_UP (R424): A Follow_Up completes a two-step Sync. -/
  | ptpFollowUp (m : PtpMsg)
  /-- PTP_DELAY_RESP (R423): A Delay_Resp pairs with a sent request and sets the request rate. -/
  | ptpDelayResp (m : PtpMsg)
  /-- PTP_ANNOUNCE (R424): An Announce feeds the best-master algorithm. -/
  | ptpAnnounce (m : PtpMsg)
  /-- PTP_DELAY_REQ_SEND (R423): A Delay_Req is sent at the current request interval. -/
  | ptpDelayReqSend (t port : Nat) (tx : Int)
  /-- ANNOUNCE_TIMEOUT (R429): The announce receipt timeout expires on a port. -/
  | announceTimeout (t port : Nat)
  /-- SYNC_TIMEOUT (R429): One second without a usable Sync on either port declares the reference lost. -/
  | syncTimeout (t : Nat)
  /-- PTP_PORT_SWITCH (R424): Four sync intervals without a usable Sync moves the active port to the other port. -/
  | ptpPortSwitch (t : Nat)
  /-- ARP_FRAME (R391): An ARP frame is answered or learned. -/
  | arpFrame (t port vid : Nat) (request : Bool) (sip smac tip : Nat)
  /-- ARP_RETRY (R391): An ARP request for an unresolved destination is sent at most once per second. -/
  | arpRetry (t port ip : Nat)
  /-- ICMP_ECHO (R391): An ICMP echo request is answered in the permitted modes. -/
  | icmpEcho (u : Udp)
  /-- IGMP_QUERY (R414): An IGMP query is answered as IGMPv3 requires. -/
  | igmpQuery (t port group src : Nat)
  /-- IGMP_REPEAT (R414): A membership change is reported a second time 1 s later. -/
  | igmpRepeat (t : Nat)
  /-- IGMP_LEAVE (R401): A leave for an abandoned group is sent after B + 64 samples. -/
  | igmpLeave (t : Nat)
  /-- LLDP_FRAME (R415): An LLDP frame negotiates the EEE wake time. -/
  | lldpFrame (t port tw : Nat) (agreed : Bool)
  /-- PAUSE_FRAME (R416): A received PAUSE frame is counted, and stops the transmitter when PAUSE_EN is set. -/
  | pauseFrame (t port quanta : Nat)
  /-- PAUSE_QUANTA_END (R416): The pause quanta expire and the transmitter resumes. -/
  | pauseQuantaEnd (t port : Nat)
  /-- DROPPED_FRAME (R388): An unsupported or unknown-VID frame is dropped and counted. -/
  | droppedFrame (t port : Nat) (d : FrameDrop)
  /-- HOST_RX_FRAME (R395): An unclaimed MGMT frame is stored in host receive buffers or dropped for lack of them. -/
  | hostRxFrame (t : Nat) (tci : Option Nat) (frame : Bytes)
  /-- FRAME_LAUNCH (R397): A queue's head frame starts transmission at or after its launch time. -/
  | frameLaunch (t port : Nat)
  /-- MEDIA_PACKET_LAUNCH (R398): An egress ST 2110-30 packet is launched on both media ports at its stamped time plus LAUNCH_OFS. -/
  | mediaPacketLaunch (t entry : Nat)
  /-- SADM_RELAY_SEND (R412): An accepted S-ADM frame is relayed with its timestamp advanced by the fixed term. -/
  | sadmRelaySend (t entry : Nat)
  /-- TUMBLER_SEND (R309): A tumbler is sent every 1 ms on HASP and every 10 ms to the tumbler group. -/
  | tumblerSend (t : Nat) (path : TwinPath)
  /-- TUMBLER_RX (R311): A partner tumbler marks its path up and conveys state, digests and reason. -/
  | tumblerRx (t : Nat) (path : TwinPath) (m : Tumbler)
  /-- TUMBLER_MISS (R311): Consecutive missed tumbler intervals declare a path lost. -/
  | tumblerMiss (t : Nat) (path : TwinPath)
  /-- MIRROR_RX (R317): The follower acknowledges a MIRROR record and queues it for its boundary. -/
  | mirrorRx (t seq : Nat) (path : TwinPath) (m : Mirror)
  /-- ACK_RX (R317): An ACK stops retransmission of a MIRROR record. -/
  | ackRx (t seq : Nat) (path : TwinPath) (mseq : Nat)
  /-- MIRROR_RETX (R317): An unacknowledged MIRROR record is sent again every 50 µs. -/
  | mirrorRetx (t : Nat)
  /-- RELAY_RX (R316): The decider checks and resolves a relayed command, or the follower receives its answer. -/
  | relayRx (t seq : Nat) (path : TwinPath) (m : TwinMsg)
  /-- CHECK_RX (R322): The partner's CHECK is compared, and a mismatch starts recomputation of the differing feeds. -/
  | checkRx (t seq : Nat) (path : TwinPath) (c : Check)
  /-- VERDICT_RX (R322): The partner's verdict decides which twin yields. -/
  | verdictRx (t seq : Nat) (path : TwinPath) (n : Nat) (clean : Bool)
  /-- VERDICT_TIMEOUT (R322): One ms after sending its verdict, the decider acts on its own verdict. -/
  | verdictTimeout (t : Nat)
  /-- SNAPSHOT_RX (R325): A joining twin receives and loads the decider's snapshot. -/
  | snapshotRx (t seq : Nat) (snap : Snapshot)
  /-- TWIN_WAIT_EXPIRY (R324): A twin whose partner is not ready within TWIN_WAIT enters RENDER alone. -/
  | twinWaitExpiry (t : Nat)
  /-- JOIN_REQ_SEND (R385): A joining twin sends JOIN_REQ 200 ms after its start boundary. -/
  | joinReqSend (t : Nat)
  /-- SNAPSHOT_SEND (R325): At the snapshot boundary the decider sends the state entering tick K. -/
  | snapshotSend (t : Nat)
  /-- JOIN_FAIL_TIMEOUT (R326): A joiner not caught up within 10 s of K fails the join and returns to SEEKING. -/
  | joinFailTimeout (t : Nat)
  /-- AUTO_JOIN_RETRY (R326): With AUTO_JOIN, a failed join is retried 10 s later. -/
  | autoJoinRetry (t : Nat)
  /-- START_BOUNDARY (R383): At the start boundary the module locks the deadbolt, fixes I and enters RENDER. -/
  | startBoundary
  /-- TICK_BOUNDARY (R51): A tick boundary applies every scheduled state change that resolved to it. -/
  | tickBoundary
  /-- OBJ_STALE (R89): A flow's objects become stale when its newest frame is older than the hold time. -/
  | objStale (flow : Nat)
  /-- COR_FADE_END (R175): A correction fade ends after F samples and the new bank becomes current. -/
  | corFadeEnd
  /-- ROUTE_HINGE_END (R149): A route cross-fade ends and the new program becomes current. -/
  | routeHingeEnd
  /-- DAC_SPAN_SWITCH (R514): At sample B + 96 the output stage switches span at 0 V. -/
  | dacSpanSwitch (t : Nat)
  /-- DAC_SPAN_FADE_UP (R514): At sample B + 64 + Z the reply is written and the fade-up starts. -/
  | dacSpanFadeUp (t : Nat)
  /-- DAC_SPAN_DONE (R514): At sample B + 128 + Z the channel returns to IDLE and a pending change may start. -/
  | dacSpanDone (t : Nat)
  /-- MODULATOR_RESET (R509): A modulator loop that leaves its bound is reset within one code period. -/
  | modulatorReset (t ch : Nat)
  /-- INGRESS_DEADLINE (R30): The input of a tick closes, missing samples are concealed and its render slot opens. -/
  | ingressDeadline (t : Nat)
  /-- NOMINAL_DEADLINE (R38): A tick still incomplete at its deadline makes SCHED LATE. -/
  | nominalDeadline (t : Nat)
  /-- SHED_WIDEN (R38): Lateness reaching 4, 8 or 16 samples sheds a further level. -/
  | shedWiden (t : Nat)
  /-- UNIT_SUBMIT (R260): A work unit submission is answered ACCEPT, FULL or BAD_DESC in the same cycle. -/
  | unitSubmit (t core : Nat) (desc : Bytes)
  /-- SUBMIT_RETRY (R261): A refused output-path submission is retried every 1 µs. -/
  | submitRetry (t : Nat)
  /-- UNIT_DISPATCH (R266): An idle engine receives the READY unit of the highest dispatchable level. -/
  | unitDispatch (t : Nat)
  /-- UNIT_COMMIT (R250): An END with COMMIT and no fault commits the unit and fires its events. -/
  | unitCommit (t : Nat) (u : UnitEnd)
  /-- UNIT_END_NO_COMMIT (R269): An END without COMMIT discards stores and frees the entry. -/
  | unitEndNoCommit (t engine : Nat)
  /-- GEOMETRY_BANK_COMPLETE (R32): The geometry engine completes a pair-store bank and BANK fires. -/
  | geometryBankComplete (g : GeomDone)
  /-- UNIT_FAULT (R251): A parity, residue, ILLEGAL or BUDGET fault stops the unit and requeues it at level 7. -/
  | unitFault (t engine kind : Nat) (site : FaultSite)
  /-- BUDGET_INTERRUPT (R242): A unit that exceeds its cycle limit is interrupted at its next interruptible word. -/
  | budgetInterrupt (t engine : Nat)
  /-- HALT_REQUEST (R242): A control core's debug HALT freezes an engine while TEST_EN is set. -/
  | haltRequest (t engine : Nat)
  /-- HALT_RELEASE (R244): A control core releases a halted engine. -/
  | haltRelease (t engine : Nat)
  /-- EGRESS_READOUT (R295): Egress reads each feed sample out of the cushion through the deadbolt stages. -/
  | egressReadout (t : Nat)
  /-- DC_WINDOW_END (R297): At the end of each DC window the mean is compared with DC_LIM. -/
  | dcWindowEnd (t : Nat)
  /-- DBLT_PARITY_CHECK (R302): The deadbolt checks its settings' parity once per tick. -/
  | dbltParityCheck (t : Nat) (c : SettingsCheck)
  /-- YIELD_TAKE_EFFECT (R286): At the yield boundary the streams stop, the DACs fade and the engines are gated. -/
  | yieldTakeEffect (t : Nat)
  /-- CAL_DECISION_ROUND (R208): At each PERIOD boundary in LIVE_PROBE the decider considers enrolled feeds for adoption. -/
  | calDecisionRound
  /-- CAL_ALIGN_START (R202): Alignment of a block starts once its capture range is stored or gapped. -/
  | calAlignStart (t f block : Nat)
  /-- CAL_BLOCK_ABANDON (R203): A block whose capture leaves the history before estimation is abandoned. -/
  | calBlockAbandon (t f block : Nat)
  /-- CAPTURE_NOT_LIVE (R215): A capture channel without a stored sample for 100 ms stops being LIVE. -/
  | captureNotLive (t ch : Nat)
  /-- SLEEP_ENTRY_STEP (R476): Each timed step of SLEEP entry runs, ending with the mode SLEEP and the reply. -/
  | sleepEntryStep (t : Nat)
  /-- WAKE_STEP (R478): Each timed step of the wake runs, ending in STAGED or LOCKING with the reply. -/
  | wakeStep (t : Nat)
  /-- DEEP_ENTRY_STEP (R479): Each timed step of DEEP_SLEEP entry runs, ending with only AON powered. -/
  | deepEntryStep (t : Nat)
  /-- PWR_QUEUED_START (R473): A queued power request starts when the running transition ends. -/
  | pwrQueuedStart (t : Nat)
  /-- BOOT_AWAIT_IMAGE (R366): After DRAM training and port enable, COLD moves to AWAIT_IMAGE. -/
  | bootAwaitImage (t : Nat)
  /-- IMG_VERIFY_DONE (R373): Verification ends and moves the download to LOADING or FAILED. -/
  | imgVerifyDone (t : Nat) (badLine : Option Nat)
  /-- IMG_LOAD_DONE (R376): Sections in place move the download to SELFTEST. -/
  | imgLoadDone (t : Nat)
  /-- ENGINE_SELFTEST_DONE (R378): Engine self-tests end, and failed engines are declared hard-failed. -/
  | engineSelftestDone (t : Nat) (failed : List Nat)
  /-- FIRMWARE_READY (R376): Firmware reports ready, and the module enters STAGED. -/
  | firmwareReady (t : Nat)
  /-- DRAM_TRAINING_STEP (R487): Each training step runs, and a failure restarts the channel's training. -/
  | dramTrainingStep (t ch : Nat) (ok : Bool)
  /-- WCK_TRACK (R488): Every 64 ms the WCK oscillator is read and write timing adjusted. -/
  | wckTrack (t : Nat) (beyond : Bool)
  /-- MR4_READ (R494): Every 16 ms each device's refresh rate is read. -/
  | mr4Read (t rate : Nat)
  /-- REFRESH_DUE (R495): A due refresh is issued, postponed or forced as a burst under the debt rule. -/
  | refreshDue (t ch : Nat) (demand : Bool) (ahead : Nat)
  /-- DRAM_SCRUB (R486): Duplicated lines are read and repaired once every 24 h. -/
  | dramScrub (t : Nat) (c : LineCheck)
  /-- REQUEST_PROMOTE (R492): A DRAM request that has waited its limit moves to the next class. -/
  | requestPromote (t : Nat) (n : Nat)
  /-- FABRIC_TIMEOUT (R498): A target without a response within 65,536 FAB cycles is answered TIMEOUT. -/
  | fabricTimeout (t : Nat) (e : FabErr)
  /-- FEED_FAIL (R459): A feed that does not carry the load goes below 10.2 V or above 13.8 V, is disconnected, clears its _OK bit and sets its FEED_x_FAIL event, and a failure of FEED_A during a feed exercise ends the exercise with the load left on FEED_B. -/
  | feedFail (t : Nat) (b : Bool)
  /-- RESET_PIN_RELEASE (R533): The rising edge of MOD_RST_N ends a pin reset, or the end of bring-up does if that is later, and the ROM starts in COLD with the straps sampled. -/
  | resetPinRelease (t addrId : Nat) (sgmii : Bool)
  /-- DAC_CLAMP_OPEN (R517): At the connector instant of the first DAC sample after the start boundary, the monitor output clamps open and CLAMPED clears. -/
  | dacClampOpen (t : Nat)
  /-- LOW_POWER_IDLE (R415): A port whose transmitter has no frame to send enters IEEE 802.3az low-power idle, where its mode allows, and counts the entry; it wakes early for a timed frame. -/
  | lowPowerIdle (t : Nat) (e : LpiEvent)
  /-- RX_FCS_ERROR (R418): A received frame that fails its FCS is counted in RX_FCS_CNT and sets MACx_EVT.FCS. -/
  | rxFcsError (t port : Nat)
  deriving DecidableEq, Repr

end Sys2Proof
end

