-- ==== Sys2Proof/Config.lean ====
section
/-! DEFINITION. What one module fixes when it is made, and the values the spec leaves open: constants without a body, so
that nothing can be proved of a value of theirs. -/

namespace Sys2Proof.Config

/-- The free value: the `n`-th value the spec leaves open in a run (`State.free` counts them). -/
opaque freeValue : Nat → BitVec 64

/-- OTP: module hardware revision (R545). -/
opaque hwRev : BitVec 16

/-- Boot ROM version (R545). -/
opaque romVer : BitVec 16

/-- OTP: the bits of the base MAC address that R389 leaves free. -/
opaque macBits : BitVec 48

/-- OTP: base MAC address M (R389): unicast and globally administered, and bits [1:0] of its last octet are 0. -/
def macBase : BitVec 48 := macBits &&& 0xFCFFFFFFFFFC#48

/-- OTP: KEY_HASH, 48 bytes, the first in the most significant place (R372). -/
opaque keyHash : BitVec 384

/-- OTP: the PTP constants of a port and a line speed (R425, R443): PTM_LATx by port and SPEED. -/
opaque ptmLat : Bool → Bool → BitVec 32

/-- The initial value of the CRC-32C of the digests. The spec's reset digest fits no convention in common use. -/
opaque crcInit : BitVec 32

/-- The final exclusive-or of the CRC-32C of the digests. -/
opaque crcXor : BitVec 32

/-- What the sample-rate converter makes of an asynchronous flow (R405): a sample of a channel at a sample index, from the payloads
received, newest first. The spec gives its delay and no result. -/
opaque resampled : List (List (BitVec 8)) → Nat → Nat → BitVec 32

/-- What an engine makes of a shift (FN, value, amount) by 32 or more: the spec states no result. -/
opaque tapShift : Nat → Nat → Nat → Nat

/-- The word from which NARV's result is visible, counted from its own: the spec states none. -/
opaque tapNarv : BitVec 3

/-- The word from which RDSR's result is visible, counted from its own: the spec states none. -/
opaque tapRdsr : BitVec 3

/-- Where a history window keeps sample index 0 (in samples): the spec gives the window, not its origin. -/
opaque histOrigin : BitVec 16

/-- The place of a word of PUB: the feed of the shard (counted from its first) and the sample, where it is one. -/
opaque pubPlace : Nat → Option (Nat × Nat)

/-- What a word of local SRAM reads as where the spec states no content (SCRATCH before a store, COR, PAIR, the partial sums of PUB
and the rest of SYSV), by engine, units ended on it, and byte address. -/
opaque sramWord : Nat → Nat → Nat → Nat

/-- What LOG_READ gives for a record that is marked damaged (R284): the spec does not state the mark. -/
opaque damagedRecord : Nat → BitVec 128

/-- The feed whose chain state a line of the chain-state shadow holds, by its offset (R484): the spec gives the region only. -/
opaque chainLine : Nat → Option Nat

/-- DDR_LATMAX (R502): the longest time of a DRAM request of a class (the last argument) between two times in ns. Which requests
there are and how long each takes is no part of the model. -/
opaque dramLatency : Nat → Nat → Nat → BitVec 24

/-- The Q1.31 gain of an ADM gain below -1.0 (numerator and decimal places), which does not fit: the spec states no value. -/
opaque admGainLow : Int → Nat → BitVec 32

end Sys2Proof.Config
end

