-- ==== Sys2Proof/Machine/Crypto.lean ====
section
/-! DEFINITION. SHA-384 and the check of an ECDSA P-384 signature, which the image check uses (R372 to R374). The spec names the
two algorithms; their constants are those of FIPS 180-4 and FIPS 186-4. -/

namespace Sys2Proof.Machine

/-! SHA-384. -/

/-- A 64-bit word. -/
abbrev Wd64 := BitVec 64

/-- The largest `r` below 2^`n` for which `r ^ k` does not exceed `x`, bit by bit from the top. -/
def rootFloor (k x : Nat) : Nat → Nat → Nat
  | 0, r => r
  | n + 1, r => rootFloor k x n (if (r + 2 ^ n) ^ k ≤ x then r + 2 ^ n else r)

/-- The first 64 bits of the fractional part of the `k`-th root of `p`, a number below 2^9. -/
def rootFrac (k p : Nat) : Nat := rootFloor k (p * 2 ^ (64 * k)) 69 0 % 2 ^ 64

/-- The first 80 primes: 409 is the last. -/
def shaPrimes : List Nat :=
  (List.range 410).filter fun n => decide (2 ≤ n) && (List.range 21).all fun d => decide (d < 2) || n == d || n % d != 0

/-- The 80 round constants: the cube roots of the first 80 primes. -/
def shaK : List Nat := shaPrimes.map (rootFrac 3)

/-- The initial state: the square roots of the ninth to the sixteenth prime. -/
def shaInit : List Wd64 := ((shaPrimes.drop 8).take 8).map fun p => BitVec.ofNat 64 (rootFrac 2 p)

/-- The sum without carries of a word rotated right by each of the distances. -/
def rotSum (ds : List Nat) (x : Wd64) : Wd64 := ds.foldl (fun acc d => acc ^^^ x.rotateRight d) 0

/-- The message schedule: the last 16 words, newest first, give the next. -/
def shaNext (w : List Wd64) : Wd64 :=
  let ago (n : Nat) : Wd64 := getD' w (n - 1) 0
  let s0 := rotSum [1, 8] (ago 15) ^^^ (ago 15 >>> 7)
  let s1 := rotSum [19, 61] (ago 2) ^^^ (ago 2 >>> 6)
  ago 16 + s0 + ago 7 + s1

/-- One round on the eight words of the state, for a constant and a word of the schedule. -/
def shaRound (h : List Wd64) (k w : Wd64) : List Wd64 :=
  let at' (i : Nat) : Wd64 := getD' h i 0
  let pick := at' 6 ^^^ (at' 4 &&& (at' 5 ^^^ at' 6))
  let most := (at' 0 &&& (at' 1 ||| at' 2)) ||| (at' 1 &&& at' 2)
  let x := k + w + at' 7 + pick + rotSum [14, 18, 41] (at' 4)
  modAt ((x + most + rotSum [28, 34, 39] (at' 0)) :: h.take 7) 4 (· + x)

/-- The rounds of one block: the constants left, the words of the block left, the last 16 words (newest first), and the state. -/
def shaRounds : List Nat → List Wd64 → List Wd64 → List Wd64 → List Wd64
  | [], _, _, h => h
  | k :: ks, [], w, h =>
    let x := shaNext w
    shaRounds ks [] ((x :: w).take 16) (shaRound h (BitVec.ofNat 64 k) x)
  | k :: ks, x :: xs, w, h => shaRounds ks xs ((x :: w).take 16) (shaRound h (BitVec.ofNat 64 k) x)

/-- One block of 128 bytes. -/
def shaBlock (h : List Wd64) (b : Bytes) : List Wd64 :=
  let ws := (List.range 16).map fun i => BitVec.ofNat 64 (rdBE b (8 * i) 8)
  List.zipWith (· + ·) h (shaRounds shaK ws [] h)

/-- The blocks of a padded message. -/
def shaBlocks : Nat → Bytes → List Wd64 → List Wd64
  | 0, _, h => h
  | n + 1, m, h => shaBlocks n (m.drop 128) (shaBlock h (m.take 128))

/-- SHA-384: 48 bytes. -/
def sha384 (m : Bytes) : Bytes :=
  let pad := zeros ((239 - m.length % 128) % 128)
  let m' := m ++ [0x80#8] ++ pad ++ beB 16 (8 * m.length)
  (((shaBlocks (m'.length / 128) m' shaInit).take 6).map fun w => beB 8 w.toNat).flatten

/-! ECDSA P-384. -/

/-- The field prime. -/
def p384 : Nat := 2 ^ 384 - 2 ^ 128 - 2 ^ 96 + 2 ^ 32 - 1

/-- The coefficient b of the curve y² = x³ − 3x + b. -/
def b384 : Nat := 0xb3312fa7e23ee7e4988e056be3f82d19181d9c6efe8141120314088f5013875ac656398d8a2ed19d2a85c8edd3ec2aef

/-- The order of the base point. -/
def n384 : Nat := 0xffffffffffffffffffffffffffffffffffffffffffffffffc7634d81f4372ddf581a0db248b0a77aecec196accc52973

/-- The base point. -/
def g384 : Nat × Nat :=
  (0xaa87ca22be8b05378eb1c71ef320ad746e1d3b628ba79b9859f741e082542a385502f25dbf55296c3a545e3872760ab7,
   0x3617de4a96262c6f5d9e98bf9292dc29f8f41dbd289a147ce9da3113b5f0b8c00a60b1ce1d7e819d7a431d7c90ea0e5f)

/-- x^e mod m. -/
def powMod (m x : Nat) : Nat → Nat → Nat
  | 0, _ => 1 % m
  | k + 1, e => let r := powMod m (x * x % m) k (e / 2); if e % 2 = 1 then r * x % m else r

/-- The inverse modulo a prime below 2^384. -/
def invMod (m x : Nat) : Nat := powMod m x 384 (m - 2)

/-- The sum of two points; `none` is the point at infinity. -/
def ecAdd : Option (Nat × Nat) → Option (Nat × Nat) → Option (Nat × Nat)
  | none, q => q
  | q, none => q
  | some (x1, y1), some (x2, y2) =>
    let p := p384
    if x1 = x2 ∧ (y1 + y2) % p = 0 then none
    else
      let l := if x1 = x2 then (3 * x1 * x1 + (p - 3)) * invMod p (2 * y1 % p) % p
               else (y2 + p - y1) * invMod p ((x2 + p - x1) % p) % p
      let x := (l * l + 2 * p - x1 - x2) % p
      some (x, (l * (x1 + p - x) + (p - y1)) % p)

/-- `k` times a point, for `k` below 2^n. -/
def ecMul : Nat → Nat → Option (Nat × Nat) → Option (Nat × Nat)
  | 0, _, _ => none
  | n + 1, k, q => let r := ecMul n (k / 2) (ecAdd q q); if k % 2 = 1 then ecAdd r q else r

/-- A point of the curve. -/
def onCurve (x y : Nat) : Bool :=
  decide (x < p384 ∧ y < p384 ∧ y * y % p384 = (x * x * x + (p384 - 3) * x + b384) % p384)

/-- ECDSA: the signature (r, s) of the hash `e` under the public key (x, y). -/
def ecdsaOk (x y e r s : Nat) : Bool :=
  if !(onCurve x y && decide (1 ≤ r ∧ r < n384 ∧ 1 ≤ s ∧ s < n384)) then false
  else
    let w := invMod n384 s
    match ecAdd (ecMul 384 (e * w % n384) (some g384)) (ecMul 384 (r * w % n384) (some (x, y))) with
    | none => false
    | some (vx, _) => vx % n384 == r

end Sys2Proof.Machine
end

