-- ==== Sys2Proof/Machine/Objects.lean ====
section
/-! DEFINITION. What objects and bed inputs do with their metadata blocks: paths, ramps, selection fades,
staleness, and the way from an ADM block to a metadata block (R54 to R90). Everything here is a function
of one context. -/

namespace Sys2Proof.Machine

/-! Sines (R95). -/

/-- π · 2^128, truncated. -/
def piQ128 : Nat := 1069028584064966747859680373161870783300

/-- The sum of the series of the sine at `x` (in units of 2^-128), from the term `t` of index `k` on. -/
def sinSeries (x2 : Int) : Nat → Nat → Int → Int → Int
  | 0, _, _, acc => acc
  | fuel + 1, k, t, acc =>
    sinSeries x2 fuel (k + 1) (-(t * x2 / 2 ^ 128) / ((2 * k + 2) * (2 * k + 3))) (acc + t)

/-- PAN_SINE: T[k] = round(2^31 · sin(2πk/65536)), saturated to 0x7FFF_FFFF, for k = 0 to 16,384 (R95). -/
def panSine (k : Nat) : Int :=
  let x : Int := piQ128 * k / 32768
  let s := sinSeries (x * x / 2 ^ 128) 30 0 x 0
  min 0x7FFFFFFF ((s + 2 ^ 96) / 2 ^ 97)

/-- sin(k) for an angle in 1/65536 turn, by symmetry from the quarter-wave table (R95). -/
def sinQ (k : Nat) : Int :=
  let k := k % 65536
  if k ≤ 16384 then panSine k
  else if k < 32768 then panSine (32768 - k)
  else if k ≤ 49152 then -panSine (k - 32768)
  else -panSine (65536 - k)

/-- cos(k) = sin(k + 16,384) (R95). -/
def cosQ (k : Nat) : Int := sinQ (k + 16384)

/-- An angle in 1/65536 turn from its signed value. -/
def turnOf (x : Int) : Nat := code 16 x

/-! Vectors. -/

/-- Add two vectors. -/
def V3.add (a b : V3) : V3 := { x := a.x + b.x, y := a.y + b.y, z := a.z + b.z }

/-- Subtract two vectors. -/
def V3.sub (a b : V3) : V3 := { x := a.x - b.x, y := a.y - b.y, z := a.z - b.z }

/-- Scale a vector. -/
def V3.scale (k : Int) (a : V3) : V3 := { x := k * a.x, y := k * a.y, z := k * a.z }

/-- The exact scalar product. -/
def V3.dot (a b : V3) : Int := a.x * b.x + a.y * b.y + a.z * b.z

/-! Ramps. -/

/-- The value of a ramp at `n` (R78): g0 + floor((g1 - g0) · j / L), and g1 from its end on. -/
def Ramp.val (r : Ramp) (n : Nat) : Int :=
  if r.start + r.len ≤ n then r.g1
  else if n ≤ r.start then r.g0
  else r.g0 + (r.g1 - r.g0) * ((n - r.start : Nat) : Int) / (r.len : Int)

/-- A new ramp from the value in force at `n`. -/
def Ramp.to (r : Ramp) (n : Nat) (g1 : Int) (len : Nat) : Ramp :=
  { g0 := r.val n, g1, start := n, len }

/-! The path between positions (R75, R76). -/

/-- p(j) on one axis (R75). -/
def hermitePos (p0 v0 p1 : Int) (j len : Nat) : Int :=
  p0 + (256 * (p1 - p0) * (j * j * (2 * len - j) : Int) + v0 * j * ((len : Int) - j) ^ 2 * len)
    / (256 * (len : Int) ^ 3)

/-- v(j) on one axis (R75): the floor is taken over the whole sum on the common denominator. -/
def hermiteVel (p0 v0 p1 : Int) (j len : Nat) : Int :=
  (65536 * (p1 - p0) * (4 * j * len - 3 * (j : Int) ^ 2)
      + v0 * ((len : Int) - j) * ((len : Int) - 3 * j) * 256 * len)
    / (256 * (len : Int) ^ 3)

/-- Ticks into a segment at the boundary `t`, limited to its length (R76). -/
def Seg.j (s : Seg) (t : Nat) : Nat := min (t - s.b) s.len

/-- The position at the boundary `t` (R75, R76). -/
def Seg.pos (s : Seg) (t : Nat) : V3 :=
  let j := s.j t
  { x := hermitePos s.p0.x s.v0.x s.p1.x j s.len, y := hermitePos s.p0.y s.v0.y s.p1.y j s.len,
    z := hermitePos s.p0.z s.v0.z s.p1.z j s.len }

/-- The velocity at the boundary `t` (R75, R76). -/
def Seg.vel (s : Seg) (t : Nat) : V3 :=
  let j := s.j t
  { x := hermiteVel s.p0.x s.v0.x s.p1.x j s.len, y := hermiteVel s.p0.y s.v0.y s.p1.y j s.len,
    z := hermiteVel s.p0.z s.v0.z s.p1.z j s.len }

/-- A segment that stands still at `p`. -/
def Seg.still (p : V3) (t : Nat) : Seg := { p0 := p, v0 := .zero, p1 := p, b := t, len := 1 }

/-! Spread (R83, R85). -/

/-- σ of R83 from the setting and the distance `d` in mm. -/
def sigmaOf (angle : Bool) (spread d : Nat) : Int :=
  if angle then min (2 ^ 31 * (spread : Int) / 32768) 0x7FFFFFFF
  else 2 ^ 31 * (spread : Int) / ((spread : Int) + d + 1)

/-- The distance in mm, truncated, from a position in 1/256 mm to a reference point in mm (R81). -/
def distMm (p ref : V3) : Nat :=
  let v := p.sub (ref.scale 256)
  isqrt (v.dot v).toNat / 256

/-- σ of the layout `l`, with reference point `ref`, at the boundary `t` (R83, R85). -/
def ObjCtx.sigma (c : ObjCtx) (ref : V3) (l t : Nat) : Int :=
  let s1 := sigmaOf c.spreadAngle c.spread (distMm (c.seg.pos t) ref)
  match c.sigRamp with
  | none => s1
  | some (s0, b, len) =>
    if b + len ≤ t then s1
    else
      let a := getD' s0 l 0
      a + (s1 - a) * ((t - b : Nat) : Int) / (len : Int)

/-! The selection (R86 to R88). -/

/-- The selection in force: that of the newest selection change. -/
def ObjCtx.sel (c : ObjCtx) : Sel :=
  match c.sels.getLast? with
  | some s => s
  | none => c.base

/-- Fades whose j has reached 4 no longer run: the newest of them becomes the base (R88). -/
def selSettle (t : Nat) : Sel → List Sel → Sel × List Sel
  | base, [] => (base, [])
  | base, s :: r => if s.tick + 4 ≤ t then selSettle t s r else (base, s :: r)

/-- A selection change at the boundary `t`; changes at one boundary are one selection change (R88). -/
def ObjCtx.select (c : ObjCtx) (t : Nat) (zones : Option (List Zone)) (mask : Option Nat) : ObjCtx :=
  match zones, mask with
  | none, none => c
  | _, _ =>
    let cur := c.sel
    let n : Sel := { tick := t, zones := zones.getD cur.zones, mask := mask.getD cur.mask }
    let kept := c.sels.filter fun s => s.tick != t
    let (b, l) := selSettle t c.base kept
    { c with base := b, sels := l ++ [n] }

/-! Applying a block (R65 to R80). -/

/-- Mute, unmute and target of a context's gain (R78 to R80): the new ramp, target and mute flag. `at?` is the
place of the ramp's start, or `none` to take the end values at once (R560); `fade` is the length of a mute. -/
def gainStep (g : Ramp) (target : Int) (muted : Bool) (b : Blk) (at? : Option Nat) (fade : Nat) :
    Ramp × Int × Bool :=
  let go (v : Int) (len : Nat) : Ramp :=
    match at? with
    | none => Ramp.at v
    | some n => g.to n v len
  match b.mute, b.gain with
  | some true, _ => if muted then (g, target, true) else (go 0 fade, target, true)
  | some false, _ => if muted then (go target fade, target, false) else (g, target, false)
  | none, some v => if muted then (g, v, true) else (go v b.ramp, v, false)
  | none, none => (g, target, muted)

/-- The block as a stale object's gain meets it: the one that brings a faded gain back takes at least 64 ticks, and one that
carries no gain returns to the target (R90). -/
def Blk.gainPart (b : Blk) (target : Int) (muted : Bool) : Blk :=
  if b.back then
    { b with gain := some (b.gain.getD target), ramp := max 64 b.ramp, mute := if muted then b.mute else b.mute.filter (·) }
  else b

/-- What one block does to an object context at the boundary `t`; `now?` false takes every end value at once
(R560). `refs` are the layouts' reference points in mm. -/
def ObjCtx.apply (refs : List V3) (running : Bool) (t : Nat) (c : ObjCtx) (b : Blk) : ObjCtx :=
  let c0 := match b.source with
    | some src => { c with src, pend := c.pend.filter fun q => !(q.ofSource && q.fromCmd == c.src) }
    | none => c
  let c1 := match b.acid with
    | some a => { c0 with acid := a }
    | none => c0
  let sig0 := (List.range 16).map fun l => c1.sigma (getD' refs l .zero) l t
  let c2 := match b.pos with
    | some p =>
      { c1 with seg := if running then { p0 := c1.seg.pos t, v0 := c1.seg.vel t, p1 := p, b := t, len := b.len }
                       else Seg.still p t,
                blockId := b.blockId }
    | none => c1
  let (g, tg, m) := gainStep c2.gain c2.target c2.muted (b.gainPart c2.target c2.muted) (if running then some t else none)
    (if b.back then 64 else 4)
  let c3 := { c2 with gain := g, target := tg, muted := m }
  let c4 := match b.spread with
    | some (ang, v) =>
      { c3 with spreadAngle := ang, spread := v, sigRamp := if running then some (sig0, t, b.ramp) else none }
    | none => c3
  let c5 := if running then c4.select t b.zones b.mask
            else { c4 with base := { tick := t, zones := b.zones.getD c4.sel.zones, mask := b.mask.getD c4.sel.mask },
                           sels := [] }
  let c6 := match b.atten with
    | some (a, r, mx) => { c5 with alpha := a, dref := r, dmax := mx }
    | none => c5
  if running then { c6 with lastTick := some t } else c6

/-- What one block does to a bed input at the boundary `t` (R57, R80): gain ramps start at the boundary's sample. -/
def BedCtx.apply (running : Bool) (t : Nat) (c : BedCtx) (b : Blk) : BedCtx :=
  let c1 := match b.acid with
    | some a => { c with acid := a }
    | none => c
  let (g, tg, m) := gainStep c1.gain c1.target c1.muted b (if running then some (16 * t) else none) 64
  let c2 := { c1 with gain := g, target := tg, muted := m }
  if running then { c2 with lastTick := some t } else c2

/-- Whether a block comes before another (R69, R70, R71): by boundary; on one boundary OBJ_SOURCE first, then commands before
S-ADM blocks, then by order. -/
def Blk.before (a b : Blk) : Bool :=
  if a.tick ≠ b.tick then decide (a.tick < b.tick)
  else if a.source.isSome ≠ b.source.isSome then a.source.isSome
  else if a.fromCmd ≠ b.fromCmd then a.fromCmd
  else if a.ordA ≠ b.ordA then decide (a.ordA < b.ordA) else decide (a.ordB < b.ordB)

/-- While an object is stale its position, gain and spread stay (R90): what is left of a block that applies then. -/
def ObjCtx.heldBack (c : ObjCtx) (b : Blk) : Blk :=
  if c.stale = .no then b else { b with pos := none, gain := none, mute := none, spread := none }

/-- A block repeats the block of the segment that runs at its boundary (R72). -/
def ObjCtx.repeats (c : ObjCtx) (b : Blk) (t : Nat) : Bool :=
  b.blockId.isSome && c.blockId == b.blockId && decide (t < c.seg.b + c.seg.len)

/-- Apply, in order, every pending block whose boundary is at or before `t`. `fuel` bounds the number of blocks. -/
def ObjCtx.applyDue (refs : List V3) (t : Nat) : Nat → ObjCtx → ObjCtx
  | 0, c => c
  | fuel + 1, c =>
    match c.pend with
    | [] => c
    | b :: r =>
      if t < b.tick then c
      else
        let c := { c with pend := r }
        (if c.repeats b b.tick then c else c.apply refs true b.tick (c.heldBack b)).applyDue refs t fuel

/-- Apply every pending block of a bed input whose boundary is at or before `t`. -/
def BedCtx.applyDue (t : Nat) : Nat → BedCtx → BedCtx
  | 0, c => c
  | fuel + 1, c =>
    match c.pend with
    | [] => c
    | b :: r => if b.tick ≤ t then ({ c with pend := r }.apply true b.tick b).applyDue t fuel else c

/-- SRC as it will be at the boundary `t`, counting every OBJ_SOURCE already accepted for it or an earlier one (R71). -/
def ObjCtx.srcAt (c : ObjCtx) (t : Nat) : Bool :=
  c.pend.foldl (fun s b => if b.tick ≤ t then b.source.getD s else s) c.src

/-- STATE of R55 and R561: 0 UNBOUND, 1 ACTIVE, 2 STALE_HELD, 3 STALE_FADED. -/
def ObjCtx.state (c : ObjCtx) : Nat :=
  if c.acid = 0 ∧ c.src = false then 0
  else match c.stale with
    | .no => 1
    | .held => 2
    | .faded => 3

/-- The object becomes stale at the boundary `t` under the flow's policy (R90). -/
def ObjCtx.goStale (c : ObjCtx) (fade : Bool) (t : Nat) : ObjCtx :=
  if fade then { c with stale := .faded, gain := c.gain.to t 0 64, seg := Seg.still (c.seg.pos t) t }
  else { c with stale := .held }

/-- A block is accepted for a stale object: it is active again from boundary `w`, and a faded gain returns (R90, R561). -/
def ObjCtx.unstale (c : ObjCtx) (w : Nat) (b : Blk) : ObjCtx × Blk :=
  if c.stale = .no || c.wake.isSome then (c, b) else ({ c with wake := some w }, { b with back := c.stale == .faded })

/-- The end of staleness takes effect at its boundary (R561). -/
def ObjCtx.wakeAt (c : ObjCtx) (t : Nat) : ObjCtx := if c.wake.any (· ≤ t) then { c with stale := .no, wake := none } else c

/-- The 64-byte record of R55, with position, velocity and gain at the boundary `t`. -/
def ObjCtx.record (c : ObjCtx) (o t : Nat) : Bytes :=
  let p := c.seg.pos t
  let v := c.seg.vel t
  leB 2 o ++ leB 1 c.state ++ leB 1 (b2n c.src) ++ leB 4 c.acid
    ++ leI 4 p.x ++ leI 4 p.y ++ leI 4 p.z ++ leI 4 v.x ++ leI 4 v.y ++ leI 4 v.z
    ++ leI 4 (c.gain.val t) ++ leB 2 c.sel.mask ++ leB 1 c.sel.zones.length ++ leB 1 (b2n c.spreadAngle)
    ++ leB 4 c.spread ++ leB 1 c.alpha ++ zeros 3 ++ leB 4 c.dref ++ leB 4 c.dmax
    ++ leB 1 c.pend.length ++ zeros 3 ++ leB 4 (c.lastTick.getD 0)

/-! From ADM to a block (R58 to R64, R74, R84, R86). -/

/-- A decimal value times `k`, truncated toward minus infinity (R60). -/
def AdmDec.mul (d : AdmDec) (k : Int) : Int := d.num * k / (10 ^ d.exp : Int)

/-- A time in seconds as a number of samples at `fs`. -/
def AdmDec.samples (d : AdmDec) (fs : Nat) : Nat := (d.mul fs).toNat

/-- Rotate a local point by the yaw about the vertical axis and add the origin; products are truncated to 1/256 mm (R63). -/
def Xform.place (x : Xform) (p : V3) : V3 :=
  let s := sinQ x.yaw
  let c := cosQ x.yaw
  let q : V3 := if x.yaw = 0 then p
    else { x := sar (p.x * c) 31 + sar (p.y * (-s)) 31, y := sar (p.x * s) 31 + sar (p.y * c) 31, z := p.z }
  q.add (x.o.scale 256)

/-- Clamp to ±8,388,607 mm on each axis (R64), and say whether it clamped. -/
def clampVenue (p : V3) : V3 × Bool :=
  let m : Int := 8388607 * 256
  let q : V3 := { x := clampI (-m) m p.x, y := clampI (-m) m p.y, z := clampI (-m) m p.z }
  (q, decide (q ≠ p))

/-- The local point of an ADM position, in 1/256 mm (R63). -/
def Xform.localPoint (x : Xform) : AdmPos → V3
  | .cart a b c => { x := a.mul (256 * x.h.x), y := b.mul (256 * x.h.y), z := c.mul (256 * x.h.z) }
  | .polar az el d =>
    let a := turnOf (az.mul 65536 / 360)
    let e := turnOf (el.mul 65536 / 360)
    let r := d.mul (256 * x.dp)
    { x := sar (r * mulQ31 (-sinQ a) (cosQ e)) 31, y := sar (r * mulQ31 (cosQ a) (cosQ e)) 31,
      z := sar (r * sinQ e) 31 }

/-- The venue position of an ADM position, in 1/256 mm, and whether it was clamped (R63, R64). -/
def Xform.venue (x : Xform) (p : AdmPos) : V3 × Bool := clampVenue (x.place (x.localPoint p))

/-- The smallest and the largest of a non-empty list. -/
def minMax (l : List Int) : Int × Int :=
  (l.foldl min (getD' l 0 0), l.foldl max (getD' l 0 0))

/-- A cartesian ADM zone as a venue box in mm: the axis-aligned box that encloses its rotated corners (R86). -/
def Xform.zone (x : Xform) (x0 x1 y0 y1 z0 z1 : AdmDec) : Zone :=
  let cs := [x0, x1].flatMap fun a => [y0, y1].flatMap fun b => [z0, z1].map fun c =>
    x.place (x.localPoint (.cart a b c))
  let mx := minMax (cs.map (·.x))
  let my := minMax (cs.map (·.y))
  let mz := minMax (cs.map (·.z))
  { xmin := mx.1 / 256, xmax := mx.2 / 256, ymin := my.1 / 256, ymax := my.2 / 256, zmin := mz.1 / 256, zmax := mz.2 / 256 }

/-- The gain of an ADM block in Q1.31, and whether it was clamped (R60). Below -1.0 the spec states no value. -/
def admGain (g : AdmDec) : Int × Bool :=
  if (10 ^ g.exp : Int) < g.num then (0x7FFFFFFF, true)
  else if g.num < -(10 ^ g.exp : Int) then ((Config.admGainLow g.num g.exp).toInt, false)
  else (min (g.mul (2 ^ 31)) 0x7FFFFFFF, false)

/-- The spread setting of an ADM block (R84): none where it carries no width, height or depth. -/
def Xform.admSpread (x : Xform) (b : AdmBlock) : Option (Bool × Nat) :=
  if b.width.isNone && b.height.isNone && (b.depth.isNone || !b.cartesian) then none
  else
    let v (d : Option AdmDec) (k : Int) : Int := match d with
      | some a => a.mul k
      | none => 0
    if b.cartesian then
      let r := max (v b.width x.h.x / 2) (max (v b.height x.h.y / 2) (v b.depth x.h.z / 2))
      some (false, r.toNat)
    else
      let th := max (v b.width 65536 / 360) (v b.height 65536 / 360)
      some (true, (min 32768 (max 0 th)).toNat)

/-- What an ADM block's zones give: up to 4 boxes, and how many zones count as unsupported (R59, R86). -/
def Xform.admZones (x : Xform) (l : List AdmZone) : List Zone × Nat :=
  let boxes := l.filterMap fun z => match z with
    | .cart a b c d e f => some (x.zone a b c d e f)
    | .polar => none
  (boxes.take 4, (l.length - boxes.length) + (boxes.length - 4))

/-- L of an ADM block in ticks (R74). -/
def AdmBlock.ticks (b : AdmBlock) (fs : Nat) : Nat :=
  let s := match b.jump with
    | some i => i.samples fs
    | none => b.duration.samples fs
  min 65535 (max 1 (s / 16))

end Sys2Proof.Machine
end

