-- ==== Sys2Proof/Machine/Geometry.lean ====
section
/-! DEFINITION. The layout image and its checks, the facet walk and facet panning, wavefront rendering, the
gain codes and the bank that the geometry engine builds (R94 to R124). -/

namespace Sys2Proof.Machine

/-! The layout image (R98 to R102). -/

/-- The length of the layout image and its staging area (R98). -/
def layoutLen : Nat := 0x84440

/-- The little-endian signed 32-bit number at an address of a store. -/
def memS32 (m : Memory) (a : Nat) : Int := signed 32 (memLE m a 4)

/-- Layout record `l` (R99). -/
def layoutRec (m : Memory) (l : Nat) : LayoutRec :=
  let a := 0x40 + 64 * l
  { first := memLE m a 2, count := memLE m (a + 2) 2, method := memLE m (a + 4) 1, dslew := memLE m (a + 5) 1,
    facetFirst := memLE m (a + 6) 2, facetCount := memLE m (a + 8) 2,
    ref := { x := memS32 m (a + 12), y := memS32 m (a + 16), z := memS32 m (a + 20) },
    datum := memLE m (a + 24) 4, sound := memLE m (a + 28) 4, near := memLE m (a + 32) 4 }

/-- Facet record `k` (R101). -/
def facetRec (m : Memory) (k : Nat) : FacetRec :=
  let a := 0x4440 + 64 * k
  { v := [memLE m a 2, memLE m (a + 2) 2, memLE m (a + 4) 2], nv := memLE m (a + 6) 1,
    nb := [memLE m (a + 8) 2, memLE m (a + 10) 2, memLE m (a + 12) 2],
    m := (List.range 9).map fun i => memS32 m (a + 16 + 4 * i) }

/-- The position of feed `f`'s loudspeaker in mm (R100). -/
def spkPos (m : Memory) (f : Nat) : V3 :=
  let a := 0x440 + 16 * f
  { x := memS32 m a, y := memS32 m (a + 4), z := memS32 m (a + 8) }

/-- The aim unit vector of feed `f`'s loudspeaker (R94, R95, R100). -/
def spkAim (m : Memory) (f : Nat) : V3 :=
  let az := memLE m (0x440 + 16 * f + 12) 2
  let el := memLE m (0x440 + 16 * f + 14) 2
  { x := mulQ31 (-sinQ az) (cosQ el), y := mulQ31 (cosQ az) (cosQ el), z := sinQ el }

/-- `n` bytes of a store from `a` are all zero. -/
def memZero (m : Memory) (a n : Nat) : Bool := m.all fun c => decide (c.1 < a) || decide (a + n ≤ c.1) || c.2 == 0

/-- A failing field at offset `a`, when `ok` does not hold. -/
def failAt (ok : Bool) (a : Nat) : List Nat := if ok then [] else [a]

/-- The failures of one layout record and its start-cell table, by image offset (R99, R102). -/
def layoutRecFails (m : Memory) (feeds l : Nat) : List Nat :=
  let a := 0x40 + 64 * l
  let t := 0x3440 + 256 * l
  let r := layoutRec m l
  let tabZero := (List.range 96).flatMap (fun i => failAt (memLE m (t + 2 * i) 2 == 0) (t + 2 * i))
    ++ failAt (memZero m (t + 192) 64) (t + 192)
  if r.count = 0 then
    failAt (r.first == 0) a ++ failAt (r.method == 0) (a + 4) ++ failAt (r.dslew == 0) (a + 5)
      ++ failAt (r.facetFirst == 0) (a + 6) ++ failAt (r.facetCount == 0) (a + 8)
      ++ failAt (memZero m (a + 10) 2) (a + 10)
      ++ [12, 16, 20, 24, 28, 32].flatMap (fun o => failAt (memZero m (a + o) 4) (a + o))
      ++ failAt (memZero m (a + 36) 28) (a + 36) ++ tabZero
  else
    let wave := r.method == 2
    let facet := r.method == 1
    let inRange (k : Nat) : Bool := decide (r.facetFirst ≤ k ∧ k < r.facetFirst + r.facetCount)
    let inFeeds (f : Nat) : Bool := decide (r.first ≤ f ∧ f < r.first + r.count)
    failAt (decide (r.method ≤ 2)) (a + 4)
      ++ failAt (if wave then decide (1 ≤ r.dslew ∧ r.dslew ≤ 8) else r.dslew == 0) (a + 5)
      ++ failAt (facet || r.facetFirst == 0) (a + 6)
      ++ failAt (if facet then decide (1 ≤ r.facetCount ∧ r.facetFirst + r.facetCount ≤ 8192) else r.facetCount == 0) (a + 8)
      ++ failAt (memZero m (a + 10) 2) (a + 10)
      ++ failAt (if wave then decide (r.datum ≤ 8388607) else r.datum == 0) (a + 24)
      ++ failAt (if wave then decide (300000 ≤ r.sound ∧ r.sound ≤ 380000) else r.sound == 0) (a + 28)
      ++ failAt (if wave then decide (1 ≤ r.near ∧ r.near ≤ 100000) else r.near == 0) (a + 32)
      ++ failAt (memZero m (a + 36) 28) (a + 36)
      ++ failAt (decide (r.first + r.count ≤ feeds)) (a + 2)
      ++ (if facet then
            (List.range 96).flatMap (fun i => failAt (inRange (memLE m (t + 2 * i) 2)) (t + 2 * i))
              ++ failAt (memZero m (t + 192) 64) (t + 192)
              ++ (List.range (min r.facetCount (8192 - r.facetFirst))).flatMap (fun i =>
                    let k := r.facetFirst + i
                    let b := 0x4440 + 64 * k
                    let q := facetRec m k
                    failAt (inFeeds (getD' q.v 0 0)) b ++ failAt (inFeeds (getD' q.v 1 0)) (b + 2)
                      ++ failAt (if q.nv = 2 then getD' q.v 2 0 == 0xFFFF else inFeeds (getD' q.v 2 0)) (b + 4)
                      ++ failAt (q.nv == 2 || q.nv == 3) (b + 6)
                      ++ (List.range 3).flatMap (fun j =>
                            let nb := getD' q.nb j 0
                            failAt (nb == 0xFFFF || inRange nb) (b + 8 + 2 * j))
                      ++ (if q.nv = 2 then [2, 5, 6, 7, 8].flatMap (fun j => failAt (getD' q.m j 0 == 0) (b + 16 + 4 * j))
                          else []))
          else tabZero)

/-- Two ranges share an element: an empty one shares none. -/
def overlap (a n b k : Nat) : Bool := decide (0 < n ∧ 0 < k ∧ a < b + k ∧ b < a + n)

/-- The failures that compare layouts: placed at the higher-numbered of the two (R102). -/
def layoutPairFails (m : Memory) : List Nat :=
  (List.range 16).flatMap fun l =>
    let r := layoutRec m l
    (List.range l).flatMap fun k =>
      let q := layoutRec m k
      if r.count = 0 || q.count = 0 then [] else
        failAt (!overlap r.first r.count q.first q.count) (0x40 + 64 * l)
          ++ failAt (!(r.method == 1 && q.method == 1 && overlap r.facetFirst r.facetCount q.facetFirst q.facetCount))
              (0x40 + 64 * l + 6)

/-- The failures of the header, the loudspeaker records and the facets' reserved fields (R98, R100, R101). -/
def layoutFieldFails (m : Memory) : List Nat :=
  failAt (memLE m 0 2 == 1) 0 ++ failAt (memZero m 2 62) 2
    ++ (List.range 768).flatMap (fun f =>
          let a := 0x440 + 16 * f
          let p := spkPos m f
          let ok (x : Int) : Bool := decide (-8388607 ≤ x ∧ x ≤ 8388607)
          let el := signed 16 (memLE m (a + 14) 2)
          failAt (ok p.x) a ++ failAt (ok p.y) (a + 4) ++ failAt (ok p.z) (a + 8)
            ++ failAt (decide (-16384 ≤ el ∧ el ≤ 16384)) (a + 14))
    ++ (List.range 8192).flatMap (fun k =>
          let b := 0x4440 + 64 * k
          failAt (memZero m (b + 7) 1) (b + 7) ++ failAt (memZero m (b + 14) 2) (b + 14)
            ++ failAt (memZero m (b + 52) 12) (b + 52))

/-- LAYOUT_LOAD's check: the lowest image offset among all failures, or none (R102). -/
def layoutCheck (m : Memory) (feeds : Nat) : Option Nat :=
  let l := layoutFieldFails m ++ (List.range 16).flatMap (layoutRecFails m feeds) ++ layoutPairFails m
  match l with
  | [] => none
  | x :: r => some (r.foldl min x)

/-! Gain codes (R104). -/

/-- A 14-bit gain code expanded to Q1.31. -/
def gainExpand (c : Nat) : Int :=
  let e := c / 512 % 16
  let m := c % 512
  let mag : Int := if e = 0 then ((m * 128 : Nat) : Int) else (((512 + m) * 2 ^ (e + 6) : Nat) : Int)
  if c / 8192 % 2 = 1 then -mag else mag

/-- A Q1.31 gain encoded to its 14-bit code: magnitudes truncate toward zero, and code 0 is the only zero. -/
def gainEncode (g : Int) : Nat :=
  let a := g.natAbs
  let mag :=
    if 0x7FE00000 ≤ a then 15 * 512 + 511
    else if a < 0x10000 then a / 128
    else
      let e := a.log2 - 15
      e * 512 + a / 2 ^ (e + 6) % 512
  if mag = 0 then 0 else if g < 0 then 8192 + mag else mag

/-! Facet panning (R119 to R121). -/

/-- The component of a vector by axis number. -/
def V3.get (v : V3) (i : Nat) : Int := if i = 0 then v.x else if i = 1 then v.y else v.z

/-- The start facet of a direction (R119, step 1). -/
def startFacet (m : Memory) (l : Nat) (u : V3) : Nat :=
  let ax := if u.y.natAbs ≤ u.x.natAbs ∧ u.z.natAbs ≤ u.x.natAbs then 0
            else if u.z.natAbs ≤ u.y.natAbs then 1 else 2
  let d := u.get ax
  let face := 2 * ax + (if 0 ≤ d then 0 else 1)
  let cell (v : Int) : Nat := (min 3 (2 * (v + d.natAbs) / d.natAbs)).toNat
  let a := u.get (if ax = 0 then 1 else 0)
  let b := u.get (if ax = 2 then 1 else 2)
  memLE m (0x3440 + 256 * l + 2 * (16 * face + 4 * cell a + cell b)) 2

/-- c = M · u for a facet (R119, step 2). -/
def facetCoef (q : FacetRec) (u : V3) : List Int :=
  let g (i : Nat) : Int := getD' q.m i 0
  if q.nv = 2 then [g 0 * u.x + g 1 * u.y, g 3 * u.x + g 4 * u.y]
  else [g 0 * u.x + g 1 * u.y + g 2 * u.z, g 3 * u.x + g 4 * u.y + g 5 * u.z, g 6 * u.x + g 7 * u.y + g 8 * u.z]

/-- The smallest of a list of integers. -/
def minI (l : List Int) : Int := l.foldl min (getD' l 0 0)

/-- The index of the first smallest element. -/
def argMin (l : List Int) : Nat :=
  (l.foldl (fun (s : Nat × Nat × Int) x => if x < s.2.2 then (s.1 + 1, s.1, x) else (s.1 + 1, s.2.1, s.2.2))
    (0, 0, getD' l 0 0)).2.1

/-- The walk (R119): the facet and its coefficients, and whether the walk stopped without a containing facet.
`best` is the visited facet whose smallest coefficient is largest. -/
def facetWalk (m : Memory) (u : V3) : Nat → Nat → Option (Nat × List Int) → Nat × List Int × Bool
  | fuel, k, best =>
    let q := facetRec m k
    let c := facetCoef q u
    if 0 ≤ minI c then (k, c, false)
    else
      let best' := match best with
        | none => (k, c)
        | some (bk, bc) => if minI bc < minI c then (k, c) else (bk, bc)
      let stop := (best'.1, best'.2.map (max 0), true)
      let nb := getD' q.nb (argMin c) 0xFFFF
      match fuel with
      | 0 => stop
      | fuel + 1 => if nb = 0xFFFF then stop else facetWalk m u fuel nb (some best')

/-- Whether a feed's loudspeaker lies inside any of the zones (R87). -/
def excluded (m : Memory) (zones : List Zone) (f : Nat) : Bool :=
  let p := spkPos m f
  zones.any fun z => decide (z.xmin ≤ p.x ∧ p.x ≤ z.xmax ∧ z.ymin ≤ p.y ∧ p.y ≤ z.ymax ∧ z.zmin ≤ p.z ∧ p.z ≤ z.zmax)

/-- The mesh feeds of a layout: the vertices of its facets, in ascending order (R121). -/
def meshFeeds (m : Memory) (r : LayoutRec) : List Nat :=
  let vs := (List.range r.facetCount).flatMap fun i =>
    let q := facetRec m (r.facetFirst + i)
    q.v.take q.nv
  (List.range r.count).filterMap fun i => if vs.contains (r.first + i) then some (r.first + i) else none

/-- The normalised panning gains g_f of a facet layout for direction `u` and spread `sig`, under an exclusion set:
one gain for each feed that is not silent, whether a walk was limited, and whether every feed is excluded
(R119 to R121). -/
def facetGains (m : Memory) (l : Nat) (r : LayoutRec) (u : V3) (sig : Int) (zones : List Zone) :
    List (Nat × Int) × Bool × Bool :=
  let mesh := (meshFeeds m r).filter fun f => !excluded m zones f
  let k := mesh.length
  let uz := u.x == 0 && u.y == 0 && u.z == 0
  let w := if uz then (0, [], false) else facetWalk m u 16 (startFacet m l u) none
  if k = 0 then ([], w.2.2, true)
  else
    let q := facetRec m w.1
    let vs := (q.v.take q.nv).zip w.2.1
    let vc := vs.map fun (f, c) => (f, if excluded m zones f then 0 else c)
    let n := isqrt (sumN (vc.map fun (_, c) => (c * c).toNat))
    let full := uz || vc.all fun (_, c) => c == 0
    let s : Int := if full then 0x80000000 else sig
    let p (f : Nat) : Int := match vc.find? fun e => e.1 == f with
      | some (_, c) => if n = 0 then 0 else min 0x7FFFFFFF (c * 2 ^ 31 / (n : Int))
      | none => 0
    let uu : Int := ((isqrt (2 ^ 62 / k) : Nat) : Int)
    let e (f : Nat) : Int := if full then sar (s * uu) 31 else sar ((0x80000000 - s) * p f) 31 + sar (s * uu) 31
    let es := mesh.map fun f => (f, e f)
    let d := isqrt (sumN (es.map fun (_, x) => (x * x).toNat))
    (es.map fun (f, x) => (f, if d = 0 then 0 else x * 2 ^ 31 / (d : Int)), w.2.2, false)

/-! Wavefront rendering (R110 to R118). -/

/-- fs for a rate. -/
def fsOf (r96 : Bool) : Nat := if r96 then 96000 else 48000

/-- D_MAX in samples (R108). -/
def dMax (r96 : Bool) : Nat := if r96 then 16364 else 8172

/-- The taper width in samples (R111). -/
def taper (r96 : Bool) : Nat := if r96 then 1024 else 512

/-- The exact length of a vector, as an integer. -/
def V3.len (v : V3) : Nat := isqrt (v.dot v).toNat

/-- D_raw in Q14.12 (R110). -/
def rawDelay (r96 : Bool) (d datum c : Nat) : Int :=
  12288 + ((d : Int) - 256 * datum) * (fsOf r96 * 4096) / (256 * (c : Int))

/-- The reach weight w_r (R111). -/
def reachWeight (r96 : Bool) (raw : Int) : Int :=
  let hi : Int := dMax r96 * 4096
  let lo : Int := (dMax r96 - taper r96) * 4096
  if raw ≤ lo then 0x7FFFFFFF else if hi ≤ raw then 0 else 2 ^ 31 * (hi - raw) / ((taper r96 * 4096 : Nat) : Int)

/-- The visibility v of a loudspeaker for an object at `p` (R115). -/
def visibility (aim spk p : V3) : Int :=
  let q := (spk.scale 256).sub p
  let n := q.len
  if n = 0 then 0x7FFFFFFF else min 0x7FFFFFFF (max 0 (aim.dot q / (n : Int)))

/-- The near-field amplitude A (R116). -/
def nearAmp (near d : Nat) : Int := ((isqrt (2 ^ 62 * (256 * near) / max d (256 * near)) : Nat) : Int)

/-- The raw weight w (R117). -/
def rawWeight (a v sig wr : Int) : Int :=
  let v' := v + sar ((0x80000000 - v) * sig) 31
  sar (sar (a * v') 31 * wr) 31

/-- The normaliser N from S_{T-1}, and whether it was limited (R118). -/
def normaliser (s : Nat) : Int × Bool :=
  if s = 0 then (0, false)
  else
    let n : Nat := 2 ^ 62 / isqrt s
    if 2 ^ 41 < n then (2 ^ 41, true) else ((n : Int), false)

/-- The pair gain of a wavefront pair before any fade (R118). -/
def waveGain (g w n : Int) : Int := sat32 (sar (g * sar (w * n) 31) 31)

/-! Levels (R81). -/

/-- The attenuation a of an object at distance `d` mm (R81). -/
def attenuation (alpha dref dmax d : Nat) : Int :=
  let d' := min d dmax
  if d' ≤ dref ∨ alpha = 0 then 0x7FFFFFFF
  else if alpha = 1 then ((isqrt (2 ^ 62 * dref / d') : Nat) : Int)
  else if alpha = 2 then ((2 ^ 31 * dref / d' : Nat) : Int)
  else ((2 ^ 31 * (dref * dref) / (d' * d') : Nat) : Int)

/-- The object's level gain in the layout with reference `ref` at the boundary `t` (R81). -/
def ObjCtx.level (c : ObjCtx) (ref : V3) (t : Nat) : Int :=
  mulQ31 (c.gain.val t) (attenuation c.alpha c.dref c.dmax (distMm (c.seg.pos t) ref))

/-! Selection fades (R88). -/

/-- The gain under the running fades at the boundary `t`, from the gain under the base selection and the gains
under each running selection change. -/
def fadeGain (t : Nat) (g0 : Int) (sels : List (Nat × Int)) : Int :=
  sels.foldl (fun g s =>
    let j := min 4 (t - s.1)
    (g * (4 - j : Nat) + s.2 * j) / 4) g0

/-! The bank (R112, R113, R122). -/

/-- The index of a pair within its bank (R103). -/
def pairIndex (r96 : Bool) (o f : Nat) : Nat :=
  if r96 then o / 8 * 3072 + 8 * f + o % 8 else o / 16 * 12288 + 16 * f + o % 16

/-- The key of a pair in bank `b` of the pair store (R103). -/
def pairKey (r96 : Bool) (b o f : Nat) : Nat := b % 2 * 393216 + pairIndex r96 o f

/-- The entry of pair (o, f) in the bank of tick `t`. -/
def pairAt (r96 : Bool) (pairs : Tab Nat) (t o f : Nat) : PairEntry :=
  .dec (tabGet pairIdle pairs (pairKey r96 t o f))

/-- The end delay of a wavefront pair and whether its gain is forced to 0 and whether the slew limit acted (R112). -/
def slewDelay (dslew dS gS dT : Nat) : Nat × Bool × Bool :=
  let lim := dslew * 4096
  let far := decide (dS + lim < dT ∨ dT + lim < dS)
  if gS = 0 ∧ far then (dT, true, false)
  else if far then ((if dS < dT then dS + lim else dS - lim), false, true)
  else (dT, false, false)

/-- What one bank gathers while it is built: its entries, the sums S, and the events seen. -/
structure Build where
  pairs : Tab Nat
  norm : Tab Nat
  slew : Bool
  reach : Bool
  near : Bool
  cap : Bool
  walks : Nat
  silent : Bool
  deriving DecidableEq, Repr

/-- Write one pair's entry into the bank of tick `t` (R103, R112, R113, R122): `dT` the target delay, `g` the end gain. -/
def putPair (r96 first wave : Bool) (dslew t o f dT : Nat) (g : Int) (b : Build) : Build :=
  let prev := pairAt r96 b.pairs (t + 1) o f
  if first then
    { b with pairs := tabSet pairIdle b.pairs (pairKey r96 t o f)
                        (PairEntry.enc { dE := dT, dS := dT, gE := gainEncode g, gS := 0 }) }
  else if wave then
    let (dE, zero, lim) := slewDelay dslew prev.dE prev.gE dT
    { b with pairs := tabSet pairIdle b.pairs (pairKey r96 t o f)
                        (PairEntry.enc { dE, dS := prev.dE, gE := if zero then 0 else gainEncode g, gS := prev.gE }),
             slew := b.slew || lim }
  else
    { b with pairs := tabSet pairIdle b.pairs (pairKey r96 t o f)
                        (PairEntry.enc { dE := 12288, dS := 12288, gE := gainEncode g, gS := prev.gE }) }

/-- Every pair of one object in one facet layout (R109, R119 to R121). `e` is the tick's end boundary. -/
def buildFacet (m : Memory) (r96 first : Bool) (l : Nat) (r : LayoutRec) (t o : Nat) (c : ObjCtx) (b : Build) : Build :=
  let e := t + 1
  let p := c.seg.pos e
  let v := p.sub (r.ref.scale 256)
  let u : V3 := { x := sar v.x 8, y := sar v.y 8, z := sar v.z 8 }
  let sig := c.sigma r.ref l e
  let lev := c.level r.ref e
  let under (s : Sel) : List (Nat × Int) × Bool × Bool :=
    let x := facetGains m l r u sig s.zones
    if bit s.mask l then x else ([], x.2)
  let (base, sels) := selSettle e c.base c.sels
  let x0 := under base
  let xs := sels.map fun s => (s.tick, under s)
  let newest := match xs.getLast? with
    | some y => y.2
    | none => x0
  let gOf (x : List (Nat × Int) × Bool × Bool) (f : Nat) : Int := match x.1.find? fun y => y.1 == f with
    | some y => sat32 (sar (y.2 * lev) 31)
    | none => 0
  let b' := { b with walks := b.walks + b2n newest.2.1, silent := b.silent || newest.2.2 }
  (List.range r.count).foldl (fun b i =>
    let f := r.first + i
    let g := fadeGain e (gOf x0 f) (xs.map fun y => (y.1, gOf y.2 f))
    putPair r96 first false 0 t o f 12288 g b) b'

/-- Every pair of one object in one wavefront layout (R110 to R118). -/
def buildWave (m : Memory) (r96 first : Bool) (l : Nat) (r : LayoutRec) (c0 : Nat) (t o : Nat) (c : ObjCtx) (b : Build) : Build :=
  let e := t + 1
  let p := c.seg.pos e
  let sig := c.sigma r.ref l e
  let lev := c.level r.ref e
  let nr : Int × Bool := if first then (0, false) else normaliser (tabGet 0 b.norm (16 * o + l))
  let (base, sels) := selSettle e c.base c.sels
  let cur := match sels.getLast? with
    | some s => s
    | none => base
  let raw (f : Nat) : Int := rawDelay r96 ((spkPos m f).scale 256 |>.sub p).len r.datum c0
  let weight (s : Sel) (f : Nat) : Int :=
    if excluded m s.zones f then 0
    else rawWeight (nearAmp r.near ((spkPos m f).scale 256 |>.sub p).len) (visibility (spkAim m f) (spkPos m f) p) sig
          (reachWeight r96 (raw f))
  let gain (s : Sel) (f : Nat) : Int := if bit s.mask l then waveGain lev (weight s f) nr.1 else 0
  let feeds := (List.range r.count).map fun i => r.first + i
  let s' := sumN (feeds.map fun f => (weight cur f * weight cur f).toNat)
  let b' := { b with norm := tabSet 0 b.norm (16 * o + l) s', cap := b.cap || nr.2,
                     silent := b.silent || feeds.all fun f => excluded m cur.zones f }
  feeds.foldl (fun b f =>
    let d := raw f
    let lo : Int := 3 * 4096
    let hi : Int := dMax r96 * 4096
    let g := fadeGain e (gain base f) (sels.map fun s => (s.tick, gain s f))
    putPair r96 first true r.dslew t o f (clampI lo hi d).toNat g
      { b with near := b.near || decide (d < lo), reach := b.reach || decide (hi < d) }) b'

/-- Objects at a rate (R54). -/
def objCount (r96 : Bool) : Nat := if r96 then 256 else 512

/-- Feeds at a rate (R2, R13). -/
def feedCount (r96 : Bool) : Nat := if r96 then 384 else 768

/-- The bank of tick `t` (R122): every object in ascending order, every layout in ascending order. `ctx` gives an
object's context with every block up to the boundary `t` applied; `snd` a layout's speed of sound at `t + 1`. -/
def buildBank (m : Memory) (r96 first : Bool) (t : Nat) (ctx : Nat → ObjCtx) (snd : Nat → Nat) (b : Build) : Build :=
  let lays := (List.range 16).map fun l => (l, layoutRec m l)
  (List.range (objCount r96)).foldl (fun b o =>
    let c := ctx o
    lays.foldl (fun b (l, r) =>
      if r.count = 0 then b
      else if r.method = 1 then buildFacet m r96 first l r t o c b
      else if r.method = 2 then buildWave m r96 first l r (snd l) t o c b
      else b) b) b

end Sys2Proof.Machine
end

