-- ==== Sys2Proof/Machine/Image.lean ====
section
/-! DEFINITION. The AFV image: its format check (R370, R371), the check of its key and signature (R373), and the tables that
the module reads from the running image (R106, R139, R188, R253). -/

namespace Sys2Proof.Machine

/-- A section entry of the table: TYPE, OFFSET and LENGTH of entry `i`. -/
def imgEntry (m : Memory) (i : Nat) : Nat × Nat × Nat :=
  let a := 0x90 + 16 * i
  (memLE m a 2, memLE m (a + 4) 4, memLE m (a + 8) 4)

/-- The number of entries that the table uses. -/
def imgCount (m : Memory) : Nat := min 32 (memLE m 6 2)

/-- The entries in use. -/
def imgEntries (m : Memory) : List (Nat × Nat × Nat) := (List.range (imgCount m)).map (imgEntry m)

/-- The offset of the section of a type; 0 where the image has none. -/
def imgSect (m : Memory) (ty : Nat) : Nat :=
  match (imgEntries m).find? fun e => e.1 == ty with
  | some e => e.2.1
  | none => 0

/-- The image has a section of a type. -/
def imgHas (m : Memory) (ty : Nat) : Bool := (imgEntries m).any fun e => e.1 == ty

/-- The failing fields inside a section at `o` (R371). -/
def sectFails (m : Memory) (ty o : Nat) : List Nat :=
  if ty = 1 then
    let n := memLE m o 4
    failAt (n % 64 == 0 && decide (64 ≤ n ∧ n ≤ 0x200000)) o
      ++ failAt (memLE m (o + 4) 4 % 4 == 0 && decide (memLE m (o + 4) 4 < n)) (o + 4) ++ failAt (memZero m (o + 8) 56) (o + 8)
  else if ty = 3 then
    (List.range 4).flatMap (fun s =>
        let b := memLE m (o + 4 * s) 4
        failAt (decide (b ≤ 8192)) (o + 4 * s)
          ++ failAt (b != 0 || memZero m (o + 0x40 + 0x1000 * s) 0x1000) (o + 0x40 + 0x1000 * s))
      ++ failAt (memZero m (o + 0x10) 0x30) (o + 0x10)
  else if ty = 4 then failAt (memLE m o 2 != 0) o ++ failAt (memZero m (o + 2) 62) (o + 2)
  else if ty = 5 then failAt (memZero m (o + 0x140) 0xC0) (o + 0x140)
  else if ty = 6 then failAt (memZero m (o + 0x404) 0x3FC) (o + 0x404)
  else []

/-- LENGTH of a section of a type (R371). -/
def sectLen (m : Memory) (ty o : Nat) : Nat :=
  if ty = 1 then 64 + memLE m o 4 else if ty = 2 then 0xC000 else if ty = 3 then 0x4040 else if ty = 4 then 0x20040
  else if ty = 5 then 0x75640 else 0xC04

/-- The failing fields of table entry `i` of an image of `total` bytes. -/
def entryFails (m : Memory) (total i : Nat) : List Nat :=
  let a := 0x90 + 16 * i
  let (ty, o, n) := imgEntry m i
  let before := (List.range i).map (imgEntry m)
  failAt (decide (1 ≤ ty ∧ ty ≤ 6) && !before.any fun e => e.1 == ty) a ++ failAt (memLE m (a + 2) 2 == 0) (a + 2)
    ++ failAt (o % 64 == 0 && decide (0x400 ≤ o) && !before.any fun e => overlap o n e.2.1 e.2.2) (a + 4)
    ++ failAt (n == sectLen m ty o && decide (o + n ≤ total - 96)) (a + 8) ++ failAt (memZero m (a + 12) 4) (a + 12)
    ++ sectFails m ty o

/-- The failing fields of an image (R370, R371). -/
def imgFails (m : Memory) : List Nat :=
  let total := memLE m 0x10 4
  let n := memLE m 6 2
  failAt (memLE m 0 4 == 0x31564641) 0 ++ failAt (memLE m 4 2 == 1) 4
    ++ failAt (decide (1 ≤ n ∧ n ≤ 32) && [1, 2, 4, 5, 6].all (imgHas m)) 6 ++ failAt (memZero m 0x14 12) 0x14
    ++ failAt (memLE m 0x20 1 == 4) 0x20 ++ failAt (memZero m 0x81 15) 0x81 ++ failAt (memZero m 0x290 368) 0x290
    ++ (List.range (imgCount m)).flatMap (entryFails m total)
    ++ (List.range (32 - imgCount m)).flatMap fun k =>
        let a := 0x90 + 16 * (imgCount m + k)
        failAt (memZero m a 16) a

/-- A big-endian number of `n` bytes of a store. -/
def memBE (m : Memory) (a n : Nat) : Nat := (memRead m a n).foldl (fun x b => 256 * x + b.toNat) 0

/-- The result of the check of a staged image (R373): the RESULT of R377 and OFFSET, and the identity. -/
def imgVerify (m : Memory) (size : Nat) : Nat × Nat × Bytes :=
  if memLE m 0x10 4 ≠ size then (2, 0, [])
  else match imgFails m with
    | x :: r => (3, r.foldl min x, [])
    | [] =>
      if (sha384 (memRead m 0x20 97)).foldl (fun x b => 256 * x + b.toNat) 0 ≠ Config.keyHash.toNat then (4, 0, [])
      else
        let h := sha384 (memRead m 0 (size - 96))
        let e := h.foldl (fun x b => 256 * x + b.toNat) 0
        if ecdsaOk (memBE m 0x21 48) (memBE m 0x51 48) e (memBE m (size - 96) 48) (memBE m (size - 48) 48) then (1, 0, h)
        else (5, 0, [])

/-! The tables of the running image. -/

/-- Tap `k` of phase `p` of the interpolation kernel; 0x8000_0000 stands for +1.0 (R106, R239). -/
def imgKernel (m : Memory) (p k : Nat) : Int :=
  let w := memLE m (imgSect m 4 + 0x40 + 32 * p + 4 * k) 4
  if w = 0x80000000 then 2 ^ 31 else signed 32 w

/-- SCL[j] (R139). -/
def imgScl (m : Memory) (j : Nat) : Int := memS32 m (imgSect m 6 + 4 * j)

/-- MKP[j] (R139). -/
def imgMkp (m : Memory) (j : Nat) : Int := ((memLE m (imgSect m 6 + 0x800 + 4 * j) 4 : Nat) : Int)

/-- Coefficient `i` of band `b` of CAL_BANDTAB at a rate (R188). -/
def imgBand (m : Memory) (r96 : Bool) (b i : Nat) : Int := memS32 m (imgSect m 5 + 20 * (8 * b2n r96 + b) + 4 * i)

/-- The 20 bytes of CAL_EQTAB for band `b` and gain `g` at a rate (R188, R371). -/
def imgEq (m : Memory) (r96 : Bool) (b : Nat) (g : Int) : Bytes :=
  memRead m (imgSect m 5 + 0x200 + 20 * ((8 * b2n r96 + b) * 1501 + (g + 900).toNat)) 20

/-- BUDGET of customer slot `s` (0 to 3); 0 where the image has no kernel (R371). -/
def imgBudget (m : Memory) (s : Nat) : Nat := if imgHas m 3 then memLE m (imgSect m 3 + 4 * s) 4 else 0

/-- Word `w` of program slot `s` (R371). -/
def imgProg (m : Memory) (s w : Nat) : Nat :=
  if s < 12 then memLE m (imgSect m 2 + 0x1000 * s + 8 * w) 8
  else if imgHas m 3 then memLE m (imgSect m 3 + 0x40 + 0x1000 * (s - 12) + 8 * w) 8 else 0

end Sys2Proof.Machine
end

