-- ==== Sys2Proof/Machine/Routing.lean ====
section
/-! DEFINITION. The route program image and its checks, summing nodes with pre-scale and makeup, and the
execution of crosspoint destinations and graph segments over one tick (R128 to R151). -/

namespace Sys2Proof.Machine

/-- The length of the route staging area (R142). -/
def routeLen : Nat := 0x30440

/-- Instruction `i` of a route program (R142, R143). -/
def routeInstr (m : Memory) (i : Nat) : Nat := memLE m (0x40 + 8 * i) 8

/-- The operation of an instruction (R143). -/
def riOp (w : Nat) : Nat := bits w 63 60
/-- NODE of a NODE instruction. -/
def riNode (w : Nat) : Nat := bits w 59 48
/-- KIND of a NODE instruction. -/
def riKind (w : Nat) : Nat := bits w 47 46
/-- DELAY of a NODE instruction. -/
def riDelay (w : Nat) : Nat := bits w 42 32
/-- SRC of a TERM or an OUT. -/
def riSrc (w : Nat) : Nat := bits w 44 32
/-- GSLOT of a TERM. -/
def riSlot (w : Nat) : Nat := bits w 13 0
/-- FEED of an OUT. -/
def riFeed (w : Nat) : Nat := bits w 9 0

/-- The instructions that a program reads, in order. -/
def routeCode (m : Memory) : List Nat := (List.range (min 16384 (memLE m 4 4))).map (routeInstr m)

/-- A bus number that names nothing but a render bus, bed input or direct path of the rate (R128, R134). -/
def plainBus (r96 : Bool) (b : Nat) : Bool :=
  decide (b < feedCount r96) || decide (0x300 ≤ b ∧ b ≤ 0x37F) || decide (0x400 ≤ b ∧ b < 0x400 + objCount r96)

/-- A bus number of R128. -/
def goodBus (r96 : Bool) (b : Nat) : Bool := plainBus r96 b || decide (0x1000 ≤ b ∧ b ≤ 0x1FFF)

/-- The reserved bits and values of an instruction are as R143 asks. -/
def riClean (w : Nat) : Bool :=
  match riOp w with
  | 1 => bits w 59 0 == 0
  | 2 => bits w 45 43 == 0 && bits w 31 0 == 0 && decide (riKind w < 2) && (riKind w == 1 || riDelay w == 0)
  | 3 => bits w 59 45 == 0 && bits w 31 14 == 0
  | 4 => bits w 59 45 == 0 && bits w 31 10 == 0
  | 15 => bits w 59 0 == 0
  | _ => false

/-- What the scan of a route program has seen so far (R144). -/
structure RScan where
  i : Nat
  /-- the node in progress: its instruction, number, kind, and terms so far -/
  cur : Option (Nat × Nat × Nat × Nat)
  nodes : List Nat
  feeds : List Nat
  segFeeds : List (List Nat)
  fails : List Nat
  segs : Nat
  nNodes : Nat
  terms : Nat
  outs : Nat
  maxDelay : Nat
  deriving DecidableEq, Repr

/-- The node in progress ends: its number of terms is checked (R143, R144). -/
def RScan.close (s : RScan) : RScan :=
  match s.cur with
  | none => s
  | some (i, n, kind, k) =>
    let ok := if kind = 0 then decide (1 ≤ k ∧ k ≤ 256) else k == 1
    { s with cur := none, nodes := n :: s.nodes, fails := s.fails ++ failAt ok (0x40 + 8 * i) }

/-- Add a feed to the feeds of the segment in progress. -/
def addSegFeed (f : Nat) : List (List Nat) → List (List Nat)
  | [] => [[f]]
  | l :: r => (f :: l) :: r

/-- Scan one instruction (R143, R144); `last` says whether it is instruction NINSTR − 1. -/
def RScan.step (r96 last : Bool) (s : RScan) (w : Nat) : RScan :=
  let a := 0x40 + 8 * s.i
  let s0 : RScan := { s with fails := s.fails ++ failAt (riClean w) a ++ failAt (s.i != 0 || riOp w == 1) a
                                ++ failAt ((riOp w == 15) == last) a }
  let s1 := if riOp w = 3 then s0 else s0.close
  let s2 : RScan :=
    match riOp w with
    | 1 => { s1 with segs := s1.segs + 1, segFeeds := [] :: s1.segFeeds }
    | 2 => { s1 with cur := some (s1.i, riNode w, riKind w, 0), nNodes := s1.nNodes + 1,
                     maxDelay := if riKind w = 1 then max s1.maxDelay (riDelay w) else s1.maxDelay,
                     fails := s1.fails ++ failAt (!s1.nodes.contains (riNode w)) a }
    | 3 =>
      let b := riSrc w
      let known := decide (b < 0x1000) || s1.nodes.contains (b - 0x1000)
      { s1 with terms := s1.terms + 1, cur := s1.cur.map fun (i, n, k, t) => (i, n, k, t + 1),
                fails := s1.fails ++ failAt (s1.cur.isSome && goodBus r96 b && known) a }
    | 4 =>
      let b := riSrc w
      let f := riFeed w
      let known := decide (b < 0x1000) || s1.nodes.contains (b - 0x1000)
      { s1 with outs := s1.outs + 1, feeds := f :: s1.feeds, segFeeds := addSegFeed f s1.segFeeds,
                fails := s1.fails ++ failAt (goodBus r96 b && known && decide (f < feedCount r96) && !s1.feeds.contains f) a }
    | _ => s1
  { s2 with i := s.i + 1 }

/-- Scan a whole program. -/
def routeScan (r96 : Bool) (m : Memory) : RScan :=
  let c := routeCode m
  (c.foldl (fun (s : RScan) w => s.step r96 (s.i + 1 == c.length) w)
    { i := 0, cur := none, nodes := [], feeds := [], segFeeds := [], fails := [], segs := 0, nNodes := 0, terms := 0,
      outs := 0, maxDelay := 0 }).close

/-- The cost of a program in engine-ns per tick (R146). -/
def RScan.cost (s : RScan) : Nat := 400 * s.segs + 20 * s.nNodes + 24 * s.terms + 16 * s.outs

/-- The route budget (R146). -/
def routeBudget (r96 : Bool) : Nat := if r96 then 320000 else 640000

/-- The cost of crosspoint mode (R136). -/
def xpCost : Nat := 209408

/-- The shard that owns a feed (R18). -/
def shardOfFeed (r96 : Bool) (f : Nat) : Nat := if r96 then f / 12 else f / 24

/-- The shard that owns an object (R18). -/
def shardOfObj (r96 : Bool) (o : Nat) : Nat := if r96 then o / 8 else o / 16

/-- The set of shards that own the feeds, as a mask of 32 bits. -/
def shardMask (r96 : Bool) (fs : List Nat) : Nat :=
  sumN ((List.range 32).map fun k => if fs.any fun f => shardOfFeed r96 f == k then 2 ^ k else 0)

/-- Every failure of a staged route program, by image offset (R144). -/
def routeFails (r96 : Bool) (m : Memory) : List Nat :=
  let s := routeScan r96 m
  let segs := s.segFeeds.reverse
  failAt (memLE m 0 2 == 1) 0 ++ failAt (memLE m 2 1 == b2n r96) 2 ++ failAt (memZero m 3 1) 3
    ++ failAt (decide (2 ≤ memLE m 4 4 ∧ memLE m 4 4 ≤ 16384)) 4 ++ failAt (memLE m 8 4 == s.cost) 8
    ++ failAt (decide (memLE m 12 2 ≤ 2047) && memLE m 12 2 == s.maxDelay) 12
    ++ failAt (decide (1 ≤ memLE m 14 2 ∧ memLE m 14 2 ≤ 256) && memLE m 14 2 == s.segs) 14
    ++ failAt (memZero m 16 48) 16 ++ s.fails
    ++ (List.range 256).flatMap (fun k =>
          failAt (memLE m (0x30040 + 4 * k) 4 == shardMask r96 (getD' segs k [])) (0x30040 + 4 * k))

/-- ROUTE_COMMIT's check: the lowest failing offset, or none (R144). -/
def routeCheck (r96 : Bool) (m : Memory) : Option Nat :=
  match routeFails r96 m with
  | [] => none
  | x :: r => some (r.foldl min x)

/-- The initial value of gain slot `i` in a program image (R142). -/
def routeGain0 (m : Memory) (i : Nat) : Int := memS32 m (0x20040 + 4 * i)

/-! Arithmetic (R137 to R141). -/

/-- k of R137 for `n` active terms, times 64: the target index T. -/
def targetIndex (n : Nat) : Nat :=
  if n ≤ 16 then 0 else 64 * ((ceilDiv n 16 - 1).log2 + 1)

/-- j moves by r toward T without passing it (R138). -/
def scaleMove (t r j : Nat) : Nat := if j < t then min t (j + r) else max t (j - r)

/-- r of R138. -/
def scaleRate (t j : Nat) : Nat := ceilDiv (if j < t then t - j else j - t) 64

/-- A term added to an accumulator: bus sample, its MKP value and the gain in Q4.28 (R141). -/
def busTerm (x mkp g : Int) : Int := sar (x * mkp) 26 * g * 64

/-- A summing node's output sample before saturation (R140). -/
def nodeConv (acc scl : Int) : Int := sar (sar acc 34 * scl) 31

/-- A value and whether its conversion to 32 bits saturates. -/
def satFlag (x : Int) : Int × Bool := (sat32 x, decide (sat32 x ≠ x))

/-- What routing reads during one tick: buses with their scale index, gains, and the scale tables. -/
structure RouteIn where
  r96 : Bool
  tick : Nat
  /-- the sample of a render bus, bed input or direct path, as Q4.28 (R128, R129) -/
  bus : Nat → Nat → Int
  /-- gain slot `i` of bank `b` at a sample index -/
  gain : Nat → Nat → Nat → Int
  scl : Nat → Int
  mkp : Nat → Int
  /-- a feed belongs to a FACET or WAVEFRONT layout (R137) -/
  hasLayout : Nat → Bool

/-- What the execution of routing changes in one tick. -/
structure RouteRun where
  scale : Tab Nat
  target : Tab Nat
  lines : Tab Int
  nodeOut : Tab (Int × Nat)
  rescale : Bool
  sat : Bool
  deriving DecidableEq, Repr

/-- The sample and scale index of any bus in the tick (R128): node buses from `nodeOut`. -/
def busRead (x : RouteIn) (r : RouteRun) (bank b n : Nat) : Int × Nat :=
  if 0x1000 ≤ b then tabGet (0, 0) r.nodeOut (16 * (8192 * (x.tick % 4) + 4096 * bank + (b - 0x1000)) + n) else (x.bus b n, 0)

/-- The term of a bus read with the gain `g` (R141). -/
def readTerm (x : RouteIn) (r : RouteRun) (bank b n : Nat) (g : Int) : Int :=
  let (s, j) := busRead x r bank b n
  busTerm s (x.mkp j) g

/-- Gain slot `i` is active for the tick (R137). -/
def slotActive (x : RouteIn) (bank i : Nat) : Bool :=
  x.gain bank i (16 * x.tick) != 0 || x.gain bank i (16 * x.tick + 16) != 0

/-- A summing node over one tick (R137, R138, R140): from its accumulators and its count of active terms to its output
samples and their scale indices. `fresh` takes j from the target (R149). -/
def sumNode (x : RouteIn) (r : RouteRun) (key : Nat) (fresh : Bool) (active : Nat) (acc : Nat → Int) :
    List (Int × Nat) × RouteRun :=
  let t := targetIndex active
  let t0 := if fresh then t else tabGet 0 r.target key
  let j0 := if fresh then t else tabGet 0 r.scale key
  let rate := scaleRate t j0
  let outs := ((List.range 16).foldl (fun (s : Nat × List (Int × Nat × Bool)) n =>
    let j := scaleMove t rate s.1
    let (v, f) := satFlag (nodeConv (acc n) (x.scl j))
    (j, (v, j, f) :: s.2)) (j0, []))
  (outs.2.reverse.map (fun o => (o.1, o.2.1)),
    { r with scale := tabSet 0 r.scale key outs.1, target := tabSet 0 r.target key t, rescale := r.rescale || t != t0,
             sat := r.sat || outs.2.any fun o => o.2.2 })

/-- A feed input from 16 samples of a bus read with gain 1.0 (R25, R135, R145). -/
def outConv (acc : Int) : Int × Bool := satFlag (sar acc 31)

/-- A feed that nothing else writes receives its own render bus (R135, R145). -/
def passFeed (x : RouteIn) (f n : Nat) : Int × Bool := outConv (busTerm (x.bus f n) (x.mkp 0) (2 ^ 28))

/-- The feed input of feed `f` in crosspoint mode: a destination's summing node, or the feed's own render bus (R135). -/
def xpFeed (x : RouteIn) (srcs : List (Nat × Nat)) (dst : Option Nat) (f : Nat) (r : RouteRun) : List Int × RouteRun :=
  match dst with
  | none =>
    let o := (List.range 16).map (passFeed x f)
    (o.map (·.1), { r with sat := r.sat || o.any (·.2) })
  | some d =>
    let act := b2n (x.hasLayout f) + (srcs.filter fun s => slotActive x 0 (128 * s.1 + d)).length
    let acc (n : Nat) : Int := sumI (busTerm (x.bus f n) (x.mkp 0) (2 ^ 28)
      :: srcs.map fun s => busTerm (x.bus s.2 n) (x.mkp 0) (x.gain 0 (128 * s.1 + d) (16 * x.tick + n)))
    let (outs, r') := sumNode x r (8192 + d) false act acc
    let o := outs.map fun (v, j) => outConv (busTerm v (x.mkp j) (2 ^ 28))
    (o.map (·.1), { r' with sat := r'.sat || o.any (·.2) })

/-- One graph node over one tick (R145): its NODE instruction and its terms. -/
def graphNode (x : RouteIn) (bank : Nat) (fresh : Bool) (w : Nat) (terms : List Nat) (r : RouteRun) : RouteRun :=
  let node := riNode w
  let key := 4096 * bank + node
  let acc (n : Nat) : Int := sumI (terms.map fun t =>
    readTerm x r bank (riSrc t) n (x.gain bank (riSlot t) (16 * x.tick + n)))
  if riKind w = 0 then
    let act := (terms.filter fun t => slotActive x bank (riSlot t)).length
    let (outs, r') := sumNode x r key fresh act acc
    { r' with nodeOut := tabFill (0, 0) r'.nodeOut (16 * (8192 * (x.tick % 4) + key)) outs }
  else
    let o := (List.range 16).map fun n => satFlag (sar (acc n) 34)
    let base := 4096 * key
    let r : RouteRun := if fresh then { r with lines := tabDrop r.lines base (base + 4096) } else r
    let lines := (o.zip (List.range 16)).foldl (fun l (v, n) => tabSet 0 l (base + (16 * x.tick + n) % 4096) v.1) r.lines
    let outs := (List.range 16).map fun n => (tabGet 0 lines (base + (16 * x.tick + n + 4096 - riDelay w) % 4096), 0)
    { r with lines, nodeOut := tabFill (0, 0) r.nodeOut (16 * (8192 * (x.tick % 4) + key)) outs, sat := r.sat || o.any (·.2) }

/-- Run the instructions of a segment in program order (R145): the feed inputs its OUTs write, feed and 16 samples. -/
def graphSeg (x : RouteIn) (bank : Nat) (fresh : Bool) : List Nat → Option (Nat × List Nat) → List (Nat × List Int) →
    RouteRun → List (Nat × List Int) × RouteRun
  | [], cur, outs, r =>
    (outs, match cur with
      | some (w, ts) => graphNode x bank fresh w ts.reverse r
      | none => r)
  | i :: rest, cur, outs, r =>
    if riOp i = 3 then graphSeg x bank fresh rest (cur.map fun (w, ts) => (w, i :: ts)) outs r
    else
      let r1 := match cur with
        | some (w, ts) => graphNode x bank fresh w ts.reverse r
        | none => r
      if riOp i = 2 then graphSeg x bank fresh rest (some (i, [])) outs r1
      else if riOp i = 4 then
        let o := (List.range 16).map fun n => outConv (readTerm x r1 bank (riSrc i) n (2 ^ 28))
        graphSeg x bank fresh rest none (outs ++ [(riFeed i, o.map (·.1))]) { r1 with sat := r1.sat || o.any (·.2) }
      else graphSeg x bank fresh rest none outs r1

/-- The instructions of segment `s` of a program: those after its SEG, up to the next SEG or END (R143). -/
def segCode (m : Memory) (s : Nat) : List Nat :=
  ((routeCode m).foldl (fun (a : Nat × List Nat) w =>
      if riOp w = 1 then (a.1 + 1, a.2) else if a.1 = s + 1 then (a.1, w :: a.2) else a) (0, [])).2.reverse

/-- The feeds that a program's OUTs name. -/
def routeOuts (m : Memory) : List Nat := ((routeCode m).filter fun w => riOp w == 4).map riFeed

/-- Packet lengths in samples by packet time code (R153, R404): 0 = 125 µs, 1 = 250 µs, 2 = 333 µs, 3 = 1 ms. -/
def packetSamples (r96 : Bool) (ptime : Nat) : Nat :=
  let n := getD' [6, 12, 16, 48] ptime 6
  if r96 then 2 * n else n

/-- The ingress term I for a packet time (R153). -/
def ingressTerm (r96 : Bool) (ptime : Nat) : Nat := packetSamples r96 ptime + 6

/-- The hinge law (R173): the cross-fade of the old output `a` and the new output `b` at sample `n` of `f`. -/
def hingeMix (a b : Int) (n f : Nat) : Int := if f ≤ n then b else a + (b - a) * (n : Int) / (f : Int)

/-- A fade length that the hinge rules accept (R174). -/
def fadeOk (f : Nat) : Bool := decide (f % 16 = 0 ∧ 256 ≤ f ∧ f ≤ 8192)

end Sys2Proof.Machine
end

