-- ==== Sys2Proof/Machine/Correction.lean ====
section
/-! DEFINITION. Coefficient records and their checks, and one feed's correction chain over one tick:
bulk delay, FIR, biquads, hinge mix, fold sum and feed gain (R160 to R173). -/

namespace Sys2Proof.Machine

/-- The address of offset `off` in the record of feed `f` in bank `b` (R168). -/
def corAddr (b f off : Nat) : Nat := b * 0xC30000 + f * 0x4100 + off

/-- Feed `f` is long (R170). -/
def isLong (mask f : Nat) : Bool := f % 2 == 0 && bit mask (f / 2)

/-- Feed `f` is absorbed (R170). -/
def isAbsorbed (mask f : Nat) : Bool := f % 2 == 1 && bit mask (f / 2)

/-- What an unlisted byte of the records reads as: the identity bank (R167); zero for an absorbed feed, whose record
holds only the long feed's upper taps (R170). -/
def corDflt (mask a : Nat) : Byte :=
  let f := a % 0xC30000 / 0x4100
  let off := a % 0xC30000 % 0x4100
  if isAbsorbed mask f then 0
  else if off = 0x103 then 0x40
  else if 0x40 ≤ off ∧ off < 0xE0 ∧ (off - 0x40) % 20 = 3 then 0x20
  else 0

/-- A byte of the coefficient records. -/
def corByte (mask : Nat) (m : Memory) (a : Nat) : Byte := tabGet (corDflt mask a) m a

/-- Write bytes into the coefficient records. -/
def corFill (mask : Nat) : Memory → Nat → Bytes → Memory
  | m, _, [] => m
  | m, a, b :: r => corFill mask (tabSet (corDflt mask a) m a b) (a + 1) r

/-- A little-endian number of `n` bytes in the records. -/
def corLE (mask : Nat) (m : Memory) (a : Nat) : Nat → Nat
  | 0 => 0
  | n + 1 => (corByte mask m a).toNat + 256 * corLE mask m (a + 1) n

/-- A signed 32-bit number in the records. -/
def corS32 (mask : Nat) (m : Memory) (a : Nat) : Int := signed 32 (corLE mask m a 4)

/-- Tap `k` of feed `f` in bank `b` (R168, R170). -/
def corTap (mask : Nat) (m : Memory) (b f k : Nat) : Int :=
  if k < 4096 then corS32 mask m (corAddr b f (0x100 + 4 * k))
  else corS32 mask m (corAddr b (f + 1) (0x100 + 4 * (k - 4096)))

/-- The number of taps of a feed (R163, R170). -/
def corTaps (mask f : Nat) : Nat := if isLong mask f then 8192 else 4096

/-- Coefficient `i` (B0, B1, B2, A1, A2) of section `s` (R168). -/
def corCoef (mask : Nat) (m : Memory) (b f s i : Nat) : Int := corS32 mask m (corAddr b f (0x40 + 20 * s + 4 * i))

/-- The bulk delay D of a bank. -/
def corDelay (mask : Nat) (m : Memory) (b f : Nat) : Nat := corLE mask m (corAddr b f 0) 4

/-- The largest bulk delay (R162). -/
def corDMax (r96 : Bool) : Nat := if r96 then 96000 else 48000

/-- The offset of the record field that holds the byte at `off` (R168): SECTION s is one field. -/
def corField (off : Nat) : Nat :=
  if off < 4 then 0 else if off < 0x40 then 4 else if off < 0xE0 then (off - 0x40) / 20 * 20 + 0x40 else if off < 0x100 then 0xE0
  else off / 4 * 4

/-- The failing fields of feed `f`'s bank `b`, as record offsets (R169). -/
def corBankFails (r96 : Bool) (mask : Nat) (m : Memory) (b f : Nat) : List Nat :=
  let z (o n : Nat) : Bool := (List.range n).all fun i => corByte mask m (corAddr b f (o + i)) == 0
  failAt (decide (corDelay mask m b f ≤ corDMax r96)) 0 ++ failAt (z 4 60) 4
    ++ (List.range 8).flatMap (fun s =>
          let a1 := corCoef mask m b f s 3
          let a2 := corCoef mask m b f s 4
          failAt (decide (a1.natAbs < 2 ^ 29 + a2 ∧ -(2 ^ 29) < a2 ∧ a2 < 2 ^ 29)) (0x40 + 20 * s))
    ++ failAt (z 0xE0 32) 0xE0

/-- The failing fields of the partner's record of a long feed: every field but the taps is reserved (R170). -/
def corPartnerFails (mask : Nat) (m : Memory) (b f : Nat) : List Nat :=
  (List.range 0x100).flatMap fun o => failAt (corByte mask m (corAddr b (f + 1) o) == 0) (corField o)

/-- The first failing field of feed `f`'s bank: the feed number and the record offset (R169). -/
def corBankFail (r96 : Bool) (mask : Nat) (m : Memory) (b f : Nat) : Option (Nat × Nat) :=
  match corBankFails r96 mask m b f with
  | x :: r => some (f, r.foldl min x)
  | [] =>
    if isLong mask f then
      match corPartnerFails mask m b f with
      | x :: r => some (f + 1, r.foldl min x)
      | [] => none
    else none

/-- The length of a feed's delay line in samples (R162). -/
def lineLen (r96 : Bool) : Nat := if r96 then 131072 else 65536

/-- Sample `m - d` of a feed's delay line (R162). -/
def lineAt (r96 : Bool) (line : Tab Int) (f m d : Nat) : Int := tabGet 0 line (131072 * f + (m + 262144 - d) % lineLen r96)

/-- Write sample `m` of a feed's delay line. -/
def lineSet (r96 : Bool) (line : Tab Int) (f m : Nat) (v : Int) : Tab Int := tabSet 0 line (131072 * f + m % lineLen r96) v

/-- The FIR output at sample index `m` before saturation (R163). -/
def firOut (r96 : Bool) (mask : Nat) (rec : Memory) (line : Tab Int) (b f m : Nat) : Int :=
  let d := corDelay mask rec b f
  sar (sumI ((List.range (corTaps mask f)).map fun k => corTap mask rec b f k * lineAt r96 line f m (d + k))) 33

/-- One sample through one biquad section (R164): output, next state, and whether it saturated. -/
def biqStep (b0 b1 b2 a1 a2 : Int) (s : Biq) (x : Int) : Int × Biq × Bool :=
  let acc := b0 * x + b1 * s.x1 + b2 * s.x2 - a1 * s.y1 - a2 * s.y2 + s.e
  let raw := sar acc 29
  let y := sat32 raw
  (y, { x1 := x, x2 := s.x1, y1 := y, y2 := s.y1, e := if y = raw then acc - y * 2 ^ 29 else 0 }, decide (y ≠ raw))

/-- One sample through sections 0 to 7 of a bank. -/
def biqChain (mask : Nat) (rec : Memory) (b f : Nat) : Nat → List Biq → Int → Int × List Biq × Bool
  | _, [], x => (x, [], false)
  | s, q :: r, x =>
    let (y, q', f1) := biqStep (corCoef mask rec b f s 0) (corCoef mask rec b f s 1) (corCoef mask rec b f s 2)
      (corCoef mask rec b f s 3) (corCoef mask rec b f s 4) q x
    let (z, r', f2) := biqChain mask rec b f (s + 1) r y
    (z, q' :: r', f1 || f2)

/-- The banked section of one bank over the 16 samples of tick `t`: outputs, next biquad states, saturation (R160 to R164). -/
def chainSide (r96 : Bool) (mask : Nat) (rec : Memory) (line : Tab Int) (b f t : Nat) (st : List Biq) : List Int × List Biq × Bool :=
  let r := (List.range 16).foldl (fun (a : List Int × List Biq × Bool) n =>
    let (y, s1) := satFlag (firOut r96 mask rec line b f (16 * t + n))
    let (z, st', s2) := biqChain mask rec b f 0 a.2.1 y
    (z :: a.1, st', a.2.2 || s1 || s2)) ([], st, false)
  (r.1.reverse, r.2.1, r.2.2)

/-- A feed's chain up to and with the hinge mix, over tick `t` (R160, R173): outputs in Q4.28, the next state, saturation. -/
def chainTick (r96 : Bool) (mask : Nat) (rec : Memory) (line : Tab Int) (f t : Nat) (c : FeedCor) : List Int × FeedCor × Bool :=
  let stOf (b : Nat) : List Biq := if b = 0 then c.biq0 else c.biq1
  let put (c : FeedCor) (b : Nat) (s : List Biq) : FeedCor := if b = 0 then { c with biq0 := s } else { c with biq1 := s }
  let (a, sa, fa) := chainSide r96 mask rec line c.bank f t (stOf c.bank)
  match c.hinge with
  | none => (a, put c c.bank sa, fa)
  | some h =>
    let nb := 1 - c.bank
    let (b, sb, fb) := chainSide r96 mask rec line nb f t (stOf nb)
    let mixed := ((a.zip b).zip (List.range 16)).map fun (p, n) => hingeMix p.1 p.2 (16 * (t - h.start) + n) h.fade
    (mixed, put (put c c.bank sa) nb sb, fa || fb)

/-- The feed gain at sample index `m` applied to a chain output (R165). -/
def gainOut (g : Ramp) (m : Nat) (y : Int) : Int × Bool := satFlag (sar (y * g.val m) 25)

/-- The fold sum of one sample: the chain outputs of the target and every member in ascending feed number (R172). -/
def foldSum (chain : Tab Int) (feeds : List Nat) (n : Nat) : Int × Bool :=
  satFlag (sumI ((sortBy (fun a b => decide (a < b)) feeds).map fun f => tabGet 0 chain (16 * f + n)))

/-- The fold group that a feed belongs to, with its number (R171). -/
def foldOf (folds : Tab (Option Fold)) (f : Nat) : Option (Nat × Fold) :=
  firstSome (folds.map fun (g, o) => match o with
    | some x => if x.target = f ∨ f ∈ x.members then some (g, x) else none
    | none => none)

end Sys2Proof.Machine
end

