-- ==== Sys2Proof/Machine/Resets.lean ====
section
/-! DEFINITION. Every block as it stands right after reset: the reset values of the register tables, and the values of the
assumption log for the state that no table gives. -/

namespace Sys2Proof.Machine

/-- The SYS block after reset (R545); the reset is POWER_ON, and open straps read ADDR_ID 15 and 1000BASE-X (R531). -/
def SysSt.reset : SysSt :=
  { mode := .cold, evt := 0, rstSource := 1, rstReason := 0, imageId := 0, imageVer := 0, scratch := 0, wdiscardCnt := 0,
    addrId := 15, sgmii := false }

/-- The KEY block after reset (R546). -/
def KeySt.reset : KeySt :=
  { cmdEn := false, rplEn := false, evt := 0, irqCount := 1, irqTimer := 0, udpPort := 0x1E01, cmdBaseLo := 0,
    cmdBaseHi := 0, cmdSize := 0, cmdPi := 0, cmdCi := 0, rplBaseLo := 0, rplBaseHi := 0, rplSize := 0, rplPi := 0,
    rplCi := 0, aseq := 0, cmdCnt := 0, refuseCnt := 0, rplDropCnt := 0, repeatCnt := 0, denyCnt := 0, allow := [],
    fetchStopped := false, phase := true, waiting := [], irqSince := 0, irqFirst := none, due := [], parked := [], nops := [], stored := [], later := [],
    resetAt := none }

/-- The BOOT block after reset (R547). -/
def BootSt.reset : BootSt :=
  { state := .idle, result := 0, failedEng := 0, offset := 0, received := 0, size := 0, wdiscardCnt := 0, imgHash := [],
    staging := [], image := [], imageTotal := 0, badLine := none }

/-- The INTG block after reset (R304). -/
def IntgSt.reset : IntgSt :=
  { homeless := [], reason := 0, evt := 0, yieldTick := 0, yieldPend := none, kick := 0, kickAt := 0, tj := 0, tjMax := 0,
    hot := 0, cool := false, parityCnt := 0, residueCnt := 0, dramCrcCnt := 0, dramLostCnt := 0, hardCnt := 0, selfCnt := 0,
    repairCnt := 0, log := [], damaged := [], head := 0 }

/-- The DBLT block after reset (R550); the digest is the stated one, and the buckets are empty until they are filled at the
start boundary. -/
def DbltSt.reset : DbltSt :=
  { settings := [], locked := false, evt := 0, digest := 0x6C492E5F, feeds := [], dcDone := 0, tokA := 0, tokB := 0, fillA := 0, fillB := 0,
    lockedWrCnt := 0, rangeCnt := 0, probeCnt := 0, dcCnt := 0, riseCnt := 0, ceilCnt := 0, wlDropA := 0, wlDropB := 0,
    capDropA := 0, capDropB := 0 }

/-- The TWN block after reset (R328, R329). -/
def TwnSt.reset : TwnSt :=
  { id := 0, autoJoin := true, wait := 5, port := 7680, seed := 0, peerA := 0, peerB := 0, group := 0, state := .off,
    decider := false, haspUp := false, netaUp := false, netbUp := false, missHasp := 0, missA := 0, missB := 0, wasLost := false,
    tookOver := false, takeover := false, peer := none, ready := false, readyAt := 0, joinReq := false, want := false, startAs := .off, refLost := false, digest := 0,
    stateDigest := 0, frozen := false, nextMseq := 1, appliedHi := 0, unacked := [], inbox := [], relays := [], logged := [],
    seenSeq := [], nextSeq := [], crc := [], checking := false, gaps := [], mine := [], theirs := [], verdict := none, peerVerdict := none,
    join := none, retryAt := none, evt := 0, mirrorCnt := 0, retxCnt := 0, mismatchCnt := 0, missHaspCnt := 0,
    missNetaCnt := 0, missNetbCnt := 0 }

/-- The CLK block after reset (R455, R458). -/
def ClkSt.reset : ClkSt :=
  { xtalOk := true, evt := 0, forcedCnt := 0, timeoutCnt := 0, plls := (List.range 9).map Pll.reset,
    gates := (List.range 15).map Gate.reset, held := [], heldCmds := [] }

/-- The PWR block after reset (R483). -/
def PwrSt.reset : PwrSt :=
  { source := 0, aOk := false, bOk := false, holdupReady := false, trans := 0, stepNo := 0, cur := none, transAt := 0,
    queued := none, fromPaused := false, heldGates := 0, exercise := none, domains := 0x1FF, rail := 0, tries := 0, aMv := 0,
    aMa := 0, bMv := 0, bMa := 0, samples := [], holdupMv := 0, now := 0, max := 0, minA := 0xFFFF, minB := 0xFFFF,
    lastSwitch := 0, srcAt := 0, bSince := none, evt := 0, switchCnt := 0, returnCnt := 0, holdupCnt := 0, exerciseCnt := 0,
    discardCnt := 0, wakeAt := none, off := false, bring := none, stuck := false, resetLow := false, perst := false }

/-- The ports and tables after reset (R392, R399, R410, R418). -/
def NetSt.reset : NetSt :=
  { vlan := [], flowIn := [], flowOut := [], pend := [], seenIn := [], seenOut := [], statIn := [], statOut := [], rx := [],
    raw := [], fading := [], members := [], repeats := [], leaves := [], relaySeq := [], relayed := [], unheard := [], hrx := .reset,
    htx := .reset }

/-- The PTM block after reset (R442, R443). -/
def PtmSt.reset : PtmSt :=
  { cfg := .reset, a := .reset, b := .reset, lock := 0, activeB := false, gm := none, inWin := 0, beyond := 0, within := 0,
    newGm := none, lost := false, lostRec := false, slewing := false, declared := [], offset := 0, freq := 0, portDiff := 0,
    utc := 0, baseNow := 0, baseMedia := 0, everLocked := false, lockedAt := none, swts := false, scene := none, phi := 0,
    dev := 0, strobeLive := false, edgeRise := none, edgeFall := none, riseAt := none, fallAt := none, evt := 0, syncCnt := 0, lossCnt := 0,
    stepCnt := 0, driftCnt := 0 }

/-- The OBJ block after reset (R56, R57, R62, R92, R93). -/
def ObjSt.reset : ObjSt :=
  { objs := [], beds := [], xform := { o := .zero, h := .zero, dp := 0, yaw := 0 }, pol := [], frameAt := [], seen := [],
    seenTick := 0, evt := 0, acceptCnt := 0, lateCnt := 0, staleCnt := 0, dropCnt := 0, unsupCnt := 0 }

/-- The PAN block after reset (R98, R103, R127): an image of zeros defines no layout. -/
def PanSt.reset : PanSt :=
  { staging := [], image := [], sound := [], soundSeen := [], pairs := [], seen := [], 
    norm := [], first := true, ready := none, building := none, kernelId := 0, evt := 0, slewCnt := 0, walkCnt := 0,
    geomLast := 0, geomMax := 0 }

/-- The RTE block after reset (R128, R133, R147, R159). -/
def RteSt.reset : RteSt :=
  { graph := false, bank := 0, prog0 := [], prog1 := [], gains := [], xpSrc := [], xpDst := [], align := [], staging := [],
    frozen := false, hinge := none, pend := none, gainPend := [], fresh := none, scale := [], target := [], lines := [],
    bedLine := [], nodeOut := [], feedOut := [], ingress := 0, evt := 0, satCnt := 0, hingeCnt := 0, wdiscardCnt := 0 }

/-- The COR block after reset (R165, R167, R170, R186). -/
def CorSt.reset : CorSt :=
  { records := [], feeds := [], longMask := 0, folds := [], pend := [], running := [], nextId := 0, gainPend := [], line := [],
    chain := [], prep := [], shadow := [], entering := [], evt := 0, satCnt := 0, hingeCnt := 0, supersedeCnt := 0, wdiscardCnt := 0,
    prepLateCnt := 0 }

/-- The CAL block after reset (R187, R219, R220). -/
def CalSt.reset : CalSt :=
  { policy := .reset, caps := [], samples := [], feeds := [], lastSeq := [], seen := [], run := [], probes := [], aligned := [],
    reports := [], seq := 0, level := 0, peak := 0, lastRound := none, evt := 0, blockCnt := 0, rejectCnt := 0,
    abandonCnt := 0, adoptCnt := 0, vetoCnt := 0, clipCnt := 0 }

/-- The TAP block after reset (R256). -/
def TapSt.reset : TapSt :=
  { engines := (List.range 34).map Engine.reset, testEn := false, en := 0, enPend := none, refused := false,
    kslots := List.replicate 4 { loaded := false, disabledOvr := false, budget := 0, overruns := 0 } }

/-- The DISP block after reset (R275). -/
def DispSt.reset : DispSt :=
  { queue := [], nextSeq := 0, nextOrd := 0, batchAt := none, lastSub := none, krnNext := [], commits := [], raised := false, lower := false, shed := 0,
    refusedUnits := [], slotStart := 0, evt := 0, dispatchCnt := 0, refuseCnt := 0, refuseOutCnt := 0, requeueCnt := 0,
    waitLast := List.replicate 8 0, waitMax := List.replicate 8 0 }

/-- The DRAM controller after reset (R502). -/
def DdrSt.reset : DdrSt :=
  { trained0 := false, trained1 := false, setpoint := false, selfRefresh := false, debt0 := 0, debt1 := 0, rate := 0, evt := 0,
    tries0 := 0, tries1 := 0, step0 := 0, step1 := 0, ms := 0, next0 := 0, next1 := 0, crc0 := 0, crc1 := 0, poison := 0,
    promote := 0, forcedRef := 0, scrub := 0, latClr := 0 }

/-- The FAB block after reset (R503). -/
def FabSt.reset : FabSt :=
  { drain := 0, evt := 0, head := 0, errs := [], wdiscard := 0, gated := 0, off := 0, unmap := 0, timeout := 0, rst := 0 }

/-- The DAC block after reset (R506, R513, R517, R522). -/
def DacSt.reset : DacSt :=
  { chans := List.replicate 16 .reset, reqs := [], ramps := [], frame0 := false, frame1 := false, eps0 := 0, eps1 := 0, clamped := true,
    running := false, evt := 0, spanCnt := 0, modrstCnt := 0, yieldFade := 0 }

/-- The RND block after reset (R19, R47, R53). -/
def RndSt.reset : RndSt :=
  { rate96 := false, sched := .idle, shed := 0, level := 64, dir := .hold, pend := none, retMode := .render, coastLive := false, lastTick := 0,
    margin := 32, minMargin := 32, episode := 0, epRun := 0, largest := 0, evt := 0, lateCnt := 0, underrunCnt := 0,
    recompCnt := 0, migrateCnt := 0, shardEng := List.range 32, moved := List.replicate 32 false, moves := [], open_ := [], nextIn := 0,
    startAt := none, startS := 0, stopAt := none, hist := [], bedHist := [], partials := [], buses := [], cushion := [], kept := [],
    nextOut := 0, pktNext := [], sent := [], joinSnap := none }

end Sys2Proof.Machine
end

