-- ==== Sys2Proof/Machine/State.lean ====
section
/-! DEFINITION. The state of the module: every block's registers and stores, the queue of waiting commands, and the three
fields of the model's own (the time in ns, the outbox, and the count of free values). -/

namespace Sys2Proof.Machine

/-- Why a step stops with a fault. Every command of the table has an effect in every state (a refused command is answered,
and an event whose conditions do not hold changes nothing), so no meaning raises one. -/
inductive Fault where
  /-- Raised by no command. Safe: it stops nothing. -/
  | unreached
  deriving DecidableEq, Repr

/-- Why a command has no meaning in the model. -/
inductive Refusal where
  /-- Raised by an arm of `exec` whose command is not modelled yet, with its mnemonic. Safe: it stops. -/
  | notModelled (mnemonic : String)
  deriving DecidableEq, Repr

/-- The module. -/
structure State where
  /-- the commands that wait, first in first out -/
  pending : List Instr
  /-- ns since reset release -/
  now : Nat
  /-- the index of the last tick boundary passed -/
  tick : Nat
  sys : SysSt
  key : KeySt
  boot : BootSt
  pwr : PwrSt
  clk : ClkSt
  ptm : PtmSt
  macA : MacSt
  macB : MacSt
  macM : MacSt
  hasp : MacSt
  net : NetSt
  obj : ObjSt
  pan : PanSt
  rte : RteSt
  rnd : RndSt
  cor : CorSt
  cal : CalSt
  tap : TapSt
  disp : DispSt
  intg : IntgSt
  dblt : DbltSt
  twn : TwnSt
  dac : DacSt
  ddr : DdrSt
  fab : FabSt
  /-- scheduled commands that wait for their boundary -/
  sched : List Sched'
  /-- the number of scheduled commands accepted: their order (R70) -/
  ord : Nat
  /-- what has left the module, newest first (the model's own record) -/
  out : List Out
  /-- the number of free values taken (the model's own counter) -/
  free : Nat
  deriving DecidableEq, Repr

/-- The module right after reset. -/
def State.reset : State :=
  { pending := [], now := 0, tick := 0, sys := .reset, key := .reset, boot := .reset, pwr := .reset, clk := .reset,
    ptm := .reset, macA := .reset true, macB := .reset true, macM := .reset true, hasp := .reset false, net := .reset,
    obj := .reset, pan := .reset, rte := .reset, rnd := .reset, cor := .reset, cal := .reset, tap := .reset, disp := .reset,
    intg := .reset, dblt := .reset, twn := .reset, dac := .reset, ddr := .reset, fab := .reset, sched := [], ord := 0, out := [],
    free := 0 }

end Sys2Proof.Machine
end

