-- ==== Sys2Proof/Machine/Ops.lean ====
section
/-! DEFINITION. The named operations over the state that every chapter shares: time, free values, what leaves the module,
events and the fault log, yields, fabric errors, gates and domains. -/

namespace Sys2Proof.Machine

/-- What a command answers. -/
abbrev Result := Host.Outcome State Fault Refusal

/-! Time. -/

/-- Time moves on to `t` ns (never back). -/
def State.at (s : State) (t : Nat) : State := { s with now := max s.now t }

/-- The sample rate in Hz (R47). -/
def State.fs (s : State) : Nat := fsOf s.rnd.rate96

/-- The gate `g` (R455). -/
def State.gate (s : State) (g : Nat) : Gate := getD' s.clk.gates g (Gate.reset 0)

/-- Media time at `t` ns since reset release (R419, R428): it advances at the frequency in force, and in steps of 40 ns while gate 10 is
closed (R433). -/
def State.mediaAt (s : State) (t : Nat) : Int :=
  let d := ((t : Int) - s.ptm.baseNow) * (1000000000 + s.ptm.freq) / 1000000000
  s.ptm.baseMedia + if (s.gate 10).st = .closed then d / 40 * 40 else d

/-- Media time now, in ns. -/
def State.media (s : State) : Int := s.mediaAt s.now

/-- The 32-bit hardware timestamp (R433). -/
def State.ts32 (s : State) : Nat := code 32 s.media

/-- A 64-bit time as the module reports it (R434): before the first lock, ns since reset release with bit 63 set. -/
def State.time64 (s : State) : Nat := if s.ptm.everLocked then code 64 s.media else 2 ^ 63 + s.now % 2 ^ 63

/-- The sample index in force (R420). -/
def State.sampleNow (s : State) : Nat := (s.media * s.fs / 1000000000).toNat

/-- The extension of a count of 32 bits against a reference (R421). -/
def ext32 (x r : Nat) : Int := (r : Int) + (((x : Int) - r + 2 ^ 31) % 2 ^ 32) - 2 ^ 31

/-- The media time of a sample index, in ns, truncated (R420). -/
def State.sampleTime (s : State) (m : Nat) : Nat := m * 1000000000 / s.fs

/-- MEDIA cycles in a sample (R446). -/
def State.mediaCycles (s : State) : Nat := if s.rnd.rate96 then 256 else 512

/-- A tick runs now (R17). -/
def State.rendering (s : State) : Bool := s.sys.mode.renders

/-- A tick runs at the next boundary: a rendering mode, before the boundary at which SLEEP entry stops the tick (R17, R476). -/
def State.ticking (s : State) : Bool := s.rendering && !s.pwr.off && s.rnd.stopAt.all fun n => decide (s.tick < n)

/-- STAGED or LOCKING: commands take effect at once (R560). -/
def State.staged (s : State) : Bool := s.sys.mode == .staged || s.sys.mode == .locking

/-! Free values. -/

/-- A value the spec leaves open, below `n` (any value below it, for a positive `n`). -/
def State.freeBelow (s : State) (n : Nat) : Nat × State :=
  ((Config.freeValue s.free).toNat % n, { s with free := s.free + 1 })

/-- A value the spec leaves open, from `lo` to `hi`. -/
def State.freeRange (s : State) (lo hi : Int) : Int × State :=
  (lo + ((Config.freeValue s.free).toNat : Int) % (hi - lo + 1), { s with free := s.free + 1 })

/-! What leaves the module. -/

/-- Send one thing out. -/
def State.emit (s : State) (o : Out) : State := { s with out := o :: s.out }

/-! Ports. -/

/-- The MAC of a port. -/
def State.mac (s : State) (port : Nat) : MacSt :=
  if port = 0 then s.macA else if port = 1 then s.macB else if port = 2 then s.macM else s.hasp

/-- Replace the MAC of a port. -/
def State.setMac (s : State) (port : Nat) (m : MacSt) : State :=
  if port = 0 then { s with macA := m } else if port = 1 then { s with macB := m }
  else if port = 2 then { s with macM := m } else { s with hasp := m }

/-- Change the MAC of a port. -/
def State.onMac (s : State) (port : Nat) (f : MacSt → MacSt) : State := s.setMac port (f (s.mac port))

/-- Queue a frame on a port (R396). -/
def State.queueFrame (s : State) (port : Nat) (f : TxFrame) : State :=
  s.onMac port fun m => { m with queue := m.queue ++ [f] }

/-! Modes, gates and domains. -/

/-- Change the mode; SYS_EVT.MODE is set when it changes (R545). -/
def State.setMode (s : State) (m : Mode) : State :=
  if s.sys.mode = m then s else { s with sys := { s.sys with mode := m, evt := setBit s.sys.evt 0 } }

/-- Acquisition starts anew: no port has a grandmaster, and nothing is lost (R427, R430). -/
def PtmSt.acquire (p : PtmSt) : PtmSt :=
  { p with a := .reset, b := .reset, lock := 0, activeB := false, gm := none, inWin := 0, beyond := 0, within := 0, newGm := none,
           lost := false, lostRec := false, slewing := false, declared := [], lockedAt := none }

/-- The module enters LOCKING (R360, R380). -/
def State.enterLocking (s : State) : State :=
  { s with ptm := s.ptm.acquire, twn := { s.twn with ready := false, refLost := false, startAs := .off }
           rnd := { s.rnd with startAt := none } }.setMode .locking

/-- An authenticated image runs (R545). -/
def State.imageRuns (s : State) : Bool := s.boot.state == .done

/-- Media time is carried to now, so that a new frequency or step acts from now on. -/
def State.rebase (s : State) : State := { s with ptm := { s.ptm with baseMedia := s.media, baseNow := s.now } }

/-- Change gate `g`. -/
def State.onGate (s : State) (g : Nat) (f : Gate → Gate) : State :=
  { s with clk := { s.clk with gates := modAt s.clk.gates g f } }

/-- Open or close gate `g` at once; a close that succeeds clears TIMEOUT (R458). Gate 10 changes the steps of media time. -/
def State.setGate (s : State) (g : Nat) (opened : Bool) : State :=
  (if g = 10 then s.rebase else s).onGate g fun x => if opened then { x with st := .opened } else { x with st := .closed, timeout := false }

/-- RUN_EN of gate `g`. -/
def State.setRun (s : State) (g : Nat) (on : Bool) : State := s.onGate g fun x => { x with run := on }

/-- Power domain `d` is on (R467). -/
def State.domainOn (s : State) (d : Nat) : Bool := bit s.pwr.domains d

/-- Switch power domain `d`. -/
def State.setDomain (s : State) (d : Nat) (on : Bool) : State :=
  let cur := bit s.pwr.domains d
  { s with pwr := { s.pwr with domains :=
      if cur == on then s.pwr.domains else if on then s.pwr.domains + 2 ^ d else s.pwr.domains - 2 ^ d } }

/-! Events, the fault log, self-faults and yields (R276 to R289). -/

/-- Set a bit of INTG_EVT. -/
def State.intgEvt (s : State) (i : Nat) : State := { s with intg := { s.intg with evt := setBit s.intg.evt i } }

/-- A failed check counts by its kind, wherever it stands (R276): 1 parity, 2 residue. -/
def State.countCheck (s : State) (kind : Nat) : State :=
  if kind = 1 then { s with intg := { s.intg with parityCnt := s.intg.parityCnt + 1, evt := setBit s.intg.evt 0 } }
  else if kind = 2 then { s with intg := { s.intg with residueCnt := s.intg.residueCnt + 1, evt := setBit s.intg.evt 1 } }
  else s

/-- Write a fault record (R289). -/
def State.logFault (s : State) (kind outcome source detail : Nat) : State :=
  let r : FaultRec := { time := s.time64, kind, outcome, source, detail }
  let i := s.intg.head % 65536
  { s with intg := { s.intg with log := tabSet none s.intg.log i (some r), head := s.intg.head + 1
                                 damaged := s.intg.damaged.filter (· != i) } }

/-- The module decides to yield (R286): the first decision stands, and its boundary is the next tick boundary. -/
def State.decideYield (s : State) (reason : Nat) : State :=
  if s.intg.yieldPend.isSome || s.sys.mode == .yielded then s
  else { s with intg := { s.intg with yieldPend := some (s.tick + 1, reason) } }

/-- A self-fault (R285): counted, and in lockstep a reason to yield. -/
def State.selfFault (s : State) : State :=
  let s := { s with intg := { s.intg with evt := setBit s.intg.evt 5, selfCnt := s.intg.selfCnt + 1 } }
  if s.twn.state = .lockstep then s.decideYield 6 else s

/-- The OUTCOME of a self-fault's record: SELF_FAULT, or YIELD when it makes a twin yield. -/
def State.selfOutcome (s : State) : Nat := if s.twn.state = .lockstep then 6 else 5

/-! Fabric responses (R498 to R500, R503). -/

/-- An error response is recorded. Codes: 1 SLVERR, 2 UNMAPPED, 3 GATED, 4 DOMAIN_OFF, 5 TIMEOUT, 6 ABORTED. -/
def State.fabErr (s : State) (e : FabErr) : State :=
  let f := s.fab
  let f := { f with errs := tabSet none f.errs (f.head % 16) (some e), head := f.head + 1 }
  let f := if e.code = 6 then f else { f with evt := setBit f.evt 0 }
  let f := if e.code = 2 then { f with unmap := f.unmap + 1 } else f
  let f := if e.code = 3 then { f with gated := f.gated + 1 } else f
  let f := if e.code = 4 then { f with off := f.off + 1 } else f
  let f := if e.code = 5 then { f with timeout := f.timeout + 1, evt := setBit f.evt 2 } else f
  let f := if e.write && decide (2 ≤ e.code ∧ e.code ≤ 5) then { f with wdiscard := f.wdiscard + 1, evt := setBit f.evt 1 } else f
  { s with fab := f }

/-! Objects as the commands and the boundaries use them. -/

/-- The reference point of each layout (R85). -/
def State.refs (s : State) : List V3 := (List.range 16).map fun l => (layoutRec s.pan.image l).ref

/-- The context of an object. -/
def State.objCtx (s : State) (o : Nat) : ObjCtx := tabGet ObjCtx.reset s.obj.objs o

/-- Replace the context of an object. -/
def State.setObj (s : State) (o : Nat) (c : ObjCtx) : State :=
  { s with obj := { s.obj with objs := tabSet ObjCtx.reset s.obj.objs o c } }

/-- The context of a bed input. -/
def State.bedCtx (s : State) (b : Nat) : BedCtx := tabGet BedCtx.reset s.obj.beds b

/-- Replace the context of a bed input. -/
def State.setBed (s : State) (b : Nat) (c : BedCtx) : State :=
  { s with obj := { s.obj with beds := tabSet BedCtx.reset s.obj.beds b c } }

/-- Set a bit of OBJ_EVT. -/
def State.objEvt (s : State) (i : Nat) : State := { s with obj := { s.obj with evt := setBit s.obj.evt i } }

/-! Twins. -/

/-- This module mirrors or is mirrored: LOCKSTEP, or a join in progress (R315, R325). -/
def State.withTwin (s : State) : Bool := s.twn.state == .lockstep || s.twn.join.isSome

/-- This module follows (R306). -/
def State.follows (s : State) : Bool :=
  (s.twn.state == .lockstep && !s.twn.decider) || s.twn.state == .joining

end Sys2Proof.Machine
end

