-- ==== Sys2Proof/Machine/Digest.lean ====
section
/-! DEFINITION. CRC-32C over bytes, and the two digests of twin operation (R313). Each item enters in the layout of the command
that sets it. The initial value and the final exclusive-or of the CRC are the module's (Config). -/

namespace Sys2Proof.Machine

/-- One bit of the reflected CRC-32C (polynomial 0x1EDC6F41). -/
def crcBit (c : Word) : Word := if c.getLsbD 0 then (c >>> 1) ^^^ 0x82F63B78#32 else c >>> 1

/-- One byte of the CRC. -/
def crcByte (c : Word) (b : Byte) : Word :=
  let x := c ^^^ b.setWidth 32
  crcBit (crcBit (crcBit (crcBit (crcBit (crcBit (crcBit (crcBit x)))))))

/-- The running CRC of bytes, from a state. -/
def crcRun (c : Word) (bs : Bytes) : Word := bs.foldl crcByte c

/-- CRC-32C of bytes. -/
def crc32c (bs : Bytes) : Word := crcRun Config.crcInit bs ^^^ Config.crcXor

/-- The running CRC of the `n` bytes that `f` gives from address `a` upward. -/
def crcFrom (f : Nat → Byte) : Nat → Nat → Word → Word
  | _, 0, c => c
  | a, n + 1, c => crcFrom f (a + 1) n (crcByte c (f a))

/-- The running CRC of `n` items of bytes, from item `i` upward. -/
def crcItems (f : Nat → Bytes) : Nat → Nat → Word → Word
  | _, 0, c => c
  | i, n + 1, c => crcItems f (i + 1) n (crcRun c (f i))

/-- The value at an offset of a list of registers. -/
def regAt (off : Nat) (l : List (Nat × Nat)) : Option Nat := (l.find? fun e => e.1 == off).map (·.2)

/-- The value of an array register: base, element size and count; `f` gives element `i`. -/
def regArr (off base step n : Nat) (f : Nat → Nat) : Option Nat :=
  if base ≤ off ∧ (off - base) % step = 0 ∧ (off - base) / step < n then some (f ((off - base) / step)) else none

/-- The first view that answers. -/
def regOr (a b : Option Nat) : Option Nat := match a with | some v => some v | none => b

/-- The route program of a bank. -/
def State.prog (s : State) (b : Nat) : Memory := if b = 0 then s.rte.prog0 else s.rte.prog1

/-- SCENE_XFORM's parameters (R62). -/
def Xform.bytes (x : Xform) : Bytes :=
  [x.o.x, x.o.y, x.o.z, x.h.x, x.h.y, x.h.z, x.dp].flatMap (leI 4) ++ leB 2 x.yaw ++ zeros 2

/-- COR_FOLD's parameters (R171). -/
def foldBytes (g : Nat) (f : Option Fold) : Bytes :=
  match f with
  | none => leB 1 g ++ zeros 3
  | some f => leB 1 g ++ leB 1 f.members.length ++ leB 2 f.target ++ f.members.flatMap (leB 2)

/-- CAL_POLICY's parameters (R219). -/
def CalPolicy.bytes (c : CalPolicy) : Bytes :=
  [c.margin, c.ceil, c.gmin, c.gmax, c.rate, c.deadband, c.confMin, c.qblk, c.suspect].flatMap (leI 2) ++ leB 1 c.navg ++ zeros 1
    ++ [c.period, c.hold, c.lead, c.fade, c.maxage, c.vetoHold].flatMap (leB 2) ++ c.k.flatMap (leI 2)

/-- The fields of an ingress record that R403 names: KIND, ENC, PTIME, NCH, PT, ASYNC, SSRC and the channel map. -/
def flowStateBytes (r : Bytes) : Bytes := slice r 1 4 ++ slice r 26 6 ++ slice r 64 128

/-- The structural settings (R313). -/
def State.twnDigestNow (s : State) : Word :=
  let c := crcRun Config.crcInit (slice s.boot.imgHash 0 48 ++ leB 8 s.twn.seed ++ leB 4 s.dblt.digest.toNat ++ leB 1 (b2n s.rnd.rate96))
  let c := crcFrom (memGet s.pan.image) 0 layoutLen c
  let c := crcRun c (leB 1 (b2n s.rte.graph))
  let c := crcItems (fun k => leB 2 (tabGet 0xFFFF s.rte.xpSrc k)) 0 128 c
  let c := crcItems (fun k => leB 2 (tabGet 0xFFFF s.rte.xpDst k)) 0 128 c
  let c := crcItems (fun k => leB 2 (tabGet 0 s.rte.align k)) 0 128 c
  let c := crcRun c (s.obj.xform.bytes ++ leB 48 s.cor.longMask)
  let c := crcItems (fun g => foldBytes g (tabGet none s.cor.folds g)) 0 64 c
  crcItems (fun i => slice (tabGet [] s.net.flowOut i) 0 192) 0 1024 c ^^^ Config.crcXor

/-- The enrolment of a feed, as CAL_ENROLL lists it (R219). -/
def enrollBytes (f : Nat) (c : Option CalFeed) : Bytes :=
  match c with
  | none => []
  | some c => leB 2 f ++ leB 1 c.cap ++ leB 1 c.mode ++ leB 4 c.lagLo

/-- The baseline of an enrolled feed, as CAL_BASELINE lists it (R219): explicit where every band has one, otherwise waiting for its
window, or clear. -/
def baseBytes (f : Nat) (c : Option CalFeed) : Bytes :=
  match c with
  | none => []
  | some c =>
    let mode := if c.ref.all Option.isSome then 1 else if c.basePend.any Option.isSome then 0 else 2
    leB 1 mode ++ zeros 1 ++ leB 2 f ++ c.ref.flatMap fun r => leI 2 (r.getD 0)

/-- A bed input as BED_BIND and BED_GAIN set it (R92). -/
def bedBytes (b : Nat) (x : BedCtx) : Bytes :=
  leB 2 b ++ zeros 2 ++ leB 4 x.acid ++ zeros 4 ++ leB 2 b ++ leB 1 (b2n x.muted) ++ zeros 1 ++ leI 4 x.target ++ zeros 4

/-- A META_POLICY (R92). -/
def polBytes (i : Nat) (p : MetaPol) : Bytes := leB 2 i ++ leB 1 (b2n p.fade) ++ zeros 1 ++ leB 4 p.holdMs

/-- The staged state (R313). -/
def State.twnStateNow (s : State) : Word :=
  let c := crcFrom (memGet (s.prog s.rte.bank)) 0 routeLen Config.crcInit
  let c := crcItems (fun k => leI 4 (tabGet (Ramp.at 0) s.rte.gains (16384 * s.rte.bank + k)).g1) 0 16384 c
  let c := crcItems (fun i => flowStateBytes (tabGet [] s.net.flowIn i)) 0 1024 c
  let c := crcFrom (corByte s.cor.longMask s.cor.records) 0 0x1860000 c
  let c := crcItems (fun f => leI 4 (tabGet FeedCor.reset s.cor.feeds f).gain.g1) 0 768 c
  let c := crcItems (fun o => (s.objCtx o).record o s.tick) 0 (objCount s.rnd.rate96) c
  let c := crcItems (fun b => bedBytes b (s.bedCtx b)) 0 128 c
  let c := crcItems (fun i => polBytes i (tabGet MetaPol.reset s.obj.pol i)) 0 1024 c
  let c := crcItems (fun f => enrollBytes f (tabGet none s.cal.feeds f)) 0 768 c
  let c := crcRun c s.cal.policy.bytes
  let c := crcItems (fun k => match (tabGet CapChan.reset s.cal.caps k).bind with
    | none => leB 1 k ++ zeros 1 ++ leB 2 0xFFFF ++ zeros 4
    | some b => leB 1 k ++ zeros 1 ++ leB 2 b.1 ++ leB 1 b.2 ++ zeros 3) 0 64 c
  crcItems (fun f => baseBytes f (tabGet none s.cal.feeds f)) 0 768 c ^^^ Config.crcXor

/-- TWN_DIGEST (R313): 0 before an image runs, followed in STAGED, frozen from STAGE_COMMIT on. -/
def State.twnDigest (s : State) : Word := if !s.imageRuns || s.twn.frozen then s.twn.digest else s.twnDigestNow

/-- TWN_STATE_DIGEST (R313). -/
def State.twnStateDigest (s : State) : Word := if !s.imageRuns || s.twn.frozen then s.twn.stateDigest else s.twnStateNow

end Sys2Proof.Machine
end

