-- ==== Sys2Proof/Machine/Flags.lean ====
section
/-! DEFINITION. Every status, flag, count and measurement that a register shows, computed from the state: one view per block.
A view answers `none` at an offset that names no register. -/

namespace Sys2Proof.Machine

/-- A list of flags as a number, bit 0 first. -/
def flags : List Bool → Nat
  | [] => 0
  | b :: r => b2n b + 2 * flags r

/-- The code of a status word's mode and image bits (R545). -/
def State.sysStat (s : State) : Nat := s.sys.mode.num + 16 * b2n s.imageRuns

/-- SYS (R545). -/
def sysView (s : State) (off : Nat) : Option Nat :=
  regAt off [(0, 0x7680), (4, Config.hwRev.toNat + 65536 * Config.romVer.toNat), (8, s.sysStat), (0xC, s.sys.evt.toNat),
    (0x10, s.sys.rstSource + 256 * s.sys.rstReason), (0x14, s.sys.imageId), (0x18, s.sys.imageVer),
    (0x1C, Config.macBase.toNat % 2 ^ 32), (0x20, Config.macBase.toNat / 2 ^ 32), (0x24, s.sys.scratch.toNat),
    (0x28, s.sys.wdiscardCnt.toNat)]

/-- KEY (R546). -/
def keyView (s : State) (off : Nat) : Option Nat :=
  let k := s.key
  regOr (regAt off [(0, flags [k.cmdEn, k.rplEn]), (4, k.evt.toNat), (8, k.irqCount + 65536 * k.irqTimer), (0xC, k.udpPort),
    (0x10, k.cmdBaseLo.toNat), (0x14, k.cmdBaseHi.toNat), (0x18, k.cmdSize), (0x1C, k.cmdPi), (0x20, k.cmdCi),
    (0x30, k.rplBaseLo.toNat), (0x34, k.rplBaseHi.toNat), (0x38, k.rplSize), (0x3C, k.rplPi), (0x40, k.rplCi),
    (0x50, k.aseq.toNat), (0x60, k.cmdCnt.toNat), (0x64, k.refuseCnt.toNat), (0x68, k.rplDropCnt.toNat),
    (0x6C, k.repeatCnt.toNat), (0x70, k.denyCnt.toNat)])
  (regOr (regArr off 0x80 8 8 fun i => (tabGet (0, 0) k.allow i).1.toNat)
    (regArr off 0x84 8 8 fun i => (tabGet (0, 0) k.allow i).2))

/-- A hash register: bytes 4j to 4j + 3 of 48 bytes, byte 4j in the top place (R547). -/
def hashWord (h : Bytes) (j : Nat) : Nat := rdBE h (4 * j) 4

/-- BOOT_STAT.DRAM_OK: both channels trained (R367). -/
def State.dramOk (s : State) : Bool := s.ddr.trained0 && s.ddr.trained1

/-- IMG_STATUS.OFFSET, RESULT and the rest as BOOT shows them (R547). -/
def bootView (s : State) (off : Nat) : Option Nat :=
  let b := s.boot
  regOr (regAt off [(0, b.state.num + 16 * b.result + 256 * b.failedEng + 65536 * b2n s.dramOk), (4, b.offset),
    (8, b.received), (0xC, b.size), (0x10, b.wdiscardCnt.toNat)])
  (regOr (regArr off 0x40 4 12 fun j => Config.keyHash.toNat / 2 ^ (32 * (11 - j)) % 2 ^ 32)
    (regArr off 0x80 4 12 fun j => hashWord b.imgHash j))

/-- The number of QUEUED (R483). -/
def State.queuedNum (s : State) : Nat :=
  match s.pwr.queued with
  | none => 0
  | some q => if q.op = 0x910 then 1 else if q.op = 0x911 then 2 else 3

/-- PWR_STAT (R483). -/
def State.pwrStat (s : State) : Nat :=
  let p := s.pwr
  p.source + 4 * flags [p.aOk, p.bOk, p.holdupReady] + 32 * p.trans + 128 * s.queuedNum + 512 * b2n p.exercise.isSome
    + 65536 * p.domains

/-- PWR (R483). -/
def pwrView (s : State) (off : Nat) : Option Nat :=
  let p := s.pwr
  regAt off [(0, s.pwrStat), (4, p.evt.toNat), (8, 0), (0xC, p.aMv + 65536 * p.aMa), (0x10, p.bMv + 65536 * p.bMa),
    (0x14, p.holdupMv), (0x18, p.now + 65536 * p.max), (0x1C, p.minA + 65536 * p.minB), (0x20, p.rail + 16 * p.tries),
    (0x24, p.lastSwitch), (0x28, p.switchCnt.toNat), (0x2C, p.returnCnt.toNat), (0x30, p.holdupCnt.toNat),
    (0x34, p.exerciseCnt.toNat), (0x38, p.discardCnt.toNat)]

/-- CLK_PLLp (R458). -/
def Pll.word (p : Pll) : Nat := flags [p.lock, p.coast, p.freqErr, p.bypass, p.forced]

/-- CLK_GATEg.STATE (R458). -/
def GateState.num : GateState → Nat
  | .closed => 0
  | .opened => 1
  | .pending => 2

/-- CLK_GATEg (R458). -/
def Gate.word (g : Gate) : Nat := flags [g.run, g.sleep, g.deep] + 8 * g.st.num + 32 * b2n g.timeout

/-- The state of clock `p`. -/
def State.pll (s : State) (p : Nat) : Pll := getD' s.clk.plls p (Pll.reset 8)

/-- CLK_STAT (R458). -/
def State.clkStat (s : State) : Nat := b2n s.clk.xtalOk + 2 * flags (s.clk.plls.map (·.coast))

/-- CLK (R458). -/
def clkView (s : State) (off : Nat) : Option Nat :=
  regOr (regAt off [(0, s.clkStat), (4, s.clk.evt.toNat), (8, s.clk.forcedCnt.toNat), (0xC, s.clk.timeoutCnt.toNat)])
  (regOr (regArr off 0x40 4 9 fun p => (s.pll p).word)
    (regOr (regArr off 0x80 4 9 fun p => (s.pll p).khz) (regArr off 0x100 4 15 fun g => (s.gate g).word)))

/-- A PTP port sees the selected grandmaster (R443). -/
def State.seesGm (s : State) (p : PtpPort) : Bool := s.ptm.gm.isSome && p.ann.map (·.gm) == s.ptm.gm

/-- stepsRemoved of the selected grandmaster on the active port. -/
def State.gmSteps (s : State) : Nat :=
  match (if s.ptm.activeB then s.ptm.b else s.ptm.a).ann with
  | some a => if s.ptm.gm.isSome then min 255 a.steps else 0
  | none => 0

/-- PTM_STAT (R443). -/
def State.ptmStat (s : State) : Nat :=
  let p := s.ptm
  p.lock + 4 * flags [p.activeB, s.seesGm p.a, s.seesGm p.b, p.slewing, p.lostRec, p.swts, p.scene.isSome,
    (p.scene.map (·.strobe)).getD false, p.strobeLive] + 65536 * s.gmSteps

/-- PTM (R443). -/
def ptmView (s : State) (off : Nat) : Option Nat :=
  let p := s.ptm
  let gm := p.gm.getD 0
  regAt off [(0, s.ptmStat), (4, p.evt.toNat), (8, b2n p.swts), (0xC, s.time64 % 2 ^ 32), (0x10, s.time64 / 2 ^ 32),
    (0x14, code 32 p.offset), (0x18, code 32 p.freq), (0x1C, code 32 p.portDiff), (0x20, gm / 2 ^ 32 % 2 ^ 32),
    (0x24, gm % 2 ^ 32), (0x28, (Config.ptmLat false s.macA.speed).toNat), (0x2C, (Config.ptmLat true s.macB.speed).toNat),
    (0x30, p.phi % 2 ^ 17 + 2 ^ 17 * code 8 (clampI (-127) 127 p.dev)), (0x34, p.syncCnt.toNat), (0x38, p.lossCnt.toNat),
    (0x3C, p.stepCnt.toNat), (0x40, p.driftCnt.toNat)]

/-- Some enabled flow names the media port (R4, R399): an ingress entry that has it in PATHS, or any egress entry. -/
def State.flowNames (s : State) (port : Nat) : Bool :=
  s.net.flowOut.any (fun e => rd8 e.2 0 == 1) || s.net.flowIn.any fun e => rd8 e.2 0 == 1 && bit (rd8 e.2 5) port

/-- The module transmits on the media ports: the rendering modes and YIELDED (R9, R10, R391). -/
def State.mediaTx (s : State) : Bool := s.rendering || s.sys.mode == .yielded

/-- Low-power idle is allowed on the port (R415). -/
def State.lpiAllowed (s : State) (port : Nat) : Bool :=
  (s.mac port).eeeEn && (if port = 2 then true
    else if port < 2 then s.sys.mode == .awaitImage || s.sys.mode == .staged
      || (s.mediaTx && !s.flowNames port && (s.mac port).eeeAgreed)
    else false)

/-- The port's transmitter is in low-power idle: it entered, and may still be there. -/
def State.inLpi (s : State) (port : Nat) : Bool := (s.mac port).txLpi && s.lpiAllowed port

/-- MACx_STAT.SPEED (R418): MGMT runs at 1,000 Mb/s, HASP at 10 Gb/s. -/
def macSpeed (port : Nat) (m : MacSt) : Nat :=
  if !m.link then 0 else if port = 2 then 1 else if port < 2 && m.speed then 3 else 2

/-- The registers of one MAC (R418). -/
def macView (s : State) (port off : Nat) : Option Nat :=
  let m := s.mac port
  let ring (b : Nat) (r : HostRing) := [(b, r.baseLo.toNat), (b + 4, r.baseHi.toNat), (b + 8, r.size), (b + 12, r.pi), (b + 16, r.ci)]
  regOr (regAt off [(0, b2n m.link + 2 * macSpeed port m + 8 * flags [s.inLpi port, m.rxLpi, m.pausedTo.any (s.now < ·), m.eeeAgreed]),
    (4, flags [m.pauseEn, m.eeeEn, if port = 2 then s.sys.sgmii else m.speed]), (8, m.evt.toNat), (0xC, m.twUs), (0x10, m.rxFrame.toNat), (0x14, m.rxDrop.toNat),
    (0x18, m.rxFcs.toNat), (0x1C, m.rxNobuf.toNat), (0x20, m.rxVlan.toNat), (0x24, m.rxPause.toNat), (0x28, m.txFrame.toNat),
    (0x2C, m.txLate.toNat), (0x30, m.txNoarp.toNat), (0x34, m.lpi.toNat)])
  (if port = 2 then regAt off ((0x100, flags [s.net.hrx.en, s.net.htx.en]) :: (ring 0x104 s.net.hrx ++ ring 0x118 s.net.htx))
   else none)

/-- The class of a unit kind: 0 = O, 1 = H, 2 = D (R258). -/
def kindClass (k : Nat) : Nat := if k ≤ 2 ∨ k = 6 then 0 else if k = 4 ∨ k = 5 then 1 else 2

/-- Entries taken in a class (R259, R272). -/
def State.occupancy (s : State) (c : Nat) : Nat := (s.disp.queue.filter fun u => kindClass u.d.kind == c).length

/-- Units of a level that stand in a state. -/
def State.depth (s : State) (l : Nat) (st : UnitState) : Nat := (s.disp.queue.filter fun u => u.lvl == l && u.st == st).length

/-- The engine `k`. -/
def State.engine (s : State) (k : Nat) : Engine := getD' s.tap.engines k (Engine.reset 0)

/-- Change engine `k`. -/
def State.onEngine (s : State) (k : Nat) (f : Engine → Engine) : State :=
  { s with tap := { s.tap with engines := modAt s.tap.engines k f } }

/-- DISP (R275). -/
def dispView (s : State) (off : Nat) : Option Nat :=
  let d := s.disp
  regOr (regAt off [(0, b2n d.raised + 2 * (0xF0 + (15 - d.shed % 16))), (4, d.evt.toNat), (8, 0),
    (0xC, s.occupancy 0 + 2 ^ 12 * s.occupancy 1 + 2 ^ 22 * s.occupancy 2), (0x10, d.dispatchCnt.toNat),
    (0x14, d.refuseCnt.toNat), (0x18, d.refuseOutCnt.toNat), (0x1C, d.requeueCnt.toNat)])
  (regOr (regArr off 0x40 4 8 fun l => s.depth l .ready + 65536 * s.depth l .held)
    (regOr (regArr off 0x60 4 8 fun l => getD' d.waitLast l 0)
      (regOr (regArr off 0x80 4 8 fun l => getD' d.waitMax l 0)
        (regArr off 0x100 4 34 fun k => (s.engine k).loadLast + 65536 * (s.engine k).loadMax))))

/-- A fault record as 16 bytes (R289). -/
def FaultRec.bytes (r : FaultRec) : Bytes :=
  leB 8 r.time ++ leB 1 r.kind ++ leB 1 r.outcome ++ leB 2 r.source ++ leB 4 r.detail

/-- The fault record number `n`, as bytes; zeros where none was written. -/
def State.faultBytes (s : State) (n : Nat) : Bytes :=
  match tabGet none s.intg.log (n % 65536) with
  | some r => r.bytes
  | none => zeros 16

/-- The record `n` as the log in DRAM gives it: one whose line failed is marked damaged, the spec does not state how (R284). -/
def State.logBytes (s : State) (n : Nat) : Bytes :=
  if s.intg.damaged.contains (n % 65536) then leB 16 (Config.damagedRecord n).toNat else s.faultBytes n

/-- The number of the record in INTG_LOGi: the newest one whose number is `i` modulo 64 (R304). -/
def State.logSlot (s : State) (i : Nat) : Option Nat :=
  if s.intg.head = 0 then none
  else
    let n := s.intg.head - 1 - (s.intg.head - 1 + 64 - i) % 64
    if (s.intg.head - 1 + 64 - i) % 64 ≤ s.intg.head - 1 then some n else none

/-- INTG (R304). -/
def intgView (s : State) (off : Nat) : Option Nat :=
  let g := s.intg
  regOr (regAt off [(0, flags [s.sys.mode == .yielded, !g.homeless.isEmpty] + 256 * g.reason), (4, g.evt.toNat),
    (8, g.yieldTick % 2 ^ 32), (0xC, g.yieldTick / 2 ^ 32), (0x10, g.kick % 65536 + 65536 * 0x0FA0), (0x14, g.tj + 65536 * g.tjMax),
    (0x18, 0), (0x20, g.parityCnt.toNat), (0x24, g.residueCnt.toNat), (0x28, g.dramCrcCnt.toNat), (0x2C, g.dramLostCnt.toNat),
    (0x30, g.hardCnt.toNat), (0x34, g.selfCnt.toNat), (0x38, g.repairCnt.toNat), (0x40, g.head % 2 ^ 32)])
  (regArr off 0x400 4 256 fun j =>
    match s.logSlot (j / 4) with
    | some n => rd32 (s.faultBytes n) (4 * (j % 4))
    | none => 0)

/-- TWN_STAT (R329). -/
def State.twnStat (s : State) : Nat :=
  let t := s.twn
  t.state.num + 8 * flags [t.decider, t.id == 1, t.haspUp, t.netaUp, t.netbUp,
      t.state != .off && !t.haspUp && (t.netaUp || t.netbUp), t.join.isSome || t.state == .joining, (t.peer.map (·.ready)).getD false]
    + 65536 * ((t.peer.map (·.reason)).getD 0)

/-- TWN (R329). -/
def twnView (s : State) (off : Nat) : Option Nat :=
  let t := s.twn
  regAt off [(0, s.twnStat), (4, t.evt.toNat), (8, s.twnDigest.toNat), (0xC, ((t.peer.map Tumbler.digest).getD 0).toNat),
    (0x10, t.appliedHi), (0x14, t.mirrorCnt.toNat), (0x18, t.retxCnt.toNat), (0x1C, t.mismatchCnt.toNat),
    (0x20, t.missHaspCnt.toNat), (0x24, t.missNetaCnt.toNat), (0x28, t.missNetbCnt.toNat), (0x2C, s.twnStateDigest.toNat),
    (0x30, ((t.peer.map Tumbler.stateDigest).getD 0).toNat)]

/-- SCHED (R53). -/
def Sched.num : Sched → Nat
  | .idle => 0
  | .onTime => 1
  | .late => 2

/-- RND_STAT.PAUSE (R53). -/
def State.pauseNum (s : State) : Nat :=
  match s.rnd.dir with
  | .down => if s.rnd.level = 0 then 2 else 1
  | .up => if s.rnd.level = 64 then 0 else 3
  | .hold => if s.rnd.level = 0 then 2 else 0

/-- Spares that are free: E32 and E33 in state SPARE (R19, R256). -/
def State.freeSpares (s : State) : List Nat :=
  [32, 33].filter fun k => (s.engine k).st != .failed && (s.engine k).shard.isNone && !s.rnd.moves.any fun m => m.2 == k

/-- RND (R53). -/
def rndView (s : State) (off : Nat) : Option Nat :=
  let r := s.rnd
  regOr (regAt off [(0, b2n r.rate96 + 0x201000),
    (4, r.sched.num + 16 * r.shed + 256 * s.pauseNum + 1024 * s.freeSpares.length +
      4096 * (match r.pend with | none => 0 | some p => if p.resume then 2 else 1)),
    (8, r.lastTick % 2 ^ 32), (0xC, r.lastTick / 2 ^ 32), (0x10, r.margin + 256 * r.minMargin + 65536 * min 255 r.episode),
    (0x14, r.evt.toNat), (0x18, r.lateCnt.toNat), (0x1C, r.underrunCnt.toNat), (0x20, r.recompCnt.toNat),
    (0x24, r.migrateCnt.toNat), (0x28, 0)])
  (regArr off 0x100 4 32 fun k => getD' r.shardEng k 0 + 256 * b2n (getD' r.moved k false))

/-- The objects of the configured rate. -/
def State.objNums (s : State) : List Nat := List.range (objCount s.rnd.rate96)

/-- OBJ (R93). -/
def objView (s : State) (off : Nat) : Option Nat :=
  let o := s.obj
  let st := s.objNums.map fun i => (s.objCtx i).state
  regAt off [(0, (st.filter (· == 1)).length + 2 ^ 10 * (st.filter (2 ≤ ·)).length +
      2 ^ 20 * ((List.range 128).filter fun b => (s.bedCtx b).acid != 0).length),
    (4, o.evt.toNat), (8, o.acceptCnt.toNat), (0xC, o.lateCnt.toNat), (0x10, o.staleCnt.toNat), (0x14, o.dropCnt.toNat),
    (0x18, o.unsupCnt.toNat)]

/-- The current layout records. -/
def State.layouts (s : State) : List LayoutRec := (List.range 16).map (layoutRec s.pan.image)

/-- PAN (R127). -/
def panView (s : State) (off : Nat) : Option Nat :=
  let p := s.pan
  regOr (regAt off [(0, (s.layouts.filter fun r => r.count != 0).length + 256 * sumN (s.layouts.map (·.count))),
    (4, sumN (s.layouts.map (·.facetCount))), (8, p.evt.toNat), (0xC, p.slewCnt.toNat), (0x10, p.walkCnt.toNat),
    (0x14, min p.geomLast 0x3FFFF), (0x18, min p.geomMax 0x3FFFF), (0x1C, p.kernelId + 0x10000000), (0x20, 0)])
  (regArr off 0x100 4 16 fun l => let v := tabGet (0, false) p.soundSeen l; v.1 + 2 ^ 19 * b2n v.2)

/-- The ingress term in force; outside the rendering modes the 125 µs value (R159). -/
def State.ingress (s : State) : Nat := if s.rendering then s.rte.ingress else ingressTerm s.rnd.rate96 0

/-- FIXED_125 (R153, R159). -/
def State.fixed125 (s : State) : Nat := 64 + s.ingress + packetSamples s.rnd.rate96 0

/-- FIXED_DAC (R159, R512). -/
def State.fixedDac (s : State) : Nat := 84 + s.ingress

/-- The cost of the current program (R145, R159). -/
def State.costCur (s : State) : Nat :=
  if s.rte.graph then (routeScan s.rnd.rate96 (s.prog s.rte.bank)).cost else xpCost

/-- RTE (R159). -/
def rteView (s : State) (off : Nat) : Option Nat :=
  let r := s.rte
  regAt off [(0, flags [r.graph, r.bank == 1] + 4 * (match r.hinge, r.pend with
        | none, none => 0 | none, some _ => 1 | some _, none => 2 | some _, some _ => 3) + 16 * b2n r.frozen +
      256 * (if r.graph then (routeScan s.rnd.rate96 (s.prog r.bank)).segs else 0)),
    (4, s.ingress + 256 * s.fixed125 + 65536 * s.fixedDac), (8, s.costCur),
    (0xC, if r.frozen then (routeScan s.rnd.rate96 r.staging).cost else 0), (0x10, routeBudget s.rnd.rate96), (0x14, r.evt.toNat),
    (0x18, r.satCnt.toNat), (0x1C, r.hingeCnt.toNat), (0x20, r.wdiscardCnt.toNat)]

/-- The correction state of a feed. -/
def State.feedCor (s : State) (f : Nat) : FeedCor := tabGet FeedCor.reset s.cor.feeds f

/-- A pending request names the feed. -/
def State.corPending (s : State) (f : Nat) : Bool := s.cor.pend.any fun r => r.feeds.contains f

/-- The feed's incoming bank is frozen (R178): a request for it is pending or fading. -/
def State.corFrozen (s : State) (f : Nat) : Bool := s.corPending f || (s.feedCor f).hinge.isSome

/-- COR_FSTAT.HINGE (R186). -/
def State.corHinge (s : State) (f : Nat) : Nat := b2n (s.corPending f) + 2 * b2n (s.feedCor f).hinge.isSome

/-- The fold groups in which a feed is target, and member. -/
def State.foldRoles (s : State) (f : Nat) : Bool × Bool × Nat :=
  s.cor.folds.foldl (fun acc e => match e.2 with
    | none => acc
    | some g => if g.target = f then (true, acc.2.1, e.1) else if g.members.contains f then (acc.1, true, e.1) else acc) (false, false, 0)

/-- COR_FSTATf (R186). -/
def State.corStat (s : State) (f : Nat) : Nat :=
  let r := s.foldRoles f
  b2n ((s.feedCor f).bank == 1) + 2 * s.corHinge f + 8 * flags [s.corFrozen f, f % 2 == 0 && bit s.cor.longMask (f / 2),
    f % 2 == 1 && bit s.cor.longMask (f / 2), r.1, r.2.1, (s.feedCor f).dirty] + 512 * r.2.2

/-- COR (R186). -/
def corView (s : State) (off : Nat) : Option Nat :=
  let c := s.cor
  regOr (regAt off [(0, ((List.range 384).filter fun m => bit c.longMask m).length + 2 ^ 10 * (c.folds.filter (·.2.isSome)).length +
      2 ^ 17 * c.pend.length), (4, c.evt.toNat), (8, c.satCnt.toNat), (0xC, c.hingeCnt.toNat), (0x10, c.supersedeCnt.toNat),
    (0x14, c.wdiscardCnt.toNat), (0x18, c.prepLateCnt.toNat)])
  (regOr (regArr off 0x1000 4 768 s.corStat) (regArr off 0x2000 4 768 fun f => code 32 (s.feedCor f).gainSeen))

/-- CAL_STAT.STATE (R220). -/
def State.calState (s : State) : Nat :=
  match s.sys.mode with
  | .liveProbe => 1
  | .sweep => 2
  | .paused => b2n (s.rnd.retMode == .liveProbe || s.rnd.coastLive) * 3
  | .renderCoast => b2n s.rnd.coastLive * 3
  | _ => 0

/-- A capture channel. -/
def State.cap (s : State) (c : Nat) : CapChan := tabGet CapChan.reset s.cal.caps c

/-- CAL_CAPc (R220). -/
def CapChan.word (c : CapChan) : Nat :=
  flags [c.bind.isSome, c.live, c.clip] + 8 * ((c.bind.map (·.1)).getD 0) + 2 ^ 13 * ((c.bind.map (·.2)).getD 0)

/-- CAL (R220). -/
def calView (s : State) (off : Nat) : Option Nat :=
  let c := s.cal
  regOr (regAt off [(0, s.calState + 4 * (c.feeds.filter (·.2.isSome)).length + 2 ^ 12 * (c.caps.filter (·.2.bind.isSome)).length +
      2 ^ 19 * (s.cor.pend.filter (·.cal.isSome)).length), (4, c.evt.toNat), (8, c.seq), (0xC, c.blockCnt.toNat), (0x10, c.rejectCnt.toNat),
    (0x14, c.abandonCnt.toNat), (0x18, c.adoptCnt.toNat), (0x1C, c.vetoCnt.toNat), (0x20, c.clipCnt.toNat)])
  (regArr off 0x100 4 64 fun i => (s.cap i).word)

/-- TAP_STAT.STATE (R256). -/
def EngState.num : EngState → Nat
  | .idle => 0
  | .run => 1
  | .halt => 2
  | .failed => 3
  | .spare => 4

/-- One engine's registers (R256). -/
def engView (e : Engine) (off : Nat) : Option Nat :=
  regAt off [(0, e.st.num + 256 * (e.shard.getD 0x3F) + 65536 * e.slot), (4, e.evt.toNat), (8, e.chk.toNat), (0xC, e.unitCnt.toNat),
    (0x10, e.faultCnt.toNat), (0x14, e.stallCnt.toNat), (0x18, e.kovrCnt.toNat), (0x1C, e.inj.toNat)]

/-- TAP, engine windows and common registers (R256); `off` counts from 0x0020_0000. -/
def tapView (s : State) (off : Nat) : Option Nat :=
  if off < 0x22000 then engView (s.engine (off / 0x1000)) (off % 0x1000)
  else if off < 0x28000 then none
  else
    let t := s.tap
    regOr (regAt (off - 0x28000) [(0, b2n t.testEn + 0x202200), (4, t.en + 256 * b2n t.refused)])
      (regArr (off - 0x28000) 0x10 4 4 fun i =>
        let k := getD' t.kslots i { loaded := false, disabledOvr := false, budget := 0, overruns := 0 }
        flags [k.loaded, bit t.en i, k.disabledOvr] + 65536 * k.budget)

/-- DDR (R502). -/
def ddrView (s : State) (off : Nat) : Option Nat :=
  let d := s.ddr
  regOr (regAt off [(0, flags [d.trained0, d.trained1, d.setpoint, d.selfRefresh] + 256 * code 5 d.debt0 + 2 ^ 13 * code 5 d.debt1 +
      2 ^ 18 * d.rate), (4, d.evt.toNat), (8, 0), (0xC, d.tries0 + 4 * d.tries1 + 16 * d.step0 + 256 * d.step1 + 65536 * d.ms),
    (0x10, d.crc0.toNat), (0x14, d.crc1.toNat), (0x18, d.poison.toNat), (0x1C, d.promote.toNat), (0x20, d.forcedRef.toNat),
    (0x24, d.scrub.toNat)])
  (regArr off 0x40 4 4 fun c => if s.now = d.latClr then 0 else (Config.dramLatency d.latClr s.now c).toNat)

/-- A fabric error record as 16 bytes (R503). -/
def FabErr.bytes (e : FabErr) : Bytes :=
  leB 4 e.addr ++ leB 1 e.hi ++ leB 1 e.master ++ leB 1 (e.id % 64 + 64 * b2n e.write) ++ leB 1 e.code ++ leB 4 e.ts ++ zeros 4

/-- FAB (R503). -/
def fabView (s : State) (off : Nat) : Option Nat :=
  let f := s.fab
  regOr (regAt off [(0, f.drain), (4, f.evt.toNat), (8, f.head % 2 ^ 32), (0xC, f.wdiscard.toNat), (0x10, f.gated.toNat),
    (0x14, f.off.toNat), (0x18, f.unmap.toNat), (0x1C, f.timeout.toNat), (0x20, f.rst.toNat)])
  (regArr off 0x100 4 64 fun j => match tabGet none f.errs (j / 4) with
    | some e => rd32 e.bytes (4 * (j % 4))
    | none => 0)

/-- The running span change of a channel, and its pending one (R515). -/
def State.spanOf (s : State) (n : Nat) (running : Bool) : Option SpanReq :=
  s.dac.reqs.find? fun r => bit r.mask n && ((r.phase != 0) == running)

/-- DAC_CHn.RAMP (R522): 1 falling, 2 at zero, 3 rising, by the sample index in force. -/
def State.dacRamp (s : State) (n : Nat) : Nat :=
  match s.spanOf n true with
  | none => 0
  | some r => if r.phase = 3 then 3 else if 16 * s.tick < 16 * r.start + 64 then 1 else 2

/-- DAC_CHn (R522). -/
def State.dacCh (s : State) (n : Nat) : Nat :=
  let c := getD' s.dac.chans n DacCh.reset
  let p := s.spanOf n false
  c.feed.getD 0 + 2 ^ 10 * b2n c.feed.isSome + 2 ^ 11 * c.span + 2 ^ 13 * s.dacRamp n + 2 ^ 15 * b2n p.isSome +
    2 ^ 16 * ((p.map (·.span)).getD 0)

/-- DAC_STAT (R522). -/
def State.dacStat (s : State) : Nat := flags [s.dac.clamped, s.dac.running]

/-- DAC_GRPg (R522). -/
def State.dacGrp (s : State) (g : Nat) : Nat :=
  if g = 0 then b2n s.dac.frame0 + 256 * code 10 s.dac.eps0 else b2n s.dac.frame1 + 256 * code 10 s.dac.eps1

/-- DAC (R522). -/
def dacView (s : State) (off : Nat) : Option Nat :=
  regOr (regAt off [(0, s.dacStat), (4, s.dac.evt.toNat), (8, s.dac.spanCnt.toNat), (0xC, s.dac.modrstCnt.toNat),
    (0x10, s.dacGrp 0), (0x14, s.dacGrp 1)])
  (regArr off 0x40 4 16 s.dacCh)

/-- The reset value of a deadbolt-class register (R291, R550); `none` where the offset names none. -/
def dbltDflt (off : Nat) : Option Nat :=
  regOr (regAt off [(0xC, 0x01044914), (0x10, 0), (0x14, 0), (0x18, 0)])
  (regOr (regArr off 0x1000 4 768 fun _ => 0x7FFFFFFF) (regOr (regArr off 0x2000 4 768 fun _ => 0x7FFFFFFF)
    (regOr (regArr off 0x3000 4 768 fun _ => 0x0147AE14) (regOr (regArr off 0x4000 4 768 fun _ => 0)
      (regArr off 0x8000 4 2048 fun _ => 0)))))

/-- The value of a deadbolt-class register. -/
def State.dbltGet (s : State) (off : Nat) : Nat :=
  (tabGet (wd ((dbltDflt off).getD 0)) s.dblt.settings off).toNat

/-- The pin MOD_RUN_N is driven low: in the modes in which ticks run, whatever the twin state (R532). In every other mode, and without
power (COLD), it is released. -/
def State.modRunLow (s : State) : Bool := s.rendering

/-- The running deadbolt state of a feed. -/
def State.dbFeed (s : State) (f : Nat) : DbFeed := tabGet DbFeed.reset s.dblt.feeds f

/-- DBLT (R548, R550). -/
def dbltView (s : State) (off : Nat) : Option Nat :=
  let d := s.dblt
  regOr (regAt off [(0, flags [d.locked, s.sys.mode == .staged && !d.locked] + 4 * (d.feeds.filter (·.2.held)).length),
    (4, d.evt.toNat), (8, d.digest.toNat), (0x20, d.lockedWrCnt.toNat), (0x24, d.rangeCnt.toNat), (0x28, d.probeCnt.toNat),
    (0x2C, d.dcCnt.toNat), (0x30, d.riseCnt.toNat), (0x34, d.ceilCnt.toNat), (0x38, d.wlDropA.toNat), (0x3C, d.wlDropB.toNat),
    (0x40, d.capDropA.toNat), (0x44, d.capDropB.toNat)])
  (regOr (regArr off 0x5000 4 768 fun f => let x := s.dbFeed f; flags [x.held, decide (x.m < 64), x.blocked, x.guard])
    ((dbltDflt off).map fun _ => s.dbltGet off))

/-- The blocks of BAR0 (R539): base, length, domain, gate (15 = none) and number. -/
def bar0Blocks : List (Nat × Nat × Nat × Nat × Nat) :=
  [(0x000000, 0x10000, 1, 15, 0), (0x010000, 0x10000, 1, 15, 1), (0x020000, 0x10000, 1, 15, 2), (0x030000, 0x10000, 0, 15, 3),
   (0x040000, 0x10000, 0, 15, 4), (0x050000, 0x10000, 1, 10, 5), (0x060000, 0x10000, 5, 4, 6), (0x070000, 0x10000, 6, 5, 7),
   (0x080000, 0x10000, 1, 6, 8), (0x090000, 0x10000, 7, 7, 9), (0x0A0000, 0x10000, 3, 2, 10), (0x0B0000, 0x10000, 1, 15, 11),
   (0x0C0000, 0x10000, 1, 15, 12), (0x100000, 0x10000, 1, 15, 13), (0x110000, 0x10000, 1, 15, 14), (0x120000, 0x10000, 1, 15, 15),
   (0x130000, 0x10000, 1, 15, 16), (0x140000, 0x10000, 1, 15, 17), (0x150000, 0x10000, 1, 15, 18), (0x200000, 0x29000, 3, 0, 19),
   (0x300000, 0x10000, 4, 3, 20), (0x310000, 0x10000, 1, 15, 21), (0x320000, 0x10000, 8, 9, 22), (0x330000, 0x10000, 2, 13, 23)]

/-- The block of a BAR0 address. -/
def bar0Block (a : Nat) : Option (Nat × Nat × Nat × Nat × Nat) :=
  bar0Blocks.find? fun b => decide (b.1 ≤ a ∧ a < b.1 + b.2.1)

/-- The view of a block by number. -/
def blockView (s : State) (blk off : Nat) : Option Nat :=
  if blk = 0 then sysView s off else if blk = 1 then keyView s off else if blk = 2 then bootView s off
  else if blk = 3 then pwrView s off else if blk = 4 then clkView s off else if blk = 5 then ptmView s off
  else if blk ≤ 9 then macView s (blk - 6) off else if blk = 10 then dispView s off else if blk = 11 then intgView s off
  else if blk = 12 then twnView s off else if blk = 13 then rndView s off else if blk = 14 then objView s off
  else if blk = 15 then panView s off else if blk = 16 then rteView s off else if blk = 17 then corView s off
  else if blk = 18 then calView s off else if blk = 19 then tapView s off else if blk = 20 then ddrView s off
  else if blk = 21 then fabView s off else if blk = 22 then dacView s off else dbltView s off

/-- How an access to a BAR0 address is answered: its response code (R498), or `none` while a closing gate holds it (R456). -/
def State.bar0Code (s : State) (a : Nat) : Option Nat :=
  match bar0Block a with
  | none => some 2
  | some (base, _, dom, g, blk) =>
    if !s.domainOn dom then some 4
    else if (s.sys.mode == .cold || s.sys.mode == .awaitImage) && decide (4 < blk) then some 3
    else if g < 15 && (s.gate g).st == .closed then some 3
    else if g < 15 && (s.gate g).st == .pending then none
    else if (blockView s blk (a - base)).isNone || a % 4 != 0 then some 2
    else some 0

/-- The value of the register at a BAR0 address; 0 where there is none. -/
def State.readReg (s : State) (a : Nat) : Nat :=
  match bar0Block a with
  | none => 0
  | some (base, _, _, _, blk) => (blockView s blk (a - base)).getD 0

/-- What a host read over PCIe returns (R500), and the state after it: an error is recorded and the data is all ones. -/
def State.hostRead (s : State) (a id : Nat) : Nat × State :=
  match s.bar0Code a with
  | some 0 => (s.readReg a % 2 ^ 32, s)
  | some c => (0xFFFFFFFF, s.fabErr { addr := a, hi := 0xB0, master := 12, id, write := false, code := c, ts := s.ts32 })
  | none => (s.readReg a % 2 ^ 32, s)

end Sys2Proof.Machine
end

