-- ==== Sys2Proof/Machine/Crc.lean ====
section
/-! DEFINITION. The deadbolt's settings and their digest (R291, R292, R549, R550). -/

namespace Sys2Proof.Machine

/-- The offsets of the settings in the order of R550. -/
def dbltOrder : List Nat :=
  [0xC, 0x10, 0x14, 0x18] ++ ([0x1000, 0x2000, 0x3000, 0x4000].map fun b => (List.range 768).map fun f => b + 4 * f).flatten
    ++ (List.range 2048).map fun i => 0x8000 + 4 * i

/-- The CRC-32C of the settings that `f` gives, without an initial value and a final exclusive-or. -/
def dbltCrc (f : Nat → Nat) : Word := crcRun 0 ((dbltOrder.map fun o => leB 4 (f o)).flatten)

/-- DBLT_DIGEST of the settings (R550). Over words of a fixed number, the initial value and the final exclusive-or of a CRC together
add one constant; the stated digest of the reset settings gives it. -/
def State.dbltDigest (s : State) : Word := 0x6C492E5F ^^^ dbltCrc (fun o => (dbltDflt o).getD 0) ^^^ dbltCrc s.dbltGet

/-- A value is in the range of a deadbolt-class register; reserved bits must be 0 (R291, R549). -/
def dbltInRange (off v : Nat) : Bool :=
  if off = 0xC then decide (1 ≤ v ∧ v ≤ 17058068)
  else if off = 0x10 ∨ off = 0x14 then decide (v = 0 ∨ (100 ≤ v ∧ v ≤ 25000))
  else if off = 0x18 then decide (v ≤ 1)
  else if off < 0x4000 then decide (v ≤ 0x7FFFFFFF)
  else if off < 0x8000 then decide (v ≤ 15)
  else if off % 8 = 0 then decide (v < 2 ^ 32)
  else decide (v ≤ 65535)

/-- Apply a setting. -/
def State.dbltSet (s : State) (off v : Nat) : State :=
  let s := { s with dblt := { s.dblt with settings := tabSet (wd ((dbltDflt off).getD 0)) s.dblt.settings off (wd v) } }
  { s with dblt := { s.dblt with digest := s.dbltDigest } }

/-- A PCIe write to a deadbolt-class register (R549). -/
def State.dbltPcie (s : State) (off v : Nat) : State :=
  if s.sys.mode = .staged && !s.dblt.locked then
    if dbltInRange off v then s.dbltSet off v
    else { s with dblt := { s.dblt with rangeCnt := s.dblt.rangeCnt + 1, evt := setBit s.dblt.evt 8 } }
  else { s with dblt := { s.dblt with lockedWrCnt := s.dblt.lockedWrCnt + 1, evt := setBit s.dblt.evt 7 } }

end Sys2Proof.Machine
end

