-- ==== Sys2Proof/Machine/Operands.lean ====
section
/-! DEFINITION. The operand forms of a command: its parameters, its WHEN in the three forms, and the boundary it resolves to
(R65 to R68, R330, R440, R441). -/

namespace Sys2Proof.Machine

/-- A command as its own rules see it: opcode, parameters, WHEN, where the reply goes, and, for a mirrored command, the
boundary that the decider resolved (R317). -/
structure CmdIn where
  op : Nat
  body : Bytes
  form : Nat
  when : Nat
  ref : ReplyRef
  mirror : Option Nat

/-- The sample index of line `l` of frame `f` (R437). -/
def State.sceneSample (s : State) (sc : Scene) (f l : Nat) : Nat :=
  ceilDiv ((f * sc.lines + l) * sc.den * s.fs) (sc.num * sc.lines) + s.ptm.phi

/-- The sample index that a non-zero WHEN names (R440); `none` where it names none. -/
def State.whenSample (s : State) (form w : Nat) : Option Nat :=
  if form = 0 then some (ceilDiv (w * s.fs) 1000000000)
  else if form = 1 then some w
  else match s.ptm.scene with
    | none => none
    | some sc => if sc.lines ≤ w % 65536 then none else some (s.sceneSample sc (w / 65536) (w % 65536))

/-- The tick of a sample index's boundary (R440). -/
def tickOf (m : Nat) : Nat := ceilDiv m 16

/-- The first boundary of a tick index above the present one that lies at least `cut` samples ahead in media time. -/
def State.firstAhead (s : State) (cut : Nat) : Nat :=
  max (s.tick + 1) (ceilDivI (s.media * s.fs + cut * 1000000000) 16000000000).toNat

/-- The first boundary whose metadata cutoff has not passed (R66, R68). -/
def State.firstCut (s : State) : Nat := s.firstAhead (if s.withTwin then 20 else 4)

/-- The first boundary for a pause or a resume (R44): the next one; with a twin, the first that can be mirrored. -/
def State.firstNext (s : State) : Nat := if s.withTwin then s.firstAhead 20 else s.tick + 1

/-- What a WHEN resolves to. -/
inductive Bnd where
  | ok (n : Nat)
  | late
  | bad
  deriving DecidableEq, Repr

/-- The boundary of a command whose first admissible boundary is `first`. -/
def State.boundary (s : State) (c : CmdIn) (first : Nat) : Bnd :=
  match c.mirror with
  | some n => .ok n
  | none =>
    if c.when = 0 then .ok first
    else match s.whenSample c.form c.when with
      | none => .bad
      | some m => if tickOf m < first then .late else .ok (tickOf m)

/-- The boundary against which R559 judges a command's case, before the check for LATE. -/
def State.judged (s : State) (c : CmdIn) (first : Nat) : Option Nat :=
  match c.mirror with
  | some n => some n
  | none => if c.when = 0 then some first else (s.whenSample c.form c.when).map tickOf

/-- A range check. -/
def inRange (lo hi x : Int) : Bool := decide (lo ≤ x ∧ x ≤ hi)

/-- The items of a list of `n` entries of `k` bytes from offset `i`. -/
def entries (p : Bytes) (i k n : Nat) : List Bytes := (List.range n).map fun j => slice p (i + k * j) k

/-- No two numbers of a list are equal. -/
def distinct : List Nat → Bool
  | [] => true
  | x :: r => !r.contains x && distinct r

end Sys2Proof.Machine
end

