-- ==== Sys2Proof/Machine/Wire.lean ====
section
/-! DEFINITION. Sending on the ports: the deadbolt's port guards (R300, R301), address resolution (R391) and twin messages
(R309, R310). -/

namespace Sys2Proof.Machine

/-- A multicast or broadcast IPv4 address: no ARP entry is needed. -/
def isMulticast (ip : Nat) : Bool := decide (224 * 2 ^ 24 ≤ ip)

/-- The destination is in the whitelist (R300). -/
def State.whitelisted (s : State) (dst dport : Nat) : Bool :=
  (List.range 1024).any fun i =>
    let a := s.dbltGet (0x8000 + 8 * i)
    let p := s.dbltGet (0x8004 + 8 * i)
    a != 0 && a == dst && (p == 0 || p == dport)

/-- BWCAP of a media port (R291). -/
def State.bwCap (s : State) (port : Nat) : Nat := s.dbltGet (if port = 0 then 0x10 else 0x14)

/-- The tokens of a media port now, in 1/8,000 byte (R301): BWCAP Mb/s is BWCAP / 8,000 bytes per ns. -/
def State.tokens (s : State) (port : Nat) : Nat :=
  let (tok, fill) := if port = 0 then (s.dblt.tokA, s.dblt.fillA) else (s.dblt.tokB, s.dblt.fillB)
  min (65536 * 8000) (tok + s.bwCap port * (s.now - fill))

/-- Set the tokens of a media port. -/
def State.setTokens (s : State) (port tok : Nat) : State :=
  { s with dblt := if port = 0 then { s.dblt with tokA := tok, fillA := s.now } else { s.dblt with tokB := tok, fillB := s.now } }

/-- Count a whitelist drop (R300). -/
def State.wlDrop (s : State) (port : Nat) : State :=
  let d := { s.dblt with evt := setBit s.dblt.evt 5 }
  { s with dblt := if port = 0 then { d with wlDropA := d.wlDropA + 1 } else { d with wlDropB := d.wlDropB + 1 } }

/-- Count a cap drop (R301). -/
def State.capDrop (s : State) (port : Nat) : State :=
  let d := { s.dblt with evt := setBit s.dblt.evt 6 }
  { s with dblt := if port = 0 then { d with capDropA := d.capDropA + 1 } else { d with capDropB := d.capDropB + 1 } }

/-- The port guards for a frame of `len` bytes: whether it passes. PTP, IGMP and ARP are exempt from the whitelist; a PTP
message is always sent and takes the tokens it finds. -/
def State.portGuard (s : State) (port dst dport len : Nat) (exempt ptp : Bool) : Bool × State :=
  if 2 ≤ port then (true, s)
  else if bit (s.dbltGet 0x18) 0 && !exempt && !s.whitelisted dst dport then (false, s.wlDrop port)
  else if s.bwCap port = 0 then (true, s)
  else
    let tok := s.tokens port
    if ptp then (true, s.setTokens port (tok - min tok (len * 8000)))
    else if tok < len * 8000 then (false, (s.setTokens port tok).capDrop port)
    else (true, s.setTokens port (tok - len * 8000))

/-- The next hop of an address: itself inside the port's subnet, otherwise the gateway (R390). -/
def MacSt.hop (m : MacSt) (dst : Nat) : Nat :=
  if m.gateway = 0 || dst / 2 ^ (32 - m.prefixLen) == m.ip / 2 ^ (32 - m.prefixLen) then dst else m.gateway

/-! The ports and what stands in a transmit queue (R389, R392, R396). -/

/-- The port's MAC works: its domain is on and its gate open (R369, R455, R467). -/
def State.portOpen (s : State) (port : Nat) : Bool :=
  let d := getD' [(5, 4), (6, 5), (1, 6), (7, 7)] port (1, 6)
  decide (port < 4) && s.domainOn d.1 && (s.gate d.2).st == .opened && s.sys.mode != .cold && s.sys.mode != .deepSleep && !s.pwr.off

/-- The MAC address of a port (R389). -/
def portMac (port : Nat) : Nat := Config.macBase.toNat + port

/-- The frame carries a tag (R392). -/
def State.tagged (s : State) (f : TxFrame) : Bool := f.vlan < 64 && tabGet 0 s.net.vlan f.vlan % 4096 != 0

/-- The TCI of the frame's tag: PCP, and VID (R392). -/
def State.tci (s : State) (f : TxFrame) : Option Nat :=
  let e := tabGet 0 s.net.vlan f.vlan
  if s.tagged f then some (8192 * (e / 4096) + e % 4096) else none

/-- The length of a UDP datagram's frame from destination address to FCS. -/
def udpLen (n : Nat) (tagged : Bool) : Nat := max (64 + 4 * b2n tagged) (46 + n + 4 * b2n tagged)

/-- The length of a frame from destination address to FCS. -/
def TxFrame.len (f : TxFrame) (tagged : Bool) : Nat :=
  match f.own with
  | some (.twin _ _ n _) => udpLen n tagged
  | some (.icmp b) => udpLen b.length tagged
  | some (.delayReq _) => 90 + 4 * b2n tagged
  | some _ => 64 + 4 * b2n tagged
  | none => if f.dst = 0 then max 64 (f.body.length + 4 + 4 * b2n tagged) else udpLen f.body.length tagged

/-- The frame is a PTP message (R301). -/
def TxFrame.ptp (f : TxFrame) : Bool := match f.own with | some (.delayReq _) => true | _ => false

/-- The frame is exempt from the whitelist: PTP, IGMP and ARP (R300). -/
def TxFrame.exempt (f : TxFrame) : Bool :=
  match f.own with
  | some (.delayReq _) | some (.igmp ..) | some (.arp ..) => true
  | _ => false

/-- The EtherType of a host frame, behind a tag that the host has written (R394). -/
def etherType (b : Bytes) : Nat := if rdBE b 12 2 = 0x8100 then rdBE b 16 2 else rdBE b 12 2

/-- A frame waits in its queue; on a media port only once the module may transmit there (R10). -/
def State.post (s : State) (port : Nat) (f : TxFrame) : State :=
  if (s.mac port).link && s.portOpen port && (decide (2 ≤ port) || s.mediaTx) then s.queueFrame port f else s

/-- A frame has been received on a port (R418). -/
def State.rxCount (s : State) (port : Nat) : State := s.onMac port fun m => { m with rxFrame := m.rxFrame + 1 }

/-- A received frame is dropped (R388, R393). -/
def State.rxDropped (s : State) (port : Nat) : State := s.onMac port fun m => { m with rxDrop := m.rxDrop + 1 }

/-- Ask for the address of a next hop, at most once per second (R391). -/
def State.askArp (s : State) (port ip : Nat) : State :=
  let ask (s : State) : State :=
    (s.onMac port fun m => { m with asked := tabSet none m.asked ip (some s.now) }).post port (.made 3 0 0 (.arp true ip))
  match tabGet none (s.mac port).asked ip with
  | some t => if s.now < t + 1000000000 then s else ask s
  | none => ask s

/-- The destination needs no ARP entry, or has one (R391). -/
def State.resolved (s : State) (port dst : Nat) : Bool :=
  isMulticast dst || (tabGet none (s.mac port).arp ((s.mac port).hop dst)).isSome

/-- A frame without an ARP entry is dropped and counted, and the address asked for (R391). -/
def State.noArp (s : State) (port dst : Nat) : State :=
  (s.onMac port fun m => { m with txNoarp := m.txNoarp + 1 }).askArp port ((s.mac port).hop dst)

/-- The egress timestamp of a frame that starts now (R425, R433): on a media port the egress constant, in 1/16 ns, refers it to the
connector. -/
def State.txStamp (s : State) (port : Nat) : Nat :=
  code 32 (s.media + if port < 2 then (Config.ptmLat (port == 1) (s.mac port).speed).toNat / 65536 / 16 else (0 : Nat))

/-- Start a frame on a port: the ARP entry (R391), no IPv6 (R388), the guards, the count. The flag tells whether it left. -/
def State.startFrame (s : State) (port : Nat) (f : TxFrame) : Bool × State :=
  if f.dst != 0 && !s.resolved port f.dst then (false, (s.noArp port f.dst).emit (.dropped port f))
  else if f.slot.isSome && etherType f.body == 0x86DD then (false, s.emit (.dropped port f))
  else
    let (pass, s') := s.portGuard port f.dst f.dport (f.len (s.tagged f)) f.exempt f.ptp
    if pass then
      (true, (s'.onMac port fun m => { m with txFrame := m.txFrame + 1, txLpi := false }).emit
        (.frame port (portMac port) (s.tci f) f (s.txStamp port)))
    else (false, s'.emit (.dropped port f))

/-! The twins' messages (R309, R310). -/

/-- The partner's address on HASP (R390). -/
def State.haspPeer (s : State) : Nat := 169 * 2 ^ 24 + 254 * 2 ^ 16 + 77 * 256 + 2 - s.twn.id

/-- A twin message with its number waits in the queue of a path: the hasp-mirror queue, or, for SNAPSHOT, queue 1 (R396). -/
def State.postOn (s : State) (path : TwinPath) (seq : Nat) (m : TwinMsg) (n : Nat) : State :=
  let go (port dst : Nat) : State :=
    if dst = 0 then s else s.post port (.made (if m.type = 7 then 1 else 4) dst s.twn.port (.twin path seq n m))
  match path with
  | .hasp => go 3 s.haspPeer
  | .netA => go 0 s.twn.peerA
  | .netB => go 1 s.twn.peerB

/-- Messages of types 2 to 6 travel on HASP while it is up, otherwise as unicast on both media ports (R310). -/
def State.postTwin (s : State) (seq : Nat) (m : TwinMsg) (n : Nat) : State :=
  if s.twn.haspUp then s.postOn .hasp seq m n else (s.postOn .netA seq m n).postOn .netB seq m n

/-- The next sequence number of a message type (R309). -/
def State.nextTwinSeq (s : State) (ty : Nat) : Nat × State :=
  let q := getD' s.twn.nextSeq ty 0
  let l := s.twn.nextSeq ++ List.replicate (8 - s.twn.nextSeq.length) 0
  (q, { s with twn := { s.twn with nextSeq := setAt l ty ((q + 1) % 2 ^ 32) } })

/-- Send a twin message of `n` bytes under the next number of its type. -/
def State.sendTwin (s : State) (m : TwinMsg) (n : Nat) : State :=
  let (q, s) := s.nextTwinSeq m.type
  s.postTwin q m n

/-- Send an IGMPv3 report or leave on a media port (R414). -/
def State.sendIgmp (s : State) (port : Nat) (join : Bool) (group src : Nat) : State :=
  s.post port (.made 3 (224 * 2 ^ 24 + 22) 0 (.igmp join group src))

end Sys2Proof.Machine
end

