-- ==== Sys2Proof/Machine/Keyway.lean ====
section
/-! DEFINITION. The keyway (chapter "The Keyway Command Protocol"): the two transports, the order of checks, replies, the
reply ring, relays to the decider and mirror records; and the rows of the transports themselves. -/

namespace Sys2Proof.Machine

/-- What a command's own rules answer (checks 5 to 8 of R348 and its effect). `n` is the boundary it resolved to. -/
inductive Verdict where
  | refuse (st : Status) (payload : Bytes)
  /-- executed or scheduled: an immediate reply -/
  | done (s : State) (payload : Bytes) (n : Nat)
  /-- accepted: the reply is deferred -/
  | defer (s : State) (n : Nat)
  /-- stopped part way: what it did before stays done (R358) -/
  | fail (s : State) (st : Status) (payload : Bytes)
  /-- answered later: held by a closing gate (R456), or a NOP that waits for earlier commands (R357) -/
  | held (s : State)

/-- A refusal without a payload. -/
def Verdict.no (st : Status) : Verdict := .refuse st []

/-- An immediate OK without a payload. -/
def Verdict.ok (s : State) : Verdict := .done s [] (s.tick + 1)

/-- The rules of one command. -/
structure Cmd where
  op : Nat
  /-- part of the boot protocol (R357) -/
  boot : Bool
  /-- LENGTH is right for the opcode -/
  len : Nat → Bytes → Bool
  /-- the command uses the WHEN (R331) -/
  uses : Bool
  /-- executed in YIELDED (R286) -/
  quiet : Bool
  /-- accepted in SLEEP (R474) -/
  asleep : Bool
  /-- mirrored in the rendering modes (R315) -/
  mirrored : Bool
  run : CmdIn → State → Verdict

/-- LENGTH is exactly `n`. -/
def lenIs (n : Nat) : Nat → Bytes → Bool := fun k _ => k == n

/-! Replies. -/

/-- A reply entry as bytes (R338). -/
def Reply.bytes (r : Reply) (phase : Bool) : Bytes :=
  leB 2 r.tag ++ leB 2 r.status.code ++ leB 2 r.opcode ++ leB 2 (flags [phase, r.deferred, r.relayed, r.replay])
    ++ leB 2 r.payload.length ++ leB 2 0 ++ leB 4 r.aseq ++ r.payload

/-- A PAD entry of the reply ring (R341). -/
def padBytes (phase : Bool) (len : Nat) : Bytes := leB 6 0 ++ leB 2 (b2n phase) ++ leB 2 len ++ leB 6 0

/-- Slots that an entry of `n` payload or parameter bytes takes (R334, R338). -/
def slotsOf (n : Nat) : Nat := ceilDiv (16 + n) 64

/-- The address of a slot of a ring. -/
def ringAddr (lo hi : Word) (slot width : Nat) : Nat := lo.toNat + 2 ^ 32 * hi.toNat + width * slot

/-- A reply has been written to the ring: the interrupt rule (R344). -/
def State.irq (s : State) : State :=
  let n := s.key.irqSince + 1
  if max 1 s.key.irqCount ≤ n then { s with key := { s.key with irqSince := 0, irqFirst := none } }.emit .msix
  else { s with key := { s.key with irqSince := n, irqFirst := some (s.key.irqFirst.getD s.now) } }

/-- An entry of a ring goes to host memory (R340): its later slots, then the rest of its first slot, then its header. -/
def State.putEntry (s : State) (a : Nat) (b : Bytes) : State :=
  [(64, b.drop 64), (16, (b.take 64).drop 16), (0, b.take 16)].foldl
    (fun s w => if w.2.isEmpty then s else s.emit (.host (a + w.1) w.2)) s

/-- A reply has been written, sent or discarded: an accepted SYS_RESET takes effect 1 ms later (R359). -/
def State.replied (s : State) (r : Reply) : State :=
  if r.opcode = 0x102 && r.status == .ok then
    { s with key := { s.key with resetAt := some (s.key.resetAt.getD (s.now + 1000000)) } }
  else s

/-- Write a reply to the ring where there is room (R339 to R342): a wrapped entry before the PAD. -/
def State.ringPut (s : State) (r : Reply) : Option State :=
  let k := s.key
  let n := slotsOf r.payload.length
  let free := (k.rplCi + k.rplSize - k.rplPi - 1) % k.rplSize
  let pad := if k.rplSize < k.rplPi + n then k.rplSize - k.rplPi else 0
  if free < pad + n then none
  else
    let at' (slot : Nat) := ringAddr k.rplBaseLo k.rplBaseHi slot 64
    if pad = 0 then
      let s := s.putEntry (at' k.rplPi) (r.bytes k.phase)
      let pi := (k.rplPi + n) % k.rplSize
      some ({ s with key := { s.key with rplPi := pi, phase := if pi = 0 then !k.phase else k.phase } }.irq.replied r)
    else
      let s := (s.putEntry (at' 0) (r.bytes (!k.phase))).putEntry (at' k.rplPi) (padBytes k.phase (64 * pad - 16))
      some ({ s with key := { s.key with rplPi := n, phase := !k.phase } }.irq.replied r)

/-- Write held replies while they fit, oldest first (R343). -/
def State.flushReplies : Nat → State → State
  | 0, s => s
  | k + 1, s =>
    match s.key.waiting with
    | [] => s
    | r :: rest =>
      match s.ringPut r with
      | none => s
      | some s' => State.flushReplies k { s' with key := { s'.key with waiting := rest } }

/-- A reply is discarded and counted (R345). -/
def State.dropReply (s : State) (r : Reply) : State :=
  { s with key := { s.key with rplDropCnt := s.key.rplDropCnt + 1, evt := setBit s.key.evt 3 } }.replied r

/-- A reply for the PCIe path: written, held for room, or discarded. -/
def State.ringReply (s : State) (r : Reply) : State :=
  if !s.key.rplEn then s.dropReply r
  else if !s.key.waiting.isEmpty then { s with key := { s.key with waiting := s.key.waiting ++ [r] } }
  else match s.ringPut r with
    | some s' => s'
    | none => { s with key := { s.key with waiting := [r] } }

/-- A reply datagram leaves in the control transmit queue (R346). -/
def State.mgmtSend (s : State) (ip port : Nat) (r : Reply) : State :=
  s.queueFrame 2 (.udp 3 ip s.key.udpPort port (r.bytes false))

/-- Keep the reply of a stored MGMT command (R346). -/
def State.storeReply (s : State) (ip port : Nat) (r : Reply) : State :=
  { s with key := { s.key with stored := s.key.stored.map fun e =>
      if e.ip = ip ∧ e.port = port ∧ e.aseq = r.aseq then { e with reply := some r } else e } }

/-- Two paths of a command are one transport. -/
def samePath : CmdSrc → CmdSrc → Bool
  | .pcie, .pcie => true
  | .mgmt _ _, .mgmt _ _ => true
  | _, _ => false

/-- An ASEQ comes before another, modulo 2^32. -/
def earlier (a b : Nat) : Bool := decide (0 < (b + 2 ^ 32 - a) % 2 ^ 32 ∧ (b + 2 ^ 32 - a) % 2 ^ 32 < 2 ^ 31)

/-- The commands that are always accepted for later (R351): PAUSE, RESUME, COR_HINGE, and ROUTE_COMMIT. -/
def defers (op : Nat) : Bool := [0x111, 0x112, 0x405, 0x502].contains op

/-- Commands that have been neither answered nor scheduled: held by a gate, or relayed to the decider, unless a deferring one of
these has been scheduled there. -/
def State.open_ (s : State) : List ReplyRef :=
  s.clk.heldCmds.map (·.ref) ++ (s.twn.relays.filter fun r => r.decided.isNone || !defers r.op).map (·.ref)

/-- A gate holds a command part way: no other command is taken until it ends (R351). -/
def State.midway (s : State) : Bool := !s.clk.heldCmds.isEmpty

/-- An earlier command of the same path is still to be answered at once (R351). -/
def State.behind (s : State) (src : CmdSrc) (aseq : Nat) : Bool :=
  (s.open_ ++ s.key.nops).any fun r => samePath r.src src && earlier r.aseq aseq

/-- A command with a lower ASEQ, on either path, is neither answered nor scheduled (R357). -/
def State.owed (s : State) (aseq : Nat) : Bool :=
  s.open_.any (fun r => earlier r.aseq aseq) || s.key.parked.any fun e => earlier e.2.aseq aseq

/-- A NOP waits (R357): a command with a lower ASEQ is owed its reply, or, for a NOP of MGMT, the immediate reply of one still
waits for ring space. -/
def State.nopWaits (s : State) (ref : ReplyRef) : Bool :=
  s.owed ref.aseq || (!samePath ref.src .pcie && s.key.waiting.any fun r => !r.deferred && earlier r.aseq ref.aseq)

/-- Send a reply on the path its command came by (R350). -/
def State.sendReply (s : State) (src : CmdSrc) (r : Reply) : State :=
  match src with
  | .none => s
  | .relay seq => s.sendTwin (.answer seq r.status r.payload r.deferred) (r.payload.length + 16)
  | .pcie => s.ringReply r
  | .mgmt ip port => ((s.storeReply ip port r).mgmtSend ip port r).replied r

/-- The reply that `ref` is due. -/
def ReplyRef.reply (ref : ReplyRef) (st : Status) (deferred relayed : Bool) (payload : Bytes) : Reply :=
  { tag := ref.tag, status := st, opcode := ref.opcode, deferred, relayed, replay := false, payload, aseq := ref.aseq }

/-- Send the replies that no earlier command holds back any more: parked replies first, then NOPs. -/
def State.settleReplies : Nat → State → State
  | 0, s => s
  | k + 1, s =>
    match s.key.parked.find? fun e => !s.behind e.1 e.2.aseq with
    | some e =>
      State.settleReplies k ({ s with key := { s.key with parked := s.key.parked.filter (· != e) } }.sendReply e.1 e.2)
    | none =>
      match s.key.nops.find? fun r => !s.nopWaits r with
      | some r =>
        State.settleReplies k ({ s with key := { s.key with nops := s.key.nops.filter (· != r) } }.sendReply r.src
          (r.reply .ok false false []))
      | none => s

/-- Send every reply that nothing holds back any more. -/
def State.sendFreed (s : State) : State := State.settleReplies (s.key.parked.length + s.key.nops.length) s

/-- Write the reply that `ref` is due: a deferred one at once, and only while it is due (R352), an immediate one in ASEQ order
on its path (R350, R351). -/
def State.answer (s : State) (ref : ReplyRef) (st : Status) (deferred relayed : Bool) (payload : Bytes) : State :=
  if deferred && !relayed && !s.key.due.contains ref then s else
  let s := { s with key := { s.key with due := s.key.due.filter (· != ref) } }
  let r := ref.reply st deferred relayed payload
  if !deferred && s.behind ref.src ref.aseq then
    let l := insertBy (fun (a b : CmdSrc × Reply) => earlier a.2.aseq b.2.aseq) (ref.src, r) s.key.parked
    { s with key := { s.key with parked := l } }
  else
    (s.sendReply ref.src r).sendFreed

/-- Every deferred reply that is still due is written with ABORTED, those of relayed commands too (R352). -/
def State.abortDue (s : State) : State :=
  let mine := s.twn.relays.filter fun r => defers r.op
  let s := s.key.due.foldl (fun s r => s.answer r .aborted true false []) s
  let s := { s with twn := { s.twn with relays := s.twn.relays.filter fun r => !defers r.op } }
  mine.foldl (fun s r => s.answer r.ref .aborted true true []) s

/-- Count a refusal. -/
def State.countRefusal (s : State) : State := { s with key := { s.key with refuseCnt := s.key.refuseCnt + 1 } }

/-- Give a packet its acceptance sequence number (R347). -/
def State.giveAseq (s : State) : State :=
  { s with key := { s.key with aseq := s.key.aseq + 1, cmdCnt := s.key.cmdCnt + 1 } }

/-! Mirroring (R315 to R317). -/

/-- The decider mirrors an action for a boundary. -/
def State.mirrorOut (s : State) (n : Nat) (a : MirAct) (len : Nat) : State :=
  let m : Mirror := { mseq := s.twn.nextMseq, tick := n, act := a }
  let t := s.twn
  let s := { s with twn := { t with nextMseq := t.nextMseq + 1, inbox := t.inbox ++ [m] } }
  let (q, s) := s.nextTwinSeq 2
  { s with twn := { s.twn with unacked := s.twn.unacked ++ [(q, m)] } }.postTwin q (.mirror m) (len + 32)

/-- This module decides for a pair or for a joiner (R305, R325). -/
def State.mirrors (s : State) : Bool := s.withTwin && s.twn.decider

/-! The checks (R348). -/

/-- Checks 1 to 4; `none` where all hold. `framed` says that the packet's size is right on its transport (R336, R346). -/
def headCheck (s : State) (c : Option Cmd) (framed : Bool) (length flags : Nat) (p : Bytes) : Option Status :=
  firstSome [
    if !s.imageRuns && !(match c with | some c => c.boot | none => false) then some .noImage else none,
    if c.isNone then some .badOpcode else none,
    match c with
    | some c => if framed && c.len length p then none else some .badLength
    | none => none,
    match c with
    | some c => if flags / 4 != 0 || (c.uses && flags % 4 == 3) then some .badParam else none
    | none => none]

/-- The modes in which most commands are refused (R286, R474). -/
def modeCheck (s : State) (c : Cmd) : Bool :=
  !((s.sys.mode == .yielded && !c.quiet) || (s.sys.mode == .sleep && !c.asleep))

/-- Run a command whose head has passed, and write its reply or keep it due. -/
def runCmd (c : Cmd) (i : CmdIn) (s : State) : State :=
  let v := if modeCheck s c then c.run i s else .no .badMode
  let share (s' : State) (n : Nat) : State :=
    if c.mirrored && s.rendering && s.mirrors then s'.mirrorOut n (.cmd i.op i.body i.ref.aseq) i.body.length else s'
  match v with
  | .refuse st pl => s.countRefusal.answer i.ref st false false pl
  | .done s' pl n => (share s' n).answer i.ref .ok false false pl
  | .defer s' n =>
    if 1024 ≤ s'.key.due.length then s.countRefusal.answer i.ref .refusedFull false false []
    else
      let s' := share s' n
      { s' with key := { s'.key with due := s'.key.due ++ [i.ref] } }
  | .fail s' st pl => s'.countRefusal.answer i.ref st false false pl
  | .held s' => s'

/-- The follower relays a command to the decider (R316). -/
def State.relayOut (s : State) (c : Cmd) (flags when : Nat) (p : Bytes) (ref : ReplyRef) : State :=
  let (seq, s) := s.nextTwinSeq 6
  let r : Relay := { seq, op := c.op, body := p, flags, when, ref, decided := none }
  { s with twn := { s.twn with relays := s.twn.relays ++ [r] } }.postTwin seq (.relay seq c.op p flags when) (p.length + 16)

/-- A packet that has been read: its ASEQ, its checks, its effect and its reply. -/
def handle (c : Option Cmd) (op : Nat) (framed : Bool) (h : Hdr) (p : Bytes) (s : State) : State :=
  let ref : ReplyRef := { src := h.src, opcode := op, tag := h.tag, aseq := s.key.aseq.toNat }
  match headCheck s c framed h.length h.flags p with
  | some st => s.countRefusal.answer ref st false false []
  | none =>
    match c with
    | none => s
    | some c =>
      if c.mirrored && s.rendering && s.follows then s.relayOut c h.flags h.when p ref
      else runCmd c { op, body := p, form := h.flags % 4, when := h.when, ref, mirror := none } s

/-- The module can read the command ring now: enabled, reachable, not stopped by a failed read or a held command, with room for held replies,
from AWAIT_IMAGE on (R337, R343, R365, R369, R501). -/
def State.ringOpen (s : State) : Bool :=
  s.key.cmdEn && !s.midway && !s.key.fetchStopped && decide (s.key.waiting.length < 256) && !s.pwr.perst && !(s.pll 7).coast
    && !bit s.fab.drain 12 && s.domainOn 1 && (s.gate 8).st == .opened && s.sys.mode != .cold && s.sys.mode != .deepSleep && !s.pwr.off

/-- The ring holds a packet to read. -/
def State.ringReady (s : State) : Bool := s.ringOpen && s.key.cmdCi != s.key.cmdPi

/-- A packet of `length` parameter bytes at KEY_CMD_CI is framed (R336): not too long, and inside the ring and the doorbell. -/
def State.ringFramed (s : State) (length : Nat) : Bool :=
  let n := slotsOf length
  let avail := (s.key.cmdPi + s.key.cmdSize - s.key.cmdCi) % s.key.cmdSize
  decide (length ≤ 1440 ∧ s.key.cmdCi + n ≤ s.key.cmdSize ∧ n ≤ avail)

/-- Advance KEY_CMD_CI by `n` slots. -/
def State.ringAdvance (s : State) (n : Nat) : State :=
  { s with key := { s.key with cmdCi := (s.key.cmdCi + n) % s.key.cmdSize } }

/-- A packet of the command ring (R334 to R336). -/
def pciePacket (c : Option Cmd) (op : Nat) (h : Hdr) (p : Bytes) (s : State) : State :=
  if !s.ringReady then s
  else
    let framed := s.ringFramed h.length
    let s := (s.ringAdvance (if framed then slotsOf h.length else 1)).giveAseq
    handle c op framed h (slice p 0 h.length) s

/-- MGMT receives datagrams now (R369). -/
def State.mgmtOpen (s : State) : Bool :=
  s.domainOn 1 && (s.gate 6).st == .opened && s.sys.mode != .cold && s.sys.mode != .deepSleep && !s.pwr.off

/-- A source address passes the KEY_ALLOW table (R346). -/
def State.allowed (s : State) (ip : Nat) : Bool :=
  let used := s.key.allow.filter fun e => e.2.2 != 0
  used.isEmpty || used.any fun e => e.2.1.toNat / 2 ^ (32 - e.2.2) == ip / 2 ^ (32 - e.2.2)

/-- A datagram as bytes, for the repeat rule. -/
def packetBytes (op : Nat) (h : Hdr) (p : Bytes) : Bytes :=
  leB 2 op ++ leB 2 h.tag ++ leB 2 h.length ++ leB 2 h.flags ++ leB 8 h.when ++ p

/-- The stored command that a datagram repeats (R346). -/
def State.repeated (s : State) (ip port : Nat) (b : Bytes) : Option Stored :=
  s.key.stored.find? fun e => e.ip == ip && e.port == port && e.cmd == b && decide (s.now ≤ e.t + 2000000000)

/-- Keep a command for the repeat rule, with the last 256 of its source. -/
def State.storeCmd (s : State) (ip port : Nat) (b : Bytes) : State :=
  let e : Stored := { ip, port, cmd := b, t := s.now, aseq := s.key.aseq.toNat, reply := none }
  let mine := s.key.stored.filter fun x => x.ip == ip && x.port == port
  let rest := s.key.stored.filter fun x => !(x.ip == ip && x.port == port)
  { s with key := { s.key with stored := (e :: mine).take 256 ++ rest } }

/-- A datagram from a source outside KEY_ALLOW (R346). -/
def State.deny (s : State) (op : Nat) (h : Hdr) (ip port : Nat) : State :=
  let s := s.giveAseq.countRefusal
  let s := { s with key := { s.key with denyCnt := s.key.denyCnt + 1, evt := setBit s.key.evt 4 } }
  s.answer { src := .mgmt ip port, opcode := op, tag := h.tag, aseq := s.key.aseq.toNat } .denied false false []

/-- A repeat of a stored command (R346). -/
def State.replay (s : State) (op : Nat) (h : Hdr) (e : Stored) : State :=
  let s := { s with key := { s.key with repeatCnt := s.key.repeatCnt + 1 } }
  match e.reply with
  | some r => s.mgmtSend e.ip e.port { r with replay := true }
  | none => s.mgmtSend e.ip e.port { tag := h.tag, status := .inProgress, opcode := op, deferred := false, relayed := false,
                                     replay := true, payload := [], aseq := e.aseq }

/-- A datagram on the keyway port is taken, by the first four rules of R346 in their order: a length that differs from 16 + LENGTH is
answered BAD_LENGTH before check 1 of R348. -/
def mgmtTake (c : Option Cmd) (op : Nat) (h : Hdr) (ip port : Nat) (p : Bytes) (s : State) : State :=
  if !s.allowed ip then s.deny op h ip port
  else match s.repeated ip port (packetBytes op h p) with
    | some e => s.replay op h e
    | none =>
      let s := s.giveAseq.storeCmd ip port (packetBytes op h p)
      if h.length != p.length then
        s.countRefusal.answer { src := h.src, opcode := op, tag := h.tag, aseq := s.key.aseq.toNat } .badLength false false []
      else handle c op (decide (p.length ≤ 1440)) h p s

/-- A datagram arrives on the keyway port: one in a frame that is too long is dropped (R387), one behind a command that a gate holds
waits, and any other is taken. -/
def mgmtPacket (c : Option Cmd) (op : Nat) (h : Hdr) (ip port : Nat) (p : Bytes) (s : State) : State :=
  if !s.mgmtOpen then s
  else
    let s := s.rxCount 2
    if 1522 < udpLen (16 + p.length) false then s.rxDropped 2
    else if s.midway then { s with key := { s.key with later := s.key.later ++ [(op, h, p)] } } else mgmtTake c op h ip port p s

/-- A keyway command arrives by the path its header names. -/
def keywayOp (c : Option Cmd) (op : Nat) (h : Hdr) (p : Bytes) (s : State) : State :=
  let s := s.at h.t
  match h.src with
  | .pcie => pciePacket c op h p s
  | .mgmt ip port => mgmtPacket c op h ip port p s
  | _ => s

/-- A keyway command of the table. -/
def keyway (c : Cmd) (h : Hdr) (p : Bytes) (s : State) : Result := .next (keywayOp (some c) c.op h p s)

/-- The opcodes of R356 that a chapter lists. -/
def opcodes : List Nat :=
  [0x101, 0x102, 0x103, 0x110, 0x111, 0x112, 0x120, 0x121, 0x130, 0x131, 0x132, 0x133, 0x140, 0x141,
   0x201, 0x202, 0x203, 0x204, 0x205, 0x206, 0x207, 0x208, 0x209, 0x20A, 0x20B, 0x20C, 0x20D] ++
  [0x301, 0x302, 0x303, 0x304, 0x305, 0x401, 0x402, 0x403, 0x404, 0x405, 0x406, 0x407,
   0x501, 0x502, 0x503, 0x504, 0x505, 0x506, 0x601, 0x602, 0x603, 0x604, 0x605, 0x606, 0x607, 0x608, 0x609, 0x60A, 0x60B] ++
  [0x701, 0x702, 0x703, 0x704, 0x705, 0x801, 0x802, 0x803, 0x804, 0x810, 0x811, 0x812, 0x813,
   0x901, 0x910, 0x911, 0x912, 0x920, 0x940, 0xA01, 0xA02, 0xA03, 0xB01, 0xB02, 0xB03]

/-! The rows of the transports. -/

/-- UNKNOWN_OPCODE (R348, R356): answered BAD_OPCODE, or NO_IMAGE before an image runs. -/
def execUnknownOpcode (h : Hdr) (op : Nat) (p : Bytes) (s : State) : Result :=
  .next (if opcodes.contains op || (op == 0 && h.src == .pcie) then s else keywayOp none op h p s)

/-- PAD_SKIP (R334): on to slot 0; in slot 0 it is answered BAD_OPCODE and takes one slot. -/
def execPadSkip (t tag : Nat) (s : State) : Result :=
  let s := s.at t
  .next (if !s.ringReady then s
    else if s.key.cmdCi = 0 then
      let s := (s.ringAdvance 1).giveAseq
      s.countRefusal.answer { src := .pcie, opcode := 0, tag, aseq := s.key.aseq.toNat } .badOpcode false false []
    else { s with key := { s.key with cmdCi := 0 } })

/-- CMD_FETCH_ERROR (R337). -/
def execCmdFetchError (t : Nat) (s : State) : Result :=
  let s := s.at t
  .next (if !s.ringReady then s
    else { s with key := { s.key with evt := setBit s.key.evt 1, fetchStopped := true } }.emit .msix)

/-- MGMT_SHORT_DATAGRAM (R346): dropped and counted. -/
def execMgmtShortDatagram (t : Nat) (s : State) : Result :=
  let s := s.at t
  .next (if !s.mgmtOpen then s else (s.rxCount 2).rxDropped 2)

/-- MGMT_DENIED (R346): a datagram from a source outside KEY_ALLOW. -/
def execMgmtDenied (h : Hdr) (op : Nat) (p : Bytes) (s : State) : Result :=
  let s := s.at h.t
  .next (match h.src with
    | .mgmt ip port => if s.mgmtOpen && !s.allowed ip then mgmtPacket none op h ip port p s else s
    | _ => s)

/-- MGMT_REPEAT (R346): a byte-identical repeat within 2 s. -/
def execMgmtRepeat (h : Hdr) (op : Nat) (p : Bytes) (s : State) : Result :=
  let s := s.at h.t
  .next (match h.src with
    | .mgmt ip port =>
      if s.mgmtOpen && s.allowed ip then
        match s.repeated ip port (packetBytes op h p) with
        | some _ => mgmtPacket none op h ip port p s
        | none => s
      else s
    | _ => s)

/-- REPLY_RING_SPACE (R343): held replies are written while they fit; then the NOPs that waited for them (R357). -/
def execReplyRingSpace (t : Nat) (s : State) : Result :=
  let s := s.at t
  .next (if s.key.rplEn then State.flushReplies s.key.waiting.length s else s).sendFreed

/-- KEY_IRQ_TIMER (R344): TIMER µs after the first unsignalled reply. -/
def execKeyIrqTimer (t : Nat) (s : State) : Result :=
  let s := s.at t
  .next (match s.key.irqFirst with
    | some t0 =>
      if s.key.irqTimer != 0 && decide (t0 + 1000 * s.key.irqTimer ≤ s.now) then
        { s with key := { s.key with irqSince := 0, irqFirst := none } }.emit .msix
      else s
    | none => s)

end Sys2Proof.Machine
end

