-- ==== Sys2Proof/Machine/RegMap.lean ====
section
/-! DEFINITION. Host writes to BAR0 and BAR2 (chapter "Register Map"): the access classes, each host-class register's own
conditions, and the windows. -/

namespace Sys2Proof.Machine

/-- A discarded host write (R540, R541, R544): counted, and flagged in SYS_EVT. -/
def State.wdiscard (s : State) : State :=
  { s with sys := { s.sys with wdiscardCnt := s.sys.wdiscardCnt + 1, evt := setBit s.sys.evt 1 } }

/-- A KEY write that breaks a condition (R546). -/
def State.badCfg (s : State) : State := { s with key := { s.key with evt := setBit s.key.evt 2 } }

/-- An ignored index write (R335, R342). -/
def State.badIndex (s : State) : State := { s with key := { s.key with evt := setBit s.key.evt 0 } }

/-- A ring size: a power of two from 64 to 65,536 (R333). -/
def ringSizeOk (n : Nat) : Bool := [64, 128, 256, 512, 1024, 2048, 4096, 8192, 16384, 32768, 65536].contains n

/-- KEY_CTL.CMD_EN (R333, R337). -/
def State.setCmdEn (s : State) (on : Bool) : State :=
  if on == s.key.cmdEn then s
  else if !on then { s with key := { s.key with cmdEn := false } }
  else if !ringSizeOk s.key.cmdSize then s.badCfg
  else { s with key := { s.key with cmdEn := true, cmdPi := 0, cmdCi := 0, fetchStopped := false } }

/-- Discard every held reply (R345). -/
def State.dropWaiting (s : State) : State :=
  s.key.waiting.foldl State.dropReply { s with key := { s.key with waiting := [] } }

/-- KEY_CTL.RPL_EN (R338, R345). -/
def State.setRplEn (s : State) (on : Bool) : State :=
  if on == s.key.rplEn then s
  else if !on then { s with key := { s.key with rplEn := false } }.dropWaiting.sendFreed
  else if !ringSizeOk s.key.rplSize then s.badCfg
  else { s with key := { s.key with rplEn := true, rplPi := 0, rplCi := 0, phase := true } }

/-- KEY_CMD_PI (R335): the doorbell. -/
def State.writeCmdPi (s : State) (v : Nat) : State :=
  if !s.key.cmdEn then s.badCfg
  else if s.key.cmdSize ≤ v then s.badIndex
  else { s with key := { s.key with cmdPi := v } }

/-- KEY_RPL_CI (R342): a write that would pass KEY_RPL_PI is ignored; room lets held replies go (R343). -/
def State.writeRplCi (s : State) (v : Nat) : State :=
  let k := s.key
  if !k.rplEn then s.badCfg
  else if k.rplSize ≤ v || decide ((k.rplPi + k.rplSize - k.rplCi) % k.rplSize < (v + k.rplSize - k.rplCi) % k.rplSize) then s.badIndex
  else { s with key := { s.key with rplCi := v } }

/-- A write to a host-class KEY register (R546). -/
def keyWrite (s : State) (off v : Nat) : State :=
  let k := s.key
  if off = 0 then
    if (bit v 0 && !k.cmdEn && !ringSizeOk k.cmdSize) || (bit v 1 && !k.rplEn && !ringSizeOk k.rplSize) then s.badCfg
    else (s.setCmdEn (bit v 0)).setRplEn (bit v 1)
  else if off = 4 then { s with key := { k with evt := w1c k.evt (wd v) } }
  else if off = 8 then { s with key := { k with irqCount := v % 256, irqTimer := v / 65536 % 65536 } }
  else if off = 0xC then
    if 1024 ≤ v % 65536 then { s with key := { k with udpPort := v % 65536 } } else s.badCfg
  else if off = 0x10 then if k.cmdEn || v % 4096 != 0 then s.badCfg else { s with key := { k with cmdBaseLo := wd v } }
  else if off = 0x14 then if k.cmdEn then s.badCfg else { s with key := { k with cmdBaseHi := wd v } }
  else if off = 0x18 then if k.cmdEn || !ringSizeOk v then s.badCfg else { s with key := { k with cmdSize := v } }
  else if off = 0x1C then s.writeCmdPi (v % 65536)
  else if off = 0x30 then if k.rplEn || v % 4096 != 0 then s.badCfg else { s with key := { k with rplBaseLo := wd v } }
  else if off = 0x34 then if k.rplEn then s.badCfg else { s with key := { k with rplBaseHi := wd v } }
  else if off = 0x38 then if k.rplEn || !ringSizeOk v then s.badCfg else { s with key := { k with rplSize := v } }
  else if off = 0x40 then s.writeRplCi (v % 65536)
  else if 0x80 ≤ off ∧ off < 0xC0 then
    let i := (off - 0x80) / 8
    let e := tabGet (0, 0) k.allow i
    if off % 8 = 0 then { s with key := { k with allow := tabSet (0, 0) k.allow i (wd v, e.2) } }
    else if 32 < v % 64 then s.badCfg
    else { s with key := { k with allow := tabSet (0, 0) k.allow i (e.1, v % 64) } }
  else s

/-! The host frame rings (R393, R394). -/

/-- The RESULT and TS of a transmit slot written back: PHASE, LATE, ABORTED (R394). -/
def State.txDone (s : State) (slot ts : Nat) (late aborted : Bool) : State :=
  let r := s.net.htx
  let a := ringAddr r.baseLo r.baseHi slot 32
  let s := s.emit (.host (a + 24) (leB 4 ts ++ leB 2 (flags [r.phase, late, aborted])))
  let ci := (r.ci + 1) % r.size
  let phase := if ci = 0 then !r.phase else r.phase
  let r' := { r with ci, phase, slots := r.slots.drop 1 }
  { s with net := { s.net with htx := r' } }

/-- Clearing TX_EN marks every queued host frame ABORTED (R418). -/
def State.abortTx (s : State) : State :=
  let mine := s.macM.queue.filter fun f => f.queue == 2
  let s := s.onMac 2 fun m => { m with queue := m.queue.filter fun f => f.queue != 2 }
  mine.foldl (fun s f => s.txDone (f.slot.getD 0) 0 false true) s

/-- MACM_HCTL.RX_EN. -/
def State.setRxEn (s : State) (on : Bool) : State :=
  let r := s.net.hrx
  if on == r.en then s
  else if !on then { s with net := { s.net with hrx := { r with en := false } } }
  else if !ringSizeOk r.size then s.wdiscard
  else
    let r' := { r with en := true, pi := 0, ci := 0, phase := true, slots := [] }
    { s with net := { s.net with hrx := r' } }

/-- MACM_HCTL.TX_EN. -/
def State.setTxEn (s : State) (on : Bool) : State :=
  let r := s.net.htx
  if on == r.en then s
  else if !on then
    let s := s.abortTx
    { s with net := { s.net with htx := { s.net.htx with en := false } } }
  else if !ringSizeOk r.size then s.wdiscard
  else { s with net := { s.net with htx := { r with en := true, pi := 0, ci := 0, phase := true, slots := [] } } }

/-- The slots that a new PI posts: `slots` as read from host memory, zeros where it gives none. -/
def postedSlots (r : HostRing) (v : Nat) (slots : List Bytes) : List Bytes :=
  (List.range ((v + r.size - r.pi) % r.size)).map fun k => getD' slots k (zeros 32)

/-- Post receive buffers (R394). -/
def State.postRx (s : State) (v : Nat) (slots : List Bytes) : State :=
  let r := s.net.hrx
  if !r.en || decide (r.size ≤ v) then s
  else { s with net := { s.net with hrx := { r with pi := v, slots := r.slots ++ postedSlots r v slots } } }

/-- Post transmit frames (R394): each joins queue 2 with its launch time and VLAN entry. -/
def State.postTx (s : State) (v : Nat) (slots frames : List Bytes) : State :=
  let r := s.net.htx
  if !r.en || decide (r.size ≤ v) then s
  else
    let new := postedSlots r v slots
    let fs := (List.range new.length).map fun k =>
      let sl := getD' new k []
      let body := (getD' frames k []).take (rd16 sl 8)
      let slot := some ((r.pi + k) % r.size)
      { TxFrame.udp 2 0 0 0 body with launch := rd64 sl 16, vlan := rd8 sl 10, ttl := 0, slot }
    let s := { s with net := { s.net with htx := { r with pi := v, slots := r.slots ++ new } } }
    s.onMac 2 fun m => { m with queue := m.queue ++ fs }

/-- A write to a base or size register of a host ring: only while the ring is disabled, and only an aligned base or a valid size. -/
def ringCfg (r : HostRing) (k v : Nat) : Option HostRing :=
  if r.en then none
  else if k = 0 then if v % 4096 = 0 then some { r with baseLo := wd v } else none
  else if k = 4 then some { r with baseHi := wd v }
  else if ringSizeOk v then some { r with size := v } else none

/-- A write to a host-class MAC register (R418). -/
def macWrite (s : State) (port off v : Nat) : State :=
  if off = 4 then
    let fast (m : MacSt) := if port < 2 && s.sys.mode == .staged then bit v 2 else m.speed
    s.onMac port fun m => { m with pauseEn := port < 3 && bit v 0, eeeEn := port < 3 && bit v 1, speed := fast m }
  else if off = 8 then s.onMac port fun m => { m with evt := w1c m.evt (wd v) }
  else if port != 2 then s
  else if off = 0x100 then
    if (bit v 0 && !s.net.hrx.en && !ringSizeOk s.net.hrx.size) || (bit v 1 && !s.net.htx.en && !ringSizeOk s.net.htx.size) then s.wdiscard
    else (s.setRxEn (bit v 0)).setTxEn (bit v 1)
  else if 0x104 ≤ off ∧ off ≤ 0x10C then
    match ringCfg s.net.hrx (off - 0x104) v with
    | some r => { s with net := { s.net with hrx := r } }
    | none => s.wdiscard
  else if off = 0x110 then s.postRx v []
  else if 0x118 ≤ off ∧ off ≤ 0x120 then
    match ringCfg s.net.htx (off - 0x118) v with
    | some r => { s with net := { s.net with htx := r } }
    | none => s.wdiscard
  else if off = 0x124 then s.postTx v [] []
  else s

/-! TAP (R252, R255, R256). -/

/-- A write of TAP_KCTL (R255). -/
def State.writeKctl (s : State) (v : Nat) : State :=
  let en := v % 16
  let t := { s.tap with refused := s.tap.refused && !bit v 8 }
  let on := (List.range 4).filter fun i => bit en i
  let slot (i : Nat) := getD' t.kslots i { loaded := false, disabledOvr := false, budget := 0, overruns := 0 }
  let limit := if s.rnd.rate96 then 4096 else 8192
  if on.any (fun i => !(slot i).loaded) || decide (limit < sumN (on.map fun i => (slot i).budget)) then
    { s with tap := { t with refused := true } }
  else if s.ticking then { s with tap := { t with enPend := some en } }
  else { s with tap := { t with en, enPend := none } }

/-- A write of TAP_INJ (R252). -/
def State.writeInj (s : State) (k v : Nat) : State :=
  let v := v % 2 ^ 11
  let v := if s.tap.testEn then v else v % 2 ^ 10
  s.onEngine k fun e => { e with inj := wd v }

/-- A write of TAP_CFG: TEST_EN is set in STAGED only, and stays set. -/
def State.writeTestEn (s : State) (v : Nat) : State :=
  if bit v 0 && s.sys.mode == .staged then { s with tap := { s.tap with testEn := true } } else s

/-- A write to a host-class TAP register; `off` counts from 0x0020_0000. -/
def tapWrite (s : State) (off v : Nat) : State :=
  if off = 0x28000 then s.writeTestEn v
  else if off = 0x28004 then s.writeKctl v
  else if off % 0x1000 = 4 then s.onEngine (off / 0x1000) fun e => { e with evt := w1c e.evt (wd v) }
  else if off % 0x1000 = 0x1C then s.writeInj (off / 0x1000) v
  else s

/-- DISP_CTL.CLR_MAX (R275). -/
def State.clrDispMax (s : State) : State :=
  { s with disp := { s.disp with waitMax := s.disp.waitLast },
           tap := { s.tap with engines := s.tap.engines.map fun e => { e with loadMax := e.loadLast } } }

/-- The host-class registers by block and offset (R541); deadbolt-class registers apart. -/
def hostReg (blk off : Nat) : Bool :=
  if blk = 0 then off == 0xC || off == 0x24
  else if blk = 1 then !([0x20, 0x3C, 0x50, 0x60, 0x64, 0x68, 0x6C, 0x70].contains off)
  else if blk = 2 then false
  else if blk = 4 then [4, 0x110, 0x114, 0x11C, 0x128].contains off
  else if blk = 8 then off == 4 || off == 8 || decide (0x100 ≤ off)
  else if blk = 11 then off == 4 || off == 0x18
  else if blk = 13 then off == 0x14 || off == 0x28
  else if blk = 15 then off == 8 || off == 0x20
  else if blk = 16 then off == 0x14
  else if blk = 19 then if off < 0x22000 then off % 0x1000 == 4 || off % 0x1000 == 0x1C else off == 0x28000 || off == 0x28004
  else if [3, 5, 6, 7, 9, 10, 20].contains blk then off == 4 || off == 8
  else off == 4

/-- The effect of a write of `v` to a host-class register (R541): only its host-class fields change. -/
def hostWrite (s : State) (blk off v : Nat) : State :=
  let w := wd v
  if blk = 0 then
    if off = 0xC then { s with sys := { s.sys with evt := w1c s.sys.evt w } } else { s with sys := { s.sys with scratch := w } }
  else if blk = 1 then keyWrite s off v
  else if blk = 3 then
    if off = 4 then { s with pwr := { s.pwr with evt := w1c s.pwr.evt w } }
    else if bit v 0 then { s with pwr := { s.pwr with minA := s.pwr.aMv, minB := s.pwr.bMv, max := s.pwr.now } } else s
  else if blk = 4 then
    if off = 4 then { s with clk := { s.clk with evt := w1c s.clk.evt w } }
    else s.onGate ((off - 0x100) / 4) fun g => { g with sleep := bit v 1 }
  else if blk = 5 then
    if off = 4 then { s with ptm := { s.ptm with evt := w1c s.ptm.evt w } } else { s with ptm := { s.ptm with swts := bit v 0 } }
  else if blk ≤ 9 then macWrite s (blk - 6) off v
  else if blk = 10 then
    if off = 4 then { s with disp := { s.disp with evt := w1c s.disp.evt w } } else if bit v 0 then s.clrDispMax else s
  else if blk = 11 then
    if off = 4 then { s with intg := { s.intg with evt := w1c s.intg.evt w } }
    else if bit v 0 then { s with intg := { s.intg with tjMax := s.intg.tj } } else s
  else if blk = 12 then { s with twn := { s.twn with evt := w1c s.twn.evt w } }
  else if blk = 13 then
    if off = 0x14 then { s with rnd := { s.rnd with evt := w1c s.rnd.evt w } }
    else if bit v 0 then { s with rnd := { s.rnd with minMargin := s.rnd.margin } } else s
  else if blk = 14 then { s with obj := { s.obj with evt := w1c s.obj.evt w } }
  else if blk = 15 then
    if off = 8 then { s with pan := { s.pan with evt := w1c s.pan.evt w } }
    else if bit v 0 then { s with pan := { s.pan with geomMax := s.pan.geomLast } } else s
  else if blk = 16 then { s with rte := { s.rte with evt := w1c s.rte.evt w } }
  else if blk = 17 then { s with cor := { s.cor with evt := w1c s.cor.evt w } }
  else if blk = 18 then { s with cal := { s.cal with evt := w1c s.cal.evt w } }
  else if blk = 19 then tapWrite s off v
  else if blk = 20 then
    if off = 4 then { s with ddr := { s.ddr with evt := w1c s.ddr.evt w } }
    else if bit v 0 then { s with ddr := { s.ddr with latClr := s.now } } else s
  else if blk = 21 then { s with fab := { s.fab with evt := w1c s.fab.evt w } }
  else if blk = 22 then { s with dac := { s.dac with evt := w1c s.dac.evt w } }
  else { s with dblt := { s.dblt with evt := w1c s.dblt.evt w } }

/-- The host reaches the bars over PCIe now. -/
def State.pcieUp (s : State) : Bool :=
  s.domainOn 1 && (s.gate 8).st == .opened && !s.pwr.perst && !(s.pll 7).coast && !bit s.fab.drain 12 && s.sys.mode != .deepSleep && !s.pwr.off

/-- A host write that the block has answered OK, by class (R541, R549). -/
def State.writeReg (s : State) (blk off v : Nat) : State :=
  if blk = 23 && (dbltDflt off).isSome then s.dbltPcie off v
  else if hostReg blk off then hostWrite s blk off v
  else s.wdiscard

/-- A 4-byte host write to BAR0 over PCIe (R540, R541, R499). `be` holds the byte enables. -/
def State.pcieWrite (s : State) (a v be : Nat) : State :=
  if !s.pcieUp then s
  else if be % 16 != 15 then s.wdiscard
  else match s.bar0Code a, bar0Block a with
    | some 0, some (base, _, _, _, blk) => s.writeReg blk (a - base) v
    | none, some (_, _, _, g, _) => { s with clk := { s.clk with held := s.clk.held ++ [{ gate := g, addr := a, val := v, data := none }] } }
    | some c, _ => s.fabErr { addr := a, hi := 0xB0, master := 12, id := 0, write := true, code := c, ts := s.ts32 }
    | none, none => s

/-! The rows that are register writes. -/

/-- A host write of a whole dword at `t`. -/
def hostRegWrite (t a v : Nat) (s : State) : State := (s.at t).pcieWrite a v 15

/-- CMD_RING_ENABLE (R333): a write of 1 to CMD_EN; RPL_EN keeps its value. -/
def execCmdRingEnable (t : Nat) (s : State) : Result := .next (hostRegWrite t 0x10000 (flags [true, s.key.rplEn]) s)

/-- CMD_RING_DISABLE (R337). -/
def execCmdRingDisable (t : Nat) (s : State) : Result := .next (hostRegWrite t 0x10000 (flags [false, s.key.rplEn]) s)

/-- RPL_RING_ENABLE (R338). -/
def execRplRingEnable (t : Nat) (s : State) : Result := .next (hostRegWrite t 0x10000 (flags [s.key.cmdEn, true]) s)

/-- RPL_RING_DISABLE (R345). -/
def execRplRingDisable (t : Nat) (s : State) : Result := .next (hostRegWrite t 0x10000 (flags [s.key.cmdEn, false]) s)

/-- KEY_RING_CFG_WRITE (R333): `off` names a ring base or size register. -/
def execKeyRingCfgWrite (t off v : Nat) (s : State) : Result :=
  .next (if [0x10, 0x14, 0x18, 0x30, 0x34, 0x38].contains off then hostRegWrite t (0x10000 + off) v s else s)

/-- KEY_CMD_PI_WRITE (R335). -/
def execKeyCmdPiWrite (t v : Nat) (s : State) : Result := .next (hostRegWrite t 0x1001C v s)

/-- KEY_RPL_CI_WRITE (R342). -/
def execKeyRplCiWrite (t v : Nat) (s : State) : Result := .next (hostRegWrite t 0x10040 v s)

/-- The event registers: every block's EVT (R542). -/
def evtRegs : List Nat :=
  [0xC, 0x10004, 0x30004, 0x40004, 0x50004, 0x60008, 0x70008, 0x80008, 0x90008, 0xA0004, 0xB0004, 0xC0004, 0x100014, 0x110004,
   0x120008, 0x130014, 0x140004, 0x150004, 0x228004, 0x300004, 0x310004, 0x320004, 0x330004]

/-- The address is an event register. -/
def isEvtReg (a : Nat) : Bool := evtRegs.contains a || decide (0x200000 ≤ a ∧ a < 0x222000 ∧ a % 0x1000 = 4)

/-- W1C_CLEAR (R542): a write of ones to an event register clears them. -/
def execW1cClear (t addr v : Nat) (s : State) : Result := .next (if isEvtReg addr then hostRegWrite t addr v s else s)

/-- REGISTER_WRITE (R540, R541). -/
def execRegisterWrite (t addr v be : Nat) (s : State) : Result := .next ((s.at t).pcieWrite addr v be)

/-- RND_CLR_MIN (R53). -/
def execRndClrMin (t v : Nat) (s : State) : Result := .next (hostRegWrite t 0x100028 v s)

/-- PAN_CLR_MAX (R127). -/
def execPanClrMax (t v : Nat) (s : State) : Result := .next (hostRegWrite t 0x120020 v s)

/-- DISP_CLR_MAX (R275). -/
def execDispClrMax (t v : Nat) (s : State) : Result := .next (hostRegWrite t 0xA0008 v s)

/-- INTG_CLR_TJMAX (R304). -/
def execIntgClrTjmax (t v : Nat) (s : State) : Result := .next (hostRegWrite t 0xB0018 v s)

/-- DDR_CLR_MAX (R502). -/
def execDdrClrMax (t v : Nat) (s : State) : Result := .next (hostRegWrite t 0x300008 v s)

/-- PWR_CLR_MINMAX (R483). -/
def execPwrClrMinmax (t v : Nat) (s : State) : Result := .next (hostRegWrite t 0x30008 v s)

/-- TAP_KCTL_WRITE (R255). -/
def execTapKctlWrite (t v : Nat) (s : State) : Result := .next (hostRegWrite t 0x228004 v s)

/-- TAP_INJ_WRITE (R252). -/
def execTapInjWrite (t k v : Nat) (s : State) : Result :=
  .next (if k < 34 then hostRegWrite t (0x20001C + 0x1000 * k) v s else s)

/-- TAP_TEST_EN_WRITE (R256). -/
def execTapTestEnWrite (t v : Nat) (s : State) : Result := .next (hostRegWrite t 0x228000 v s)

/-- DBLT_REG_WRITE (R549): `off` names a deadbolt-class register. -/
def execDbltRegWrite (t off v : Nat) (s : State) : Result :=
  .next (if (dbltDflt off).isSome then hostRegWrite t (0x330000 + off) v s else s)

/-- HOST_RX_ENABLE (R393): RX_EN set, TX_EN kept. -/
def execHostRxEnable (t : Nat) (s : State) : Result := .next (hostRegWrite t 0x80100 (flags [true, s.net.htx.en]) s)

/-- HOST_TX_ENABLE (R394). -/
def execHostTxEnable (t : Nat) (s : State) : Result := .next (hostRegWrite t 0x80100 (flags [s.net.hrx.en, true]) s)

/-- HOST_TX_DISABLE (R418). -/
def execHostTxDisable (t : Nat) (s : State) : Result := .next (hostRegWrite t 0x80100 (flags [s.net.hrx.en, false]) s)

/-- HOST_RX_PI_WRITE (R394): the posted slots are read from host memory. -/
def execHostRxPiWrite (t v : Nat) (slots : List Bytes) (s : State) : Result :=
  let s := s.at t
  .next (if s.pcieUp && s.bar0Code 0x80110 == some 0 then s.postRx v slots else s.pcieWrite 0x80110 v 15)

/-- HOST_TX_PI_WRITE (R394): the posted slots and their frames are read from host memory. -/
def execHostTxPiWrite (t v : Nat) (slots frames : List Bytes) (s : State) : Result :=
  let s := s.at t
  .next (if s.pcieUp && s.bar0Code 0x80124 == some 0 then s.postTx v slots frames else s.pcieWrite 0x80124 v 15)

/-! The BAR2 windows (R544). -/

/-- The windows of BAR2: base, size used, domain and gate of the store (15 = none). -/
def bar2Windows : List (Nat × Nat × Nat × Nat) :=
  [(0x00000000, 0x2000000, 4, 3), (0x02000000, 0x1860000, 4, 3), (0x04000000, 0x800000, 3, 0), (0x04800000, 0x84440, 4, 3),
   (0x04900000, 0x30440, 4, 3), (0x04A00000, 0x10004, 3, 0), (0x04A20000, 0x20000, 3, 0), (0x04A40000, 0x404, 1, 15),
   (0x04A40800, 0x404, 1, 15), (0x04A41000, 0x140, 1, 15), (0x04A50000, 0x75440, 1, 15)]
  ++ (List.range 34).map fun k => (0x05000000 + 0x400000 * k, 0x280000, 3, 0)

/-- The window of a BAR2 offset. -/
def bar2Window (off : Nat) : Option (Nat × Nat × Nat × Nat) :=
  bar2Windows.find? fun w => decide (w.1 ≤ off ∧ off < w.1 + w.2.1)

/-- The response code of a BAR2 access, or `none` while a closing gate holds it (R456). -/
def State.bar2Code (s : State) (off : Nat) : Option Nat :=
  match bar2Window off with
  | none => some 2
  | some (_, _, d, g) =>
    if !s.domainOn d then some 4
    else if g < 15 && (s.gate g).st == .closed then some 3
    else if g < 15 && (s.gate g).st == .pending then none
    else some 0

/-- The feed whose hinges govern a correction record: an absorbed feed's record belongs to its long feed (R170). -/
def State.corOwner (s : State) (f : Nat) : Nat := if isAbsorbed s.cor.longMask f then f - 1 else f

/-- Bank `b` of a feed may be written (R178): it is not current, and no hinge of the feed is pending or running. -/
def State.corWritable (s : State) (b f : Nat) : Bool :=
  let o := s.corOwner f
  (s.feedCor o).bank != b && !s.corFrozen o

/-- Store bytes of a correction record and mark the feed host-dirty (R183). -/
def State.corStore (s : State) (a f : Nat) (d : Bytes) : State :=
  let o := s.corOwner f
  { s with cor := { s.cor with
      records := corFill s.cor.longMask s.cor.records a d,
      feeds := tabSet FeedCor.reset s.cor.feeds o { s.feedCor o with dirty := true } } }

/-- A correction window write, record by record (R178). -/
def corWindow : Nat → Nat → Bytes → State → State
  | 0, _, _, s => s
  | k + 1, a, d, s =>
    if d.isEmpty then s
    else
      let b := a / 0xC30000
      let f := a % 0xC30000 / 0x4100
      let room := 0x4100 - a % 0xC30000 % 0x4100
      let s := if decide (f < feedCount s.rnd.rate96) && s.corWritable b f then s.corStore a f (d.take room)
        else { s with cor := { s.cor with wdiscardCnt := s.cor.wdiscardCnt + 1 } }
      corWindow k (a + room) (d.drop room) s

/-- A write to the image staging window: stored in RECEIVING, otherwise discarded and counted (R376). -/
def State.imgStore (s : State) (off : Nat) (d : Bytes) : State :=
  if s.boot.state = .receiving then { s with boot := { s.boot with staging := memFill s.boot.staging off d } }
  else { s with boot := { s.boot with wdiscardCnt := s.boot.wdiscardCnt + 1 } }

/-- A write to the layout staging window: stored in STAGED, otherwise discarded and counted (R544). -/
def State.layoutStore (s : State) (off : Nat) (d : Bytes) : State :=
  if s.sys.mode = .staged then { s with pan := { s.pan with staging := memFill s.pan.staging off d } } else s.wdiscard

/-- A write to the route staging window: stored unless the area is frozen (R148). -/
def State.routeStore (s : State) (off : Nat) (d : Bytes) : State :=
  if s.rte.frozen then { s with rte := { s.rte with wdiscardCnt := s.rte.wdiscardCnt + 1 } }
  else { s with rte := { s.rte with staging := memFill s.rte.staging off d } }

/-- A BAR2 write to a window whose store answers (R544): every window but the staging areas and the records is read-only. -/
def State.bar2Store (s : State) (off : Nat) (d : Bytes) : State :=
  if off < 0x2000000 then s.imgStore off d
  else if off < 0x4000000 then corWindow (d.length + 1) (off - 0x2000000) d s
  else if 0x4800000 ≤ off ∧ off < 0x4900000 then s.layoutStore (off - 0x4800000) d
  else if 0x4900000 ≤ off ∧ off < 0x4A00000 then s.routeStore (off - 0x4900000) d
  else s.wdiscard

/-- A host write to BAR2 (R456, R499, R503, R544): a closing gate holds it, and an error response is recorded. -/
def State.bar2Write (s : State) (off : Nat) (d : Bytes) : State :=
  if !s.pcieUp then s
  else match s.bar2Code off, bar2Window off with
    | some 0, _ => s.bar2Store off d
    | none, some (_, _, _, g) =>
      { s with clk := { s.clk with held := s.clk.held ++ [{ gate := g, addr := off, val := 0, data := some d }] } }
    | some c, _ => s.fabErr { addr := off, hi := 0xB2, master := 12, id := 0, write := true, code := c, ts := s.ts32 }
    | none, none => s

/-- IMG_WINDOW_WRITE (R376). -/
def execImgWindowWrite (t off : Nat) (data : Bytes) (s : State) : Result :=
  .next (if 0x2000000 < off + data.length then s else (s.at t).bar2Write off data)

/-- COR_WINDOW_WRITE (R178): `off` counts from the window's base. -/
def execCorWindowWrite (t off : Nat) (data : Bytes) (s : State) : Result :=
  .next (if 0x1860000 < off + data.length then s else (s.at t).bar2Write (0x2000000 + off) data)

/-- LAYOUT_WINDOW_WRITE (R544). -/
def execLayoutWindowWrite (t off : Nat) (data : Bytes) (s : State) : Result :=
  .next (if 0x84440 < off + data.length then s else (s.at t).bar2Write (0x4800000 + off) data)

/-- ROUTE_WINDOW_WRITE (R148). -/
def execRouteWindowWrite (t off : Nat) (data : Bytes) (s : State) : Result :=
  .next (if 0x30440 < off + data.length then s else (s.at t).bar2Write (0x4900000 + off) data)

/-- RO_WINDOW_WRITE (R544): a write to a read-only window is discarded and counted; an offset in no window is answered
UNMAPPED. -/
def execRoWindowWrite (t off : Nat) (data : Bytes) (s : State) : Result :=
  .next (if off < 0x4000000 ∨ (0x4800000 ≤ off ∧ off < 0x4884440) ∨ (0x4900000 ≤ off ∧ off < 0x4930440) then s
    else (s.at t).bar2Write off data)

end Sys2Proof.Machine
end

