-- ==== Sys2Proof/Machine/Boot.lean ====
section
/-! DEFINITION. Resets and the image download (chapter "Modes, Power-Up and Image Download"): the reset sources, PERST#, the way
to AWAIT_IMAGE, and the states of IMG_STATUS (R363 to R378). -/

namespace Sys2Proof.Machine

/-! Resets. -/

/-- The power path as a reset leaves it: the feeds, the store and the pins are physical, PWR_RAILFAULT keeps its record (R470,
R483), and everything else returns to its reset value. -/
def PwrSt.afterReset (p : PwrSt) : PwrSt :=
  { PwrSt.reset with source := p.source, aOk := p.aOk, bOk := p.bOk, holdupReady := p.holdupReady, rail := p.rail,
                     tries := p.tries, bSince := p.bSince.map fun _ => 0, resetLow := p.resetLow, perst := p.perst }

/-- The module resets from a source of R363: everything but the OTP and SYS_RST_INFO. What has left the module and the queue of
waiting commands are outside it; time starts again at the reset's end. -/
def State.resetTo (s : State) (source : Nat) : State :=
  { State.reset with
    pending := s.pending
    out := s.out
    free := s.free
    pwr := s.pwr.afterReset
    sys := { SysSt.reset with rstSource := source, rstReason := if source = 1 then 0 else s.intg.reason, addrId := s.sys.addrId,
                              sgmii := s.sys.sgmii } }

/-- Bring-up starts at a step of R468, and ends in a reset from `source`. -/
def State.startBring (s : State) (step source : Nat) : State :=
  { s with pwr := { s.pwr with bring := some (step, source), off := true, stuck := false, domains := 1, transAt := s.now } }

/-- The module is without its rails: in DEEP_SLEEP, or off under R462, R470 or R538. -/
def State.unpowered (s : State) : Bool := s.sys.mode == .deepSleep || s.pwr.off

/-- RESET_PIN (R363): MOD_RST_N low for 10 µs. Where the rails are down they come up first, from the step at 4 ms (R480); a
bring-up that runs goes on. -/
def execResetPin (t : Nat) (s : State) : Result :=
  let s := s.at t
  .next (if !s.domainOn 0 then s
    else
      let s := { s with pwr := { s.pwr with resetLow := true } }
      if s.pwr.bring.isSome then s else if s.unpowered then s.startBring 3 2 else s.resetTo 2)

/-- RESET_PIN_RELEASE (R533): the straps are sampled, and the ROM starts, unless bring-up still runs. -/
def execResetPinRelease (t addrId : Nat) (sgmii : Bool) (s : State) : Result :=
  let s := s.at t
  .next (if !s.pwr.resetLow then s
    else
      let s := { s with pwr := { s.pwr with resetLow := false }, sys := { s.sys with addrId, sgmii } }
      if s.unpowered then s else { s with now := 0 })

/-- SYS_RESET_EXEC (R359): 1 ms after the reply. A reply that has fallen due since is written with ABORTED first (R350, R352). -/
def execSysResetExec (t : Nat) (s : State) : Result :=
  let s := s.at t
  .next (match s.key.resetAt with
    | some r => if r ≤ s.now then s.abortDue.resetTo 3 else s
    | none => s)

/-- PERST# is asserted, or REFCLK is lost (R365, R452, R501): the rings are disabled, and the endpoint's port is drained. -/
def State.perstLow (s : State) (outstanding : List FabErr) : State :=
  let s := (s.setCmdEn false).setRplEn false
  let s := outstanding.foldl (fun s e => s.fabErr { e with master := 12, code := 6, ts := s.ts32 }) s
  { s with fab := { s.fab with drain := if bit s.fab.drain 12 then s.fab.drain else s.fab.drain + 2 ^ 12 } }

/-- PERST (R365). -/
def execPerst (t : Nat) (low : Bool) (outstanding : List FabErr) (s : State) : Result :=
  let s := s.at t
  .next (if s.pwr.perst == low then s
    else
      let s := { s with pwr := { s.pwr with perst := low } }
      if low && s.domainOn 1 then s.perstLow outstanding else s)

/-- DRAIN_RELEASE (R501): the port of master `m` is released, and the reset counts. -/
def execDrainRelease (t m : Nat) (s : State) : Result :=
  let s := s.at t
  .next (if bit s.fab.drain m then
      { s with fab := { s.fab with drain := s.fab.drain - 2 ^ m, rst := s.fab.rst + 1, evt := setBit s.fab.evt 3 } }
    else s)

/-! COLD to AWAIT_IMAGE. -/

/-- The training of both channels has ended, well or not (R367, R487). -/
def State.trainEnded (s : State) : Bool := s.ddr.next0 == 10 && s.ddr.next1 == 10

/-- The gates that the ROM opens (R455). -/
def romGates : List Nat := [0, 1, 2, 3, 4, 5, 6, 7, 9, 10, 11, 13]

/-- BOOT_AWAIT_IMAGE (R360, R366, R368): training has ended and the ports are enabled; MGMT takes its link-local address. -/
def execBootAwaitImage (t : Nat) (s : State) : Result :=
  let s := s.at t
  .next (if s.sys.mode != .cold || s.pwr.resetLow || s.pwr.off || !s.trainEnded then s
    else
      let s := romGates.foldl (fun s g => (s.setRun g true).setGate g true) s
      let ip := 169 * 2 ^ 24 + 254 * 2 ^ 16 + 76 * 2 ^ 8 + s.sys.addrId + 1
      let s := { s with dac := { s.dac with running := true } }
      (s.onMac 2 fun m => { m with ip, prefixLen := 16 }).setMode .awaitImage)

/-! The download (R375 to R377). -/

/-- From VERIFYING onward. -/
def BootSt.late (b : BootSt) : Bool := decide (2 ≤ b.state.num ∧ b.state.num ≤ 6)

/-- IDLE or FAILED. -/
def BootSt.idle (b : BootSt) : Bool := b.state == .idle || b.state == .failed

/-- IMG_BEGIN: RECEIVING, with nothing received. -/
def imgBeginRun (i : CmdIn) (s : State) : Verdict :=
  let size := rd32 i.body 0
  if s.sys.mode != .awaitImage then .no .badMode
  else if !zeroAt i.body 4 4 || size < 0xA2764 || 0x2000000 < size then .no .badParam
  else if s.boot.late then .no .busy
  else if !s.dramOk then .no .denied
  else .ok { s with boot := { s.boot with state := .receiving, result := 0, offset := 0, received := 0, size, badLine := none } }

/-- IMG_BEGIN. -/
def imgBeginCmd : Cmd :=
  { op := 0x130, boot := true, len := lenIs 8, uses := false, quiet := false, asleep := false, mirrored := false, run := imgBeginRun }

/-- IMG_BEGIN (R375, R376). -/
def execImgBegin (h : Hdr) (p : Bytes) (s : State) : Result := keyway imgBeginCmd h p s

/-- IMG_DATA: the bytes are stored. -/
def imgDataRun (i : CmdIn) (s : State) : Verdict :=
  let off := rd32 i.body 0
  let n := rd16 i.body 4
  if s.sys.mode != .awaitImage then .no .badMode
  else if !s.dramOk then (if !zeroAt i.body 6 2 || n = 0 || 1424 < n then .no .badParam else .no .denied)
  else if s.boot.idle then .no .badMode
  else if !zeroAt i.body 6 2 || n = 0 || 1424 < n || s.boot.size < off + n then .no .badParam
  else if s.boot.late then .no .busy
  else .ok { s with boot := { s.boot with staging := memFill s.boot.staging off (slice i.body 8 n),
                                          received := (s.boot.received + n) % 2 ^ 32
                                          badLine := s.boot.badLine.filter fun l => !(decide (off ≤ l) && decide (l + 64 ≤ off + n)) } }

/-- IMG_DATA. -/
def imgDataCmd : Cmd :=
  { op := 0x131, boot := true, len := fun n p => decide (8 ≤ n) && n == 8 + rd16 p 4, uses := false, quiet := false,
    asleep := false, mirrored := false, run := imgDataRun }

/-- IMG_DATA (R375, R376). -/
def execImgData (h : Hdr) (p : Bytes) (s : State) : Result := keyway imgDataCmd h p s

/-- IMG_END: verification starts, unless a staged line is known to have failed (R284). -/
def imgEndRun (_i : CmdIn) (s : State) : Verdict :=
  if s.sys.mode != .awaitImage then .no .badMode
  else if !s.dramOk then .no .denied
  else if s.boot.idle then .no .badMode
  else if s.boot.badLine.isSome then .no .badParam
  else if s.boot.late then .no .busy
  else .ok { s with boot := { s.boot with state := .verifying } }

/-- IMG_END. -/
def imgEndCmd : Cmd :=
  { op := 0x132, boot := true, len := lenIs 0, uses := false, quiet := false, asleep := false, mirrored := false, run := imgEndRun }

/-- IMG_END (R375, R376). -/
def execImgEnd (h : Hdr) (p : Bytes) (s : State) : Result := keyway imgEndCmd h p s

/-- IMAGE_ID of IMG_STATUS: 0 before VERIFYING. -/
def State.imgId (s : State) : Nat :=
  if s.boot.state == .done then s.sys.imageId else if s.boot.state.num < 2 then 0 else memLE s.boot.staging 8 4

/-- IMG_STATUS: the 16 bytes of R377. -/
def imgStatusCmd : Cmd :=
  { op := 0x133, boot := true, len := lenIs 0, uses := false, quiet := true, asleep := true, mirrored := false,
    run := fun _ s => .done s (leB 1 s.boot.state.num ++ leB 1 s.boot.result ++ leB 1 s.boot.failedEng ++ zeros 1
      ++ leB 4 s.boot.offset ++ leB 4 s.boot.received ++ leB 4 s.imgId) (s.tick + 1) }

/-- IMG_STATUS (R377). -/
def execImgStatus (h : Hdr) (p : Bytes) (s : State) : Result := keyway imgStatusCmd h p s

/-- IMG_VERIFY_DONE (R373, R376): the result of the check; a staged line that failed its CRC ends it. -/
def execImgVerifyDone (t : Nat) (badLine : Option Nat) (s : State) : Result :=
  let s := s.at t
  .next (if s.boot.state != .verifying then s
    else match badLine with
      | some off => { s with boot := { s.boot with state := .failed, result := 6, offset := off, badLine := some off } }
      | none =>
        let (r, off, h) := imgVerify s.boot.staging s.boot.size
        if r = 1 then { s with boot := { s.boot with state := .loading, result := 1, offset := 0, imgHash := h } }
        else { s with boot := { s.boot with state := .failed, result := r, offset := off } })

/-- IMG_LOAD_DONE (R371, R376): the sections are in place, the copy is written, and the customer slots show their budgets. -/
def execImgLoadDone (t : Nat) (s : State) : Result :=
  let s := s.at t
  .next (if s.boot.state != .loading then s
    else
      let m := s.boot.staging
      let slots := (List.range 4).map fun k =>
        ({ loaded := imgBudget m k != 0, disabledOvr := false, budget := imgBudget m k, overruns := 0 } : KSlot)
      { s with
        boot := { s.boot with state := .selftest, image := tabDrop m s.boot.size (2 ^ 64), imageTotal := s.boot.size }
        pan := { s.pan with kernelId := memLE m (imgSect m 4) 2 }
        tap := { s.tap with kslots := slots } })

/-- Engine `k` is declared hard-failed: it stays out of service until reset (R281). -/
def State.declareFailed (s : State) (k : Nat) : State :=
  let s := s.onEngine k fun e => { e with st := .failed, unit := none }
  { s with intg := { s.intg with hardCnt := s.intg.hardCnt + 1, evt := setBit s.intg.evt 4 } }

/-- A shard comes to a spare (R19): the engine that held it holds it no more. -/
def State.moveTo (s : State) (sh sp : Nat) : State :=
  let es := s.tap.engines.map fun e => if e.shard = some sh then { e with shard := none } else e
  let s := { s with tap := { s.tap with engines := es } }.onEngine sp fun e => { e with shard := some sh }
  { s with rnd := { s.rnd with shardEng := setAt s.rnd.shardEng sh sp, moved := setAt s.rnd.moved sh true
                               migrateCnt := s.rnd.migrateCnt + 1, evt := setBit s.rnd.evt 3 } }

/-- The shard that the failed engine `k` held, or was to hold, has no engine: it takes the lower-numbered free spare, or is homeless
(R19, R271, R282, R283). The result names the shard and the spare; the move itself comes later. -/
def State.assignSpare (s : State) (k : Nat) : Option (Nat × Option Nat) × State :=
  let sh? := match s.rnd.moves.find? fun m => m.2 == k with
    | some m => some m.1
    | none => (s.engine k).shard
  let s := { s with rnd := { s.rnd with moves := s.rnd.moves.filter fun m => m.2 != k } }
  match sh? with
  | none => (none, s)
  | some sh =>
    match s.freeSpares with
    | sp :: _ => (some (sh, some sp), { s with rnd := { s.rnd with moves := s.rnd.moves ++ [(sh, sp)] } })
    | [] =>
      let es := s.tap.engines.map fun e => if e.shard = some sh then { e with shard := none } else e
      (some (sh, none), { s with intg := { s.intg with homeless := s.intg.homeless ++ [sh] }, tap := { s.tap with engines := es }
                                 rnd := { s.rnd with evt := setBit s.rnd.evt 4 }, disp := { s.disp with evt := setBit s.disp.evt 4 } })

/-- The moves that wait take place: at a tick boundary, or where no tick runs (R19). A spare whose load has ended is in service. -/
def State.applyMoves (s : State) : State :=
  let loading (sh : Nat) : Bool := s.disp.queue.any fun u => u.d.kind == 6 && u.d.shard == sh
  s.rnd.moves.foldl (fun s m =>
    (s.moveTo m.1 m.2).onEngine m.2 fun e => if e.st == .spare && !loading m.1 then { e with st := .idle } else e)
    { s with rnd := { s.rnd with moves := [] } }

/-- ENGINE_SELFTEST_DONE (R376, R378): the failed engines are declared in ascending number; a spare that failed is never free. -/
def execEngineSelftestDone (t : Nat) (failed : List Nat) (s : State) : Result :=
  let s := s.at t
  .next (if s.boot.state != .selftest then s
    else
      let bad := (List.range 34).filter failed.contains
      let s := bad.foldl State.declareFailed s
      let s := (bad.foldl (fun s k => (s.assignSpare k).2) s).applyMoves
      { s with boot := { s.boot with state := .starting, failedEng := bad.length } })

/-- FIRMWARE_READY (R360, R376): the image runs, and the module enters STAGED. -/
def execFirmwareReady (t : Nat) (s : State) : Result :=
  let s := s.at t
  .next (if s.boot.state != .starting || s.sys.mode != .awaitImage then s
    else
      let s := { s with boot := { s.boot with state := .done },
                        sys := { s.sys with imageId := memLE s.boot.image 8 4, imageVer := memLE s.boot.image 0xC 4 } }
      s.setMode .staged)

end Sys2Proof.Machine
end

