-- ==== Sys2Proof/Machine/ObjectCmds.lean ====
section
/-! DEFINITION. The object and bed commands (chapter "Objects, Beds and Motion in Scene Time", R61 to R92), and the one way by
which a metadata block joins a context's pending blocks. -/

namespace Sys2Proof.Machine

/-- The context's fields of a block-carrying command: an object or a bed input, whether the command belongs to the source SRC
(R71), what its parameters must satisfy besides the number, and the block they make. -/
structure BlockForm where
  bed : Bool
  ofSource : Bool
  ok : Bytes → Bool
  blk : Bytes → Blk → Blk

/-- A block is accepted (R93). -/
def State.objAccepted (s : State) : State := { s with obj := { s.obj with acceptCnt := s.obj.acceptCnt + 1 } }

/-- A block is discarded as stale (R69). -/
def State.objStaleBlock (s : State) : State := { s with obj := { s.obj with staleCnt := s.obj.staleCnt + 1 } }

/-- An accepted block joins the pending blocks of an object; a stale object is active again from boundary `w` (R69, R90). -/
def State.pendObjAt (s : State) (w o : Nat) (b : Blk) : State :=
  let (c, b) := (s.objCtx o).unstale w b
  (s.setObj o { c with pend := insertBy Blk.before b c.pend }).objAccepted

/-- An accepted block joins the pending blocks of an object: a stale object is active again from the first boundary whose cutoff has
not passed. -/
def State.pendObj (s : State) (o : Nat) (b : Blk) : State := s.pendObjAt (min b.tick s.firstCut) o b

/-- An accepted block joins the pending blocks of a bed input. -/
def State.pendBed (s : State) (k : Nat) (b : Blk) : State :=
  let c := s.bedCtx k
  (s.setBed k { c with pend := insertBy Blk.before b c.pend }).objAccepted

/-- A block takes effect at once (R560). -/
def State.blockNow (s : State) (bed : Bool) (k : Nat) (b : Blk) : State :=
  if bed then (s.setBed k ((s.bedCtx k).apply false s.tick b)).objAccepted
  else
    let (c, b) := (s.objCtx k).unstale s.tick b
    (s.setObj k ((c.wakeAt s.tick).apply s.refs false s.tick b)).objAccepted

/-- The pending blocks and the last applied boundary of a context. -/
def State.pendOf (s : State) (bed : Bool) (k : Nat) : List Blk × Option Nat :=
  if bed then ((s.bedCtx k).pend, (s.bedCtx k).lastTick) else ((s.objCtx k).pend, (s.objCtx k).lastTick)

/-- The order of a command's block among blocks of its boundary: that of acceptance (R70). -/
def State.nextOrd (s : State) : State := { s with ord := s.ord + 1 }

/-- A block-carrying command (R65 to R71). What the decider has checked and mirrored, its follower takes as it is (R316). -/
def blockRun (f : BlockForm) (i : CmdIn) (s : State) : Verdict :=
  let k := rd16 i.body 0
  let inside := decide (k < if f.bed then 128 else objCount s.rnd.rate96)
  let first := s.firstCut
  let src := match if s.staged then some s.tick else s.judged i first with
    | some n => (s.objCtx k).srcAt n
    | none => true
  if inside && f.ofSource && !src && i.mirror.isNone then .no .badMode
  else if !inside || !f.ok i.body then .no .badParam
  else
    let mk (n : Nat) : Blk := f.blk i.body { Blk.empty n s.ord 0 true with ofSource := f.ofSource }
    if s.staged then .ok ((s.blockNow f.bed k (mk s.tick)).nextOrd)
    else match s.boundary i first with
      | .bad => .no .badParam
      | .late => .no .late
      | .ok n =>
        let (pend, last) := s.pendOf f.bed k
        if last.any (n ≤ ·) then .done s.objStaleBlock [] n
        else if i.mirror.isNone && 8 ≤ pend.length then .no .refusedFull
        else .done (if f.bed then (s.pendBed k (mk n)).nextOrd else (s.pendObj k (mk n)).nextOrd) [] n

/-- A block-carrying command of the table. -/
def blockCmd (op : Nat) (len : Nat → Bytes → Bool) (f : BlockForm) : Cmd :=
  { op, boot := false, len, uses := true, quiet := false, asleep := false, mirrored := true, run := blockRun f }

/-- A length in samples as ticks: rounded down, at least 1 (R74, R78). -/
def rampTicks (n : Nat) : Nat := max 1 (n / 16)

/-- The largest ramp of R92. -/
def rampMax : Nat := 1048560

/-- OBJ_BIND: the ACID. -/
def objBindCmd : Cmd :=
  blockCmd 0x201 (lenIs 12) { bed := false, ofSource := false, ok := fun p => zeroAt p 2 2 && zeroAt p 8 4,
                              blk := fun p b => { b with acid := some (rd32 p 4) } }

/-- OBJ_BIND (R61). -/
def execObjBind (h : Hdr) (p : Bytes) (s : State) : Result := keyway objBindCmd h p s

/-- OBJ_SOURCE: SRC. -/
def objSourceCmd : Cmd :=
  blockCmd 0x202 (lenIs 12) { bed := false, ofSource := false, ok := fun p => decide (rd16 p 2 ≤ 1) && zeroAt p 4 8,
                              blk := fun p b => { b with source := some (rd16 p 2 == 1) } }

/-- OBJ_SOURCE (R71). -/
def execObjSource (h : Hdr) (p : Bytes) (s : State) : Result := keyway objSourceCmd h p s

/-- A coordinate within the venue's range (R64). -/
def venueOk (x : Int) : Bool := inRange (-8388607) 8388607 x

/-- OBJ_MOVE: a segment. -/
def objMoveCmd : Cmd :=
  blockCmd 0x203 (lenIs 20)
    { bed := false, ofSource := true
      ok := fun p => zeroAt p 2 2 && venueOk (rdS32 p 4) && venueOk (rdS32 p 8) && venueOk (rdS32 p 12)
        && decide (rd32 p 16 ≤ rampMax)
      blk := fun p b => { b with pos := some { x := 256 * rdS32 p 4, y := 256 * rdS32 p 8, z := 256 * rdS32 p 12 },
                                 len := rampTicks (rd32 p 16) } }

/-- OBJ_MOVE (R74 to R76). -/
def execObjMove (h : Hdr) (p : Bytes) (s : State) : Result := keyway objMoveCmd h p s

/-- The parameters of OBJ_GAIN and BED_GAIN (R92). -/
def gainOk (p : Bytes) : Bool := decide (rd8 p 2 < 3) && rd8 p 3 == 0 && decide (rd32 p 8 ≤ rampMax)

/-- The block of OBJ_GAIN and BED_GAIN: `unit` is the number of steps in a tick. -/
def gainBlk (unit : Nat) (p : Bytes) (b : Blk) : Blk :=
  { b with mute := if rd8 p 2 = 1 then some true else if rd8 p 2 = 2 then some false else none
           gain := if rd8 p 2 = 0 then some (rdS32 p 4) else none
           ramp := unit * rampTicks (rd32 p 8) }

/-- OBJ_GAIN: gain, mute or unmute. -/
def objGainCmd : Cmd := blockCmd 0x204 (lenIs 12) { bed := false, ofSource := true, ok := gainOk, blk := gainBlk 1 }

/-- OBJ_GAIN (R78, R79). -/
def execObjGain (h : Hdr) (p : Bytes) (s : State) : Result := keyway objGainCmd h p s

/-- OBJ_SPREAD: mode and value. -/
def objSpreadCmd : Cmd :=
  blockCmd 0x205 (lenIs 12)
    { bed := false, ofSource := true
      ok := fun p => decide (rd8 p 2 ≤ 1) && rd8 p 3 == 0 && decide (rd32 p 4 ≤ if rd8 p 2 = 1 then 32768 else 8388607)
        && decide (rd32 p 8 ≤ rampMax)
      blk := fun p b => { b with spread := some (rd8 p 2 == 1, rd32 p 4), ramp := rampTicks (rd32 p 8) } }

/-- OBJ_SPREAD (R85). -/
def execObjSpread (h : Hdr) (p : Bytes) (s : State) : Result := keyway objSpreadCmd h p s

/-- Zone `k` of OBJ_ZONES. -/
def zoneAt (p : Bytes) (k : Nat) : Zone :=
  let a (j : Nat) := rdS32 p (4 + 24 * k + 4 * j)
  { xmin := a 0, xmax := a 1, ymin := a 2, ymax := a 3, zmin := a 4, zmax := a 5 }

/-- Each minimum is at most its maximum (R92). -/
def Zone.ok (z : Zone) : Bool := decide (z.xmin ≤ z.xmax ∧ z.ymin ≤ z.ymax ∧ z.zmin ≤ z.zmax)

/-- The zones of OBJ_ZONES. -/
def zonesOf (p : Bytes) : List Zone := (List.range (rd8 p 2)).map (zoneAt p)

/-- OBJ_ZONES: the zones replaced. -/
def objZonesCmd : Cmd :=
  blockCmd 0x206 (fun n p => decide (4 ≤ n) && n == 4 + 24 * rd8 p 2)
    { bed := false, ofSource := true, ok := fun p => decide (rd8 p 2 ≤ 4) && rd8 p 3 == 0 && (zonesOf p).all Zone.ok,
      blk := fun p b => { b with zones := some (zonesOf p) } }

/-- OBJ_ZONES (R86). -/
def execObjZones (h : Hdr) (p : Bytes) (s : State) : Result := keyway objZonesCmd h p s

/-- OBJ_LAYOUTS: LAYOUT_MASK. -/
def objLayoutsCmd : Cmd :=
  blockCmd 0x207 (lenIs 12) { bed := false, ofSource := false, ok := fun p => zeroAt p 4 8,
                              blk := fun p b => { b with mask := some (rd16 p 2) } }

/-- OBJ_LAYOUTS (R88). -/
def execObjLayouts (h : Hdr) (p : Bytes) (s : State) : Result := keyway objLayoutsCmd h p s

/-- OBJ_ATTEN: ALPHA, DREF and DMAX. -/
def objAttenCmd : Cmd :=
  blockCmd 0x208 (lenIs 12)
    { bed := false, ofSource := false, ok := fun p => decide (rd16 p 2 ≤ 3 ∧ 1 ≤ rd32 p 4 ∧ rd32 p 4 ≤ rd32 p 8),
      blk := fun p b => { b with atten := some (rd16 p 2, rd32 p 4, rd32 p 8) } }

/-- OBJ_ATTEN (R82). -/
def execObjAtten (h : Hdr) (p : Bytes) (s : State) : Result := keyway objAttenCmd h p s

/-- BED_GAIN: a bed input's gain, in samples (R80). -/
def bedGainCmd : Cmd := blockCmd 0x20B (lenIs 12) { bed := true, ofSource := false, ok := gainOk, blk := gainBlk 16 }

/-- BED_GAIN (R80). -/
def execBedGain (h : Hdr) (p : Bytes) (s : State) : Result := keyway bedGainCmd h p s

/-- BED_BIND: a bed input's ACID. -/
def bedBindCmd : Cmd :=
  blockCmd 0x20C (lenIs 12) { bed := true, ofSource := false, ok := fun p => zeroAt p 2 2 && zeroAt p 8 4,
                              blk := fun p b => { b with acid := some (rd32 p 4) } }

/-- BED_BIND (R61). -/
def execBedBind (h : Hdr) (p : Bytes) (s : State) : Result := keyway bedBindCmd h p s

/-- SCENE_XFORM: the transform, in STAGED only. -/
def sceneXformRun (i : CmdIn) (s : State) : Verdict :=
  let p := i.body
  let ext (k : Nat) := inRange 1 8388607 (rdS32 p k)
  if s.sys.mode != .staged then .no .badMode
  else if !(ext 12 && ext 16 && ext 20 && ext 24 && zeroAt p 30 2) then .no .badParam
  else
    let x : Xform := { o := { x := rdS32 p 0, y := rdS32 p 4, z := rdS32 p 8 },
                       h := { x := rdS32 p 12, y := rdS32 p 16, z := rdS32 p 20 }, dp := rdS32 p 24, yaw := rd16 p 28 }
    .ok { s with obj := { s.obj with xform := x } }

/-- SCENE_XFORM. -/
def sceneXformCmd : Cmd :=
  { op := 0x209, boot := false, len := lenIs 32, uses := false, quiet := false, asleep := false, mirrored := false,
    run := sceneXformRun }

/-- SCENE_XFORM (R62). -/
def execSceneXform (h : Hdr) (p : Bytes) (s : State) : Result := keyway sceneXformCmd h p s

/-- META_POLICY: hold time and policy of one flow index, at once. -/
def metaPolicyRun (i : CmdIn) (s : State) : Verdict :=
  let p := i.body
  if 1024 ≤ rd16 p 0 || 1 < rd8 p 2 || rd8 p 3 != 0 || !inRange 40 10000 (rd32 p 4) then .no .badParam
  else .ok { s with obj := { s.obj with pol := tabSet MetaPol.reset s.obj.pol (rd16 p 0)
                                                 { fade := rd8 p 2 == 1, holdMs := rd32 p 4 } } }

/-- META_POLICY. -/
def metaPolicyCmd : Cmd :=
  { op := 0x20A, boot := false, len := lenIs 8, uses := false, quiet := false, asleep := false, mirrored := true,
    run := metaPolicyRun }

/-- META_POLICY (R89, R92). -/
def execMetaPolicy (h : Hdr) (p : Bytes) (s : State) : Result := keyway metaPolicyCmd h p s

/-- The record of R55 as OBJ_QUERY reports it: at the last completed tick while ticks run, otherwise as the context stands. -/
def State.objRecord (s : State) (o : Nat) : Bytes :=
  if s.rendering then (tabGet ObjCtx.reset s.obj.seen o).record o s.obj.seenTick else (s.objCtx o).record o s.tick

/-- OBJ_QUERY: the record of R55. -/
def objQueryRun (i : CmdIn) (s : State) : Verdict :=
  if objCount s.rnd.rate96 ≤ rd16 i.body 0 || !zeroAt i.body 2 2 then .no .badParam
  else .done s (s.objRecord (rd16 i.body 0)) (s.tick + 1)

/-- OBJ_QUERY. -/
def objQueryCmd : Cmd :=
  { op := 0x20D, boot := false, len := lenIs 4, uses := false, quiet := true, asleep := true, mirrored := false,
    run := objQueryRun }

/-- OBJ_QUERY (R55, R92). -/
def execObjQuery (h : Hdr) (p : Bytes) (s : State) : Result := keyway objQueryCmd h p s

end Sys2Proof.Machine
end

