-- ==== Sys2Proof/Machine/LayoutCmds.lean ====
section
/-! DEFINITION. The layout and panning commands (chapter "Layouts, Facet Panning and Pair Delay", R97 to R126), and the list of
scheduled commands that several chapters share. -/

namespace Sys2Proof.Machine

/-- A command is scheduled for boundary `n`, after every command accepted earlier for it (R70). -/
def State.schedule (s : State) (n : Nat) (i : CmdIn) : State :=
  let e : Sched' := { tick := n, ord := s.ord, op := i.op, body := i.body, ref := i.ref }
  { s with sched := insertBy (fun a b => decide (a.tick < b.tick)) e s.sched, ord := s.ord + 1 }

/-- A command that acts at once in STAGED and LOCKING, and otherwise at its boundary (R65 to R68, R560): `now` is the effect at
once, `later` what is kept for the boundary. -/
def scheduled (i : CmdIn) (s : State) (now : State) (later : Nat → State) : Verdict :=
  if s.staged then .ok now
  else match s.boundary i s.firstCut with
    | .bad => .no .badParam
    | .late => .no .late
    | .ok n => .done (later n) [] n

/-- The parameters of a staging write (LAYOUT_WRITE, ROUTE_WRITE): LEN is 1 to 1,024, inside an area of `size` bytes. -/
def stageOk (size : Nat) (p : Bytes) : Bool :=
  decide (1 ≤ rd16 p 4 ∧ rd16 p 4 ≤ 1024 ∧ rd32 p 0 + rd16 p 4 ≤ size) && zeroAt p 6 2

/-- LENGTH of a staging write. -/
def stageLen (n : Nat) (p : Bytes) : Bool := decide (8 ≤ n) && n == 8 + rd16 p 4

/-- LAYOUT_WRITE: bytes into the staging area. -/
def layoutWriteRun (i : CmdIn) (s : State) : Verdict :=
  if s.sys.mode != .staged then .no .badMode
  else if !stageOk layoutLen i.body then .no .badParam
  else .ok { s with pan := { s.pan with staging := memFill s.pan.staging (rd32 i.body 0) (slice i.body 8 (rd16 i.body 4)) } }

/-- LAYOUT_WRITE. -/
def layoutWriteCmd : Cmd :=
  { op := 0x301, boot := false, len := stageLen, uses := false, quiet := false, asleep := false, mirrored := false,
    run := layoutWriteRun }

/-- LAYOUT_WRITE (R97, R126). -/
def execLayoutWrite (h : Hdr) (p : Bytes) (s : State) : Result := keyway layoutWriteCmd h p s

/-- The method of the layout that holds a feed; 0 where none does (R96). -/
def feedMethod (lays : List LayoutRec) (f : Nat) : Nat :=
  match lays.find? fun r => decide (r.first ≤ f ∧ f < r.first + r.count) with
  | some r => r.method
  | none => 0

/-- The feed of a pair-store index (R103). -/
def pairFeed (r96 : Bool) (k : Nat) : Nat := if r96 then k % 3072 / 8 else k % 12288 / 16

/-- The entries of both banks whose feed is in no layout, or in a NONE layout, return to code 0 and D_MIN (R122). -/
def State.idlePairs (s : State) : State :=
  let lays := s.layouts
  { s with pan := { s.pan with pairs := s.pan.pairs.filter fun e => feedMethod lays (pairFeed s.rnd.rate96 (e.1 % 393216)) != 0 } }

/-- The speed of sound of layout `l`: 0 where it is not WAVEFRONT. -/
def State.soundOf (s : State) (l : Nat) : Ramp := tabGet (Ramp.at 0) s.pan.sound l

/-- PAN_SOUND as it stands at boundary `n` (R127). -/
def State.soundView (s : State) (n : Nat) : Tab (Nat × Bool) :=
  (List.range 16).foldl (fun t l =>
    let r := s.soundOf l
    tabSet (0, false) t l ((r.val n).toNat, decide (n < r.start + r.len))) []

/-- The staged layout image becomes current (R97, R124). -/
def State.layoutLoad (s : State) : State :=
  let s := { s with pan := { s.pan with image := s.pan.staging, norm := [], first := true } }
  let snd := (List.range 16).foldl (fun t l =>
    let r := layoutRec s.pan.image l
    tabSet (Ramp.at 0) t l (Ramp.at (if r.method = 2 ∧ r.count ≠ 0 then r.sound else 0))) []
  let s := { s with pan := { s.pan with sound := snd } }
  { s with pan := { s.pan with soundSeen := s.soundView s.tick } }.idlePairs

/-- LAYOUT_LOAD: checked and made current, or refused with the offset of the first failing field. -/
def layoutLoadRun (_i : CmdIn) (s : State) : Verdict :=
  if s.sys.mode != .staged then .no .badMode
  else match layoutCheck s.pan.staging (feedCount s.rnd.rate96) with
    | some off => .refuse .badParam (leB 4 off)
    | none => .ok s.layoutLoad

/-- LAYOUT_LOAD. -/
def layoutLoadCmd : Cmd :=
  { op := 0x302, boot := false, len := lenIs 0, uses := false, quiet := false, asleep := false, mirrored := false,
    run := layoutLoadRun }

/-- LAYOUT_LOAD (R102). -/
def execLayoutLoad (h : Hdr) (p : Bytes) (s : State) : Result := keyway layoutLoadCmd h p s

/-- LAYOUT_QUERY: the 64-byte record. -/
def layoutQueryRun (i : CmdIn) (s : State) : Verdict :=
  if 16 ≤ rd8 i.body 0 || !zeroAt i.body 1 3 then .no .badParam
  else .done s (memRead s.pan.image (0x40 + 64 * rd8 i.body 0) 64) (s.tick + 1)

/-- LAYOUT_QUERY. -/
def layoutQueryCmd : Cmd :=
  { op := 0x303, boot := false, len := lenIs 4, uses := false, quiet := true, asleep := true, mirrored := false,
    run := layoutQueryRun }

/-- LAYOUT_QUERY (R99, R126). -/
def execLayoutQuery (h : Hdr) (p : Bytes) (s : State) : Result := keyway layoutQueryCmd h p s

/-- A speed-of-sound ramp starts at boundary `n`, from the c in force there (R124). -/
def State.soundAt (s : State) (n : Nat) (p : Bytes) : State :=
  let l := rd8 p 0
  { s with pan := { s.pan with sound := tabSet (Ramp.at 0) s.pan.sound l ((s.soundOf l).to n (rd32 p 4) (rd32 p 8)) } }

/-- A speed of sound taken at once; no tick completes then, so PAN_SOUND follows at once (R127). -/
def State.soundNow (s : State) (l c : Nat) : State :=
  let s := { s with pan := { s.pan with sound := tabSet (Ramp.at 0) s.pan.sound l (Ramp.at c) } }
  { s with pan := { s.pan with soundSeen := s.soundView s.tick } }

/-- SOUND_SPEED: a ramp of a WAVEFRONT layout's c. -/
def soundSpeedRun (i : CmdIn) (s : State) : Verdict :=
  let p := i.body
  let r := layoutRec s.pan.image (rd8 p 0)
  if 16 ≤ rd8 p 0 || !zeroAt p 1 3 || !inRange 300000 380000 (rd32 p 4) || !inRange 1 65535 (rd32 p 8)
      || r.count == 0 || r.method != 2 then .no .badParam
  else
    scheduled i s (s.soundNow (rd8 p 0) (rd32 p 4))
      (fun n => s.schedule n i)

/-- SOUND_SPEED. -/
def soundSpeedCmd : Cmd :=
  { op := 0x304, boot := false, len := lenIs 12, uses := true, quiet := false, asleep := false, mirrored := true,
    run := soundSpeedRun }

/-- SOUND_SPEED (R124, R126). -/
def execSoundSpeed (h : Hdr) (p : Bytes) (s : State) : Result := keyway soundSpeedCmd h p s

/-- The entry of a pair as it stood at the last completed tick. -/
def State.pairSeen (s : State) (o f : Nat) : PairEntry := .dec (tabGet pairIdle s.pan.seen (pairIndex s.rnd.rate96 o f))

/-- PAIR_QUERY: delays in Q14.18 and expanded gains (R104, R126). -/
def pairQueryRun (i : CmdIn) (s : State) : Verdict :=
  let o := rd16 i.body 0
  let f := rd16 i.body 2
  if objCount s.rnd.rate96 ≤ o || feedCount s.rnd.rate96 ≤ f then .no .badParam
  else
    let e := s.pairSeen o f
    .done s (leB 4 (64 * e.dS) ++ leB 4 (64 * e.dE) ++ leI 4 (gainExpand e.gS) ++ leI 4 (gainExpand e.gE)) (s.tick + 1)

/-- PAIR_QUERY. -/
def pairQueryCmd : Cmd :=
  { op := 0x305, boot := false, len := lenIs 4, uses := false, quiet := true, asleep := true, mirrored := false,
    run := pairQueryRun }

/-- PAIR_QUERY (R126). -/
def execPairQuery (h : Hdr) (p : Bytes) (s : State) : Result := keyway pairQueryCmd h p s

end Sys2Proof.Machine
end

