-- ==== Sys2Proof/Machine/DacCmds.lean ====
section
/-! DEFINITION. The monitor outputs (chapter "Monitor DAC Outputs", R504 to R522): the commands, span changes and the clamps. -/

namespace Sys2Proof.Machine

/-- Channel `n`. -/
def State.dacChan (s : State) (n : Nat) : DacCh := getD' s.dac.chans n DacCh.reset

/-- Change channel `n`. -/
def State.onDac (s : State) (n : Nat) (f : DacCh → DacCh) : State :=
  { s with dac := { s.dac with chans := modAt s.dac.chans n f } }

/-- Set a bit of DAC_EVT. -/
def State.dacEvt (s : State) (i : Nat) : State := { s with dac := { s.dac with evt := setBit s.dac.evt i } }

/-- DAC_CONFIG: each group's strobe source; FRAME needs scene time. -/
def dacConfigRun (i : CmdIn) (s : State) : Verdict :=
  let p := i.body
  if s.sys.mode != .staged then .no .badMode
  else if 1 < rd8 p 0 || 1 < rd8 p 1 || !zeroAt p 2 2 || (s.ptm.scene.isNone && (rd8 p 0 == 1 || rd8 p 1 == 1)) then .no .badParam
  else .ok { s with dac := { s.dac with frame0 := rd8 p 0 == 1, frame1 := rd8 p 1 == 1 } }

/-- DAC_CONFIG. -/
def dacConfigCmd : Cmd :=
  { op := 0x810, boot := false, len := lenIs 4, uses := false, quiet := false, asleep := false, mirrored := false, run := dacConfigRun }

/-- DAC_CONFIG (R511). -/
def execDacConfig (h : Hdr) (p : Bytes) (s : State) : Result := keyway dacConfigCmd h p s

/-- The channels and feeds of DAC_MAP. -/
def dacMaps (p : Bytes) : List (Nat × Option Nat) :=
  (List.range (rd8 p 0)).map fun k =>
    (rd8 p (4 + 4 * k), if rd16 p (6 + 4 * k) = 0xFFFF then none else some (rd16 p (6 + 4 * k)))

/-- DAC_MAP takes effect: at once, or with a cross-fade from boundary `n` (R506). -/
def State.dacMapAt (s : State) (n : Option Nat) (p : Bytes) : State :=
  (dacMaps p).foldl (fun s (c, f) => s.onDac c fun x => { x with feed := f, old := match n with | none => [] | some b => (x.feed, 16 * b) :: x.old }) s

/-- DAC_MAP: up to 16 channels. -/
def dacMapRun (i : CmdIn) (s : State) : Verdict :=
  let p := i.body
  let n := rd8 p 0
  let ok := decide (1 ≤ n ∧ n ≤ 16) && zeroAt p 1 3 && (List.range n).all fun k =>
    decide (rd8 p (4 + 4 * k) < 16) && rd8 p (5 + 4 * k) == 0
      && (rd16 p (6 + 4 * k) == 0xFFFF || decide (rd16 p (6 + 4 * k) < feedCount s.rnd.rate96))
  if !ok then .no .badParam
  else scheduled i s (s.dacMapAt none p) (fun n => s.schedule n i)

/-- DAC_MAP. -/
def dacMapCmd : Cmd :=
  { op := 0x811, boot := false, len := fun n p => decide (4 ≤ n) && n == 4 + 4 * rd8 p 0, uses := true, quiet := false,
    asleep := false, mirrored := false, run := dacMapRun }

/-- DAC_MAP (R506). -/
def execDacMap (h : Hdr) (p : Bytes) (s : State) : Result := keyway dacMapCmd h p s

/-- The samples for which a channel carries zero (R514). -/
def State.spanZ (s : State) : Nat := if s.rnd.rate96 then 256 else 128

/-- The channels of a mask switch to a span (R514, R516), counted per channel. -/
def State.setSpan (s : State) (mask span : Nat) : State :=
  let cs := (List.range 16).filter fun n => bit mask n
  let s := cs.foldl (fun s n => s.onDac n fun c => { c with span }) s
  { s with dac := { s.dac with spanCnt := s.dac.spanCnt + wd cs.length } }

/-- Two masks share a channel. -/
def masksMeet (a b : Nat) : Bool := (List.range 16).any fun n => bit a n && bit b n

/-- Every channel of `a` is in `b`. -/
def maskInside (a b : Nat) : Bool := (List.range 16).all fun n => !bit a n || bit b n

/-- A pending span change is superseded (R515). -/
def State.spanSupersede (s : State) (r : SpanReq) : State :=
  ({ s with dac := { s.dac with reqs := s.dac.reqs.filter (· != r) } }.dacEvt 1).answer r.ref .superseded true false []

/-- DAC_SPAN: at once with the outputs clamped, otherwise a span change. -/
def dacSpanRun (i : CmdIn) (s : State) : Verdict :=
  let p := i.body
  let mask := rd16 p 0
  if mask = 0 || 2 < rd8 p 2 || rd8 p 3 != 0 then .no .badParam
  else if s.staged then .ok (s.setSpan mask (rd8 p 2))
  else match s.boundary i s.firstCut with
    | .bad => .no .badParam
    | .late => .no .late
    | .ok n =>
      let pend := s.dac.reqs.filter fun r => r.phase == 0
      if pend.any fun r => masksMeet r.mask mask && !maskInside r.mask mask then .no .busy
      else
        let s := (pend.filter fun r => maskInside r.mask mask).foldl State.spanSupersede s
        let r : SpanReq := { mask, span := rd8 p 2, start := n, ref := i.ref, phase := 0, switched := false }
        .defer { s with dac := { s.dac with reqs := s.dac.reqs ++ [r] } } n

/-- DAC_SPAN. -/
def dacSpanCmd : Cmd :=
  { op := 0x812, boot := false, len := lenIs 4, uses := true, quiet := false, asleep := false, mirrored := false, run := dacSpanRun }

/-- DAC_SPAN (R514 to R516). -/
def execDacSpan (h : Hdr) (p : Bytes) (s : State) : Result := keyway dacSpanCmd h p s

/-- DAC_QUERY: the status registers. -/
def dacQueryCmd : Cmd :=
  { op := 0x813, boot := false, len := lenIs 0, uses := false, quiet := true, asleep := true, mirrored := false,
    run := fun _ s => .done s (leB 4 s.dacStat ++ leB 4 (s.dacGrp 0) ++ leB 4 (s.dacGrp 1)
      ++ ((List.range 16).map fun n => leB 4 (s.dacCh n)).flatten) (s.tick + 1) }

/-- DAC_QUERY (R521). -/
def execDacQuery (h : Hdr) (p : Bytes) (s : State) : Result := keyway dacQueryCmd h p s

/-! Span changes (R514, R515). -/

/-- No running change holds a channel of the mask. -/
def State.spanFree (s : State) (mask : Nat) : Bool :=
  !s.dac.reqs.any fun r => r.phase != 0 && masksMeet r.mask mask

/-- Pending span changes whose boundary has come start at boundary `n`, oldest first. -/
def State.spanStart (s : State) (n : Nat) : State :=
  s.dac.reqs.foldl (fun s r =>
    if r.phase = 0 && decide (r.start ≤ n) && s.spanFree r.mask then
      let reqs := s.dac.reqs.map fun q => if q = r then { r with phase := 1, start := n } else q
      { s with dac := { s.dac with reqs, ramps := s.dac.ramps ++ [(r.mask, 16 * n)] } }
    else s) s

/-- The instant at which input index `m` reaches the connector has come, in the group that it reaches first (R512): ε shifts it from the
instant of its sample index. -/
def State.atConnector (s : State) (m : Nat) : Bool :=
  let k : Int := s.mediaCycles
  decide (((m + s.fixedDac : Nat) * k + min s.dac.eps0 s.dac.eps1) * 1000000000 ≤ (s.media + 1) * s.fs * k)

/-- DAC_SPAN_SWITCH: at the connector instant of B + 96 the output stage switches. -/
def execDacSpanSwitch (t : Nat) (s : State) : Result :=
  let s := s.at t
  .next (s.dac.reqs.foldl (fun s r =>
    if r.phase != 0 && !r.switched && s.atConnector (16 * r.start + 96) then
      { s with dac := { s.dac with reqs := s.dac.reqs.map fun q => if q = r then { r with switched := true } else q } }.setSpan r.mask r.span
    else s) s)

/-- DAC_SPAN_FADE_UP: at B + 64 + Z the reply is written, and the fade-up starts. -/
def execDacSpanFadeUp (t : Nat) (s : State) : Result :=
  let s := s.at t
  .next (s.dac.reqs.foldl (fun s r =>
    if r.phase = 1 && decide (16 * r.start + 64 + s.spanZ ≤ s.sampleNow) then
      { s with dac := { s.dac with reqs := s.dac.reqs.map fun q => if q = r then { r with phase := 3 } else q } }.answer
        r.ref .ok true false (leB 8 r.start)
    else s) s)

/-- DAC_SPAN_DONE: at B + 128 + Z the channels are IDLE, and a pending change may start at that boundary. -/
def execDacSpanDone (t : Nat) (s : State) : Result :=
  let s := s.at t
  .next (s.dac.reqs.foldl (fun s r =>
    let e := r.start + (128 + s.spanZ) / 16
    if r.phase = 3 && decide (16 * e ≤ s.sampleNow) then
      let s := { s with dac := { s.dac with reqs := s.dac.reqs.filter (· != r) } }.dacEvt 0
      if e ≤ s.tick then s.spanStart e else s
    else s) s)

/-- MODULATOR_RESET (R509): a loop that leaves its bound is reset. -/
def execModulatorReset (t ch : Nat) (s : State) : Result :=
  let s := s.at t
  .next (if s.dac.running && decide (ch < 16) then { s with dac := { s.dac with modrstCnt := s.dac.modrstCnt + 1 } }.dacEvt 3 else s)

/-- DAC_CLAMP_OPEN (R517): at the connector instant of the first sample after the start boundary. -/
def execDacClampOpen (t : Nat) (s : State) : Result :=
  let s := s.at t
  .next (if s.rendering && s.dac.clamped && s.atConnector (16 * s.rnd.startS) then { s with dac := { s.dac with clamped := false } }
    else s)

end Sys2Proof.Machine
end

