-- ==== Sys2Proof/Machine/Flows.lean ====
section
/-! DEFINITION. The flow records of chapter "Media, Management and Hasp Ports" taken apart (R399, R410), their checks (R400,
R413), and the multicast groups they need (R414). -/

namespace Sys2Proof.Machine

/-! Ingress records (R399). -/

/-- ENABLE of a record, ingress or egress. -/
def frOn (r : Bytes) : Bool := rd8 r 0 == 1
/-- KIND of a record. -/
def frKind (r : Bytes) : Nat := rd8 r 1
/-- Bytes of one sample: ENC 0 = L16, 1 = L24. -/
def frWidth (r : Bytes) : Nat := 2 + rd8 r 2
/-- PTIME of a record. -/
def frPtime (r : Bytes) : Nat := rd8 r 3
/-- NCH of a record. -/
def frNch (r : Bytes) : Nat := rd8 r 4
/-- Samples of one packet. -/
def frLen (r96 : Bool) (r : Bytes) : Nat := packetSamples r96 (frPtime r)
/-- Payload bytes of one packet (R400, R413). -/
def frPayload (r96 : Bool) (r : Bytes) : Nat := frNch r * frLen r96 r * frWidth r
/-- The 16-bit word of channel `c`: CMAP or FEED. -/
def frWord (r : Bytes) (c : Nat) : Nat := rd16 r (64 + 2 * c)

/-- PATHS names a media port. -/
def fiPath (r : Bytes) (port : Nat) : Bool := bit (rd8 r 5) port
/-- The VLAN entry on a media port. -/
def fiVlan (r : Bytes) (port : Nat) : Nat := rd8 r (6 + port)
/-- The destination on a media port. -/
def fiDst (r : Bytes) (port : Nat) : Nat := rdBE r (8 + 4 * port) 4
/-- The source on a media port; 0 = any. -/
def fiSrc (r : Bytes) (port : Nat) : Nat := rdBE r (16 + 4 * port) 4
/-- The UDP destination port. -/
def fiDport (r : Bytes) : Nat := rd16 r 24
/-- The payload type; 0 = any. -/
def fiPt (r : Bytes) : Nat := rd8 r 26
/-- ASYNC. -/
def fiAsync (r : Bytes) : Bool := rd8 r 27 == 1
/-- SSRC; 0 = any. -/
def fiSsrc (r : Bytes) : Nat := rd32 r 28
/-- What channel `c` is mapped to: 1 = object, 2 = bed input, and its number. -/
def fiMap (r : Bytes) (c : Nat) : Nat × Nat := (frWord r c / 16384, frWord r c % 1024)

/-- The mapped channels of an ingress record: channel, kind and number. -/
def fiMaps (r : Bytes) : List (Nat × Nat × Nat) :=
  ((List.range (frNch r)).map fun c => (c, fiMap r c)).filter fun e => e.2.1 != 0

/-- Every byte of a record is 0: the empty entry. -/
def recEmpty (r : Bytes) : Bool := zeroAt r 0 192

/-- The record as it is kept: nothing for the empty entry. -/
def recKeep (r : Bytes) : Bytes := if recEmpty r then [] else slice r 0 192

/-- Every channel word from channel `n` upward is 0. -/
def wordsZero (r : Bytes) (n : Nat) : Bool := (List.range 64).all fun c => decide (c < n) || frWord r c == 0

/-- The ingress entry `i`. -/
def State.flowIn (s : State) (i : Nat) : Bytes := tabGet [] s.net.flowIn i
/-- The egress entry `i`. -/
def State.flowOut (s : State) (i : Nat) : Bytes := tabGet [] s.net.flowOut i
/-- The enabled ingress entries. -/
def State.flowsIn (s : State) : List (Nat × Bytes) := s.net.flowIn.filter fun e => frOn e.2
/-- The enabled egress entries. -/
def State.flowsOut (s : State) : List (Nat × Bytes) := s.net.flowOut.filter fun e => frOn e.2

/-- CMAP word `c` is in range (R399). -/
def cmapOk (r96 : Bool) (w : Nat) : Bool :=
  bits w 13 10 == 0 && decide (w / 16384 ≤ 2) && (w / 16384 != 1 || decide (w % 1024 < objCount r96))
    && (w / 16384 != 2 || decide (w % 1024 < 128))

/-- The fields of an ingress record are in range, and those its KIND does not use are 0 (R399, R400). -/
def fiFields (s : State) (r : Bytes) : Bool :=
  let r96 := s.rnd.rate96
  let k1 := frKind r == 1
  decide (rd8 r 0 ≤ 1 ∧ frKind r ≤ 1 ∧ rd8 r 2 ≤ 1 ∧ frPtime r ≤ 3 ∧ 1 ≤ rd8 r 5 ∧ rd8 r 5 ≤ 3 ∧ rd8 r 6 ≤ 63 ∧ rd8 r 7 ≤ 63)
    && (if k1 then zeroAt r 2 3 else decide (1 ≤ frNch r ∧ frNch r ≤ 64))
    && [0, 1].all (fun port => !fiPath r port || isMulticast (fiDst r port)
          || ((s.mac port).ip != 0 && fiDst r port == (s.mac port).ip))
    && (fiPt r == 0 || decide (96 ≤ fiPt r ∧ fiPt r ≤ 127)) && decide (rd8 r 27 ≤ 1) && (!k1 || rd8 r 27 == 0) && zeroAt r 32 32
    && (if k1 then wordsZero r 0
        else wordsZero r (frNch r) && (List.range (frNch r)).all (fun c => cmapOk r96 (frWord r c)))
    && (k1 || decide (frPayload r96 r ≤ 1440)) && distinct ((fiMaps r).map fun e => 1024 * e.2.1 + e.2.2)

/-- Two ingress records would match the same packets of a media port (R400). -/
def fiClash (a b : Bytes) : Bool :=
  [0, 1].any fun port => fiPath a port && fiPath b port && fiDst a port == fiDst b port && fiDport a == fiDport b
    && (fiSrc a port == 0 || fiSrc b port == 0 || fiSrc a port == fiSrc b port)

/-- Two ingress records map one object or bed input (R400). -/
def fiShare (a b : Bytes) : Bool :=
  (fiMaps a).any fun x => (fiMaps b).any fun y => x.2 == y.2

/-- The ingress entries as they stand at boundary `n`: those of the table with every pending change up to it. -/
def State.flowsAt (s : State) (n : Nat) : Tab Bytes :=
  s.net.pend.foldl (fun t p => if p.tick ≤ n then tabSet [] t p.index (recKeep p.record) else t) s.net.flowIn

/-- R400 and R390 for entry `i` taking record `r` at boundary `n`: BAD_PARAM where it fails. -/
def State.fiOk (s : State) (i n : Nat) (r : Bytes) : Bool :=
  let bound := s.cal.caps.any fun e => e.2.bind.any (·.1 == i)
  let others := ((s.flowsAt n).filter fun e => e.1 != i && frOn e.2).map (·.2)
    ++ (s.net.pend.filter fun p => p.index != i && decide (n < p.tick) && frOn p.record).map (·.record)
  (!bound || (frOn r && frKind r == 0 && !fiAsync r))
    && (recEmpty r || (fiFields s r
      && (!frOn r || (([0, 1].all fun port => !fiPath r port || (s.mac port).ip != 0)
          && others.all fun o => !fiClash r o && !fiShare r o))))

/-- R400 and R409: more ASYNC channels or KIND 1 entries than the module has room for. -/
def State.fiFull (s : State) (i n : Nat) (r : Bytes) : Bool :=
  let all := (r :: ((s.flowsAt n).filter fun e => e.1 != i).map (·.2)).filter frOn
  decide ((if s.rnd.rate96 then 64 else 128) < sumN ((all.filter fiAsync).map fun x => (fiMaps x).length))
    || (frOn r && frKind r == 1 && decide (16 < (all.filter fun x => frKind x == 1).length))

/-! Egress records (R410). -/

/-- RELAY_OF. -/
def foRelay (r : Bytes) : Nat := rd16 r 6
/-- The destination on a media port. -/
def foDst (r : Bytes) (port : Nat) : Nat := rdBE r (8 + 4 * port) 4
/-- The UDP source port. -/
def foSport (r : Bytes) : Nat := rd16 r 16
/-- The UDP destination port. -/
def foDport (r : Bytes) : Nat := rd16 r 18
/-- The VLAN entry on a media port. -/
def foVlan (r : Bytes) (port : Nat) : Nat := rd8 r (20 + port)
/-- DSCP. -/
def foDscp (r : Bytes) : Nat := rd8 r 22
/-- TTL. -/
def foTtl (r : Bytes) : Nat := rd8 r 23
/-- The payload type. -/
def foPt (r : Bytes) : Nat := rd8 r 24
/-- SEQ_OFFSET. -/
def foSeq (r : Bytes) : Nat := rd16 r 26
/-- SSRC. -/
def foSsrc (r : Bytes) : Nat := rd32 r 28
/-- LAUNCH_OFS in ns. -/
def foLaunch (r : Bytes) : Nat := rd16 r 32
/-- The feeds of an egress record, by channel. -/
def foFeeds (r : Bytes) : List Nat := (List.range (frNch r)).map (frWord r)

/-- Bits per second of an enabled audio entry on each port (R413). -/
def foRate (r96 : Bool) (r : Bytes) : Nat :=
  if frOn r && frKind r == 0 then (frPayload r96 r + 82) * 8 * fsOf r96 / frLen r96 r else 0

/-- The line rate of a media port in bit/s (R387). -/
def State.lineRate (s : State) (port : Nat) : Nat := if (s.mac port).speed then 25000000000 else 10000000000

/-- The fields of an egress record are in range (R410, R413). -/
def foFields (s : State) (r : Bytes) : Bool :=
  let r96 := s.rnd.rate96
  let k1 := frKind r == 1
  decide (rd8 r 0 ≤ 1 ∧ frKind r ≤ 1 ∧ rd8 r 2 ≤ 1 ∧ frPtime r ≤ 3 ∧ rd8 r 5 = 0 ∧ rd8 r 20 ≤ 63 ∧ rd8 r 21 ≤ 63 ∧ foDscp r ≤ 63)
    && decide (1 ≤ foTtl r ∧ 96 ≤ foPt r ∧ foPt r ≤ 127 ∧ rd8 r 25 = 0 ∧ foLaunch r ≤ if r96 then 10000 else 20000)
    && zeroAt r 34 30
    && (if k1 then zeroAt r 2 3 && wordsZero r 0 && decide (foRelay r < 1024) && frKind (s.flowIn (foRelay r)) == 1
        else decide (1 ≤ frNch r ∧ frNch r ≤ 64) && foRelay r == 0 && wordsZero r (frNch r)
          && (foFeeds r).all (fun f => decide (f < feedCount r96)) && decide (frPayload r96 r ≤ 1440))

/-- R410, R413 and R390 for egress entry `i` taking record `r`. -/
def State.foOk (s : State) (i : Nat) (r : Bytes) : Bool :=
  recEmpty r || (foFields s r && (!frOn r ||
    ([0, 1].all fun port => (s.mac port).ip != 0 &&
      decide (10 * sumN ((r :: (s.net.flowOut.filter fun e => e.1 != i).map (·.2)).map (foRate s.rnd.rate96)) ≤ 9 * s.lineRate port))))

/-! Groups (R401, R414). -/

/-- The groups that a record needs: port, group and source. -/
def fiGroups (r : Bytes) : List (Nat × Nat × Nat) :=
  if !frOn r then []
  else [0, 1].filterMap fun port =>
    if fiPath r port && isMulticast (fiDst r port) then some (port, fiDst r port, fiSrc r port) else none

/-- A port reports a group, and again after 1 s (R414). -/
def State.joinGroup (s : State) (g : Nat × Nat × Nat) : State :=
  if s.net.members.contains g then s
  else
    let s := { s with net := { s.net with members := s.net.members ++ [g],
                                          repeats := s.net.repeats ++ [(g.1, g.2.1, g.2.2, true, s.now + 1000000000)] } }
    s.sendIgmp g.1 true g.2.1 g.2.2

/-- A port leaves a group, and says so again after 1 s. -/
def State.leaveGroup (s : State) (g : Nat × Nat × Nat) : State :=
  if !s.net.members.contains g then s
  else
    let s := { s with net := { s.net with members := s.net.members.filter (· != g),
                                          repeats := s.net.repeats ++ [(g.1, g.2.1, g.2.2, false, s.now + 1000000000)] } }
    s.sendIgmp g.1 false g.2.1 g.2.2

/-- The groups that the enabled entries and the pending changes need, and the tumbler group when twinning is enabled (R414). -/
def State.neededGroups (s : State) : List (Nat × Nat × Nat) :=
  s.flowsIn.flatMap (fun e => fiGroups e.2) ++ s.net.pend.flatMap (fun p => fiGroups p.record)
    ++ (if s.twn.state != .off then [(0, s.twn.group, 0), (1, s.twn.group, 0)] else [])

/-- Leave every one of these groups that nothing needs. -/
def State.leaveUnneeded (s : State) (gs : List (Nat × Nat × Nat)) : State :=
  gs.foldl (fun s g => if s.neededGroups.contains g then s else s.leaveGroup g) s

end Sys2Proof.Machine
end

