-- ==== Sys2Proof/Machine/RouteCmds.lean ====
section
/-! DEFINITION. The routing commands (chapter "Routing: Crosspoint and Compiled Graph", R130 to R158). -/

namespace Sys2Proof.Machine

/-- ROUTE_MODE: a change of mode clears every gain slot and both banks. -/
def routeModeRun (i : CmdIn) (s : State) : Verdict :=
  if s.sys.mode != .staged then .no .badMode
  else if 1 < rd8 i.body 0 || !zeroAt i.body 1 3 then .no .badParam
  else
    let g := rd8 i.body 0 == 1
    if g == s.rte.graph then .ok s
    else .ok { s with rte := { s.rte with graph := g, bank := 0, prog0 := [], prog1 := [], gains := [], scale := [], target := [],
                                          lines := [], nodeOut := [] } }

/-- ROUTE_MODE. -/
def routeModeCmd : Cmd :=
  { op := 0x401, boot := false, len := lenIs 4, uses := false, quiet := false, asleep := false, mirrored := false,
    run := routeModeRun }

/-- ROUTE_MODE (R147). -/
def execRouteMode (h : Hdr) (p : Bytes) (s : State) : Result := keyway routeModeCmd h p s

/-- XP_MAP: 128 source slots and 128 destination slots; 0xFFFF leaves a slot unassigned. -/
def xpMapRun (i : CmdIn) (s : State) : Verdict :=
  let src := (List.range 128).map fun k => rd16 i.body (2 * k)
  let dst := (List.range 128).map fun k => rd16 i.body (256 + 2 * k)
  let r96 := s.rnd.rate96
  if s.sys.mode != .staged || s.rte.graph then .no .badMode
  else if !(src.all fun b => b == 0xFFFF || plainBus r96 b) || !(dst.all fun f => f == 0xFFFF || decide (f < feedCount r96))
      || !distinct (dst.filter (· != 0xFFFF)) then .no .badParam
  else .ok { s with rte := { s.rte with xpSrc := tabFill 0xFFFF [] 0 src, xpDst := tabFill 0xFFFF [] 0 dst } }

/-- XP_MAP. -/
def xpMapCmd : Cmd :=
  { op := 0x402, boot := false, len := lenIs 512, uses := false, quiet := false, asleep := false, mirrored := false, run := xpMapRun }

/-- XP_MAP (R134). -/
def execXpMap (h : Hdr) (p : Bytes) (s : State) : Result := keyway xpMapCmd h p s

/-- The slots and values of ROUTE_GAIN. -/
def routeGains (p : Bytes) : List (Nat × Int) :=
  (List.range (rd8 p 0)).map fun k => (rd16 p (4 + 8 * k), rdS32 p (8 + 8 * k))

/-- A gain slot of a bank. -/
def State.gainSlot (s : State) (bank slot : Nat) : Ramp := tabGet (Ramp.at 0) s.rte.gains (16384 * bank + slot)

/-- Set a gain slot of a bank. -/
def State.setGainSlot (s : State) (bank slot : Nat) (r : Ramp) : State :=
  { s with rte := { s.rte with gains := tabSet (Ramp.at 0) s.rte.gains (16384 * bank + slot) r } }

/-- Every slot of a list ramps over 64 samples from boundary `n`, in the bank that is current there (R133, R149). -/
def State.gainsAt (s : State) (n : Nat) (l : List (Nat × Int)) : State :=
  let bank := if s.rte.hinge.isSome then 1 - s.rte.bank else s.rte.bank
  l.foldl (fun s (k, g) => s.setGainSlot bank k ((s.gainSlot bank k).to (16 * n) g 64)) s

/-- ROUTE_GAIN: up to 64 slots. -/
def routeGainRun (i : CmdIn) (s : State) : Verdict :=
  let p := i.body
  let n := rd8 p 0
  let ok := decide (1 ≤ n ∧ n ≤ 64) && zeroAt p 1 3
    && (List.range n).all fun k => decide (rd16 p (4 + 8 * k) < 16384) && zeroAt p (6 + 8 * k) 2
  if !ok then .no .badParam
  else
    let l := routeGains p
    scheduled i s (l.foldl (fun s (k, g) => s.setGainSlot s.rte.bank k (Ramp.at g)) s) fun n =>
      { s with rte := { s.rte with gainPend := s.rte.gainPend ++ [(n, s.ord, l)] }, ord := s.ord + 1 }

/-- ROUTE_GAIN. -/
def routeGainCmd : Cmd :=
  { op := 0x403, boot := false, len := fun n p => decide (4 ≤ n) && n == 4 + 8 * rd8 p 0, uses := true, quiet := false,
    asleep := false, mirrored := true, run := routeGainRun }

/-- ROUTE_GAIN (R133). -/
def execRouteGain (h : Hdr) (p : Bytes) (s : State) : Result := keyway routeGainCmd h p s

/-- ROUTE_WRITE: bytes into the staging area, unless it is frozen. -/
def routeWriteRun (i : CmdIn) (s : State) : Verdict :=
  if !s.rte.graph then .no .badMode
  else if !stageOk routeLen i.body then .no .badParam
  else if s.rte.frozen then .no .busy
  else .ok { s with rte := { s.rte with staging := memFill s.rte.staging (rd32 i.body 0) (slice i.body 8 (rd16 i.body 4)) } }

/-- ROUTE_WRITE. -/
def routeWriteCmd : Cmd :=
  { op := 0x404, boot := false, len := stageLen, uses := false, quiet := false, asleep := false, mirrored := true,
    run := routeWriteRun }

/-- ROUTE_WRITE (R148). -/
def execRouteWrite (h : Hdr) (p : Bytes) (s : State) : Result := keyway routeWriteCmd h p s

/-- Bank `b` takes the staged program, and its gain slots the image's initial values (R148, R149). -/
def State.loadProg (s : State) (b : Nat) : State :=
  let m := s.rte.staging
  let new := (List.range 16384).filterMap fun k =>
    if routeGain0 m k = 0 then none else some (16384 * b + k, Ramp.at (routeGain0 m k))
  let lo := s.rte.gains.filter fun e => decide (e.1 < 16384 * b)
  let hi := s.rte.gains.filter fun e => decide (16384 * (b + 1) ≤ e.1)
  let r := { s.rte with gains := lo ++ new ++ hi }
  { s with rte := if b = 0 then { r with prog0 := m } else { r with prog1 := m } }

/-- A commit refused for cost (R146, R151). -/
def State.routeOver (s : State) : State := { s with rte := { s.rte with evt := setBit s.rte.evt 2 } }

/-- The cost of the program that is current once a running hinge has ended (R151). -/
def State.costNext (s : State) : Nat :=
  (routeScan s.rnd.rate96 (s.prog (if s.rte.hinge.isSome then 1 - s.rte.bank else s.rte.bank))).cost

/-- The commit becomes the pending one; the one it replaces is answered SUPERSEDED (R152). -/
def State.setRoutePend (s : State) (p : RtePend) : State :=
  let s := match s.rte.pend with
    | some old => s.answer old.ref .superseded true false []
    | none => s
  { s with rte := { s.rte with pend := some p, frozen := true } }

/-- ROUTE_COMMIT: at once in STAGED, otherwise a route hinge at its boundary. -/
def routeCommitRun (i : CmdIn) (s : State) : Verdict :=
  let st := s.sys.mode == .staged
  let fade := rd32 i.body 0
  if i.mirror.isNone && (s.sys.mode == .sweep || (!st && !s.rendering) || !s.rte.graph) then .no .badMode
  else match if i.mirror.isSome then none else routeCheck s.rnd.rate96 s.rte.staging with
    | some off => .refuse .badParam (leB 4 off)
    | none =>
      let sc := routeScan s.rnd.rate96 s.rte.staging
      let budget := routeBudget s.rnd.rate96
      if st then (if budget < sc.cost then .fail s.routeOver .overBudget [] else .ok (s.loadProg s.rte.bank))
      else if i.mirror.isNone && (!fadeOk fade || fade < sc.maxDelay) then .no .badParam
      else match s.boundary i s.firstCut with
        | .bad => .no .badParam
        | .late => .no .late
        | .ok n =>
          if i.mirror.isNone && budget < s.costNext + sc.cost then .fail s.routeOver .overBudget []
          else .defer (s.setRoutePend { tick := n, fade, ref := i.ref }) n

/-- ROUTE_COMMIT. -/
def routeCommitCmd : Cmd :=
  { op := 0x405, boot := false, len := lenIs 4, uses := true, quiet := false, asleep := false, mirrored := true,
    run := routeCommitRun }

/-- ROUTE_COMMIT (R144 to R152). -/
def execRouteCommit (h : Hdr) (p : Bytes) (s : State) : Result := keyway routeCommitCmd h p s

/-- BED_ALIGN: a bed's alignment delay. -/
def bedAlignRun (i : CmdIn) (s : State) : Verdict :=
  if s.sys.mode != .staged then .no .badMode
  else if 128 ≤ rd16 i.body 0 || 2047 < rd16 i.body 2 then .no .badParam
  else .ok { s with rte := { s.rte with align := tabSet 3 s.rte.align (rd16 i.body 0) (rd16 i.body 2) } }

/-- BED_ALIGN. -/
def bedAlignCmd : Cmd :=
  { op := 0x406, boot := false, len := lenIs 4, uses := false, quiet := false, asleep := false, mirrored := false,
    run := bedAlignRun }

/-- BED_ALIGN (R130). -/
def execBedAlign (h : Hdr) (p : Bytes) (s : State) : Result := keyway bedAlignCmd h p s

/-! LAT_QUERY (R156). -/

/-- The routes from a source to a bus: the smallest and the largest delay, and how many there are. -/
abbrev Routes := Option (Nat × Nat × Nat)

/-- The routes of two sets together. -/
def routesAdd (a b : Routes) : Routes :=
  match a, b with
  | none, x => x
  | x, none => x
  | some (a0, a1, an), some (b0, b1, bn) => some (min a0 b0, max a1 b1, an + bn)

/-- Routes with a delay added. -/
def routesDelay (d : Nat) (a : Routes) : Routes := a.map fun (x, y, n) => (x + d, y + d, n)

/-- The routes from bus `src` to feed `f` through a program: `live` says which gain slots are not 0. -/
def graphRoutes (m : Memory) (live : Nat → Bool) (src f : Nat) : Routes :=
  let at' (t : Tab Routes) (b : Nat) : Routes := if b = src then some (0, 0, 1) else tabGet none t b
  let r := (routeCode m).foldl (fun (a : Tab Routes × Nat × Option Routes) w =>
    let (t, node, out) := a
    if riOp w = 2 then (t, w, out)
    else if riOp w = 3 then
      let b := 0x1000 + riNode node
      let d := if riKind node = 1 then riDelay node else 0
      (if live (riSlot w) then tabSet none t b (routesAdd (tabGet none t b) (routesDelay d (at' t (riSrc w)))) else t, node, out)
    else if riOp w = 4 && riFeed w == f then (t, node, some (at' t (riSrc w)))
    else a) ([], 0, none)
  match r.2.2 with
  | some x => x
  | none => if src = f then some (0, 0, 1) else none

/-- The tick by which LAT_QUERY judges gains: the last completed one, or the present boundary where no tick runs. -/
def State.queryTick (s : State) : Nat := if s.rendering then s.rnd.lastTick else s.tick

/-- The gain slot is not 0 at the end of the last completed tick. -/
def State.slotLive (s : State) (bank k : Nat) : Bool := (s.gainSlot bank k).val (16 * s.queryTick + 16) != 0

/-- The routes from bus `src` to feed `f` by each program that runs: two during a route hinge. -/
def State.routesTo (s : State) (src f : Nat) : List Routes :=
  if s.rte.graph then
    let one (b : Nat) := graphRoutes (s.prog b) (s.slotLive b) src f
    if s.rte.hinge.isSome then [one s.rte.bank, one (1 - s.rte.bank)] else [one s.rte.bank]
  else
    let own : Routes := if src = f then some (0, 0, 1) else none
    [match s.rte.xpDst.find? fun e => e.2 == f with
      | none => own
      | some (d, _) => (s.rte.xpSrc.filter fun e => e.2 == src && s.slotLive 0 (128 * e.1 + d)).foldl
          (fun a _ => routesAdd a (some (0, 0, 1))) own]

/-- The content of every path of LAT_QUERY in Q24.8, without the bulk delay (R156): a bed or direct source has a path for each
route, an object one for each feed `g` whose bus reaches the feed. -/
def State.latPaths (s : State) (kind num f : Nat) : Routes :=
  let q (r : List Routes) (c : Nat) : Routes :=
    (r.foldl routesAdd none).map fun (a, b, n) => (256 * a + c, 256 * b + c, n)
  let once (r : List Routes) : List Routes := r.map fun x => x.map fun (a, b, n) => (a, b, min 1 n)
  if kind = 0 then
    (List.range (feedCount s.rnd.rate96)).foldl (fun a g =>
      let e := s.pairSeen num g
      if e.gS = 0 ∧ e.gE = 0 then a else routesAdd a (q (once (s.routesTo g f)) (e.dE / 16))) none
  else if kind = 1 then q (s.routesTo (0x300 + num) f) (256 * tabGet 3 s.rte.align num)
  else q (s.routesTo (0x400 + num) f) (256 * 3)

/-- The source's ingress flow is asynchronous. -/
def State.asyncSource (s : State) (kind num : Nat) : Bool :=
  s.flowsIn.any fun e => fiAsync e.2 && (fiMaps e.2).any fun m => m.2 == ((if kind = 1 then 2 else 1), num)

/-- LAT_QUERY: FIXED, CONV, MIN, MAX and PATHS. -/
def latQueryRun (i : CmdIn) (s : State) : Verdict :=
  let p := i.body
  let r96 := s.rnd.rate96
  let kind := rd8 p 0
  let num := rd16 p 2
  let f := rd16 p 4
  let flow := s.flowOut (rd16 p 6)
  let ok := decide (kind ≤ 2 ∧ rd8 p 1 ≤ 1 ∧ num < (if kind = 1 then 128 else objCount r96) ∧ f < feedCount r96)
    && (if rd8 p 1 = 1 then rd16 p 6 == 0
        else decide (rd16 p 6 < 1024) && frOn flow && frKind flow == 0 && (foFeeds flow).contains f)
  if !ok then .no .badParam
  else
    let fixed := if rd8 p 1 = 1 then s.fixedDac else 64 + s.ingress + frLen r96 flow
    let bulk := 256 * corDelay s.cor.longMask s.cor.records (s.feedCor f).bank f
    let (lo, hi, n) := match s.latPaths kind num f with
      | some (a, b, n) => (a + bulk, b + bulk, n)
      | none => (0xFFFFFFFF, 0xFFFFFFFF, 0)
    .done s (leB 4 fixed ++ leB 4 (24 * b2n (s.asyncSource kind num)) ++ leB 4 lo ++ leB 4 hi ++ leB 4 n) (s.tick + 1)

/-- LAT_QUERY. -/
def latQueryCmd : Cmd :=
  { op := 0x407, boot := false, len := lenIs 8, uses := false, quiet := true, asleep := true, mirrored := false, run := latQueryRun }

/-- LAT_QUERY (R153 to R158). -/
def execLatQuery (h : Hdr) (p : Bytes) (s : State) : Result := keyway latQueryCmd h p s

end Sys2Proof.Machine
end

