-- ==== Sys2Proof/Machine/Hinges.lean ====
section
/-! DEFINITION. Correction hinges and what calibration does at them (R167 to R183, R189 to R193, R212 to R214): requests, their
start and their end, band gains read from a bank, and unenrolment. -/

namespace Sys2Proof.Machine

/-! Calibration records. -/

/-- An enrolled feed. -/
def State.calFeed (s : State) (f : Nat) : Option CalFeed := tabGet none s.cal.feeds f

/-- Replace an enrolled feed, or remove it. -/
def State.setCalFeed (s : State) (f : Nat) (x : Option CalFeed) : State :=
  { s with cal := { s.cal with feeds := tabSet none s.cal.feeds f x } }

/-- Set a bit of CAL_EVT. -/
def State.calEvt (s : State) (i : Nat) : State := { s with cal := { s.cal with evt := setBit s.cal.evt i } }

/-- Change the report records that satisfy a test. -/
def State.onReports (s : State) (test : CalReport → Bool) (f : CalReport → CalReport) : State :=
  { s with cal := { s.cal with reports := s.cal.reports.map fun r => if test r then f r else r } }

/-- The record of an adoption takes a status (R219): 0 PENDING, 1 FADING, 2 DONE, 3 VETOED, 4 REVERTED, 5 SUPERSEDED,
6 CANCELLED, 7 SUSPECT. -/
def State.calStatus (s : State) (req st : Nat) : State :=
  s.onReports (fun r => r.req == req && r.status != 7) fun r => { r with status := st }

/-- The feed's gains from boundary `n` on (R192, R211, R212). -/
def State.calGains (s : State) (f n : Nat) (g : List Int) : State :=
  match s.calFeed f with
  | none => s
  | some c => s.setCalFeed f (some { c with g, gHist := (n, g) :: c.gHist })

/-- The CAL_EQTAB gain of section `k` of a bank; `none` where it is no entry for its band (R188, R191). -/
def State.sectionGain (s : State) (b f k : Nat) : Option Int :=
  let rec' := (List.range 20).map fun j => corByte s.cor.longMask s.cor.records (corAddr b f (0x40 + 20 * k + j))
  let gs : List Int := 0 :: (List.range 1501).map fun (j : Nat) => (j : Int) - 900
  gs.find? fun g => imgEq s.boot.image s.rnd.rate96 k g == rec'

/-- The eight band gains of a bank, where every section is a CAL_EQTAB entry. -/
def State.bankGains (s : State) (b f : Nat) : Option (List Int) :=
  let l := (List.range 8).map fun k => s.sectionGain b f k
  if l.all Option.isSome then some (l.map fun x => x.getD 0) else none

/-- A pending correction request is taken away (R193, R214). -/
def State.corWithdraw (s : State) (id : Nat) : State :=
  { s with cor := { s.cor with pend := s.cor.pend.filter (·.id != id), prep := s.cor.prep.filter (·.1 != id) } }

/-- The aligned blocks of a feed are dropped (R193). -/
def State.dropBlocks (s : State) (f : Nat) : State :=
  { s with cal := { s.cal with aligned := s.cal.aligned.filter fun e => e.1 != f } }

/-- The estimates of a feed are discarded; its baseline and gain history stay (R193). -/
def State.dropEstimates (s : State) (f : Nat) : State :=
  match s.calFeed f with
  | none => s
  | some c => (s.dropBlocks f).setCalFeed f (some { c with est := List.replicate 8 [], arrival := none, since := s.tick, ended := [] })

/-- Unenrolment (R193): the probe ramps to zero, a pending adoption is cancelled, and what was kept is discarded. -/
def State.unenroll (s : State) (f : Nat) : State :=
  match s.calFeed f with
  | none => s
  | some _ =>
    let pend := s.cor.pend.filter fun r => r.cal.isSome && r.feeds == [f] && s.cal.reports.any fun q => q.req == r.id && q.status == 0
    let s := pend.foldl (fun s r => (s.corWithdraw r.id).calStatus r.id 6) s
    (s.dropBlocks f).setCalFeed f none

/-! Hinges. -/

/-- Change a feed's correction state. -/
def State.onFeedCor (s : State) (f : Nat) (g : FeedCor → FeedCor) : State :=
  { s with cor := { s.cor with feeds := tabSet FeedCor.reset s.cor.feeds f (g (s.feedCor f)) } }

/-- Set a bit of COR_EVT. -/
def State.corEvt (s : State) (i : Nat) : State := { s with cor := { s.cor with evt := setBit s.cor.evt i } }

/-- The incoming bank of a feed: the bank that is not current, or, while it fades, the one the fade leaves. -/
def FeedCor.incoming (c : FeedCor) : Nat := if c.hinge.isSome then c.bank else 1 - c.bank

/-- The biquads of bank `b` at rest (R176). -/
def FeedCor.clearBiq (c : FeedCor) (b : Nat) : FeedCor :=
  if b = 0 then { c with biq0 := List.replicate 8 Biq.zero } else { c with biq1 := List.replicate 8 Biq.zero }

/-- A hinge that calibration did not request brings bank `b` of an enrolled feed in at boundary `n` (R192). -/
def State.hostHinge (s : State) (f b n : Nat) : State :=
  match s.calFeed f with
  | none => s
  | some _ =>
    match s.bankGains b f with
    | some g => s.calGains f n g
    | none => (s.unenroll f).calEvt 6

/-- A hinge of calibration's own starts at boundary `n` (R212, R214): the record and the gains. -/
def State.calHinge (s : State) (h : CalHinge) (id f n : Nat) : State :=
  match h with
  | .adopt g =>
    let s := ((s.calStatus id 1).onReports (fun q => q.req == id) fun q => { q with start := some n }).calGains f n g
    match s.calFeed f with
    | some c => s.setCalFeed f (some { c with lastAdopt := some n })
    | none => s
  | .revert g => s.calGains f n g

/-- A request starts at boundary `n` (R181): its feeds fade, and its reply is written. -/
def State.corStart (s : State) (r : CorReq) (n : Nat) : State :=
  let s := { s with cor := { s.cor with pend := s.cor.pend.filter (·.id != r.id), running := s.cor.running ++ [r] } }
  let s := r.feeds.foldl (fun s f =>
    let nb := 1 - (s.feedCor f).bank
    let s := s.onFeedCor f fun c => { c with hinge := some { start := n, fade := r.fade }, dirty := false, lastHinge := some n, lastReq := some r.id }
    match r.cal with
    | some h => s.calHinge h r.id f n
    | none => s.hostHinge f nb n) s
  let late := decide (r.start < n)
  let s := if late then s.corEvt 4 else s
  let s := if r.revert then s.corEvt 3 else s
  s.answer r.ref .ok true false (leB 8 n ++ leB 4 (b2n late + 2 * b2n r.revert))

/-- The fade of a request ends (R173): its incoming banks are current. -/
def State.corEnd (s : State) (r : CorReq) : State :=
  let s := r.feeds.foldl (fun s f => s.onFeedCor f fun c => { c with bank := 1 - c.bank, hinge := none }) s
  let s := { s with cor := { s.cor with running := s.cor.running.filter (·.id != r.id), hingeCnt := s.cor.hingeCnt + 1 } }.corEvt 1
  match r.cal with
  | some (.adopt _) =>
    let s := (s.onReports (fun q => q.req == r.id && q.status == 1) fun q => { q with status := 2 }).calEvt 1
    { s with cal := { s.cal with adoptCnt := s.cal.adoptCnt + 1 } }
  | _ => s

/-- In STAGED, the incoming banks of the feeds become current at once (R182). -/
def State.corSwap (s : State) (feeds : List Nat) : State :=
  feeds.foldl (fun s f =>
    let nb := 1 - (s.feedCor f).bank
    (s.onFeedCor f fun c => { c.clearBiq nb with bank := nb, dirty := false, lastHinge := some s.tick, lastReq := none }).hostHinge f nb s.tick) s

/-- A pending request is superseded by the next one (R180, R213): the frozen banks that it hands over stay transformed. -/
def State.corSupersede (s : State) (r : CorReq) : State :=
  let kept := (s.cor.prep.filter (·.1 == r.id)).map fun e => (s.cor.nextId, e.2)
  let s := (s.corWithdraw r.id).corEvt 2
  let s := { s with cor := { s.cor with prep := s.cor.prep ++ kept } }
  let s := { s with cor := { s.cor with supersedeCnt := s.cor.supersedeCnt + 1 } }
  if r.cal.isSome then
    (s.onReports (fun q => q.req == r.id && q.status == 0) fun q => { q with status := 5 }).calEvt 9
  else s.answer r.ref .superseded true false []

/-- A request becomes pending; it takes the next request number. -/
def State.corRequest (s : State) (feeds : List Nat) (start fade : Nat) (cal : Option CalHinge) (ref : ReplyRef) : State :=
  let r : CorReq := { id := s.cor.nextId, feeds, start, fade, revert := feeds.any fun f => (s.feedCor f).hinge.isSome, cal, ref }
  { s with cor := { s.cor with pend := s.cor.pend ++ [r], nextId := s.cor.nextId + 1 } }

end Sys2Proof.Machine
end

