-- ==== Sys2Proof/Machine/NetCmds.lean ====
section
/-! DEFINITION. The network commands (chapter "Media, Management and Hasp Ports", R390 to R417): addresses, VLAN entries, flow
tables and their statistics. -/

namespace Sys2Proof.Machine

/-- A port takes an address (R390). -/
def State.setAddr (s : State) (port : Nat) (a : Nat × Nat × Nat) : State :=
  s.onMac port fun m => { m with ip := a.1, prefixLen := a.2.1, gateway := a.2.2, ipNext := none }

/-- NET_ADDR: PORT selects the mode rule (R559); MGMT's change follows its reply. -/
def netAddrRun (i : CmdIn) (s : State) : Verdict :=
  let p := i.body
  let port := rd8 p 0
  let a := (rdBE p 4 4, rd8 p 1, rdBE p 8 4)
  if 2 < port then .no .badParam
  else if port != 2 && s.sys.mode != .staged then .no .badMode
  else if !inRange 8 30 (rd8 p 1) || !zeroAt p 2 2 then .no .badParam
  else match i.ref.src with
    | .mgmt _ _ => .ok (if port = 2 then s.onMac 2 fun m => { m with ipNext := some a } else s.setAddr port a)
    | _ => .ok (s.setAddr port a)

/-- NET_ADDR. -/
def netAddrCmd : Cmd :=
  { op := 0x701, boot := false, len := lenIs 12, uses := false, quiet := false, asleep := false, mirrored := false, run := netAddrRun }

/-- NET_ADDR (R390, R417). -/
def execNetAddr (h : Hdr) (p : Bytes) (s : State) : Result := keyway netAddrCmd h p s

/-- VLAN_SET: one entry of the VLAN table. -/
def vlanSetRun (i : CmdIn) (s : State) : Verdict :=
  let p := i.body
  if s.sys.mode != .staged then .no .badMode
  else if 63 < rd8 p 0 || 7 < rd8 p 1 || 4094 < rd16 p 2 then .no .badParam
  else .ok { s with net := { s.net with vlan := tabSet 0 s.net.vlan (rd8 p 0) (rd16 p 2 + 4096 * rd8 p 1) } }

/-- VLAN_SET. -/
def vlanSetCmd : Cmd :=
  { op := 0x702, boot := false, len := lenIs 4, uses := false, quiet := false, asleep := false, mirrored := false, run := vlanSetRun }

/-- VLAN_SET (R392). -/
def execVlanSet (h : Hdr) (p : Bytes) (s : State) : Result := keyway vlanSetCmd h p s

/-- The statistics of an ingress entry. -/
def State.statIn (s : State) (i : Nat) : FlowStats := tabGet FlowStats.zero s.net.statIn i
/-- The statistics of an egress entry. -/
def State.statOut (s : State) (i : Nat) : FlowStats := tabGet FlowStats.zero s.net.statOut i
/-- The receive state of an ingress entry. -/
def State.flowRx (s : State) (i : Nat) : FlowRx := tabGet FlowRx.idle s.net.rx i

/-- Change the statistics of an ingress entry. -/
def State.onStatIn (s : State) (i : Nat) (f : FlowStats → FlowStats) : State :=
  { s with net := { s.net with statIn := tabSet FlowStats.zero s.net.statIn i (f (s.statIn i)) } }
/-- Change the statistics of an egress entry. -/
def State.onStatOut (s : State) (i : Nat) (f : FlowStats → FlowStats) : State :=
  { s with net := { s.net with statOut := tabSet FlowStats.zero s.net.statOut i (f (s.statOut i)) } }
/-- Change the receive state of an ingress entry. -/
def State.onFlowRx (s : State) (i : Nat) (f : FlowRx → FlowRx) : State :=
  { s with net := { s.net with rx := tabSet FlowRx.idle s.net.rx i (f (s.flowRx i)) } }

/-- The samples received for an entry and not yet rendered are dropped. -/
def State.dropRaw (s : State) (i : Nat) : State :=
  { s with net := { s.net with raw := tabDrop s.net.raw (4194304 * i) (4194304 * (i + 1)) } }

/-- An ingress entry takes a record: reception starts anew, and SKEW_MAX with it (R401, R417). `q0` is the concealment level at
which its channels start. -/
def State.setFlowIn (s : State) (i : Nat) (r : Bytes) (running : Bool) : State :=
  let s := { s with net := { s.net with flowIn := tabSet [] s.net.flowIn i (recKeep r) } }.dropRaw i
  let q0 : Tab Nat := if running then (List.range (frNch r)).foldl (fun t c => tabSet 16 t c 0) [] else []
  (s.onFlowRx i fun _ => { FlowRx.idle with q := q0, live := !running }).onStatIn i fun x => { x with skewMax := 0 }

/-- The first boundary that FLOW_IN_SET admits: 200 ms ahead, and before the cutoff (R401). -/
def State.firstFlow (s : State) : Nat := max s.firstCut (s.firstAhead (if s.rnd.rate96 then 19200 else 9600))

/-- A change of an ingress entry is accepted for boundary `n` (R401): it replaces a pending one of that entry, and groups are
reported and left at once. -/
def State.flowPend (s : State) (i n : Nat) (r : Bytes) : State :=
  let old := (s.net.pend.filter fun p => p.index == i).flatMap fun p => fiGroups p.record
  let rest := s.net.pend.filter fun p => p.index != i
  let l := insertBy (fun (a b : FlowPend) => decide (a.tick < b.tick)) { tick := n, index := i, record := slice r 0 192 } rest
  let s := { s with net := { s.net with pend := l } }
  ((fiGroups r).foldl State.joinGroup s).leaveUnneeded old

/-- FLOW_IN_SET: an ingress entry, at once or 200 ms ahead. -/
def flowInSetRun (i : CmdIn) (s : State) : Verdict :=
  let k := rd16 i.body 0
  let r := slice i.body 4 192
  let st := s.staged
  let n := if st then s.tick else (s.judged i s.firstFlow).getD s.tick
  if 1024 ≤ k || !zeroAt i.body 2 2 || !s.fiOk k n r then .no .badParam
  else if !st && frOn r && frKind r == 0 && decide (s.rte.ingress < ingressTerm s.rnd.rate96 (frPtime r)) then .no .badParam
  else if st then (if s.fiFull k n r then .no .refusedFull else .ok (s.setFlowIn k r false))
  else match s.boundary i s.firstFlow with
    | .bad => .no .badParam
    | .late => .no .late
    | .ok n => if s.fiFull k n r then .no .refusedFull else .done (s.flowPend k n r) [] n

/-- FLOW_IN_SET. -/
def flowInSetCmd : Cmd :=
  { op := 0x703, boot := false, len := lenIs 196, uses := true, quiet := false, asleep := false, mirrored := true, run := flowInSetRun }

/-- FLOW_IN_SET (R399 to R402). -/
def execFlowInSet (h : Hdr) (p : Bytes) (s : State) : Result := keyway flowInSetCmd h p s

/-- FLOW_OUT_SET: an egress entry. -/
def flowOutSetRun (i : CmdIn) (s : State) : Verdict :=
  let k := rd16 i.body 0
  let r := slice i.body 4 192
  if s.sys.mode != .staged then .no .badMode
  else if 1024 ≤ k || !zeroAt i.body 2 2 || !s.foOk k r then .no .badParam
  else .ok { s with net := { s.net with flowOut := tabSet [] s.net.flowOut k (recKeep r) } }

/-- FLOW_OUT_SET. -/
def flowOutSetCmd : Cmd :=
  { op := 0x704, boot := false, len := lenIs 196, uses := false, quiet := false, asleep := false, mirrored := false,
    run := flowOutSetRun }

/-- FLOW_OUT_SET (R410, R413). -/
def execFlowOutSet (h : Hdr) (p : Bytes) (s : State) : Result := keyway flowOutSetCmd h p s

/-- The 64-byte statistics block (R417); an egress entry has only the first three counts. -/
def FlowStats.bytes (x : FlowStats) (out : Bool) : Bytes :=
  let w (v : Word) : Bytes := leB 4 v.toNat
  w x.pktA ++ w x.pktB ++ w x.drop ++
    (if out then zeros 52
     else w x.missA ++ w x.missB ++ w x.lostPkt ++ w x.late ++ w x.early ++ w x.mismatch ++ w x.conceal ++ leI 4 x.skew
       ++ leB 4 x.skewMax ++ w x.frames ++ w x.frameDrop ++ zeros 8)

/-- FLOW_QUERY: the record and its statistics. -/
def flowQueryRun (i : CmdIn) (s : State) : Verdict :=
  let p := i.body
  let k := rd16 p 2
  let out := rd8 p 0 == 1
  let tabs := if s.rendering then (s.net.seenIn, s.net.seenOut) else (s.net.flowIn, s.net.flowOut)
  let r := tabGet [] (if out then tabs.2 else tabs.1) k
  if 1 < rd8 p 0 || rd8 p 1 != 0 || 1024 ≤ k then .no .badParam
  else .done s (slice r 0 192 ++ (if out then s.statOut k else s.statIn k).bytes out) (s.tick + 1)

/-- FLOW_QUERY. -/
def flowQueryCmd : Cmd :=
  { op := 0x705, boot := false, len := lenIs 4, uses := false, quiet := true, asleep := true, mirrored := false, run := flowQueryRun }

/-- FLOW_QUERY (R417). -/
def execFlowQuery (h : Hdr) (p : Bytes) (s : State) : Result := keyway flowQueryCmd h p s

end Sys2Proof.Machine
end

