-- ==== Sys2Proof/Machine/System.lean ====
section
/-! DEFINITION. The commands of chapter "The Keyway Command Protocol" itself: SYS_INFO, SYS_RESET, NOP, LOG_READ, REG_READ
and REG_WRITE (R357 to R359). -/

namespace Sys2Proof.Machine

/-- MEDIA_NS of SYS_INFO: 0 before the first lock (R357, R434). -/
def State.infoTime (s : State) : Nat := if s.ptm.everLocked then s.time64 else 0

/-- The SYS_INFO payload (R357). -/
def State.sysInfo (s : State) : Bytes :=
  leB 4 0x7680 ++ leB 2 Config.hwRev.toNat ++ leB 2 Config.romVer.toNat ++ leB 1 s.sys.mode.num ++ leB 1 (b2n s.rnd.rate96)
    ++ leB 1 s.twn.state.num ++ zeros 1 ++ leB 4 s.sys.imageId ++ leB 4 s.sys.imageVer ++ leB 8 s.infoTime ++ zeros 4

/-- SYS_INFO. -/
def sysInfoCmd : Cmd :=
  { op := 0x101, boot := true, len := lenIs 0, uses := false, quiet := true, asleep := true, mirrored := false,
    run := fun _ s => .done s s.sysInfo (s.tick + 1) }

/-- SYS_INFO (R357). -/
def execSysInfo (h : Hdr) (p : Bytes) (s : State) : Result := keyway sysInfoCmd h p s

/-- SYS_RESET: due replies are aborted, and the reset follows 1 ms after the reply (R352, R359). -/
def sysResetCmd : Cmd :=
  { op := 0x102, boot := true, len := lenIs 0, uses := false, quiet := true, asleep := true, mirrored := false,
    run := fun _ s => .ok s.abortDue }

/-- SYS_RESET (R359). -/
def execSysReset (h : Hdr) (p : Bytes) (s : State) : Result := keyway sysResetCmd h p s

/-- NOP: answered after every command with a lower ASEQ has been answered or scheduled. -/
def nopCmd : Cmd :=
  { op := 0x103, boot := true, len := lenIs 0, uses := false, quiet := true, asleep := true, mirrored := false,
    run := fun i s =>
      if s.nopWaits i.ref then .held { s with key := { s.key with nops := s.key.nops ++ [i.ref] } } else .ok s }

/-- NOP (R357). -/
def execNop (h : Hdr) (p : Bytes) (s : State) : Result := keyway nopCmd h p s

/-- LOG_READ: HEAD, then the records from FIRST onward that exist. -/
def logReadRun (i : CmdIn) (s : State) : Verdict :=
  let first := rd32 i.body 0
  let n := rd16 i.body 4
  if !zeroAt i.body 6 2 || n = 0 || 63 < n || decide (first + 65536 < s.intg.head) then .no .badParam
  else
    let k := min n (s.intg.head - first)
    .done s (leB 4 s.intg.head ++ ((List.range k).map fun j => s.logBytes (first + j)).flatten) (s.tick + 1)

/-- LOG_READ. -/
def logReadCmd : Cmd :=
  { op := 0xB01, boot := false, len := lenIs 8, uses := false, quiet := true, asleep := true, mirrored := false, run := logReadRun }

/-- LOG_READ (R357). -/
def execLogRead (h : Hdr) (p : Bytes) (s : State) : Result := keyway logReadCmd h p s

/-- An error response to a register access of the firmware: the control core and its ID are not specified (R500). -/
def State.coreErr (s : State) (a code : Nat) (write : Bool) : State :=
  let (m, s) := s.freeBelow 4
  let (id, s) := s.freeBelow 64
  s.fabErr { addr := a, hi := 0xB0, master := m, id, write, code, ts := s.ts32 }

/-- The gate of a register's block. -/
def gateOf (a : Nat) : Nat := match bar0Block a with | some (_, _, _, g, _) => g | none => 15

/-- REG_READ from `a` on, with `n` registers left and the values read so far (R358). An address without a register reads 0 and is
recorded (R498, R499); GATED and DOMAIN_OFF stop the command. -/
def regReadGo (ref : ReplyRef) : Nat → Nat → Bytes → State → Verdict
  | 0, _, acc, s => .done s acc (s.tick + 1)
  | n + 1, a, acc, s =>
    match s.bar0Code a with
    | some 0 => regReadGo ref n (a + 4) (acc ++ leB 4 (s.readReg a)) s
    | some 2 => regReadGo ref n (a + 4) (acc ++ zeros 4) (s.coreErr a 2 false)
    | some c => .fail (s.coreErr a c false) .busError (leB 4 a ++ leB 4 c)
    | none =>
      let hc : HeldCmd := { gate := gateOf a, write := false, addr := a, left := n + 1, data := acc, ref }
      .held { s with clk := { s.clk with heldCmds := s.clk.heldCmds ++ [hc] } }

/-- REG_WRITE of the values `vs` from `a` on (R358). -/
def regWriteGo (ref : ReplyRef) : Nat → Nat → Bytes → State → Verdict
  | 0, _, _, s => .ok s
  | n + 1, a, vs, s =>
    match s.bar0Code a, bar0Block a with
    | some 0, some (base, _, _, _, blk) => regWriteGo ref n (a + 4) (vs.drop 4) (s.writeReg blk (a - base) (rd32 vs 0))
    | some c, _ => .fail (s.coreErr a c true) .busError (leB 4 a ++ leB 4 c)
    | none, _ =>
      let hc : HeldCmd := { gate := gateOf a, write := true, addr := a, left := n + 1, data := vs, ref }
      .held { s with clk := { s.clk with heldCmds := s.clk.heldCmds ++ [hc] } }

/-- A register that REG_WRITE may write: host-class, or a deadbolt setting in STAGED (R292, R358, R549). -/
def State.regWritable (s : State) (a : Nat) : Bool :=
  match bar0Block a with
  | none => false
  | some (base, _, _, _, blk) =>
    if (blockView s blk (a - base)).isNone then false
    else if blk = 23 && (dbltDflt (a - base)).isSome then s.sys.mode == .staged && !s.dblt.locked
    else hostReg blk (a - base)

/-- A deadbolt setting that REG_WRITE would put out of range (R549). -/
def badSetting (a v : Nat) : Bool :=
  decide (0x330000 ≤ a) && (dbltDflt (a - 0x330000)).isSome && !dbltInRange (a - 0x330000) v

/-- REG_READ: one register after another, up to the first error response (R358). -/
def regReadRun (i : CmdIn) (s : State) : Verdict :=
  let a := rd32 i.body 0
  let n := rd16 i.body 4
  if !zeroAt i.body 6 2 || a % 4 != 0 || n = 0 || 256 < n then .no .badParam else regReadGo i.ref n a [] s

/-- REG_READ. -/
def regReadCmd : Cmd :=
  { op := 0xB02, boot := false, len := lenIs 8, uses := false, quiet := true, asleep := true, mirrored := false, run := regReadRun }

/-- REG_READ (R358). -/
def execRegRead (h : Hdr) (p : Bytes) (s : State) : Result := keyway regReadCmd h p s

/-- LENGTH of REG_WRITE: COUNT values follow. -/
def regWriteLen (n : Nat) (p : Bytes) : Bool := decide (8 ≤ n) && n == 8 + 4 * rd16 p 4

/-- REG_WRITE: refused whole when in STAGED a deadbolt value is out of range (check 6 of R348, R549), or when a register of the range is
not host-class (R358). -/
def regWriteRun (i : CmdIn) (s : State) : Verdict :=
  let a := rd32 i.body 0
  let n := rd16 i.body 4
  if !zeroAt i.body 6 2 || a % 4 != 0 || n = 0 || 64 < n then .no .badParam
  else if s.sys.mode == .staged && (List.range n).any fun k => badSetting (a + 4 * k) (rd32 i.body (8 + 4 * k)) then .no .badParam
  else if (List.range n).any fun k => !s.regWritable (a + 4 * k) then .no .denied
  else regWriteGo i.ref n a (i.body.drop 8) s

/-- REG_WRITE. -/
def regWriteCmd : Cmd :=
  { op := 0xB03, boot := false, len := regWriteLen, uses := false, quiet := false, asleep := true, mirrored := false,
    run := regWriteRun }

/-- REG_WRITE (R358). -/
def execRegWrite (h : Hdr) (p : Bytes) (s : State) : Result := keyway regWriteCmd h p s

/-- A command that a gate held goes on when the gate has settled (R456). -/
def State.resumeCmd (s : State) (c : HeldCmd) : State :=
  match (if c.write then regWriteGo c.ref c.left c.addr c.data s else regReadGo c.ref c.left c.addr c.data s) with
  | .done s' pl _ => s'.answer c.ref .ok false false pl
  | .fail s' st pl => s'.countRefusal.answer c.ref st false false pl
  | .held s' => s'
  | _ => s

/-- Every access that gate `g` held is answered (R456). -/
def State.releaseHeld (s : State) (g : Nat) : State :=
  let cs := s.clk.heldCmds.filter fun c => c.gate == g
  let ws := s.clk.held.filter fun w => w.gate == g
  let s := { s with clk := { s.clk with held := s.clk.held.filter fun w => w.gate != g,
                                        heldCmds := s.clk.heldCmds.filter fun c => c.gate != g } }
  let s := ws.foldl (fun s w => match w.data with | some d => s.bar2Write w.addr d | none => s.pcieWrite w.addr w.val 15) s
  cs.foldl State.resumeCmd s

end Sys2Proof.Machine
end

