-- ==== Sys2Proof/Machine/PowerCmds.lean ====
section
/-! DEFINITION. The power and clock commands (chapters "Power Feeds, Domains and Low-Power States", R464 to R482, and "Clock
Generation and Control", R457), and the start of a power-state transition. -/

namespace Sys2Proof.Machine

/-- Set a bit of PWR_EVT. -/
def State.pwrEvt (s : State) (i : Nat) : State := { s with pwr := { s.pwr with evt := setBit s.pwr.evt i } }

/-- PWR_QUERY: six registers. -/
def pwrQueryCmd : Cmd :=
  { op := 0x901, boot := true, len := lenIs 0, uses := false, quiet := true, asleep := true, mirrored := false,
    run := fun _ s => .done s (([0, 0xC, 0x10, 0x14, 0x18, 0x20].map fun o => leB 4 ((pwrView s o).getD 0)).flatten) (s.tick + 1) }

/-- PWR_QUERY (R482). -/
def execPwrQuery (h : Hdr) (p : Bytes) (s : State) : Result := keyway pwrQueryCmd h p s

/-- CLK_QUERY: CLK_STAT, CLK_PLL0–8 and CLK_MEAS0–8. -/
def clkQueryCmd : Cmd :=
  { op := 0x940, boot := true, len := lenIs 0, uses := false, quiet := true, asleep := true, mirrored := false,
    run := fun _ s => .done s (leB 4 s.clkStat ++ ((List.range 9).map fun p => leB 4 (s.pll p).word).flatten
      ++ ((List.range 9).map fun p => leB 4 (s.pll p).khz).flatten) (s.tick + 1) }

/-- CLK_QUERY (R457). -/
def execClkQuery (h : Hdr) (p : Bytes) (s : State) : Result := keyway clkQueryCmd h p s

/-! The feed exercise (R464 to R466). -/

/-- The payload of FEED_EXERCISE. -/
def exercisePayload (result minB maxI onB : Nat) : Bytes :=
  leB 1 result ++ zeros 1 ++ leB 2 minB ++ leB 2 maxI ++ zeros 2 ++ leB 4 onB

/-- The reply of an exercise that took no sample of FEED_B: R466 states no MIN_B and MAX_I_B for it. -/
def State.exerciseEmpty (s : State) (result onB : Nat) : Bytes × State :=
  let (lo, s) := s.freeBelow 65536
  let (hi, s) := s.freeBelow 65536
  (exercisePayload result lo hi onB, s)

/-- The exercise ends with a result: its reply is written, and a failure is flagged (R466). -/
def State.exerciseDone (s : State) (result : Nat) : State :=
  match s.pwr.exercise with
  | none => s
  | some e =>
    let s := { s with pwr := { s.pwr with exercise := none } }
    let s := if 1 ≤ result ∧ result ≤ 3 then s.pwrEvt 5 else s
    let onB := (s.now - e.start) / 1000
    let (pl, s) := if e.maxB = 0 then s.exerciseEmpty result onB else (exercisePayload result e.minB e.maxI onB, s)
    s.answer e.ref .ok true false pl

/-- SOURCE changes (R483). -/
def State.setSource (s : State) (src : Nat) : State :=
  if s.pwr.source = src then s
  else { s with pwr := { s.pwr with source := src, lastSwitch := s.ts32, srcAt := s.now } }

/-- FEED_EXERCISE: FEED_A is disconnected for 200 ms, or the reply says at once why it is not. -/
def feedExerciseRun (i : CmdIn) (s : State) : Verdict :=
  let p := s.pwr
  if p.exercise.isSome || p.trans != 0 || p.queued.isSome then .no .busy
  else
    let skip (r : Nat) : Verdict := let (pl, s) := s.exerciseEmpty r 0; .done s pl (s.tick + 1)
    if p.source = 1 then skip 4
    else if p.source = 2 || !(p.bSince.any fun b => decide (b + 500000000 ≤ s.now)) then skip 5
    else
      let e : Exercise := { ref := i.ref, start := s.now, minB := 0xFFFF, maxB := 0, maxI := 0, transferred := false, fell := false }
      .defer ({ s with pwr := { s.pwr with exercise := some e, exerciseCnt := p.exerciseCnt + 1 } }.setSource 1) (s.tick + 1)

/-- FEED_EXERCISE. -/
def feedExerciseCmd : Cmd :=
  { op := 0x920, boot := false, len := lenIs 0, uses := false, quiet := false, asleep := false, mirrored := false,
    run := feedExerciseRun }

/-- FEED_EXERCISE (R464 to R466). -/
def execFeedExercise (h : Hdr) (p : Bytes) (s : State) : Result := keyway feedExerciseCmd h p s

/-! Power-state requests (R472 to R475). -/

/-- A ramp set to its target. -/
def Ramp.done (r : Ramp) : Ramp := Ramp.at r.g1

/-- Every running gain, spread or speed-of-sound ramp stands at its target (R475). -/
def State.rampsDone (s : State) : State :=
  { s with
    obj := { s.obj with objs := tabMap ObjCtx.reset (fun c => { c with gain := c.gain.done, sigRamp := none }) s.obj.objs
                        beds := tabMap BedCtx.reset (fun c => { c with gain := c.gain.done }) s.obj.beds }
    pan := { s.pan with sound := tabMap (Ramp.at 0) Ramp.done s.pan.sound }
    rte := { s.rte with gains := tabMap (Ramp.at 0) Ramp.done s.rte.gains }
    cor := { s.cor with feeds := tabMap FeedCor.reset (fun c => { c with gain := c.gain.done }) s.cor.feeds } }

/-- The scheduled actions whose boundary has not come (R475). -/
def State.scheduledCount (s : State) : Nat :=
  s.sched.length + sumN (s.obj.objs.map fun e => e.2.pend.length) + sumN (s.obj.beds.map fun e => e.2.pend.length)
    + s.rte.gainPend.length + s.cor.gainPend.length + s.net.pend.length + (s.dac.reqs.filter fun r => r.phase == 0).length
    + b2n s.rnd.pend.isSome

/-- Every scheduled action is discarded and counted; a deferred reply that it owed is ABORTED (R350, R475). -/
def State.discardScheduled (s : State) : State :=
  let n := s.scheduledCount
  let groups := s.net.pend.flatMap fun p => fiGroups p.record
  let refs := (s.dac.reqs.filter fun r => r.phase == 0).map (·.ref) ++ (match s.rnd.pend with | some p => [p.ref] | none => [])
  let s := { s with
    sched := []
    obj := { s.obj with objs := tabMap ObjCtx.reset (fun c => { c with pend := [] }) s.obj.objs
                        beds := tabMap BedCtx.reset (fun c => { c with pend := [] }) s.obj.beds }
    rte := { s.rte with gainPend := [] }
    cor := { s.cor with gainPend := [] }
    net := { s.net with pend := [] }
    dac := { s.dac with reqs := s.dac.reqs.filter fun r => r.phase != 0 }
    rnd := { s.rnd with pend := none }
    pwr := { s.pwr with discardCnt := s.pwr.discardCnt + wd n } }
  (refs.foldl (fun s r => s.answer r .aborted true false []) s).leaveUnneeded groups

/-- Checks 5 and 8 of R348 for a power-state request, against the present mode (R360, R361, R472). -/
def State.pwrRefusal (s : State) (op : Nat) : Option Status :=
  if op = 0x910 then
    if s.sys.mode != .staged && s.sys.mode != .paused then some .badMode
    else if s.twn.state == .joining || s.twn.state == .lockstep then some .badMode
    else if (s.rnd.pend.any (·.resume)) || s.rte.pend.isSome || s.rte.hinge.isSome || !s.cor.pend.isEmpty || !s.cor.running.isEmpty then
      some .busy
    else none
  else if op = 0x911 then if s.sys.mode == .staged || s.sys.mode == .sleep then none else some .badMode
  else if s.sys.mode == .sleep then none else some .badMode

/-- A transition starts (R465, R472, R475, R476, R478, R479). From PAUSED its first step waits for P, the next boundary. -/
def State.pwrStart (s : State) (r : PwrReq) : State :=
  let s := if s.pwr.exercise.isSome && s.pwr.aOk then (s.setSource 0).exerciseDone 6 else s.exerciseDone 6
  let s := { s with pwr := { s.pwr with cur := some r, transAt := s.now } }
  let paused := s.sys.mode == .paused
  if r.op = 0x912 then { s with pwr := { s.pwr with trans := 2, stepNo := 0 } }
  else if r.op = 0x911 then
    if s.sys.mode == .sleep then { s with pwr := { s.pwr with trans := 3, stepNo := 10 } }
    else
      let s := s.discardScheduled.rampsDone
      { s with pwr := { s.pwr with trans := 3, stepNo := 1, heldGates := 0, fromPaused := false } }
  else
    let s := s.discardScheduled.rampsDone
    let s := { s with pwr := { s.pwr with trans := 1, stepNo := if paused then 0 else 1, heldGates := 0, fromPaused := paused } }
    if paused then { s with rnd := { s.rnd with stopAt := some (s.tick + 1) } } else s

/-- A power-state request: it starts, or it is queued in place of the queued one (R473). -/
def pwrRun (ok : Bytes → Bool) (i : CmdIn) (s : State) : Verdict :=
  let r : PwrReq := { op := i.op, after := if i.op = 0x911 then rd32 i.body 0 else 0, ref := i.ref }
  if s.pwr.trans = 0 && s.pwr.queued.isNone then
    match s.pwrRefusal i.op with
    | some .badMode => .no .badMode
    | e =>
      if !ok i.body then .no .badParam
      else match e with
        | some st => .no st
        | none => .defer (s.pwrStart r) (s.tick + 1)
  else if !ok i.body then .no .badParam
  else
    let s := match s.pwr.queued with
      | some q => (s.answer q.ref .superseded true false []).pwrEvt 6
      | none => s
    .defer { s with pwr := { s.pwr with queued := some r } } (s.tick + 1)

/-- A power-state request of the table. -/
def pwrCmd (op n : Nat) (ok : Bytes → Bool) : Cmd :=
  { op, boot := false, len := lenIs n, uses := false, quiet := false, asleep := true, mirrored := false, run := pwrRun ok }

/-- PWR_SLEEP. -/
def pwrSleepCmd : Cmd := pwrCmd 0x910 0 fun _ => true

/-- PWR_SLEEP (R472 to R477). -/
def execPwrSleep (h : Hdr) (p : Bytes) (s : State) : Result := keyway pwrSleepCmd h p s

/-- PWR_DEEP. -/
def pwrDeepCmd : Cmd := pwrCmd 0x911 4 fun p => decide (rd32 p 0 ≤ 864000)

/-- PWR_DEEP (R472, R473, R479). -/
def execPwrDeep (h : Hdr) (p : Bytes) (s : State) : Result := keyway pwrDeepCmd h p s

/-- PWR_WAKE. -/
def pwrWakeCmd : Cmd := pwrCmd 0x912 0 fun _ => true

/-- PWR_WAKE (R472, R473, R478). -/
def execPwrWake (h : Hdr) (p : Bytes) (s : State) : Result := keyway pwrWakeCmd h p s

end Sys2Proof.Machine
end

