-- ==== Sys2Proof/Machine/Power.lean ====
section
/-! DEFINITION. The power path, the bring-up and power-down of the rails, and the steps of the power-state transitions (chapter
"Power Feeds, Domains and Low-Power States", R459 to R480); and the closing of gates (R456). -/

namespace Sys2Proof.Machine

/-! The power path (R459 to R463). -/

/-- FEED_A (`b` false) or FEED_B has failed: its _OK bit and its event (R459, R483). -/
def State.feedFailed (s : State) (b : Bool) : State :=
  if b then { s with pwr := { s.pwr with bOk := false, bSince := none } }.pwrEvt 4
  else { s with pwr := { s.pwr with aOk := false } }.pwrEvt 3

/-- The load goes to FEED_B: the switch is flagged and counted. -/
def State.toFeedB (s : State) : State :=
  ({ s with pwr := { s.pwr with switchCnt := s.pwr.switchCnt + 1 } }.setSource 1).pwrEvt 0

/-- FEED_SWITCH_B (R460): FEED_A fails with the load, and FEED_B has not failed. -/
def execFeedSwitchB (t : Nat) (s : State) : Result :=
  let s := s.at t
  .next (if s.pwr.source = 0 && s.pwr.bOk then (s.feedFailed false).toFeedB else s)

/-- FEED_B_FAIL_RETURN (R460, R465): FEED_B fails with the load, and FEED_A has not failed. A feed exercise ends. -/
def execFeedBFailReturn (t : Nat) (s : State) : Result :=
  let s := s.at t
  .next (if s.pwr.source = 1 && s.pwr.aOk then
      (((s.feedFailed true).setSource 0).pwrEvt 1).exerciseDone 1
    else s)

/-- FEED_RETURN_A (R460): FEED_A has been in 11.0–13.2 V for 500 ms. -/
def execFeedReturnA (t : Nat) (s : State) : Result :=
  let s := s.at t
  .next (if s.pwr.source = 1 && s.pwr.exercise.isNone then
      ({ s with pwr := { s.pwr with aOk := true, returnCnt := s.pwr.returnCnt + 1 } }.setSource 0).pwrEvt 1
    else s)

/-- HOLDUP_CARRY (R460, R461): the feed that carries the load fails while the other one is failed. -/
def execHoldupCarry (t : Nat) (s : State) : Result :=
  let s := s.at t
  .next (if (s.pwr.source = 0 && !s.pwr.bOk) || (s.pwr.source = 1 && !s.pwr.aOk) then
      (((s.feedFailed (s.pwr.source == 1)).setSource 2).pwrEvt 2).exerciseDone 6
    else s)

/-- HOLDUP_END (R460): a feed that is no longer failed takes the load, FEED_A first; the episode is counted. -/
def execHoldupEnd (t : Nat) (aOk bOk : Bool) (s : State) : Result :=
  let s := s.at t
  .next (if s.pwr.source = 2 && s.domainOn 0 && (aOk || bOk) then
      { s with pwr := { s.pwr with aOk, bOk, holdupCnt := s.pwr.holdupCnt + 1 } }.setSource (if aOk then 0 else 1)
    else s)

/-- The clamps of the monitor outputs close (R518). -/
def State.clampDac (s : State) : State := { s with dac := { s.dac with clamped := true } }

/-- The rails go down in the reverse order of R468, to VAON or with it (R469): a transition and the wake timer are gone. The mode
of a module without its rails is COLD here, which nothing can read. -/
def State.powerDown (s : State) (vaon stuck : Bool) : State :=
  let p := { s.pwr with off := true, bring := none, stuck, domains := b2n vaon, trans := 0, cur := none, queued := none,
                        exercise := none, wakeAt := none, transAt := s.now }
  { s with pwr := p, sys := { s.sys with mode := .cold } }.clampDac

/-- HOLDUP_EXHAUSTED (R462): after 2 ms on the store everything goes off; the loss of both feeds clears PWR_RAILFAULT (R483). -/
def execHoldupExhausted (t : Nat) (s : State) : Result :=
  let s := s.at t
  .next (if s.pwr.source = 2 && s.domainOn 0 && decide (s.pwr.srcAt + 2000000 ≤ s.now) then
      let s := s.powerDown false false
      { s with pwr := { s.pwr with rail := 0, tries := 0, holdupReady := false } }
    else s)

/-- FEED_QUALIFIED (R462): with everything off, a feed has been in 10.8–13.2 V for 10 ms: bring-up starts. -/
def execFeedQualified (t : Nat) (aOk bOk : Bool) (s : State) : Result :=
  let s := s.at t
  .next (if s.pwr.off && !s.domainOn 0 && (aOk || bOk) then
      ({ s with pwr := { s.pwr with aOk, bOk } }.setSource (if aOk then 0 else 1)).startBring 0 1
    else s)

/-- FEED_FAIL (R459, R465): a feed that does not carry the load fails; FEED_A's failure ends a feed exercise. -/
def execFeedFail (t : Nat) (b : Bool) (s : State) : Result :=
  let s := s.at t
  let carries := decide (s.pwr.source = if b then 1 else 0)
  .next (if carries || !s.domainOn 0 then s
    else
      let s := s.feedFailed b
      if b then s else s.exerciseDone 6)

/-- The mean of a column of samples. -/
def meanN (l : List Nat) : Nat := sumN l / max 1 l.length

/-- The 1 ms means are written, with the lowest voltages and the highest power (R463, R483). -/
def State.powerMeans (s : State) (l : List (Nat × Nat × Nat × Nat)) : State :=
  let va := min 0xFFFF (meanN (l.map (·.1)))
  let ia := min 0xFFFF (meanN (l.map (·.2.1)))
  let vb := min 0xFFFF (meanN (l.map (·.2.2.1)))
  let ib := min 0xFFFF (meanN (l.map (·.2.2.2)))
  let p := min 0xFFFF (meanN (l.map fun x => (x.1 * x.2.1 + x.2.2.1 * x.2.2.2) / 1000))
  { s with pwr := { s.pwr with samples := [], aMv := va, aMa := ia, bMv := vb, bMa := ib, now := p, max := max s.pwr.max p,
                               minA := min s.pwr.minA va, minB := min s.pwr.minB vb } }

/-- A feed's voltage lies in the range in which it has not failed (R459). -/
def feedIn (mv : Nat) : Bool := decide (10200 ≤ mv ∧ mv ≤ 13800)

/-- A sample of FEED_B and of FEED_A's current during an exercise (R466). -/
def Exercise.sample (e : Exercise) (now aMa bMv bMa : Nat) : Exercise :=
  { e with minB := min e.minB bMv, maxB := max e.maxB bMv, maxI := max e.maxI bMa,
           transferred := e.transferred || decide (aMa < 50 ∧ now ≤ e.start + 100000), fell := e.fell || decide (aMa < 50) }

/-- POWER_MONITOR_SAMPLE (R461, R463, R464): one sample each 100 µs, and the means of ten. -/
def execPowerMonitorSample (t aMv aMa bMv bMa hMv : Nat) (s : State) : Result :=
  let s := s.at t
  .next (if !s.domainOn 0 then s
    else
      let since := if 10800 ≤ bMv ∧ bMv ≤ 13200 then some (s.pwr.bSince.getD s.now) else none
      let l := s.pwr.samples ++ [(aMv, aMa, bMv, bMa)]
      let p := { s.pwr with aOk := s.pwr.aOk || feedIn aMv, bOk := s.pwr.bOk || feedIn bMv, bSince := since,
                            holdupMv := min 0xFFFF hMv, holdupReady := decide (28000 ≤ hMv), samples := l,
                            exercise := s.pwr.exercise.map fun e => e.sample s.now aMa bMv bMa }
      let s := { s with pwr := p }
      if l.length < 10 then s else s.powerMeans l)

/-- The result of an exercise that runs to its end: the first row of R466 that applies; where none does, R466 states none. -/
def State.exerciseResult (s : State) (e : Exercise) : Nat × State :=
  if decide (10800 ≤ e.minB ∧ e.maxB ≤ 13200) && e.transferred then (0, s)
  else if 10200 ≤ e.minB ∧ e.minB < 10800 then (2, s)
  else if !e.fell then (3, s)
  else s.freeBelow 256

/-- FEED_EXERCISE_END (R464, R466): after 200 ms FEED_A carries the load again. -/
def execFeedExerciseEnd (t : Nat) (s : State) : Result :=
  let s := s.at t
  .next (match s.pwr.exercise with
    | some e =>
      if s.now < e.start + 200000000 then s
      else
        let (r, s) := s.exerciseResult e
        (s.setSource 0).exerciseDone r
    | none => s)

/-! Bring-up (R468, R470). -/

/-- The times in ms of the steps of R468. -/
def bringTimes : List Nat := [0, 1, 3, 4, 6, 7, 8, 9, 10, 11, 12, 25, 26]

/-- The step of R468 at which a rail of PWR_RAILFAULT is switched on. -/
def railStep (rail : Nat) : Nat := getD' [0, 0, 3, 4, 4, 5, 6, 6, 7, 8, 9, 10, 10, 10] rail 99

/-- The time between a step of R468 and the step before it, in ns; nothing before the step with which bring-up starts. -/
def bringGap (k : Nat) : Nat := (getD' bringTimes k 0 - getD' bringTimes (k - 1) 0) * 1000000

/-- BRINGUP_STEP (R468): the next step at its time; the step at 25 ms waits for HOLDUP_READY, and the last one releases reset. -/
def execBringupStep (t : Nat) (s : State) : Result :=
  let s := s.at t
  .next (match s.pwr.bring with
    | none => s
    | some (k, src) =>
      if s.now < s.pwr.transAt || (k == 11 && !s.pwr.holdupReady) then s
      else if k = 12 then s.resetTo src
      else { s with pwr := { s.pwr with bring := some (k + 1, src), transAt := s.pwr.transAt + bringGap (k + 1) } })

/-- A rail is on: at a running bring-up those whose step has come, in DEEP_SLEEP VAON alone. -/
def State.railOn (s : State) (rail : Nat) : Bool :=
  decide (1 ≤ rail ∧ rail ≤ 13) && s.domainOn 0 &&
    (match s.pwr.bring with
     | some (k, _) => decide (railStep rail < k)
     | none => if s.unpowered then rail == 1 else true)

/-- TRIES after a rail fault (R470): a failed retry adds one to the bring-ups that failed in a row, any other bring-up is the first of a
row, and a fault of a running module is no failed bring-up. -/
def State.failedTries (s : State) : Nat :=
  match s.pwr.bring with
  | some (_, 1) => min 3 (s.pwr.tries + 1)
  | some _ => 1
  | none => 0

/-- RAIL_FAULT (R470): the rails go down to VAON, and the rail is recorded; the third failed bring-up in a row is the last. -/
def execRailFault (t rail : Nat) (s : State) : Result :=
  let s := s.at t
  .next (if !s.railOn rail then s
    else
      let tries := s.failedTries
      let s := s.powerDown true (decide (3 ≤ tries))
      { s with pwr := { s.pwr with rail, tries } })

/-- RAIL_RETRY (R470): 1 s after a rail fault bring-up is tried again. -/
def execRailRetry (t : Nat) (s : State) : Result :=
  let s := s.at t
  .next (if s.pwr.off && s.pwr.bring.isNone && !s.pwr.stuck && s.domainOn 0 && s.pwr.rail != 0
        && decide (s.pwr.transAt + 1000000000 ≤ s.now) then s.startBring 0 1
    else s)

/-- DEEP_SLEEP holds, and no bring-up runs (R480). -/
def State.deepAsleep (s : State) : Bool := s.sys.mode == .deepSleep && s.pwr.bring.isNone && !s.pwr.off && s.domainOn 0

/-- WAKE_PIN (R480): WAKE_N low for 1 ms leaves DEEP_SLEEP. -/
def execWakePin (t : Nat) (s : State) : Result :=
  let s := s.at t
  .next (if s.deepAsleep then s.startBring 3 4 else s)

/-- DEEP_WAKE_TIMER (R480): the wake timer expires. -/
def execDeepWakeTimer (t : Nat) (s : State) : Result :=
  let s := s.at t
  .next (if s.deepAsleep && s.pwr.wakeAt.any (fun w => decide (w ≤ s.now)) then s.startBring 3 4 else s)

/-! Gates (R456). -/

/-- A gate is asked to close: it waits for the block's idle handshake. -/
def State.closeGate (s : State) (g : Nat) : State :=
  s.onGate g fun x => if x.st = .closed then x else { x with st := .pending }

/-- No gate waits for its handshake. -/
def State.gatesSettled (s : State) : Bool := s.clk.gates.all fun g => g.st != .pending

/-- A domain is switched off where its gates are closed, and in PWR_DEEP whatever they are (R477). -/
def State.domainOff (s : State) (d : Nat) (gates : List Nat) : State :=
  if s.pwr.trans = 3 || gates.all (fun g => (s.gate g).st == .closed) then s.setDomain d false else s

/-- A port that loses its power loses its link. -/
def State.dropLinks (s : State) : State :=
  [(5, 0), (6, 1), (7, 3)].foldl (fun s (d, port) =>
    if s.domainOn d then s else s.onMac port fun m => { m with link := false, txLpi := false, rxLpi := false, pausedTo := none }) s

/-! SLEEP entry, wake and DEEP_SLEEP entry (R476 to R479). -/

/-- The time in ns after P of each step of R476: a close is one step, and what waits for it the next. -/
def sleepTimes : List Nat :=
  [0, 100000, 1000000, 1000000, 2000000, 3000000, 4000000, 4000000, 5000000, 5000000]

/-- The gates that the host may keep open in SLEEP (R455). -/
def hostGates : List Nat := [4, 5, 7, 10]

/-- IGMP leaves on every media port whose gate will close (R476). -/
def State.sleepLeaves (s : State) : State :=
  s.net.members.foldl (fun s g => if (s.gate (4 + g.1)).sleep then s else s.leaveGroup g) s

/-- A change of PLL `p`. -/
def State.onPll (s : State) (p : Nat) (f : Pll → Pll) : State := { s with clk := { s.clk with plls := modAt s.clk.plls p f } }

/-- The transition ends: its reply is written. -/
def State.transEnd (s : State) (payload : Bytes) : State :=
  let s' := { s with pwr := { s.pwr with trans := 0, stepNo := 0, cur := none } }
  match s.pwr.cur with
  | some r => s'.answer r.ref .ok true false payload
  | none => s'

/-- Step `k` of R476. -/
def State.sleepStep (s : State) (k : Nat) : State :=
  if k = 1 then s.sleepLeaves
  else if k = 2 then [0, 1, 2, 9].foldl State.closeGate s
  else if k = 3 then
    let s := (s.domainOff 3 [0, 1, 2]).domainOff 8 [9]
    if s.domainOn 8 then s else { s with dac := { s.dac with running := false } }
  else if k = 4 then s.closeGate 11
  else if k = 5 then { s with ddr := { s.ddr with selfRefresh := true } }.closeGate 3
  else if k = 6 then hostGates.foldl (fun s g => if (s.gate g).sleep then s else s.closeGate g) s
  else if k = 7 then (((s.domainOff 5 [4]).domainOff 6 [5]).domainOff 7 [7]).dropLinks
  else if k = 8 then s.closeGate 13
  else
    let s := ((s.onPll 2 fun x => { x with bypass := true }).onPll 0 fun x => { x with lock := false }).onPll 3 fun x => { x with lock := false }
    let s := s.setMode .sleep
    if s.pwr.trans = 1 then s.transEnd (leB 4 s.pwr.heldGates)
    else { s with pwr := { s.pwr with stepNo := 10, transAt := s.now } }

/-- SLEEP_ENTRY_STEP (R476, R477, R479): the next step at its time, once no gate waits. From PAUSED, P is a tick boundary. -/
def execSleepEntryStep (t : Nat) (s : State) : Result :=
  let s := s.at t
  let k := s.pwr.stepNo
  .next (if !(s.pwr.trans = 1 || s.pwr.trans = 3) || k = 0 || 10 ≤ k || !s.gatesSettled
        || decide (s.now < s.pwr.transAt + getD' sleepTimes k 0) then s
    else { s with pwr := { s.pwr with stepNo := k + 1 } }.sleepStep k)

/-- The time in ns after W of each step of R478. -/
def wakeTimes : List Nat := [0, 2000000, 4000000, 6000000, 38000000, 40000000]

/-- Step `k` of R478. -/
def State.wakeStep (s : State) (k : Nat) : State :=
  if k = 0 then s.onPll 2 fun x => { x with bypass := false }
  else if k = 1 then hostGates.foldl (fun s g => s.setGate g true) (((s.setDomain 5 true).setDomain 6 true).setDomain 7 true)
  else if k = 2 then { s with ddr := { s.ddr with selfRefresh := false } }.setGate 3 true
  else if k = 3 then
    let s := (s.setDomain 3 true).setDomain 8 true
    { s with dac := { s.dac with running := true } }
  else if k = 4 then
    { s with pan := { s.pan with pairs := [] }, tap := { s.tap with engines := s.tap.engines.map fun e => { e with custom := [], cpu := TapCpu.start } } }
  else
    let s := [0, 1, 2, 9, 11, 13].foldl (fun s g => s.setGate g true) s
    (if s.pwr.fromPaused then s.enterLocking else s.setMode .staged).transEnd []

/-- WAKE_STEP (R478): the next step at its time. -/
def execWakeStep (t : Nat) (s : State) : Result :=
  let s := s.at t
  let k := s.pwr.stepNo
  .next (if s.pwr.trans != 2 || decide (s.now < s.pwr.transAt + getD' wakeTimes k 0) then s
    else { s with pwr := { s.pwr with stepNo := k + 1 } }.wakeStep k)

/-- Step `k` of R479, counted from D = 10. -/
def State.deepStep (s : State) (k : Nat) : State :=
  if k = 10 then
    match s.pwr.cur with
    | some r =>
      let s := { s with pwr := { s.pwr with wakeAt := if r.after = 0 then none else some (s.now + r.after * 1000000000) } }
      s.answer r.ref .ok true false []
    | none => s
  else if k = 11 then ((s.setGate 8 false).setGate 6 false).onMac 2 fun m => { m with link := false }
  else
    let s := (List.range 14).foldl (fun s g => s.setGate g false) s
    let s := { s with pwr := { s.pwr with trans := 0, stepNo := 0, cur := none, domains := 1 } }
    s.dropLinks.setMode .deepSleep

/-- DEEP_ENTRY_STEP (R479): the reply at D, the links 1 ms later, and the rails by 3 ms. -/
def execDeepEntryStep (t : Nat) (s : State) : Result :=
  let s := s.at t
  let k := s.pwr.stepNo
  .next (if s.pwr.trans != 3 || k < 10 || decide (s.now < s.pwr.transAt + getD' [0, 1000000, 3000000] (k - 10) 0) then s
    else { s with pwr := { s.pwr with stepNo := k + 1 } }.deepStep k)

/-- PWR_QUEUED_START (R473): the queued request is checked against the mode it finds, and starts. -/
def execPwrQueuedStart (t : Nat) (s : State) : Result :=
  let s := s.at t
  .next (match s.pwr.queued with
    | none => s
    | some r =>
      if s.pwr.trans != 0 then s
      else
        let s := { s with pwr := { s.pwr with queued := none } }
        match s.pwrRefusal r.op with
        | some st => s.countRefusal.answer r.ref st true false []
        | none => s.pwrStart r)

end Sys2Proof.Machine
end

