-- ==== Sys2Proof/Machine/Integrity.lean ====
section
/-! DEFINITION. Yields, the firmware watchdog and the junction temperature (chapters "Integrity, Recomputation and the Deadbolt",
R284 to R289, and "Module, Connector and Electrical Ratings", R537 and R538). -/

namespace Sys2Proof.Machine

/-- The module has power: the rails are up, and it is not in DEEP_SLEEP. -/
def State.powered (s : State) : Bool := !s.unpowered

/-- Write a fault record whose SOURCE and DETAIL the spec does not state (R289). -/
def State.logOpen (s : State) (kind outcome : Nat) : State :=
  let (src, s) := s.freeBelow 65536
  let (d, s) := s.freeBelow (2 ^ 32)
  s.logFault kind outcome src d

/-- Write a fault record of clocks and temperature, whose DETAIL the spec does not state. -/
def State.logClock (s : State) (kind outcome : Nat) : State :=
  let (d, s) := s.freeBelow (2 ^ 32)
  s.logFault kind outcome 0x105 d

/-- A cause of a yield: the decision, and its fault record (R284, R286). -/
def State.yieldFault (s : State) (reason kind : Nat) : State := (s.logClock kind 6).decideYield reason

/-- The engines stop, and what they ran is gone (R286). -/
def State.stopEngines (s : State) : State :=
  { s with tap := { s.tap with engines := s.tap.engines.map fun e =>
             if e.st == .run || e.st == .halt then { e with st := .idle, unit := none } else e }
           disp := { s.disp with queue := [], refusedUnits := [] }
           pan := { s.pan with building := none }
           rnd := { s.rnd with open_ := [], sched := .idle, pend := none } }

/-- A yield takes effect (R286, R352): due replies are ABORTED, streams and engines stop, gates 0 and 1 close, and the monitor
outputs fade. -/
def State.takeYield (s : State) : State :=
  match s.intg.yieldPend with
  | none => s
  | some (n, reason) =>
    let s := s.abortDue
    let s := { s with intg := { s.intg with yieldPend := none, reason, yieldTick := n, evt := setBit s.intg.evt 7 }
                      dac := { s.dac with reqs := [], ramps := [], evt := setBitIf (s.dac.reqs.any fun r => r.phase != 0) s.dac.evt 2, yieldFade := if s.dac.clamped then 0 else 64 }
                      pwr := { s.pwr with trans := 0, cur := none, queued := none }
                      twn := { s.twn with decider := false, join := none,
                                          state := if s.twn.state = TwnState.off then TwnState.off else TwnState.seeking } }
    (((s.stopEngines).closeGate 0).closeGate 1).setMode .yielded

/-- YIELD_TAKE_EFFECT (R286): at the yield boundary. -/
def execYieldTakeEffect (t : Nat) (s : State) : Result :=
  let s := s.at t
  .next (if s.powered then s.takeYield else s)

/-- A word that firmware reads fails its parity (R276, R284, R304): repaired from the other copy or the image copy; both copies lost, the
module yields; a state word of calibration discards the feed's estimates as in R193. -/
def State.sramFault (s : State) (e : SramFault) : State :=
  let s := s.countCheck 1
  match e with
  | .fw a both =>
    if both then (s.logFault 9 6 0x103 a).decideYield 4
    else { s with intg := { s.intg with repairCnt := s.intg.repairCnt + 1 } }.logFault 9 1 0x103 a
  | .calTable _ => s.logOpen 1 1
  | .calState f _ => (s.dropEstimates f).logOpen 1 7

/-- WDOG_KICK (R287, R304): firmware writes INTG_WDOG; `faults` lists the words that failed since the write before. -/
def execWdogKick (w : WdogWrite) (s : State) : Result :=
  let s := s.at w.t
  .next (if s.imageRuns && s.powered then
      w.faults.foldl State.sramFault { s with intg := { s.intg with kick := s.tick % 65536, kickAt := s.now } }
    else s)

/-- WATCHDOG_EXPIRY (R287): 4 ms without a write while ticks run. -/
def execWatchdogExpiry (t : Nat) (s : State) : Result :=
  let s := s.at t
  .next (if s.ticking && decide (s.intg.kickAt + 4000000 ≤ s.now) && !(s.intg.yieldPend.any fun y => y.2 == 3) then
      (s.logOpen 10 6).decideYield 3
    else s)

/-- TEMP_SAMPLE (R537, R538): `tj` in 0.25 °C. At 125 °C the rails go down until a reset pin or a feed cycle. -/
def execTempSample (t tj : Nat) (s : State) : Result :=
  let s := s.at t
  .next (if s.pwr.off then s
    else
      let tj := min 1023 tj
      let g := s.intg
      let warn := g.cool && decide (400 ≤ tj)
      let cool := if warn then false else g.cool || decide (tj < 388)
      let hot := if 460 ≤ tj then min 2 (g.hot + 1) else 0
      let s := { s with intg := { g with tj, tjMax := max g.tjMax tj, cool, hot, evt := setBitIf warn g.evt 6 } }
      let s := if warn then s.logClock 13 7 else s
      let due := s.imageRuns && s.powered && hot == 2 && (g.hot != 2 || (s.intg.yieldPend.isNone && s.sys.mode != .yielded))
      let s := if due then s.yieldFault 2 12 else s
      if tj < 500 then s
      else { s with intg := { s.intg with reason := 0 } }.powerDown true true)

end Sys2Proof.Machine
end

