-- ==== Sys2Proof/Machine/Modes.lean ====
section
/-! DEFINITION. STAGE_COMMIT and STAGE_RETURN (chapter "Modes, Power-Up and Image Download", R380 and R381), and the choice of the
start boundary (R324, R382). -/

namespace Sys2Proof.Machine

/-- More homeless shards than the rate allows, or a coasting CORE, FAB, CPU or DDR clock (R283, R452). -/
def State.cannotRender (s : State) : Bool :=
  decide ((if s.rnd.rate96 then 0 else 1) < s.intg.homeless.length) || [0, 1, 2, 3].any fun p => (s.pll p).coast

/-- STAGE_COMMIT: to LOCKING; the digests freeze (R313). -/
def stageCommitRun (i : CmdIn) (s : State) : Verdict :=
  let expect := rd32 i.body 0
  if s.sys.mode != .staged then .no .badMode
  else if expect != 0 && expect != s.dblt.digest.toNat then .no .badParam
  else if s.cannotRender then .no .overBudget
  else
    let t := { s.twn with digest := s.twnDigest, stateDigest := s.twnStateDigest, frozen := true }
    .ok { s with twn := t, pwr := { s.pwr with fromPaused := false } }.enterLocking

/-- STAGE_COMMIT. -/
def stageCommitCmd : Cmd :=
  { op := 0x140, boot := false, len := lenIs 4, uses := false, quiet := false, asleep := false, mirrored := false,
    run := stageCommitRun }

/-- STAGE_COMMIT (R380). -/
def execStageCommit (h : Hdr) (p : Bytes) (s : State) : Result := keyway stageCommitCmd h p s

/-- STAGE_RETURN: back to STAGED; acquisition stops. -/
def stageReturnRun (_i : CmdIn) (s : State) : Verdict :=
  if s.sys.mode != .locking then .no .badMode
  else .ok ({ s with ptm := s.ptm.acquire
                     twn := { s.twn with ready := false, frozen := false }
                     rnd := { s.rnd with startAt := none } }.setMode .staged)

/-- STAGE_RETURN. -/
def stageReturnCmd : Cmd :=
  { op := 0x141, boot := false, len := lenIs 0, uses := false, quiet := false, asleep := false, mirrored := false,
    run := stageReturnRun }

/-- STAGE_RETURN (R381). -/
def execStageReturn (h : Hdr) (p : Bytes) (s : State) : Result := keyway stageReturnCmd h p s

/-! The start boundary. -/

/-- Set a bit of TWN_EVT. -/
def State.twnEvt (s : State) (i : Nat) : State := { s with twn := { s.twn with evt := setBit s.twn.evt i } }

/-- Some path to the partner is up (R311). -/
def State.seesPeer (s : State) : Bool := s.twn.haspUp || s.twn.netaUp || s.twn.netbUp

/-- The partner's last tumbler, while some path is up. -/
def State.peerNow (s : State) : Option Tumbler := if s.seesPeer then s.twn.peer else none

/-- A partner that is seen keeps this twin out of RENDER (R313). -/
def State.peerBars (s : State) : Bool :=
  s.peerNow.any fun m => m.digest != s.twnDigest || m.id == s.twn.id

/-- Media time is locked (R427). -/
def State.timeLocked (s : State) : Bool := s.ptm.lock == 2

/-- The module takes a start boundary at least 100 ms ahead of `t0`, in the given state. -/
def State.planAt (s : State) (t0 : Nat) (as : TwnState) : State :=
  let from0 := s.mediaAt (t0 + 100000000)
  let n := max (s.firstAhead 0) (ceilDivI (from0 * s.fs) 16000000000).toNat
  { s with rnd := { s.rnd with startAt := some n }, twn := { s.twn with startAs := as } }

/-- A join may start: AUTO_JOIN or TWIN_JOIN (R324), and no retry is waited for (R326). -/
def State.mayJoin (s : State) : Bool := (s.twn.autoJoin && s.twn.retryAt.isNone) || s.twn.want

/-- The start of a twin in SEEKING that is ready (R324, R382). -/
def State.planTwin (s : State) (m : Tumbler) : State :=
  if m.state = TwnState.alone.num then
    (if s.mayJoin then s.planAt (s.ptm.lockedAt.getD s.now) .joining else s)
  else if !m.ready || !s.twn.haspUp || m.reason != 0 then s
  else if m.stateDigest != s.twnStateDigest then
    (if s.twn.id = 0 then s.twnEvt 10 |>.planAt s.now .alone
     else { s with twn := { s.twn with want := true } }.twnEvt 10)
  else if s.twn.id != 0 then s
  else
    let s := s.planAt s.now .lockstep
    let s := { s with twn := { s.twn with nextMseq := 1, unacked := [], inbox := [], appliedHi := 0 } }
    s.mirrorOut (s.rnd.startAt.getD 0) .start 0

/-- Choose the start boundary, once media time is locked in LOCKING and none is chosen (R382). -/
def State.planStart (s : State) : State :=
  if s.sys.mode != .locking || !s.timeLocked || s.rnd.startAt.isSome then s
  else if s.twn.state = .off then s.planAt (s.ptm.lockedAt.getD s.now) .off
  else
    let s := if s.twn.ready then s else { s with twn := { s.twn with ready := true, readyAt := s.now } }
    if s.peerBars then s
    else match s.peerNow with
      | some m => s.planTwin m
      | none => s

end Sys2Proof.Machine
end

