-- ==== Sys2Proof/Machine/Clocks.lean ====
section
/-! DEFINITION. The clocks: muxes, references, monitors and the crystal (chapter "Clock Generation and Control", R444 to
R453). -/

namespace Sys2Proof.Machine

/-- Set a bit of CLK_EVT. -/
def State.clkEvt (s : State) (i : Nat) : State := { s with clk := { s.clk with evt := setBit s.clk.evt i } }

/-- MUX_SWITCH (R448): to a source that runs; a dead one is not switched to. -/
def execMuxSwitch (t p : Nat) (toXtal alive : Bool) (s : State) : Result :=
  let s := s.at t
  .next (if 3 ≤ p || (s.pll p).bypass == toXtal || s.pwr.off then s
    else if !alive then s.clkEvt 2
    else s.onPll p fun x => { x with bypass := toXtal, forced := false })

/-- MUX_FORCED_SWITCH (R449): no edge of the old clock for 64 crystal cycles; a switch away from the crystal is never forced. -/
def execMuxForcedSwitch (t p : Nat) (toXtal : Bool) (s : State) : Result :=
  let s := s.at t
  .next (if 3 ≤ p || !toXtal || (s.pll p).bypass || s.pwr.off then s
    else
      let s := (s.onPll p fun x => { x with bypass := true, forced := true }).clkEvt 1
      { s with clk := { s.clk with forcedCnt := s.clk.forcedCnt + 1 } })

/-- A port's link goes down or comes up (R418). -/
def State.setLink (s : State) (port : Nat) (up : Bool) : State :=
  if (s.mac port).link == up then s
  else s.onMac port fun m =>
    let m := { m with evt := setBit m.evt 0 }
    if up then { m with link := true } else { m with link := false, txLpi := false, rxLpi := false, pausedTo := none }

/-- What a lost reference does (R452, R489); PCIE's resets the endpoint, with what it had outstanding. -/
def State.coastEffect (s : State) (p : Nat) (outstanding : List FabErr) : State :=
  if p < 4 then
    let s := s.logFault 17 s.selfOutcome 0x105 p
    let s := s.selfFault
    if p = 3 then { s with ddr := { s.ddr with setpoint := true, evt := setBit s.ddr.evt 4 } } else s
  else if p = 4 then if s.imageRuns then s.decideYield 1 else s
  else if p = 5 then (s.setLink 0 false).setLink 1 false
  else if p = 6 then (s.setLink 2 false).setLink 3 false
  else s.perstLow outstanding

/-- PLL_REF_LOSS (R450, R452): the loop opens and coasts. MEDIA has no reference of its own. -/
def execPllRefLoss (t : Nat) (l : RefLoss) (s : State) : Result :=
  let s := s.at t
  let p := l.pll
  .next (if 8 ≤ p || (s.pll p).coast || !s.powered then s
    else ((s.onPll p fun x => { x with coast := true }).clkEvt 0).coastEffect p l.outstanding)

/-- PLL_RELOCK (R450, R452): a SerDes or PCIE PLL locks again; CORE, FAB, CPU and DDR coast until reset. -/
def execPllRelock (t p : Nat) (s : State) : Result :=
  let s := s.at t
  .next (if 5 ≤ p && decide (p ≤ 7) && (s.pll p).coast && s.powered then (s.onPll p fun x => { x with coast := false }).clkEvt 5 else s)

/-- The expected count of clock `p` in kHz (R444, R453). -/
def State.expectKhz (s : State) (p : Nat) : Nat :=
  let coast := (s.pll p).coast
  if p = 5 then (if s.macA.speed || s.macB.speed then 25781250 else 10312500)
  else if coast && decide (p < 4) then getD' [400000, 320000, 480000, 266656] p 0
  else getD' [1000000, 800000, 1200000, 1066625, 1250000, 0, 10312500, 16000000, 24576] p 0

/-- The count of clock `p` lies outside its limit: 0.1%, or 250 ppm for MEDIA (R453). -/
def State.freqBad (s : State) (p khz : Nat) : Bool :=
  let e := s.expectKhz p
  let d := if khz < e then e - khz else khz - e
  if p = 8 then decide (250 * e < 1000000 * d) else decide (e < 1000 * d)

/-- FREQ_MON_WINDOW (R453): counts, lock detectors and errors of a 1 ms window; an error of MEDIA is a self-fault. -/
def execFreqMonWindow (t : Nat) (khz : List Nat) (locked : List Bool) (s : State) : Result :=
  let s := s.at t
  .next (if !s.powered then s
    else
      let s := (List.range 9).foldl (fun s p =>
        let k := getD' khz p 0 % 2 ^ 32
        let bad := s.freqBad p k
        let s := s.onPll p fun x => { x with khz := k, lock := getD' locked p false, freqErr := bad }
        if bad then s.clkEvt 4 else s) s
      if (s.pll 8).freqErr then s.selfFault else s)

/-- XTAL_FAIL (R451, R360): YIELDED with reason XTAL, in every mode with an image and in COLD and AWAIT_IMAGE. -/
def execXtalFail (t : Nat) (s : State) : Result :=
  let s := s.at t
  .next (if !s.clk.xtalOk || !s.powered then s
    else { s with clk := { s.clk with xtalOk := false } }.yieldFault 1 11)

end Sys2Proof.Machine
end

