-- ==== Sys2Proof/Machine/Ports.lean ====
section
/-! DEFINITION. The ports' own traffic (chapter "Media, Management and Hasp Ports", R387 to R397 and R414 to R418): links, address
resolution, IGMP, LLDP, PAUSE, dropped frames, host frames and the transmit queues. -/

namespace Sys2Proof.Machine

/-- The port handles frames of its protocols now (R369, R391): a media port in the rendering modes and in YIELDED, MGMT from
AWAIT_IMAGE on, HASP once an image runs and twinning is enabled. -/
def State.portServes (s : State) (port : Nat) : Bool :=
  s.portOpen port && (if port < 2 then s.mediaTx else port == 2 || (s.imageRuns && s.twn.state != TwnState.off))

/-- The port's IPv4 address (R390). -/
def State.portIp (s : State) (port : Nat) : Nat :=
  if port = 3 then 169 * 2 ^ 24 + 254 * 2 ^ 16 + 77 * 256 + s.twn.id + 1 else (s.mac port).ip

/-- A VID passes ingress (R392): untagged, or some VLAN entry has it. HASP takes no tags (R387). -/
def State.vidKnown (s : State) (vid : Nat) : Bool := vid == 0 || s.net.vlan.any fun e => e.2 % 4096 == vid

/-- A frame with an unknown VID is dropped (R392). -/
def State.vidDrop (s : State) (port : Nat) : State :=
  s.onMac port fun m => { m with rxVlan := m.rxVlan + 1, evt := setBit m.evt 4 }

/-- A frame arrives on a port with the VID of its tag: counted, and handled by `f` when it passes. What MGMT does not claim is a
drop (R393). -/
def State.receive (s : State) (port vid : Nat) (serves : Bool) (f : State → State) : State :=
  if !s.portOpen port then s
  else
    let s := s.rxCount port
    if port = 3 && vid != 0 then s.rxDropped port
    else if !s.vidKnown vid then s.vidDrop port
    else if serves then f s else if port = 2 then s.rxDropped port else s

/-- The longest frame that a port takes, with its tag and FCS (R387). -/
def frameMax (port : Nat) : Nat := if port = 3 then 9018 else 1522

/-- A datagram arrives on a port; one in a frame that is too long for the port is a drop (R387). -/
def State.receiveUdp (s : State) (u : Udp) (serves : Bool) (f : State → State) : State :=
  s.receive u.port u.vid true fun s =>
    if frameMax u.port < udpLen u.body.length (u.vid != 0) then s.rxDropped u.port
    else if serves then f s else if u.port = 2 then s.rxDropped u.port else s

/-- A frame finds no receive buffer (R395). -/
def State.rxNobuf (s : State) (port : Nat) : State :=
  s.onMac port fun m => { m with rxNobuf := m.rxNobuf + 1, evt := setBit m.evt 1 }

/-- LINK_CHANGE (R418, R452): a link comes up only where its MAC works and its SerDes PLL does not coast. -/
def execLinkChange (t port : Nat) (up : Bool) (s : State) : Result :=
  let s := s.at t
  .next (if 4 ≤ port || (up && (!s.portOpen port || (s.pll (if port < 2 then 5 else 6)).coast)) then s else s.setLink port up)

/-- ARP_FRAME (R391): a request for the port's address is answered, and the sender's address is learned. -/
def execArpFrame (t port vid : Nat) (request : Bool) (sip smac tip : Nat) (s : State) : Result :=
  let s := s.at t
  .next (s.receive port vid (s.portServes port) fun s =>
    if s.portIp port = 0 || tip != s.portIp port then s
    else
      let s := s.onMac port fun m =>
        { m with arp := tabSet none m.arp sip (some smac), asked := tabSet none m.asked sip none }
      if request then s.post port (.made 3 0 0 (.arp false sip)) else s)

/-- ARP_RETRY (R391): an address asked for and not yet resolved is asked for again after 1 s. -/
def execArpRetry (t port ip : Nat) (s : State) : Result :=
  let s := s.at t
  .next (if s.portServes port && (tabGet none (s.mac port).asked ip).isSome && (tabGet none (s.mac port).arp ip).isNone then
      s.askArp port ip
    else s)

/-- ICMP_ECHO (R391): answered to its sender. -/
def execIcmpEcho (u : Udp) (s : State) : Result :=
  let s := s.at u.t
  .next (s.receiveUdp u (s.portServes u.port && u.port != 3) fun s =>
    if s.portIp u.port = 0 || u.dst != s.portIp u.port then s
    else s.post u.port (.made 3 u.src 0 (.icmp u.body)))

/-- IGMP_QUERY (R414): a general, group-specific or group-and-source-specific query is answered with the port's memberships. -/
def execIgmpQuery (t port group src : Nat) (s : State) : Result :=
  let s := s.at t
  .next (s.receive port 0 (decide (port < 2) && s.portServes port) fun s =>
    let mine := s.net.members.filter fun g =>
      g.1 == port && (group == 0 || g.2.1 == group) && (src == 0 || g.2.2 == 0 || g.2.2 == src)
    mine.foldl (fun s g => s.sendIgmp port true g.2.1 g.2.2) s)

/-- IGMP_REPEAT (R414): reports and leaves whose second sending is due, while they still hold. -/
def execIgmpRepeat (t : Nat) (s : State) : Result :=
  let s := s.at t
  .next (if !s.mediaTx then s
    else
      let (due, rest) := s.net.repeats.partition fun r => decide (r.2.2.2.2 ≤ s.now)
      let s := { s with net := { s.net with repeats := rest } }
      due.foldl (fun s r =>
        if s.net.members.contains (r.1, r.2.1, r.2.2.1) == r.2.2.2.1 then s.sendIgmp r.1 r.2.2.2.1 r.2.1 r.2.2.1 else s) s)

/-- IGMP_LEAVE (R401): groups abandoned at a boundary B are left once sample B + 64 has passed. -/
def execIgmpLeave (t : Nat) (s : State) : Result :=
  let s := s.at t
  .next (if !s.mediaTx then s
    else
      let (due, rest) := s.net.leaves.partition fun l => decide (l.2.2.2 ≤ s.sampleNow)
      { s with net := { s.net with leaves := rest } }.leaveUnneeded (due.map fun (l : Nat × Nat × Nat × Nat) => (l.1, l.2.1, l.2.2.1)))

/-- LLDP_FRAME (R415): the wake time is negotiated, and the module's own LLDP frame answers. -/
def execLldpFrame (t port tw : Nat) (agreed : Bool) (s : State) : Result :=
  let s := s.at t
  .next (s.receive port 0 (port != 3 && s.imageRuns && s.portServes port) fun s =>
    let s := s.onMac port fun m => { m with eeeAgreed := agreed, twUs := if agreed then tw % 65536 else m.twUs }
    s.post port (.made 0 0 0 .lldp))

/-- The line rate of a port in bit/s (R387). -/
def State.portRate (s : State) (port : Nat) : Nat :=
  if port < 2 then s.lineRate port else if port = 2 then 1000000000 else 10000000000

/-- PAUSE_FRAME (R416): counted; where it is honoured, the transmitter stops for its quanta of 512 bit times. -/
def execPauseFrame (t port quanta : Nat) (s : State) : Result :=
  let s := s.at t
  .next (if !s.portOpen port then s
    else
      let s := s.rxCount port
      if port = 3 then s.rxDropped port
      else
        let stop := s.now + quanta % 65536 * 512 * 1000000000 / s.portRate port
        s.onMac port fun m =>
          { m with rxPause := m.rxPause + 1, evt := setBit m.evt 2,
                   pausedTo := if !m.pauseEn then m.pausedTo else if quanta % 65536 = 0 then none else some stop })

/-- PAUSE_QUANTA_END (R416). -/
def execPauseQuantaEnd (t port : Nat) (s : State) : Result :=
  let s := s.at t
  .next (if decide (port < 4) && (s.mac port).pausedTo.any (· ≤ s.now) then s.onMac port fun m => { m with pausedTo := none } else s)

/-- DROPPED_FRAME (R388, R392, R395): of a VID that no entry has, of a kind the module does not support, or, with `nobuf`, one for
which the firmware's rings have no buffer. -/
def execDroppedFrame (t port : Nat) (d : FrameDrop) (s : State) : Result :=
  let s := s.at t
  .next (s.receive port (d.vid.getD 0 % 4096) true fun s => if d.nobuf then s.rxNobuf port else s.rxDropped port)

/-- RX_FCS_ERROR (R418). -/
def execRxFcsError (t port : Nat) (s : State) : Result :=
  let s := s.at t
  .next (if s.portOpen port then s.onMac port fun m => { m with rxFcs := m.rxFcs + 1, evt := setBit m.evt 5 } else s)

/-- LOW_POWER_IDLE (R415, R418): a transmitter without a frame to send enters low-power idle; or the link partner has
entered or left it. -/
def execLowPowerIdle (t : Nat) (e : LpiEvent) (s : State) : Result :=
  let s := s.at t
  let port := e.port
  let m := s.mac port
  .next (match e.partner with
  | some x => if s.portOpen port && m.link && m.eeeEn then s.onMac port fun m => { m with rxLpi := x } else s
  | none =>
    if s.portOpen port && m.link && !s.inLpi port && s.lpiAllowed port && m.queue.all (fun f => decide (s.media < f.launch)) then
      s.onMac port fun m => { m with txLpi := true, lpi := m.lpi + 1 }
    else s)

/-! Host frames (R393 to R395). -/

/-- The TS field of a host slot whose frame passes now (R394, R433): with SWTS the time at which the slot is written, 0.5 to 20 µs later
(R435). -/
def State.hostStamp (s : State) : Nat × State :=
  if !s.ptm.swts then (s.ts32, s)
  else
    let (d, s) := s.freeRange 500 20000
    (code 32 (s.media + d), s)

/-- Write one receive slot back (R394): LEN, STATUS, TCI and TS. -/
def State.rxDone (s : State) (len : Nat) (sof eof cont tagged : Bool) (tci : Nat) : State :=
  let r := s.net.hrx
  let status := flags [r.phase, sof, eof, cont, tagged]
  let (ts, s) := s.hostStamp
  let s := s.emit (.host (ringAddr r.baseLo r.baseHi r.ci 32 + 10) (leB 2 len ++ leB 2 status ++ leB 2 tci ++ leB 4 ts))
  let ci := (r.ci + 1) % r.size
  { s with net := { s.net with hrx := { r with ci, phase := if ci = 0 then !r.phase else r.phase, slots := r.slots.drop 1 } } }

/-- Fill posted buffers with what is left of a frame (R395): `first` is the frame's first buffer, `total` the bytes that the
posted buffers hold. Where they do not hold the frame, each returns with DISCARD_CONT, the last with EOF. -/
def State.rxFill (fits tagged : Bool) (tci : Nat) : List Bytes → Bool → Bytes → State → State
  | [], _, _, s => s
  | sl :: rest, first, left, s =>
    let len := min (rd16 sl 8) left.length
    let s := s.emit (.host (rd64 sl 0) (left.take len))
    let last := left.length ≤ rd16 sl 8 || rest.isEmpty
    let s := s.rxDone len first last (!fits) tagged tci
    if last then s else State.rxFill fits tagged tci rest false (left.drop len) s

/-- HOST_RX_FRAME (R387, R388, R393, R395): into consecutive buffers, or dropped when they do not hold it. Of the frames that the
module does not claim only IPv4 is supported. -/
def execHostRxFrame (t : Nat) (tci : Option Nat) (frame : Bytes) (s : State) : Result :=
  let s := s.at t
  let tci := tci.getD 0 % 65536
  let vid := tci % 4096
  .next (s.receive 2 vid (s.imageRuns && s.net.hrx.en) fun s =>
    if etherType frame != 0x0800 || decide (frameMax 2 < frame.length + 4 + 4 * b2n (vid != 0)) then s.rxDropped 2 else
    let fits := decide (frame.length ≤ sumN (s.net.hrx.slots.map fun sl => rd16 sl 8))
    let s := if fits then s else s.rxNobuf 2
    State.rxFill fits (vid != 0) (if vid = 0 then 0 else tci) s.net.hrx.slots true frame s)

/-! The transmit queues (R396, R397). -/

/-- The head frame of a queue. -/
def MacSt.head (m : MacSt) (q : Nat) : Option TxFrame := m.queue.find? fun f => f.queue == q

/-- The frame's launch time lies more than 2 s ahead: it is not waited for (R436). -/
def State.tooFar (s : State) (f : TxFrame) : Bool := decide (s.media + 2000000000 < f.launch)

/-- The frame's transmission would end before the launch time of every higher-priority head that waits for one. -/
def State.endsBefore (s : State) (port : Nat) (f : TxFrame) : Bool :=
  let ns := (f.len (s.tagged f) + 8) * 8 * 1000000000 / s.portRate port
  (List.range 8).all fun q => decide (q ≤ f.queue) || ((s.mac port).head q).all fun g => decide (s.media + ns ≤ g.launch) || s.tooFar g

/-- The frame that the port starts next: the head of the highest queue that may start. -/
def State.nextFrame (s : State) (port : Nat) : Option TxFrame :=
  ((List.range 8).reverse.filterMap (s.mac port).head).find? fun f =>
    (decide ((f.launch : Int) ≤ s.media ∨ f.launch = 0) || s.tooFar f) && s.endsBefore port f

/-- The head of a queue leaves it. -/
def MacSt.pop (q : Nat) : List TxFrame → List TxFrame
  | [] => []
  | f :: r => if f.queue = q then r else f :: MacSt.pop q r

/-- MGMT's new address takes effect when no reply waits for the old one any more (R390). -/
def State.takeAddr (s : State) : State :=
  match s.macM.ipNext with
  | some a => if (s.macM.head 3).isNone then s.setAddr 2 a else s
  | none => s

/-- The transmitter may start a frame: the link is up, and no PAUSE holds it (R416). -/
def State.txReady (s : State) (port : Nat) : Bool :=
  s.portOpen port && (s.mac port).link && !(s.mac port).pausedTo.any (s.now < ·)

/-- A packet of an egress entry has left on a port, or has been dropped there (R417). -/
def State.countOut (s : State) (port entry : Nat) (pass : Bool) : State :=
  s.onStatOut entry fun x =>
    if !pass then { x with drop := x.drop + 1 }
    else if port = 0 then { x with pktA := x.pktA + 1 } else { x with pktB := x.pktB + 1 }

/-- The frame `f` at the head of its queue starts; late where its launch time has passed (R397). -/
def State.launch (s : State) (port : Nat) (f : TxFrame) : State :=
  let late := f.launch != 0 && (decide ((f.launch : Int) < s.media) || s.tooFar f)
  let s := s.onMac port fun m =>
    { m with queue := MacSt.pop f.queue m.queue, txLate := if late then m.txLate + 1 else m.txLate, evt := setBitIf late m.evt 3 }
  let (pass, s) := s.startFrame port f
  let s := match f.flow with | some e => s.countOut port e pass | none => s
  let (ts, s) := if f.slot.isSome then s.hostStamp else (0, s)
  let s := match f.slot with | some k => s.txDone k ts late false | none => s
  s.takeAddr

/-- FRAME_LAUNCH (R396, R397): one frame starts. -/
def execFrameLaunch (t port : Nat) (s : State) : Result :=
  let s := s.at t
  .next (if !s.txReady port then s
    else match s.nextFrame port with
      | none => s
      | some f => s.launch port f)

end Sys2Proof.Machine
end

