-- ==== Sys2Proof/Machine/Ptp.lean ====
section
/-! DEFINITION. PTP (chapter "Media Time, Scene Time and Timestamps", R423 to R431): the best-master choice, the servo, and the
loss and regain of the time reference. Times of messages are in 2^-16 ns. -/

namespace Sys2Proof.Machine

/-- PTP messages are processed (R369, R427, R286): LOCKING, the rendering modes and YIELDED. -/
def State.ptpOn (s : State) : Bool := s.sys.mode == .locking || s.mediaTx

/-- A PTP port. -/
def State.ptpPort (s : State) (port : Nat) : PtpPort := if port = 0 then s.ptm.a else s.ptm.b

/-- Change a PTP port. -/
def State.onPtp (s : State) (port : Nat) (f : PtpPort → PtpPort) : State :=
  { s with ptm := if port = 0 then { s.ptm with a := f s.ptm.a } else { s.ptm with b := f s.ptm.b } }

/-- Set a bit of PTM_EVT. -/
def State.ptmEvt (s : State) (i : Nat) : State := { s with ptm := { s.ptm with evt := setBit s.ptm.evt i } }

/-- The VLAN entry of PTP on a port (R442). -/
def State.ptpVlan (s : State) (port : Nat) : Nat := if port = 0 then s.ptm.cfg.vlanA else s.ptm.cfg.vlanB

/-- A PTP message is one that the module takes: of the configured domain, on a configured port, through the port's VLAN entry. -/
def State.ptpTakes (s : State) (m : PtpMsg) : Bool :=
  m.domain == s.ptm.cfg.domain && bit s.ptm.cfg.ports m.port && tabGet 0 s.net.vlan (s.ptpVlan m.port) % 4096 == m.vid

/-- A PTP message arrives on a media port: counted, and seen only in the modes that process it and where the module takes it. -/
def State.ptpReceive (s : State) (m : PtpMsg) (f : State → State) : State :=
  if 2 ≤ m.port then s else s.receive m.port m.vid s.ptpOn fun s => if s.ptpTakes m then f s else s

/-! Loss and regain (R318, R429 to R431). -/

/-- The time reference counts as lost: with a twin, while either twin has lost it (R318). -/
def State.pairLost (s : State) : Bool :=
  s.ptm.lost || (s.twn.state == .lockstep && s.peerNow.any fun m => !m.timeLocked)

/-- A change of the reference is declared (R430): the mode change takes the next boundary; with a twin, the decider mirrors it. -/
def State.refChange (s : State) : State :=
  let x := s.pairLost
  if !s.rendering || s.follows || x == s.twn.refLost then s
  else
    let n := if s.mirrors then s.firstAhead 20 else s.tick + 1
    let s := { s with twn := { s.twn with refLost := x }, ptm := { s.ptm with declared := s.ptm.declared ++ [(n, x)] } }
    if s.mirrors then s.mirrorOut n (.timeRef x) 1 else s

/-- The frequency the servo chooses within its bounds (R428, R431): the estimate within 100 ppm, and the correction. -/
def State.steer (s : State) (ppm : Nat) : State :=
  let s := s.rebase
  let lim : Int := ((100 + ppm) * 1000 : Nat)
  let (f, s) := s.freeRange (-lim) lim
  { s with ptm := { s.ptm with freq := f } }

/-- The reference is lost (R429, R431): holdover. -/
def State.loseRef (s : State) : State :=
  if !s.rendering || s.ptm.lost then s
  else
    let p := s.ptm
    (({ s with ptm := { p with lost := true, lock := 3, lossCnt := p.lossCnt + 1, within := 0, slewing := false } }.ptmEvt 1).steer 0).refChange

/-- The reference is regained (R429). -/
def State.regainRef (s : State) (far : Bool) : State :=
  ({ s with ptm := { s.ptm with lost := false, lock := 2, slewing := far } }.ptmEvt 2).refChange

/-! The best master (R424). -/

/-- Lists compared number by number. -/
def listLe : List Nat → List Nat → Bool
  | x :: r, y :: q => decide (x < y) || (x == y && listLe r q)
  | _, _ => true

/-- What IEEE 1588 compares of two grandmasters, in its order. -/
def Announce.rank (x : Announce) : List Nat := [x.prio1, x.cls, x.accuracy, x.variance, x.prio2, x.gm]

/-- An Announce describes a better grandmaster, or the same one. -/
def Announce.le (a b : Announce) : Bool := listLe a.rank b.rank

/-- The selected grandmaster, and the port that R424 makes active. -/
def bestMaster (a b : Option Announce) : Option (Nat × Bool) :=
  match a, b with
  | none, none => none
  | some x, none => some (x.gm, false)
  | none, some y => some (y.gm, true)
  | some x, some y =>
    if x.gm = y.gm then some (x.gm, decide (y.steps < x.steps)) else if x.le y then some (x.gm, false) else some (y.gm, true)

/-- Another port becomes active for the same grandmaster (R424). -/
def State.switchPort (s : State) (b : Bool) : State :=
  if s.ptm.activeB == b then s else { s with ptm := { s.ptm with activeB := b } }.ptmEvt 6

/-- A new grandmaster is selected: its first 16 usable Syncs are judged (R429). -/
def State.newGm (s : State) (gm : Nat) (b : Bool) : State :=
  let p := s.ptm
  let lock := if s.sys.mode = .locking then 1 else p.lock
  { s with ptm := { p with gm := some gm, activeB := b, inWin := 0, beyond := 0, within := 0, lock,
                           newGm := if p.gm.isSome then some (0, 0) else none } }

/-- What tells the masters of one port apart: the grandmaster, then stepsRemoved, then the sender. -/
def Foreign.rank (x : Foreign) : List Nat := x.ann.rank ++ [x.ann.steps, x.source]

/-- The best of the qualified masters of a port. -/
def bestForeign (l : List Foreign) : Option Foreign :=
  l.foldl (fun b x => if !x.known then b else match b with
    | none => some x
    | some y => if listLe y.rank x.rank then b else some x) none

/-- The masters heard once `x` has sent an Announce: it is qualified by a second one within four announce intervals. -/
def hearMaster (l : List Foreign) (x : Foreign) : List Foreign :=
  let old := l.find? fun y => y.source == x.source
  let known := old.any fun y => y.known || decide (x.heardAt ≤ y.heardAt + 4 * logNs y.ann.log)
  { x with known } :: l.filter fun y => y.source != x.source

/-- A port hears the masters `l`: the best of them is the port's. -/
def PtpPort.hear (p : PtpPort) (l : List Foreign) : PtpPort :=
  match bestForeign l with
  | none => { p with foreign := l, ann := none }
  | some x => { p with foreign := l, ann := some x.ann, parent := x.source, masterIp := x.ip }

/-- The best-master choice after the masters that a port hears have become `l`. -/
def State.setMasters (s : State) (port : Nat) (l : List Foreign) : State :=
  let old := bestMaster s.ptm.a.ann s.ptm.b.ann
  let s := s.onPtp port fun p => p.hear l
  match bestMaster s.ptm.a.ann s.ptm.b.ann with
  | none =>
    let s := { s with ptm := { s.ptm with gm := none, inWin := 0, lock := if s.sys.mode = Mode.locking then 0 else s.ptm.lock } }
    s.loseRef
  | some (gm, b) => if s.ptm.gm = some gm then (if old = some (gm, b) then s else s.switchPort b) else s.newGm gm b

/-- The Announce intervals and receipt timeouts that the module supports (R423). -/
def Announce.ok (x : Announce) : Bool := decide (-3 ≤ x.log ∧ x.log ≤ 2 ∧ 2 ≤ x.receipt ∧ x.receipt ≤ 10)

/-- PTP_ANNOUNCE (R423, R424): `source` is the master that sends it. -/
def execPtpAnnounce (m : PtpMsg) (s : State) : Result :=
  let s := s.at m.t
  .next (s.ptpReceive m fun s =>
    if !m.ann.ok then s
    else
      let x : Foreign := { source := m.source, ip := m.ip, ann := m.ann, heardAt := s.now, known := false }
      let s := s.setMasters m.port (hearMaster (s.ptpPort m.port).foreign x)
      { s with ptm := { s.ptm with utc := m.ann.utc } })

/-- ANNOUNCE_TIMEOUT (R429): the masters of the port whose receipt timeout has expired are no longer qualified. -/
def execAnnounceTimeout (t port : Nat) (s : State) : Result :=
  let s := s.at t
  let old := (s.ptpPort port).foreign
  let l := old.filter fun x => decide (s.now < x.heardAt + x.ann.timeout)
  .next (if decide (port < 2) && s.ptpOn && l != old then s.setMasters port l else s)

/-! Delay measurement (R423). -/

/-- Where the port's Delay_Req goes (R423): multicast, or unicast to the grandmaster, as DELAY_MODE selects. -/
def State.delayDst (s : State) (port : Nat) : Nat :=
  if s.ptm.cfg.delayMode = 1 then (s.ptpPort port).masterIp else 224 * 2 ^ 24 + 256 + 129

/-- A Delay_Req may be sent on the port: a master is seen there, and the request interval has passed (R423). -/
def State.mayAsk (s : State) (port : Nat) : Bool :=
  let p := s.ptpPort port
  decide (port < 2) && s.ptpOn && s.txReady port && bit s.ptm.cfg.ports port && p.ann.isSome
    && p.reqAt.all fun t0 => decide (t0 + logNs p.reqInt ≤ s.now)

/-- PTP_DELAY_REQ_SEND (R423, R425): sent to a master that is seen, from the highest queue, so that nothing but a PAUSE or a link that
is down holds it; the egress capture is referred to the connector. -/
def execPtpDelayReqSend (t port : Nat) (tx : Int) (s : State) : Result :=
  let s := s.at t
  .next (if !s.mayAsk port then s
    else
      let seq := (s.ptpPort port).nextReq
      let lat := (Config.ptmLat (port == 1) (s.mac port).speed).toNat / 65536 * 4096
      let f : TxFrame := { TxFrame.made 7 (s.delayDst port) 319 (.delayReq seq) with vlan := s.ptpVlan port }
      let (pass, s) := s.startFrame port f
      if pass then
        s.onPtp port fun p => { p with reqs := ((seq, tx + lat) :: p.reqs).take 16, nextReq := (seq + 1) % 65536, reqAt := some s.now }
      else s)

/-- PTP_DELAY_RESP (R423): pairs with the request it answers, and sets the request rate. -/
def execPtpDelayResp (m : PtpMsg) (s : State) : Result :=
  let s := s.at m.t
  .next (s.ptpReceive m fun s =>
    match (s.ptpPort m.port).reqs.find? fun r => r.1 == m.seq && m.source == (s.ptpPort m.port).parent with
    | none => s
    | some (_, t3) =>
      s.onPtp m.port fun p =>
        { p with resp := some (t3, m.stamp - m.corr, s.now), reqInt := max (-7) m.logInterval, reqs := p.reqs.filter fun r => r.1 != m.seq })

/-! The servo (R425 to R429). -/

/-- The two ports' mean offsets over 16 usable Syncs (R426), signed Q24.8 ns. -/
def State.portDiff (s : State) : State :=
  let p := s.ptm
  if !(s.seesGm p.a && s.seesGm p.b) then { s with ptm := { p with portDiff := 0 } }
  else if p.a.offs.length < 16 || p.b.offs.length < 16 then s
  else
    let d := sar (sumI p.b.offs - sumI p.a.offs) 12
    let s := { s with ptm := { p with portDiff := sat32 d } }
    if (p.cfg.lockWin * 256 : Nat) < d.natAbs then s.ptmEvt 5 else s

/-- A usable Sync on the active port while the module acquires (R427). -/
def State.acquireSync (s : State) (off : Int) : State :=
  let win := s.ptm.cfg.lockWin * 65536
  if 10 * win < off.natAbs then
    let s := s.rebase
    let p := s.ptm
    let s := { s with ptm := { p with baseMedia := p.baseMedia - sar off 16, stepCnt := p.stepCnt + 1, inWin := 0, lock := 1 }
                      rnd := { s.rnd with startAt := none }, twn := { s.twn with ready := false } }
    s.ptmEvt 9
  else
    let s := s.steer s.ptm.cfg.slew
    let n := if off.natAbs ≤ win then s.ptm.inWin + 1 else 0
    let s := { s with ptm := { s.ptm with inWin := min 16 n } }
    if n < 16 || s.ptm.lock == 2 then s
    else ({ s with ptm := { s.ptm with lock := 2, everLocked := true, lockedAt := some s.now } }.ptmEvt 0).planStart

/-- The first 16 usable Syncs of a new grandmaster are judged (R429). -/
def State.judgeGm (s : State) (far : Bool) : State :=
  match s.ptm.newGm with
  | none => s
  | some (n, k) =>
    let k := k + b2n far
    if n < 15 then { s with ptm := { s.ptm with newGm := some (n + 1, k) } }
    else
      let s := { s with ptm := { s.ptm with newGm := none } }
      if k = 0 then s.ptmEvt 3 else if k = 16 then s.loseRef else s

/-- A usable Sync on the active port while the tick runs (R428, R429). -/
def State.trackSync (s : State) (off : Int) : State :=
  let far := decide (s.ptm.cfg.offsetLim * 65536 < off.natAbs)
  let wide := decide (s.ptm.cfg.lockWin * 65536 < off.natAbs)
  let p := s.ptm
  let s := { s with ptm := { p with beyond := if far then min 16 (p.beyond + 1) else 0, within := if far then 0 else min 16 (p.within + 1),
                                    slewing := p.slewing && wide } }
  let s := if s.ptm.lost then s else s.steer s.ptm.cfg.slew
  let s := s.judgeGm far
  let s := if p.beyond < 16 && s.ptm.beyond == 16 && !s.ptm.lost then (s.ptmEvt 4).loseRef else s
  if s.ptm.lost && s.ptm.within == 16 then s.regainRef wide else s

/-- The offset of a Sync from the selected grandmaster, where it is usable (R424): `t1` is its origin with its correction, `t2`
its ingress capture at the connector. -/
def State.usable (s : State) (port source : Nat) (t1 t2 : Int) : Option Int :=
  let p := s.ptpPort port
  if !s.seesGm p || source != p.parent then none
  else match p.resp with
    | none => none
    | some (t3, t4, at0) =>
      if s.now ≤ at0 + 8 * logNs p.reqInt then
        some (((t2 - t1) - (t4 - t3)) / 2 - (if port = 0 then s.ptm.cfg.asymA else s.ptm.cfg.asymB) * 256)
      else none

/-- A complete Sync (R426, R427, R443). -/
def State.sync (s : State) (port source : Nat) (t1 t2 : Int) : State :=
  match s.usable port source t1 t2 with
  | none => s
  | some off =>
    let s := { s with ptm := { s.ptm with syncCnt := s.ptm.syncCnt + 1 } }
    let s := (s.onPtp port fun p => { p with usableAt := some s.now, offs := (off :: p.offs).take 16 }).portDiff
    if (port == 1) != s.ptm.activeB then s
    else
      let s := { s with ptm := { s.ptm with offset := sat32 (sar off 8) } }
      if s.sys.mode = .locking then s.acquireSync off else if s.rendering then s.trackSync off else s

/-- PTP_SYNC (R423 to R427): one-step, or kept for its Follow_Up. -/
def execPtpSync (m : PtpMsg) (s : State) : Result :=
  let s := s.at m.t
  .next (s.ptpReceive m fun s =>
    if m.logInterval < -7 || 1 < m.logInterval then s else
    let rx := m.rx - ((Config.ptmLat (m.port == 1) (s.mac m.port).speed).toNat % 65536 * 4096 : Nat)
    let s := s.onPtp m.port fun p => { p with syncInt := m.logInterval }
    if m.twoStep then s.onPtp m.port fun p => { p with wait := some (m.seq, rx, m.corr) }
    else s.sync m.port m.source (m.stamp + m.corr) rx)

/-- PTP_FOLLOW_UP (R424). -/
def execPtpFollowUp (m : PtpMsg) (s : State) : Result :=
  let s := s.at m.t
  .next (s.ptpReceive m fun s =>
    match (s.ptpPort m.port).wait with
    | none => s
    | some (seq, rx, corr) =>
      if seq != m.seq then s
      else (s.onPtp m.port fun p => { p with wait := none }).sync m.port m.source (m.stamp + corr + m.corr) rx)

/-- A port has had no usable Sync since `d` ns before now. -/
def PtpPort.silent (p : PtpPort) (now d : Nat) : Bool := p.usableAt.all fun u => decide (u + d ≤ now)

/-- SYNC_TIMEOUT (R429): no usable Sync on either port for 1 s. -/
def execSyncTimeout (t : Nat) (s : State) : Result :=
  let s := s.at t
  .next (if s.ptm.a.silent s.now 1000000000 && s.ptm.b.silent s.now 1000000000 then s.loseRef else s)

/-- PTP_PORT_SWITCH (R424): no usable Sync for 4 sync intervals on the active port, and the other sees the grandmaster. -/
def execPtpPortSwitch (t : Nat) (s : State) : Result :=
  let s := s.at t
  let cur := if s.ptm.activeB then s.ptm.b else s.ptm.a
  let other := if s.ptm.activeB then s.ptm.a else s.ptm.b
  .next (if s.ptpOn && s.seesGm other && cur.silent s.now (4 * logNs cur.syncInt) then s.switchPort (!s.ptm.activeB) else s)

end Sys2Proof.Machine
end

