-- ==== Sys2Proof/Machine/Strobe.lean ====
section
/-! DEFINITION. The frame strobe (chapter "Media Time, Scene Time and Timestamps", R438; R533). -/

namespace Sys2Proof.Machine

/-- The numerator of an edge's lead δ in samples (R438), over `strobeDen`: `e` is the edge's media time in ns. -/
def Scene.lead (sc : Scene) (fs e : Nat) : Nat :=
  let frame := e * sc.num / (sc.den * 1000000000)
  e * fs * sc.num - frame * sc.den * fs * 1000000000

/-- The denominator of δ. -/
def Scene.leadDen (sc : Scene) : Nat := 1000000000 * sc.num

/-- δ rounded to the nearest sample, halves upward; 0 where it reaches the frame length (R438). -/
def Scene.phase (sc : Scene) (fs e : Nat) : Nat :=
  let r := (2 * sc.lead fs e + sc.leadDen) / (2 * sc.leadDen)
  if sc.den * fs ≤ r * sc.num then 0 else r

/-- Two frame periods in ns, rounded up. -/
def Scene.twoFrames (sc : Scene) : Nat := ceilDiv (2 * sc.den * 1000000000) sc.num

/-- An edge is compared with φ while the tick runs (R438). -/
def State.judgeEdge (s : State) (sc : Scene) (e : Nat) : State :=
  let diff : Int := (sc.lead s.fs e : Int) - s.ptm.phi * sc.leadDen
  let dev := (2 * diff + sc.leadDen) / (2 * sc.leadDen : Nat)
  let s := { s with ptm := { s.ptm with dev } }
  if (sc.leadDen : Nat) < diff.natAbs then { s with ptm := { s.ptm with driftCnt := s.ptm.driftCnt + 1 } }.ptmEvt 8 else s

/-- FRAME_STB_EDGE (R438, R533): timestamped from STAGED on; an edge within 1 µs of one of its polarity is ignored. -/
def execFrameStbEdge (t : Nat) (falling : Bool) (s : State) : Result :=
  let s := s.at t
  let last := if falling then s.ptm.edgeFall else s.ptm.edgeRise
  .next (if !s.imageRuns || !s.powered || (s.gate 10).st != .opened || last.any (fun l => decide (s.now ≤ l + 1000)) then s
    else
      let e := s.media.toNat
      let s := { s with ptm := if falling then { s.ptm with edgeFall := some s.now, fallAt := some e }
                               else { s.ptm with edgeRise := some s.now, riseAt := some e } }
      match s.ptm.scene with
      | none => s
      | some sc =>
        if sc.falling != falling then s
        else
          let s := { s with ptm := { s.ptm with strobeLive := true } }
          if sc.strobe && s.ticking then s.judgeEdge sc e else s)

/-- The media time of the last strobe edge of the polarity EDGE (R438). -/
def State.lastEdge (s : State) (sc : Scene) : Option Nat := if sc.falling then s.ptm.fallAt else s.ptm.riseAt

/-- STROBE_SILENT (R438): no edge for 2 frame periods; STROBE_LOSS only where the strobe is the frame source. -/
def execStrobeSilent (t : Nat) (s : State) : Result :=
  let s := s.at t
  .next (match s.ptm.scene with
    | none => s
    | some sc =>
      if s.ptm.strobeLive && (s.lastEdge sc).all (fun e => decide ((e + sc.twoFrames : Int) ≤ s.media)) then
        let s := { s with ptm := { s.ptm with strobeLive := false } }
        if sc.strobe then s.ptmEvt 7 else s
      else s)

/-- The last strobe edge within the 2 frame periods before the start boundary at sample index `m` (R438, R511). -/
def State.edgeBefore (s : State) (sc : Scene) (m : Nat) : Option Nat :=
  (s.lastEdge sc).filter fun e => decide (s.sampleTime m ≤ e + sc.twoFrames)

/-- φ as the start boundary at sample index `m` fixes it (R438). -/
def State.fixPhase (s : State) (m : Nat) : State :=
  match s.ptm.scene with
  | none => s
  | some sc =>
    if !sc.strobe then { s with ptm := { s.ptm with phi := 0 } }
    else
      match s.edgeBefore sc m with
      | some e => { s with ptm := { s.ptm with phi := sc.phase s.fs e } }
      | none => { s with ptm := { s.ptm with phi := 0 } }.ptmEvt 7

/-- ε of a group on FRAME (R511): what δ of the edge at media time `e` exceeds its nearest whole sample by, in MEDIA cycles, of which a
sample has `k`; halves go upward, and ε stays below half a sample. -/
def Scene.eps (sc : Scene) (fs k e : Nat) : Int :=
  let den := sc.leadDen
  let whole := (2 * sc.lead fs e + den) / (2 * den)
  let frac : Int := (sc.lead fs e : Int) - (whole * den : Nat)
  clampI (-(k / 2 : Nat)) ((k / 2 : Nat) - 1) ((2 * k * frac + den) / (2 * den : Nat))

/-- ε of both groups as the start boundary at sample index `m` takes it (R511): 0 for MEDIA, and for FRAME without an edge. -/
def State.fixEps (s : State) (m : Nat) : State :=
  let edge := s.ptm.scene.bind fun sc => (s.edgeBefore sc m).map fun e => sc.eps s.fs s.mediaCycles e
  let eps (frame : Bool) : Int := if frame then edge.getD 0 else 0
  let s := { s with dac := { s.dac with eps0 := eps s.dac.frame0, eps1 := eps s.dac.frame1 } }
  if (s.dac.frame0 || s.dac.frame1) && edge.isNone then s.ptmEvt 7 else s

end Sys2Proof.Machine
end

