-- ==== Sys2Proof/Machine/CorCmds.lean ====
section
/-! DEFINITION. The feed-correction commands (chapter "Feed Correction and Hinges", R165 to R185). -/

namespace Sys2Proof.Machine

/-- A feed that a correction command may name: it exists and is not absorbed (R170). -/
def State.corFeedOk (s : State) (f : Nat) : Bool := decide (f < feedCount s.rnd.rate96) && !isAbsorbed s.cor.longMask f

/-- COR_WRITE: bytes into the incoming bank's record; from 0x4100 on, a long feed's bytes lie in its partner's record. -/
def corWriteRun (i : CmdIn) (s : State) : Verdict :=
  let p := i.body
  let f := rd16 p 0
  let off := rd32 p 4
  let n := rd16 p 8
  let top := if isLong s.cor.longMask f then 0x8100 else 0x4100
  if !s.corFeedOk f || !zeroAt p 2 2 || n = 0 || 1024 < n || top < off + n || !zeroAt p 10 2 then .no .badParam
  else if s.corFrozen f then .no .busy
  else
    let b := (s.feedCor f).incoming
    let k := if off < 0x4100 then min n (0x4100 - off) else 0
    let s := if k = 0 then s else s.corStore (corAddr b f off) f (slice p 12 k)
    .ok (if n ≤ k then s else s.corStore (corAddr b (f + 1) (off + k - 0x4000)) f (slice p (12 + k) (n - k)))

/-- COR_WRITE. -/
def corWriteCmd : Cmd :=
  { op := 0x501, boot := false, len := fun n p => decide (12 ≤ n) && n == 12 + rd16 p 8, uses := false, quiet := false,
    asleep := false, mirrored := true, run := corWriteRun }

/-- COR_WRITE (R178, R185). -/
def execCorWrite (h : Hdr) (p : Bytes) (s : State) : Result := keyway corWriteCmd h p s

/-- The feeds of a mask, in ascending order. -/
def maskFeeds (m n : Nat) : List Nat := (List.range n).filter fun f => bit m f

/-- The first failing field of a request's banks: the lowest-numbered feed first (R169). -/
def State.hingeFail (s : State) (feeds : List Nat) : Option (Nat × Nat) :=
  firstSome (feeds.map fun f => corBankFail s.rnd.rate96 s.cor.longMask s.cor.records (s.feedCor f).incoming f)

/-- The first boundary that COR_HINGE admits (R66, R179). -/
def State.firstHinge (s : State) : Nat := max s.firstCut (s.tick + 32)

/-- The new request contains every feed of a pending one. -/
def CorReq.inside (r : CorReq) (feeds : List Nat) : Bool := r.feeds.all feeds.contains

/-- The new request shares a feed with a pending one. -/
def CorReq.meets (r : CorReq) (feeds : List Nat) : Bool := r.feeds.any feeds.contains

/-- COR_HINGE: a request for a set of feeds. -/
def corHingeRun (i : CmdIn) (s : State) : Verdict :=
  let p := i.body
  let mask := rdLE p 8 96
  let feeds := maskFeeds mask 768
  let st := s.sys.mode == .staged
  if !st && !s.rendering then .no .badMode
  else if (!st && !fadeOk (rd32 p 0)) || !zeroAt p 4 4 || feeds.isEmpty || !feeds.all s.corFeedOk then .no .badParam
  else match if i.mirror.isSome then none else s.hingeFail feeds with
    | some (f, off) => .refuse .badParam (leB 2 f ++ leB 2 off)
    | none =>
      if st then .done (s.corSwap feeds) (leB 8 (2 ^ 64 - 1) ++ leB 4 0) (s.tick + 1)
      else match s.boundary i s.firstHinge with
        | .bad => .no .badParam
        | .late => .no .late
        | .ok n =>
          if i.mirror.isNone && s.cor.pend.any fun r => r.meets feeds && !r.inside feeds then .no .busy
          else
            let old := s.cor.pend.filter fun r => r.inside feeds
            if i.mirror.isNone && 64 ≤ s.cor.pend.length - old.length then .no .refusedFull
            else .defer ((old.foldl State.corSupersede s).corRequest feeds n (rd32 p 0) none i.ref) n

/-- COR_HINGE. -/
def corHingeCmd : Cmd :=
  { op := 0x502, boot := false, len := lenIs 104, uses := true, quiet := false, asleep := false, mirrored := true, run := corHingeRun }

/-- COR_HINGE (R169, R179 to R182). -/
def execCorHinge (h : Hdr) (p : Bytes) (s : State) : Result := keyway corHingeCmd h p s

/-- The feeds and gains of COR_GAIN. -/
def corGains (p : Bytes) : List (Nat × Int) :=
  (List.range (rd8 p 0)).map fun k => (rd16 p (4 + 8 * k), rdS32 p (8 + 8 * k))

/-- Every feed gain of a list ramps over 64 samples from boundary `n` (R165). -/
def State.feedGainsAt (s : State) (n : Nat) (l : List (Nat × Int)) : State :=
  l.foldl (fun s (f, g) => s.onFeedCor f fun c => { c with gain := c.gain.to (16 * n) g 64 }) s

/-- COR_GAIN: up to 64 feeds. -/
def corGainRun (i : CmdIn) (s : State) : Verdict :=
  let p := i.body
  let n := rd8 p 0
  let ok := decide (1 ≤ n ∧ n ≤ 64) && zeroAt p 1 3
    && (List.range n).all fun k => s.corFeedOk (rd16 p (4 + 8 * k)) && zeroAt p (6 + 8 * k) 2
  if !ok then .no .badParam
  else
    let l := corGains p
    scheduled i s (l.foldl (fun s (f, g) => s.onFeedCor f fun c => { c with gain := Ramp.at g, gainSeen := g }) s) fun n =>
      { s with cor := { s.cor with gainPend := s.cor.gainPend ++ [(n, s.ord, l)] }, ord := s.ord + 1 }

/-- COR_GAIN. -/
def corGainCmd : Cmd :=
  { op := 0x503, boot := false, len := fun n p => decide (4 ≤ n) && n == 4 + 8 * rd8 p 0, uses := true, quiet := false,
    asleep := false, mirrored := true, run := corGainRun }

/-- COR_GAIN (R165). -/
def execCorGain (h : Hdr) (p : Bytes) (s : State) : Result := keyway corGainCmd h p s

/-- The records of feed `f` return to the identity in both banks (R167). -/
def corForget (m : Memory) (f : Nat) : Memory :=
  tabDrop (tabDrop m (corAddr 0 f 0) (corAddr 0 (f + 1) 0)) (corAddr 1 f 0) (corAddr 1 (f + 1) 0)

/-- COR_LONG: the mask of long feeds; a pair that changes returns to the identity. -/
def corLongRun (i : CmdIn) (s : State) : Verdict :=
  let mask := rdLE i.body 0 48
  let changed := (List.range 384).filter fun m => bit mask m != bit s.cor.longMask m
  let grouped (f : Nat) : Bool := (foldOf s.cor.folds f).isSome
  if s.sys.mode != .staged then .no .badMode
  else if feedCount s.rnd.rate96 / 2 < 384 && 2 ^ 192 ≤ mask then .no .badParam
  else if changed.any fun m => grouped (2 * m) || grouped (2 * m + 1) then .no .badParam
  else
    let s := changed.foldl (fun s m =>
      let s := { s with cor := { s.cor with records := corForget (corForget s.cor.records (2 * m)) (2 * m + 1) } }
      let clear (c : FeedCor) : FeedCor := (c.clearBiq 0).clearBiq 1
      (s.onFeedCor (2 * m) clear).onFeedCor (2 * m + 1) clear) s
    .ok { s with cor := { s.cor with longMask := mask } }

/-- COR_LONG. -/
def corLongCmd : Cmd :=
  { op := 0x504, boot := false, len := lenIs 48, uses := false, quiet := false, asleep := false, mirrored := false, run := corLongRun }

/-- COR_LONG (R167, R170). -/
def execCorLong (h : Hdr) (p : Bytes) (s : State) : Result := keyway corLongCmd h p s

/-- COR_FOLD: a fold group defined or deleted. -/
def corFoldRun (i : CmdIn) (s : State) : Verdict :=
  let p := i.body
  let g := rd8 p 0
  let n := rd8 p 1
  let t := rd16 p 2
  let ms := (List.range n).map fun k => rd16 p (4 + 2 * k)
  let r96 := s.rnd.rate96
  let other (f : Nat) : Bool := match foldOf s.cor.folds f with
    | some (g', _) => g' != g
    | none => false
  let ok := (t :: ms).all (fun f => s.corFeedOk f && shardOfFeed r96 f == shardOfFeed r96 t && !other f) && distinct (t :: ms)
  if s.sys.mode != .staged then .no .badMode
  else if 64 ≤ g || (if r96 then 11 else 23) < n || (n != 0 && !ok) then .no .badParam
  else .ok { s with cor := { s.cor with folds := tabSet none s.cor.folds g (if n = 0 then none else some { target := t, members := ms }) } }

/-- COR_FOLD. -/
def corFoldCmd : Cmd :=
  { op := 0x505, boot := false, len := fun n p => decide (4 ≤ n) && n == 4 + 2 * rd8 p 1, uses := false, quiet := false,
    asleep := false, mirrored := false, run := corFoldRun }

/-- COR_FOLD (R171). -/
def execCorFold (h : Hdr) (p : Bytes) (s : State) : Result := keyway corFoldCmd h p s

/-- COR_QUERY: COR_FSTAT, the gain and the pending start tick. -/
def corQueryRun (i : CmdIn) (s : State) : Verdict :=
  let f := rd16 i.body 0
  if feedCount s.rnd.rate96 ≤ f || !zeroAt i.body 2 2 then .no .badParam
  else
    let st := match s.cor.pend.find? fun r => r.feeds.contains f with
      | some r => r.start
      | none => 2 ^ 64 - 1
    .done s (leB 4 (s.corStat f) ++ leI 4 (s.feedCor f).gainSeen ++ leB 8 st) (s.tick + 1)

/-- COR_QUERY. -/
def corQueryCmd : Cmd :=
  { op := 0x506, boot := false, len := lenIs 4, uses := false, quiet := true, asleep := true, mirrored := false, run := corQueryRun }

/-- COR_QUERY (R185). -/
def execCorQuery (h : Hdr) (p : Bytes) (s : State) : Result := keyway corQueryCmd h p s

end Sys2Proof.Machine
end

