-- ==== Sys2Proof/Machine/CalCmds.lean ====
section
/-! DEFINITION. The calibration commands (chapter "In-Service Calibration", R191 to R219): enrolment, policy, baselines, the modes
LIVE_PROBE and SWEEP, vetoes and reports; and the logarithms of the chapter. -/

namespace Sys2Proof.Machine

/-! Logarithms. -/

/-- The integer part of log10 of a positive number below 10^32,768. -/
def ilog10 (n : Nat) : Nat :=
  (List.range 15).reverse.foldl (fun k i => if 10 ^ (k + 2 ^ i) ≤ n then k + 2 ^ i else k) 0

/-- floor(1000 · log10(a / b)) of positive numbers. -/
def milliLog (a b : Nat) : Int :=
  let n := a ^ 1000
  let d := b ^ 1000
  if d ≤ n then ((ilog10 (n / d) : Nat) : Int)
  else
    let k := ilog10 (d / n)
    if d = 10 ^ k * n then -((k : Nat) : Int) else -((k + 1 : Nat) : Int)

/-- floor(2^31 · 10^(x / 2000)), limited to 0x7FFF_FFFF (R197). -/
def probeGain (x : Int) : Int :=
  if 0 ≤ x then 0x7FFFFFFF
  else
    let d := 10 ^ x.natAbs
    (((List.range 31).reverse.foldl (fun p i =>
      if (p + 2 ^ i) ^ 2000 * d ≤ 2 ^ 62000 then p + 2 ^ i else p) 0 : Nat) : Int)

/-- Ticks in a number of seconds. -/
def State.secTicks (s : State) (n : Nat) : Nat := n * s.fs / 16

/-- Probe samples in a block (R195). -/
def blockLen (r96 : Bool) : Nat := if r96 then 131072 else 65536

/-! Windows (R206). -/

/-- The window of band `b` at boundary `n`: the newest NAVG estimates whose last probe sample lies at least 8 s and at most
MAXAGE before it. -/
def State.calWindow (s : State) (c : CalFeed) (b n : Nat) : List CalEst :=
  let pol := s.cal.policy
  let last (e : CalEst) : Nat := (e.block + 1) * blockLen s.rnd.rate96 - 1
  ((getD' c.est b []).filter fun e =>
    decide (last e + 8 * s.fs ≤ 16 * n ∧ 16 * n ≤ last e + pol.maxage * s.fs)).take pol.navg

/-- The floor of the mean of a list; 0 of the empty one. -/
def meanI (l : List Int) : Int := if l.isEmpty then 0 else sumI l / (l.length : Int)

/-- R̄_b and C_b of a window. -/
def calStats (w : List CalEst) : Int × Int :=
  if w.isEmpty then (0, 0) else (meanI (w.map (·.r)), meanI (w.map (·.q)) + milliLog w.length 1)

/-! What the commands do at their boundary. -/

/-- The parameters of entry `k` of CAL_ENROLL: feed, capture channel, mode and LAG_LO. -/
def enrollAt (p : Bytes) (k : Nat) : Nat × Nat × Nat × Nat :=
  (rd16 p (4 + 8 * k), rd8 p (6 + 8 * k), rd8 p (7 + 8 * k), rd32 p (8 + 8 * k))

/-- A feed newly enrolled at boundary `n`. -/
def CalFeed.new (mode cap lagLo n : Nat) (g : List Int) : CalFeed :=
  { mode, cap, lagLo, g, ref := List.replicate 8 none, est := List.replicate 8 [], basePend := List.replicate 8 none, suspect := false,
    vetoEnd := 0, lastAdopt := none, arrival := none, gHist := [(n, g)], p := List.replicate 8 0, stopped := false, since := n,
    ended := [] }

/-- One entry of CAL_ENROLL takes effect (R191 to R193). -/
def State.enrollOne (s : State) (n : Nat) (e : Nat × Nat × Nat × Nat) : State :=
  let (f, cap, mode, lag) := e
  if mode = 0 then s.unenroll f
  else match s.calFeed f with
    | some c =>
      if c.cap = cap ∧ c.lagLo = lag then s.setCalFeed f (some { c with mode, stopped := false })
      else
        (s.dropBlocks f).setCalFeed f (some { c with mode, cap, lagLo := lag, stopped := false, est := List.replicate 8 [],
                                                      arrival := none, since := n, ended := [] })
    | none =>
      match s.bankGains (s.feedCor f).bank f with
      | some g => s.setCalFeed f (some (CalFeed.new mode cap lag n g))
      | none => s.calEvt 6

/-- CAL_CAPTURE takes effect: the channel starts without samples. -/
def State.capBind (s : State) (p : Bytes) : State :=
  let c := rd8 p 0
  let b := if rd16 p 2 = 0xFFFF then none else some (rd16 p 2, rd8 p 4)
  if (s.cap c).bind = b then s
  else { s with cal := { s.cal with caps := tabSet CapChan.reset s.cal.caps c { CapChan.reset with bind := b }
                                    samples := tabDrop s.cal.samples (2 ^ 20 * c) (2 ^ 20 * (c + 1)) } }

/-- The policy that CAL_POLICY carries. -/
def policyOf (p : Bytes) : CalPolicy :=
  { margin := rdS16 p 0, ceil := rdS16 p 2, gmin := rdS16 p 4, gmax := rdS16 p 6, rate := rdS16 p 8, deadband := rdS16 p 10,
    confMin := rdS16 p 12, qblk := rdS16 p 14, suspect := rdS16 p 16, navg := rd8 p 18, period := rd16 p 20, hold := rd16 p 22,
    lead := rd16 p 24, fade := rd16 p 26, maxage := rd16 p 28, vetoHold := rd16 p 30,
    k := (List.range 8).map fun b => rdS16 p (32 + 2 * b) }

/-- The ranges of CAL_POLICY (R219). -/
def policyOk (p : Bytes) : Bool :=
  let c := policyOf p
  inRange 1200 4000 c.margin && inRange (-9000) (-5400) c.ceil && inRange (-900) 0 c.gmin && inRange 0 600 c.gmax
    && inRange 10 600 c.rate && inRange 1 300 c.deadband && inRange 600 6000 c.confMin && inRange 0 3000 c.qblk
    && inRange 300 3000 c.suspect && inRange 1 64 c.navg && rd8 p 19 == 0 && inRange 1 600 c.period && inRange 10 3600 c.hold
    && inRange 1000 60000 c.lead && fadeOk c.fade && inRange 10 3600 c.maxage && c.k.all (inRange 0 2000)

/-- The feeds that CAL_BASELINE names. -/
def State.baseFeeds (s : State) (p : Bytes) : List Nat :=
  if rd16 p 2 = 0xFFFF then (s.cal.feeds.filter fun e => e.2.isSome).map (·.1) else [rd16 p 2]

/-- CAL_BASELINE takes effect (R207). -/
def State.baselineAt (s : State) (n : Nat) (p : Bytes) : State :=
  (s.baseFeeds p).foldl (fun s f => match s.calFeed f with
    | none => s
    | some c =>
      s.setCalFeed f (some (if rd8 p 0 = 0 then { c with basePend := List.replicate 8 (some n) }
        else if rd8 p 0 = 1 then
          { c with ref := (List.range 8).map (fun b => some (rdS16 p (4 + 2 * b))), basePend := List.replicate 8 none }
        else { c with ref := List.replicate 8 none, basePend := List.replicate 8 none }))) s

/-- The record of a sequence number among the last 256. -/
def State.report (s : State) (seq : Nat) : Option CalReport := s.cal.reports.find? fun r => r.seq == seq

/-- A DONE record that may still be reverted: the feed's latest adoption, with no later hinge, and not host-dirty (R214). -/
def State.revertible (s : State) (r : CalReport) : Bool :=
  r.status == 1 || (r.status == 2 && !(s.feedCor r.feed).dirty && (s.feedCor r.feed).lastHinge == r.start
    && !s.cal.reports.any fun q => q.feed == r.feed && q.status != 7 && decide (r.seq < q.seq))

/-- A veto takes effect at boundary `n` (R214). -/
def State.vetoAt (s : State) (n seq : Nat) : State :=
  match s.report seq with
  | none => s
  | some r =>
    let hold (s : State) : State :=
      let s := match s.calFeed r.feed with
        | some c => s.setCalFeed r.feed (some { c with vetoEnd := n + s.secTicks s.cal.policy.vetoHold })
        | none => s
      { s with cal := { s.cal with vetoCnt := s.cal.vetoCnt + 1 } }.calEvt 2
    if r.status = 0 then hold ((s.corWithdraw r.req).onReports (fun q => q.seq == seq) fun q => { q with status := 3 })
    else if s.revertible r then
      let id := s.cor.nextId
      let s := s.corRequest [r.feed] (n + 32) s.cal.policy.fade (some (.revert r.gOld)) { src := .none, opcode := 0, tag := 0, aseq := 0 }
      hold (s.onReports (fun q => q.seq == seq) fun q => { q with status := 4, revert := some id })
    else s

/-- A mode command takes effect, where the mode it starts from still holds (R216). -/
def State.calModeAt (s : State) (op : Nat) (p : Bytes) : State :=
  let m := s.sys.mode
  if op = 0x604 then (if m = .render then s.setMode .liveProbe else s)
  else if op = 0x605 then (if m = .liveProbe then s.setMode .render else s)
  else if op = 0x606 then
    (if m = .paused then ({ s with cal := { s.cal with level := rdS16 p 0 } }).setMode .sweep else s)
  else if m = .sweep then s.setMode .paused else s

/-- What a calibration command does at boundary `n`. -/
def State.calAt (s : State) (op n : Nat) (p : Bytes) : State :=
  if op = 0x601 then s.capBind p
  else if op = 0x602 then (List.range (rd8 p 0)).foldl (fun s k => s.enrollOne n (enrollAt p k)) s
  else if op = 0x603 then { s with cal := { s.cal with policy := policyOf p } }
  else if op = 0x608 then s.baselineAt n p
  else if op = 0x609 then s.vetoAt n (rd32 p 0)
  else s.calModeAt op p

/-! Acceptance. -/

/-- The scheduled commands of an opcode up to boundary `n`, in order. -/
def State.schedOf (s : State) (op n : Nat) : List Bytes :=
  (s.sched.filter fun e => e.op == op && decide (e.tick ≤ n)).map Sched'.body

/-- The boundary at which a calibration command is judged. -/
def State.calBound (s : State) (i : CmdIn) : Nat := if s.staged then s.tick else (s.judged i s.firstCut).getD s.tick

/-- A capture channel is bound at boundary `n`, counting every CAL_CAPTURE accepted for it or an earlier one. -/
def State.capBound (s : State) (c n : Nat) : Bool :=
  (s.schedOf 0x601 n).foldl (fun b p => if rd8 p 0 = c then rd16 p 2 != 0xFFFF else b) (s.cap c).bind.isSome

/-- A feed is enrolled at boundary `n`, counting every CAL_ENROLL accepted for it or an earlier one. -/
def State.enrolledAt (s : State) (f n : Nat) : Bool :=
  (s.schedOf 0x602 n).foldl (fun b p => (List.range (rd8 p 0)).foldl (fun b k =>
    if (enrollAt p k).1 = f then (enrollAt p k).2.2.1 != 0 else b) b) (s.calFeed f).isSome

/-- A calibration command whose parameters are in range takes effect at once or at its boundary. -/
def calRun (ok : CmdIn → State → Bool) (i : CmdIn) (s : State) : Verdict :=
  if i.mirror.isNone && !ok i s then .no .badParam
  else scheduled i s (s.calAt i.op s.tick i.body) (fun n => s.schedule n i)

/-- A calibration command of the table. -/
def calCmd (op : Nat) (len : Nat → Bytes → Bool) (run : CmdIn → State → Verdict) : Cmd :=
  { op, boot := false, len, uses := true, quiet := false, asleep := false, mirrored := true, run }

/-- CAL_CAPTURE: the flow is an enabled audio flow locked to media time, and has the channel (R199). -/
def capOk (i : CmdIn) (s : State) : Bool :=
  let p := i.body
  let r := tabGet [] (s.flowsAt (s.calBound i)) (rd16 p 2)
  decide (rd8 p 0 < 64 ∧ rd8 p 4 < 64) && rd8 p 1 == 0 && zeroAt p 5 3
    && (rd16 p 2 == 0xFFFF
      || (decide (rd16 p 2 < 1024) && frOn r && frKind r == 0 && !fiAsync r && decide (rd8 p 4 < frNch r)))

/-- CAL_CAPTURE. -/
def calCaptureCmd : Cmd := calCmd 0x601 (lenIs 8) (calRun capOk)

/-- CAL_CAPTURE (R199). -/
def execCalCapture (h : Hdr) (p : Bytes) (s : State) : Result := keyway calCaptureCmd h p s

/-- One entry of CAL_ENROLL may be accepted (R191). -/
def State.enrollOk (s : State) (n : Nat) (e : Nat × Nat × Nat × Nat) : Bool :=
  let (f, cap, mode, lag) := e
  decide (f < feedCount s.rnd.rate96 ∧ cap < 64 ∧ mode ≤ 2 ∧ lag ≤ 262143)
    && (mode == 0 || (!isAbsorbed s.cor.longMask f && (foldOf s.cor.folds f).isNone && s.capBound cap n
      && (s.bankGains (s.feedCor f).bank f).isSome))

/-- CAL_ENROLL: every entry may be accepted. -/
def enrollParams (i : CmdIn) (s : State) : Bool :=
  let n := rd8 i.body 0
  decide (1 ≤ n ∧ n ≤ 64) && zeroAt i.body 1 3
    && (List.range n).all fun k => s.enrollOk (s.calBound i) (enrollAt i.body k)

/-- CAL_ENROLL. -/
def calEnrollCmd : Cmd := calCmd 0x602 (fun n p => decide (4 ≤ n) && n == 4 + 8 * rd8 p 0) (calRun enrollParams)

/-- CAL_ENROLL (R191, R193). -/
def execCalEnroll (h : Hdr) (p : Bytes) (s : State) : Result := keyway calEnrollCmd h p s

/-- CAL_POLICY. -/
def calPolicyCmd : Cmd := calCmd 0x603 (lenIs 48) (calRun fun i _ => policyOk i.body)

/-- CAL_POLICY (R219). -/
def execCalPolicy (h : Hdr) (p : Bytes) (s : State) : Result := keyway calPolicyCmd h p s

/-- A calibration mode command: accepted in one mode only (R216). -/
def calModeRun (m : Mode) (ok : CmdIn → State → Bool) (i : CmdIn) (s : State) : Verdict :=
  if i.mirror.isNone && s.sys.mode != m then .no .badMode else calRun ok i s

/-- CAL_START. -/
def calStartCmd : Cmd := calCmd 0x604 (lenIs 0) (calModeRun .render fun _ _ => true)

/-- CAL_START (R216). -/
def execCalStart (h : Hdr) (p : Bytes) (s : State) : Result := keyway calStartCmd h p s

/-- CAL_STOP. -/
def calStopCmd : Cmd := calCmd 0x605 (lenIs 0) (calModeRun .liveProbe fun _ _ => true)

/-- CAL_STOP (R216). -/
def execCalStop (h : Hdr) (p : Bytes) (s : State) : Result := keyway calStopCmd h p s

/-- SWEEP_START. -/
def sweepStartCmd : Cmd :=
  calCmd 0x606 (lenIs 4) (calModeRun .paused fun i _ => inRange (-9000) (-4500) (rdS16 i.body 0) && zeroAt i.body 2 2)

/-- SWEEP_START (R216, R217). -/
def execSweepStart (h : Hdr) (p : Bytes) (s : State) : Result := keyway sweepStartCmd h p s

/-- SWEEP_STOP. -/
def sweepStopCmd : Cmd := calCmd 0x607 (lenIs 0) (calModeRun .sweep fun _ _ => true)

/-- SWEEP_STOP (R216). -/
def execSweepStop (h : Hdr) (p : Bytes) (s : State) : Result := keyway sweepStopCmd h p s

/-- CAL_BASELINE: an enrolled feed, or every one for MODE 0 and 2. -/
def baselineOk (i : CmdIn) (s : State) : Bool :=
  let p := i.body
  decide (rd8 p 0 ≤ 2) && rd8 p 1 == 0 && (rd8 p 0 == 1 || zeroAt p 4 16)
    && (if rd16 p 2 = 0xFFFF then rd8 p 0 != 1 else s.enrolledAt (rd16 p 2) (s.calBound i))

/-- CAL_BASELINE. -/
def calBaselineCmd : Cmd := calCmd 0x608 (lenIs 20) (calRun baselineOk)

/-- CAL_BASELINE (R207). -/
def execCalBaseline (h : Hdr) (p : Bytes) (s : State) : Result := keyway calBaselineCmd h p s

/-- CAL_VETO: a record that may be withdrawn or reverted. -/
def calVetoRun (i : CmdIn) (s : State) : Verdict :=
  match s.report (rd32 i.body 0) with
  | none => if i.mirror.isSome then calRun (fun _ _ => true) i s else .no .badParam
  | some r =>
    if i.mirror.isSome then calRun (fun _ _ => true) i s
    else if r.status != 0 && !s.revertible r then .no .badParam
    else calRun (fun _ _ => true) i s

/-- CAL_VETO. -/
def calVetoCmd : Cmd := calCmd 0x609 (lenIs 4) calVetoRun

/-- CAL_VETO (R214). -/
def execCalVeto (h : Hdr) (p : Bytes) (s : State) : Result := keyway calVetoCmd h p s

/-- The 64-byte record of R219. -/
def CalReport.bytes (r : CalReport) : Bytes :=
  leB 4 r.seq ++ leB 2 r.feed ++ leB 1 r.status ++ zeros 1 ++ leB 8 r.decision ++ leB 8 (r.start.getD (2 ^ 64 - 1))
    ++ (r.gOld.map (leI 2)).flatten ++ (r.gNew.map (leI 2)).flatten ++ leB 4 r.arrival ++ leI 2 r.minConf ++ zeros 2

/-- CAL_REPORT. -/
def calReportCmd : Cmd :=
  { op := 0x60A, boot := false, len := lenIs 4, uses := false, quiet := true, asleep := true, mirrored := false,
    run := fun i s => match s.report (rd32 i.body 0) with
      | some r => .done s r.bytes (s.tick + 1)
      | none => .no .badParam }

/-- CAL_REPORT (R219). -/
def execCalReport (h : Hdr) (p : Bytes) (s : State) : Result := keyway calReportCmd h p s

/-- The 88 bytes of CAL_QUERY for a feed, at boundary `n`. -/
def State.calRecord (s : State) (f n : Nat) : Bytes :=
  let seq := leB 4 (tabGet 0 s.cal.lastSeq f)
  match s.calFeed f with
  | none => zeros 8 ++ leB 4 0xFFFFFFFF ++ zeros 72 ++ seq
  | some c =>
    let w := (List.range 8).map fun b => s.calWindow c b n
    let probing := s.rendering && c.p.any (· != 0)
    leB 1 c.mode ++ leB 1 (flags [c.suspect, decide (n < c.vetoEnd), !(s.cap c.cap).live, probing]) ++ leB 1 c.cap
      ++ leB 1 (flags (c.ref.map Option.isSome)) ++ leB 4 c.lagLo ++ leB 4 (c.arrival.getD 0xFFFFFFFF)
      ++ (c.g.map (leI 2)).flatten ++ (c.ref.map fun r => leI 2 (r.getD 0)).flatten
      ++ (w.map fun l => leI 2 (calStats l).1).flatten ++ (w.map fun l => leI 2 (calStats l).2).flatten
      ++ (w.map fun l => leB 1 l.length).flatten ++ seq

/-- What CAL_QUERY shows of a feed: at the last completed tick while ticks run. -/
def State.calSeen (s : State) (f : Nat) : Bytes :=
  if s.rendering then tabGet (zeros 8 ++ leB 4 0xFFFFFFFF ++ zeros 76) s.cal.seen f else s.calRecord f s.tick

/-- CAL_QUERY: at the last completed tick while ticks run. -/
def calQueryRun (i : CmdIn) (s : State) : Verdict :=
  let f := rd16 i.body 0
  if feedCount s.rnd.rate96 ≤ f || !zeroAt i.body 2 2 then .no .badParam
  else .done s (s.calSeen f) (s.tick + 1)

/-- CAL_QUERY. -/
def calQueryCmd : Cmd :=
  { op := 0x60B, boot := false, len := lenIs 4, uses := false, quiet := true, asleep := true, mirrored := false, run := calQueryRun }

/-- CAL_QUERY (R219). -/
def execCalQuery (h : Hdr) (p : Bytes) (s : State) : Result := keyway calQueryCmd h p s

end Sys2Proof.Machine
end

