-- ==== Sys2Proof/Machine/Media.lean ====
section
/-! DEFINITION. Receiving and sending ST 2110 media (chapter "Media, Management and Hasp Ports", R404 to R412; R319, R398 to R402;
R58 to R73, R200). -/

namespace Sys2Proof.Machine

/-! RTP packets. -/

/-- An RTP packet taken apart. -/
structure Rtp where
  marker : Bool
  pt : Nat
  seq : Nat
  ts : Nat
  ssrc : Nat
  body : Bytes

/-- The RTP header and payload of a datagram: CSRC entries, an extension and padding are passed over. -/
def rtpOf (b : Bytes) : Rtp :=
  let h0 := 12 + 4 * (rd8 b 0 % 16)
  let h := if bit (rd8 b 0) 4 then h0 + 4 + 4 * rdBE b (h0 + 2) 2 else h0
  let pad := if bit (rd8 b 0) 5 then rd8 b (b.length - 1) else 0
  { marker := bit (rd8 b 1) 7, pt := rd8 b 1 % 128, seq := rdBE b 2 2, ts := rdBE b 4 4, ssrc := rdBE b 8 4,
    body := (b.drop h).take (b.length - h - pad) }

/-- A record of kind `k` matches a datagram (R404). -/
def State.fiMatch (s : State) (k : Nat) (r : Bytes) (u : Udp) (p : Rtp) : Bool :=
  frOn r && frKind r == k && fiPath r u.port && tabGet 0 s.net.vlan (fiVlan r u.port) % 4096 == u.vid && fiDst r u.port == u.dst
    && fiDport r == u.dport && (fiSrc r u.port == 0 || fiSrc r u.port == u.src) && (fiPt r == 0 || fiPt r == p.pt)
    && (fiSsrc r == 0 || fiSsrc r == p.ssrc)

/-- The receive entries with their records: the table, and the replaced records whose cross-fade runs at 1,024 + entry. -/
def State.rxEntries (s : State) : List (Nat × Bytes) := s.net.flowIn ++ s.net.fading.map fun f => (1024 + f.1, f.2.1)

/-! Merging under ST 2022-7 (R406). -/

/-- The first sample index whose input is not taken as zero after the start (R384). -/
def State.zeroUntil (s : State) : Nat :=
  if s.twn.startAs = .joining then 0 else 16 * s.rnd.startS + (if s.rnd.rate96 then 19200 else 9600)

/-- Of `gap` packets missing before `p`, those that count as lost: not one whose samples are all taken as zero after the start
(R384). -/
def State.lostBefore (s : State) (r : Bytes) (p : RxPkt) (gap : Nat) : Nat :=
  let len := frLen s.rnd.rate96 r
  if frKind r != 0 then gap
  else if fiAsync r then (if s.sampleNow < s.zeroUntil then 0 else gap)
  else min gap (((ext32 p.ts s.sampleNow).toNat + len - s.zeroUntil - 1) / len)

/-- Settle one packet of an entry's merge window: the packets between it and the last one settled are lost, and a copy that one path
has not brought is missing. -/
def State.settleOne (s : State) (e : Nat) (r : Bytes) (p : RxPkt) : State :=
  let both := fiPath r 0 && fiPath r 1
  let gap := match (s.flowRx e).next with
    | some n => let d := (p.seq + 65536 - n) % 65536; if d < 32768 then d else 0
    | none => 0
  let s := s.onFlowRx e fun x => { x with next := some ((p.seq + 1) % 65536), pkts := x.pkts.filter (· != p) }
  let lost := s.lostBefore r p gap
  s.onStatIn (e % 1024) fun x =>
    { x with lostPkt := x.lostPkt + wd lost, missA := if both && p.tA.isNone then x.missA + 1 else x.missA,
             missB := if both && p.tB.isNone then x.missB + 1 else x.missB }

/-- Settle, in sequence order, every packet whose first copy came 10 ms ago. -/
def State.settle (s : State) (e : Nat) (r : Bytes) : State :=
  let old (p : RxPkt) : Bool := decide (min (p.tA.getD (s.now + 1)) (p.tB.getD (s.now + 1)) + 10000000 < s.now)
  let due := sortBy (fun (a b : RxPkt) => decide (0 < (b.seq + 65536 - a.seq) % 65536 ∧ (b.seq + 65536 - a.seq) % 65536 < 32768))
    ((s.flowRx e).pkts.filter old)
  due.foldl (fun s p => s.settleOne e r p) s

/-- A copy arrives on a media port: whether it is the first of its packet. A later copy is compared and measured. -/
def State.mergeCopy (s : State) (e port seq ts : Nat) : Bool × State :=
  let put (p : RxPkt) : RxPkt := if port = 0 then { p with tA := some s.now } else { p with tB := some s.now }
  let x := s.flowRx e
  match x.pkts.find? fun p => p.seq == seq with
  | none =>
    let stale := x.next.any fun n => decide (32768 ≤ (seq + 65536 - n) % 65536)
    if stale then (false, s)
    else
      let x' : FlowRx := { x with pkts := x.pkts ++ [put { seq, ts, tA := none, tB := none }], next := some (x.next.getD seq) }
      (true, s.onFlowRx e fun _ => x')
  | some p =>
    let q := put p
    let s := s.onFlowRx e fun x => { x with pkts := x.pkts.map fun y => if y.seq = seq then q else y }
    match q.tA, q.tB with
    | some a, some b =>
      let skew : Int := (b : Int) - a
      (false, s.onStatIn (e % 1024) fun x =>
        { x with mismatch := if p.ts = ts then x.mismatch else x.mismatch + 1, skew, skewMax := max x.skewMax skew.natAbs })
    | _, _ => (false, s)

/-- Count a matched packet of an ingress entry. -/
def State.countPkt (s : State) (e port : Nat) : State :=
  s.onStatIn (e % 1024) fun x => if port = 0 then { x with pktA := x.pktA + 1 } else { x with pktB := x.pktB + 1 }

/-! ST 2110-30 (R404, R405). -/

/-- Sample `k` of channel `c` of a payload, in Q1.31. -/
def paySample (r : Bytes) (body : Bytes) (k c : Nat) : Int :=
  let w := frWidth r
  signed (8 * w) (rdBE body ((k * frNch r + c) * w) w) * 2 ^ (32 - 8 * w)

/-- The capture history in samples (R200). -/
def State.capHist (s : State) : Nat := if s.rnd.rate96 then 2 ^ 20 else 2 ^ 19

/-- Capture samples are kept (R200) for every capture channel that is bound to the entry: of a packet that either path brings, each
sample that is still in the history and that the other path has not brought. -/
def State.capture (s : State) (e : Nat) (r body : Bytes) (first len : Nat) : State :=
  (s.cal.caps.filter fun x => x.2.bind.any (·.1 == e)).foldl (fun s x =>
    let c := (x.2.bind.map (·.2)).getD 0
    let key (m : Nat) : Nat := 2 ^ 20 * x.1 + m % 2 ^ 20
    let new := ((List.range len).map (first + ·)).filter fun m =>
      decide (s.sampleNow < m + s.capHist) && !(tabGet none s.cal.samples (key m)).any (·.1 == m)
    let smp := new.foldl (fun t m => tabSet none t (key m) (some (m, paySample r body (m - first) c))) s.cal.samples
    if new.isEmpty then s
    else { s with cal := { s.cal with samples := smp
                                      caps := tabSet CapChan.reset s.cal.caps x.1 { s.cap x.1 with last := some s.now, live := true } } }) s

/-- The samples of a packet's mapped channels wait for their ticks' deadlines. -/
def State.storeRaw (s : State) (e : Nat) (r body : Bytes) (first len : Nat) : State :=
  let raw := (fiMaps r).foldl (fun t m => (List.range len).foldl (fun t k =>
    tabSet none t ((64 * e + m.1) * 65536 + (first + k) % 65536) (some (paySample r body k m.1))) t) s.net.raw
  { s with net := { s.net with raw } }

/-- The first tick whose input is still open (R30): for a joiner, whose ticks catch up (R325), by the time of its deadline. -/
def State.openInput (s : State) : Nat :=
  if s.twn.state = .joining then max s.rnd.nextIn ((s.sampleNow - s.rte.ingress) / 16) else s.rnd.nextIn

/-- A packet of an audio entry (R404 to R406). -/
def State.audioPacket (s : State) (e port : Nat) (r : Bytes) (p : Rtp) : State :=
  let len := frLen s.rnd.rate96 r
  let s := s.countPkt e port
  if p.body.length != frPayload s.rnd.rate96 r then s.onStatIn (e % 1024) fun x => { x with drop := x.drop + 1 }
  else if fiAsync r then
    let s := (s.settle e r).onFlowRx e fun x => { x with live := true }
    let (fresh, s) := s.mergeCopy e port p.seq p.ts
    if fresh then s.onFlowRx e fun x => { x with heard := (p.body :: x.heard).take 64 } else s
  else
    let first := (ext32 p.ts s.sampleNow).toNat
    if s.sampleNow + s.fs / 50 < first then s.onStatIn (e % 1024) fun x => { x with early := x.early + 1 }
    else
      let (fresh, s) := (s.settle e r).mergeCopy e port p.seq p.ts
      let s := s.capture e r p.body first len
      if (fiMaps r).isEmpty || first + len ≤ s.zeroUntil then s
      else if first / 16 < s.openInput then s.onStatIn (e % 1024) fun x => { x with late := x.late + 1 }
      else if fresh then s.storeRaw e r p.body first len else s

/-- ST2110_30_PACKET (R404 to R406): while the tick runs, by every entry that it matches. -/
def execSt2110Packet (u : Udp) (s : State) : Result :=
  let s := s.at u.t
  let p := rtpOf u.body
  .next (s.receiveUdp u (decide (u.port < 2)) fun s =>
    if !s.ticking then s
    else (s.rxEntries.filter fun e => s.fiMatch 0 e.2 u p).foldl (fun s e => s.audioPacket e.1 u.port e.2 p) s)

/-! The input of a tick (R30, R384, R401, R407). -/

/-- One channel over the 16 samples of a tick (R407): the samples, q, x_L, the samples concealed, whether packets have come. -/
structure ChanIn where
  out : List Int
  q : Nat
  xl : Int
  concealed : Nat
  live : Bool

/-- The next sample of a channel: received, or missing. -/
def ChanIn.step (zero : Bool) (x : Option Int) (c : ChanIn) : ChanIn :=
  if zero then { c with out := c.out ++ [0] }
  else match x with
    | some v =>
      if c.q < 16 then { c with out := c.out ++ [v * ((c.q + 1 : Nat) : Int) / 16], q := c.q + 1, xl := v, live := true }
      else { c with out := c.out ++ [v], xl := v, live := true }
    | none =>
      if c.live then { c with out := c.out ++ [c.xl * ((c.q - 1 : Nat) : Int) / 16], q := c.q - 1, concealed := c.concealed + 1 }
      else { c with out := c.out ++ [0] }

/-- The samples of an entry's mapped channels over tick `n`: kind, number and samples of each; and the state after it. -/
def State.entryIn (s : State) (n e : Nat) (r : Bytes) : List (Nat × Nat × Nat × List Int) × State :=
  let x := s.flowRx e
  if fiAsync r then
    let smp (c m : Nat) : Int := if !x.live || decide (m < s.zeroUntil) then 0 else (Config.resampled x.heard c m).toInt
    ((fiMaps r).map fun m => (m.1, m.2.1, m.2.2, (List.range 16).map fun k => smp m.1 (16 * n + k)), s.settle e r)
  else
    let cs := (fiMaps r).map fun m =>
      let c0 : ChanIn := { out := [], q := tabGet 16 x.q m.1, xl := tabGet 0 x.xl m.1, concealed := 0, live := x.live }
      (m, (List.range 16).foldl (fun c k =>
        ChanIn.step (decide (16 * n + k < s.zeroUntil)) (tabGet none s.net.raw ((64 * e + m.1) * 65536 + (16 * n + k) % 65536)) c) c0)
    let raw := (fiMaps r).foldl (fun t m => (List.range 16).foldl (fun t k =>
      tabSet none t ((64 * e + m.1) * 65536 + (16 * n + k) % 65536) none) t) s.net.raw
    let lost := sumN (cs.map fun c => c.2.concealed)
    let q := cs.foldl (fun t c => tabSet 16 t c.1.1 c.2.q) x.q
    let xl := cs.foldl (fun t c => tabSet 0 t c.1.1 c.2.xl) x.xl
    let s := { s with net := { s.net with raw } }.onFlowRx e fun x => { x with q, xl, live := x.live || cs.any fun c => c.2.live }
    let s := if lost = 0 then s else s.onStatIn (e % 1024) fun x => { x with conceal := x.conceal + wd lost }
    let s := if lost = 0 || !s.twn.checking || s.twn.gaps.contains n then s else { s with twn := { s.twn with gaps := s.twn.gaps ++ [n] } }
    (cs.map fun c => (c.1.1, c.1.2.1, c.1.2.2, c.2.out), s.settle e r)

/-- The record maps channel `c` of the same stream: nothing of its source has changed. -/
def sameSource (a b : Bytes) (c kind num : Nat) : Bool :=
  slice a 0 64 == slice b 0 64 && fiMap a c == (kind, num) && fiMap b c == (kind, num)

/-- A contribution of entry `e` to tick `n`, with its part of the cross-fade of R401. -/
def State.fadePart (s : State) (n e : Nat) (r : Bytes) (x : Nat × Nat × Nat × List Int) : List Int :=
  match s.net.fading.find? fun f => f.1 == e % 1024 with
  | none => x.2.2.2
  | some (_, old, b) =>
    let same := sameSource (if e < 1024 then old else s.flowIn (e % 1024)) r x.1 x.2.1 x.2.2.1
    (x.2.2.2.zip (List.range 16)).map fun (v, k) =>
      let m := 16 * n + k
      if e < 1024 then if m < b then 0 else if same || b + 64 ≤ m then v else v * ((m - b : Nat) : Int) / 64
      else if m < b then v else if same || b + 64 ≤ m then 0 else v * ((64 - (m - b) : Nat) : Int) / 64

/-- The places of a tick's samples in an input history of 65,536 samples an item are cleared. -/
def clearWindow (t : Tab Int) (n : Nat) : Tab Int := t.filter fun e => e.1 % 65536 / 16 != n % 4096

/-- The input of tick `n` closes: every object's and bed input's samples are written. -/
def State.ingest (s : State) (n : Nat) : State :=
  let (parts, s) := s.rxEntries.foldl (fun (a : List (Nat × Nat × List Int) × State) e =>
    if !frOn e.2 || frKind e.2 != 0 then a
    else
      let (l, s') := a.2.entryIn n e.1 e.2
      (a.1 ++ l.map (fun x => (x.2.1, x.2.2.1, s'.fadePart n e.1 e.2 x)), s')) ([], s)
  let put (kind : Nat) (t : Tab Int) : Tab Int :=
    (parts.filter fun p => p.1 == kind).foldl (fun t p =>
      (p.2.2.zip (List.range 16)).foldl (fun t (v, k) =>
        let key := 65536 * p.2.1 + (16 * n + k) % 65536
        tabSet 0 t key (sat32 (tabGet 0 t key + v))) t) (clearWindow t n)
  let s := { s with rnd := { s.rnd with hist := put 1 s.rnd.hist, bedHist := put 2 s.rnd.bedHist } }
  let ended := s.net.fading.filter fun f => decide (f.2.2 + 64 ≤ 16 * n + 16)
  ended.foldl (fun s f =>
    ({ s with net := { s.net with fading := s.net.fading.filter (· != f) } }.dropRaw (1024 + f.1)).onFlowRx (1024 + f.1) fun _ => FlowRx.idle) s

/-! S-ADM (R58 to R73, R409). -/

/-- Count unsupported items. -/
def State.unsup (s : State) (k : Nat) : State :=
  if k = 0 then s else { s with obj := { s.obj with unsupCnt := s.obj.unsupCnt + wd k } }.objEvt 3

/-- The block that an audioBlockFormat of a frame that starts at sample `start` makes for an object (`bed` false) or a bed input,
and whether a gain or a position was clamped. Its rtime counts in whole samples, truncated. -/
def State.admBlk (s : State) (bed : Bool) (start ordB : Nat) (b : AdmBlock) : Blk × Bool × Bool :=
  let x := s.obj.xform
  let l := (if bed then { b with jump := none } else b).ticks s.fs
  let g := b.gain.map admGain
  let p := if bed then none else b.pos.map x.venue
  let z := if bed then none else b.zones.map x.admZones
  let blk : Blk :=
    { Blk.empty (tickOf (start + b.rtime.samples s.fs)) start ordB false with
      ofSource := true, pos := p.map (·.1), len := l, ramp := if bed then 16 * l else l, gain := g.map (·.1),
      spread := if bed then none else x.admSpread b, zones := z.map (·.1), blockId := if bed then none else some b.id }
  (blk, g.any (·.2), p.any (·.2))

/-- An S-ADM block does not concern an object: SRC is command, or it repeats the block of the running segment (R71, R72). -/
def State.admIgnored (s : State) (bed : Bool) (k id : Nat) : Bool :=
  let c := s.objCtx k
  !bed && (c.src || (c.blockId == some id && decide (s.tick < c.seg.b + c.seg.len)))

/-- An S-ADM block reaches a context (R67, R69): stale, late, dropped for a full queue, or accepted and returned. -/
def State.admBlock (s : State) (bed : Bool) (k flow : Nat) (b : Blk) : State × Option (Bool × Nat × Nat × Blk) :=
  let (pend, last) := s.pendOf bed k
  if last.any (b.tick ≤ ·) then (s.objStaleBlock, none)
  else if 8 ≤ pend.length then ({ s with obj := { s.obj with dropCnt := s.obj.dropCnt + 1 } }.objEvt 2, none)
  else
    let first := s.firstCut
    let late := decide (b.tick < first)
    let b' : Blk := if late then { b with tick := first, len := if first < b.tick + b.len then b.tick + b.len - first else 1 } else b
    let s := if late then { s with obj := { s.obj with lateCnt := s.obj.lateCnt + 1 } }.objEvt 0 else s
    let s := if bed then s.pendBed k b'
      else
        let s := s.pendObj k b'
        s.setObj k { s.objCtx k with flow := some flow }
    (s, some (bed, k, flow, b'))

/-- The contexts that an ACID reaches: objects, or bed inputs. -/
def State.bound (s : State) (bed : Bool) (acid : Nat) : List Nat :=
  if acid = 0 then []
  else if bed then (s.obj.beds.filter fun e => e.2.acid == acid).map (·.1) else (s.obj.objs.filter fun e => e.2.acid == acid).map (·.1)

/-- What a block of a frame counts in OBJ_UNSUP_CNT (R59, R61, R86): itself, where its type is not rendered or its ACID is bound to
no context; otherwise the zones that are not used, where some context takes the block. -/
def State.admUnsup (s : State) (c : AdmChannel) (b : AdmBlock) : Nat :=
  let bed := c.typ == 1
  let ks := s.bound bed c.acid
  if (c.typ != 1 && c.typ != 3) || ks.isEmpty then 1
  else if bed || ks.all fun k => s.admIgnored bed k b.id then 0
  else ((b.zones.map s.obj.xform.admZones).map (·.2)).getD 0

/-- Every block of a channel of a frame, in order, for the contexts that its ACID reaches as the frame arrives. -/
def State.admChannel (s : State) (flow start : Nat) (c : AdmChannel) (acc : List (Bool × Nat × Nat × Blk)) :
    State × List (Bool × Nat × Nat × Blk) :=
  (c.blocks.zip (List.range c.blocks.length)).foldl (fun (a : State × List (Bool × Nat × Nat × Blk)) (b, j) =>
    let bed := c.typ == 1
    if c.typ != 1 && c.typ != 3 then a
    else
      match (a.1.bound bed c.acid).filter fun k => !a.1.admIgnored bed k b.id with
      | [] => a
      | ks =>
        let (blk, clamp, range) := a.1.admBlk bed start j b
        let s := if clamp then a.1.objEvt 4 else a.1
        let s := if range then s.objEvt 5 else s
        ks.foldl (fun (a : State × List (Bool × Nat × Nat × Blk)) k =>
          let (s, o) := a.1.admBlock bed k flow blk
          (s, a.2 ++ o.toList)) (s, a.2)) (s, acc)

/-- The start sample of a frame with an RTP timestamp (R421, R422). -/
def State.frameStart (s : State) (ts : Nat) : Nat :=
  ceilDiv ((ext32 ts (s.media * 9 / 100000).toNat).toNat * s.fs) 90000

/-- The relays that name an ingress entry (R412). -/
def State.relaysOf (s : State) (e : Nat) : List Nat :=
  (s.flowsOut.filter fun r => frKind r.2 == 1 && foRelay r.2 == e).map (·.1)

/-- A frame waits for its relays. -/
def State.relayFrame (s : State) (e : Nat) (bodies : List Bytes) (ts : Nat) : State :=
  { s with net := { s.net with relayed := s.net.relayed ++ (s.relaysOf e).map fun r => (r, bodies, ts) } }

/-- The decider, or a module alone, accepts a frame (R58, R61, R73). -/
def State.acceptFrame (s : State) (e ts : Nat) (bodies : List Bytes) (f : AdmFrame) : State :=
  let start := s.frameStart ts
  let newest := max ((tabGet none s.obj.frameAt e).getD 0) start
  let old := s.obj
  let s := { s with obj := { old with evt := 0, frameAt := tabSet none old.frameAt e (some newest) } }
  let (s, acc) := f.channels.foldl (fun (a : State × List (Bool × Nat × Nat × Blk)) c => a.1.admChannel e start c a.2) (s, [])
  let o := s.obj
  let x : SadmSet := { blocks := acc, late := o.lateCnt - old.lateCnt, stale := o.staleCnt - old.staleCnt, drop := o.dropCnt - old.dropCnt,
                       evts := o.evt, entry := e, bodies, ts }
  let s := { s with obj := { o with evt := old.evt ||| o.evt } }
  let s := if s.mirrors then s.mirrorOut s.firstCut (.sadm x) (sumN (bodies.map (·.length))) else s
  s.relayFrame e bodies ts

/-- A complete frame goes to the parser (R58, R409), and its unsupported items are counted; a follower keeps its own for a takeover
(R73, R93, R308). -/
def State.parseFrame (s : State) (e ts : Nat) (bodies : List Bytes) (f : Option AdmFrame) : State :=
  let s := s.onStatIn e fun x => { x with frames := x.frames + 1 }
  match f with
  | none => s.unsup 1
  | some f =>
    let s := s.unsup (if f.supported then sumN (f.channels.flatMap fun c => c.blocks.map (s.admUnsup c)) else 1)
    if !f.supported then s
    else if s.follows then
      if (tabGet none s.obj.frameAt e).any (s.frameStart ts ≤ ·) then s
      else { s with net := { s.net with unheard := s.net.unheard ++ [(e, ts, bodies, f)] } }
    else s.acceptFrame e ts bodies f

/-- The parts of the frame that starts at sequence number `q`, up to its marker, where every one has come. -/
def frameParts (parts : List SadmPart) : Nat → Nat → Option (List SadmPart)
  | 0, _ => none
  | k + 1, q =>
    match parts.find? fun p => p.seq == q with
    | none => none
    | some p => if p.marker then some [p] else (frameParts parts k ((q + 1) % 65536)).map (p :: ·)

/-- Take every frame out of the collected parts that is complete, or that can no longer be completed (R409): its marker stands
behind a part that both paths have owed for 10 ms. `fs` are the frames that completed packets carry. -/
def State.takeFrames : Nat → Nat → List AdmFrame → State → State
  | 0, _, _, s => s
  | k + 1, e, fs, s =>
    let x := s.flowRx e
    match x.frame with
    | none => s
    | some q =>
      let drop (s : State) (n : Nat) (ps : List SadmPart) : State :=
        s.onFlowRx e fun x => { x with frame := some n, parts := x.parts.filter fun p => !ps.contains p }
      match frameParts x.parts x.parts.length q with
      | some ps =>
        let s := drop s (((ps.getLast?.map (·.seq)).getD q + 1) % 65536) ps
        let ts := (ps.head?.map (·.ts)).getD 0
        let s := if !ps.all (fun p => p.ts == ts) then s.onStatIn e fun x => { x with frameDrop := x.frameDrop + 1 }
          else if 65536 < sumN (ps.map fun p => p.body.length) then s.unsup 1
          else s.parseFrame e ts (ps.map (·.body)) fs.head?
        State.takeFrames k e (fs.drop 1) s
      | none =>
        let dist (p : SadmPart) : Nat := (p.seq + 65536 - q) % 65536
        let marks := sortBy (fun a b => decide (dist a < dist b)) (x.parts.filter fun p => p.marker && decide (dist p < 32768))
        match marks with
        | [] => s
        | m :: _ =>
          if s.now ≤ m.t + 10000000 then s
          else
            let s := drop s ((m.seq + 1) % 65536) (x.parts.filter fun p => decide (dist p ≤ dist m))
            State.takeFrames k e fs (s.onStatIn e fun x => { x with frameDrop := x.frameDrop + 1 })

/-- A packet of an S-ADM entry. -/
def State.sadmPart (s : State) (e port : Nat) (r : Bytes) (p : Rtp) (fs : List AdmFrame) : State :=
  let (fresh, s) := ((s.countPkt e port).settle e r).mergeCopy e port p.seq p.ts
  if !fresh then s
  else
    let part : SadmPart := { seq := p.seq, ts := p.ts, marker := p.marker, body := p.body, t := s.now }
    let s := s.onFlowRx e fun x => { x with parts := x.parts ++ [part], frame := some (x.frame.getD p.seq) }
    State.takeFrames ((s.flowRx e).parts.length + 1) e fs s

/-- SADM_PACKET (R409): `frames` are what the parser makes of the frames that this packet completes. -/
def execSadmPacket (u : Udp) (frames : List AdmFrame) (s : State) : Result :=
  let s := s.at u.t
  let p := rtpOf u.body
  .next (s.receiveUdp u (decide (u.port < 2)) fun s =>
    if !s.ticking then s
    else (s.flowsIn.filter fun e => s.fiMatch 1 e.2 u p).foldl (fun s e => s.sadmPart e.1 u.port e.2 p frames) s)

/-! Sending (R398, R411, R412). -/

/-- The module's streams run: alone, deciding or in lockstep (R306, R325). -/
def State.streams (s : State) : Bool :=
  s.ticking && (s.twn.state == .off || s.twn.state == .alone || s.twn.state == .lockstep)

/-- One RTP packet as bytes (R319). -/
def rtpBytes (pt seq ts ssrc : Nat) (marker : Bool) (body : Bytes) : Bytes :=
  beB 1 0x80 ++ beB 1 (pt + 128 * b2n marker) ++ beB 2 seq ++ beB 4 ts ++ beB 4 ssrc ++ body

/-- Send one packet of an egress entry on both media ports (R4), through a transmit queue: it starts at once where the queues let it. -/
def State.sendFlow (s : State) (entry queue : Nat) (r : Bytes) (launch : Nat) (body : Bytes) : State :=
  [0, 1].foldl (fun s port =>
    if !(s.mac port).link || !s.portOpen port then s
    else
      let f : TxFrame :=
        { queue, launch, vlan := foVlan r port, dst := foDst r port, sport := foSport r, dport := foDport r, body, dscp := foDscp r,
          own := none, ttl := foTtl r, slot := none, flow := some entry }
      let s := s.queueFrame port f
      if s.txReady port && s.nextFrame port == some f then s.launch port f else s) s

/-- A checked sample as it stands in a packet (R411). -/
def packSample (r : Bytes) (v : Int) : Bytes := beB (frWidth r) (code (8 * frWidth r) (sar v (32 - 8 * frWidth r)))

/-- The stamp of packet `k` of an egress entry (R155, R384). -/
def State.stamp (s : State) (r : Bytes) (k : Nat) : Nat :=
  16 * s.rnd.startS + 64 + s.rte.ingress + frLen s.rnd.rate96 r * (k + 1)

/-- The payload of the packet stamped `i`: its samples were read at their source index. -/
def State.packetBody (s : State) (r : Bytes) (i : Nat) : Bytes :=
  let len := frLen s.rnd.rate96 r
  let src := i - 64 - s.rte.ingress - len
  (List.range len).flatMap fun k => (foFeeds r).flatMap fun f => packSample r (tabGet 0 s.rnd.sent (f * 1024 + (src + k) % 1024))

/-- Launch time: the stamp's media time plus LAUNCH_OFS, in ns (R398). -/
def State.launchTime (s : State) (r : Bytes) (i : Nat) : Nat := s.sampleTime i + foLaunch r

/-- Every sample of the packet has been read out, and its tick is one that runs (R286, R476). -/
def State.packetReady (s : State) (r : Bytes) (i : Nat) : Bool :=
  let len := frLen s.rnd.rate96 r
  decide (i - 64 - s.rte.ingress ≤ 16 * s.rnd.nextOut) && s.rnd.stopAt.all (fun p => decide (i < 16 * p))
    && !(s.intg.yieldPend.any fun y => decide (16 * y.1 < i + len))

/-- MEDIA_PACKET_LAUNCH (R398, R411): the entry's next packet. -/
def execMediaPacketLaunch (t entry : Nat) (s : State) : Result :=
  let s := s.at t
  let r := s.flowOut entry
  let k := tabGet 0 s.rnd.pktNext entry
  let i := s.stamp r k
  .next (if !s.streams || !frOn r || frKind r != 0 || !s.packetReady r i || decide (s.media < s.launchTime r i) then s
    else
      let seq := (i / frLen s.rnd.rate96 r + foSeq r) % 65536
      let body := rtpBytes (foPt r) seq (i % 2 ^ 32) (foSsrc r) false (s.packetBody r i)
      let s := { s with rnd := { s.rnd with pktNext := tabSet 0 s.rnd.pktNext entry (k + 1) } }
      s.sendFlow entry 6 r (s.launchTime r i) body)

/-- SADM_RELAY_SEND (R412): the oldest frame that the relay has not sent. -/
def execSadmRelaySend (t entry : Nat) (s : State) : Result :=
  let s := s.at t
  let r := s.flowOut entry
  .next (match s.net.relayed.find? fun f => f.1 == entry with
    | none => s
    | some f =>
      let s := { s with net := { s.net with relayed := s.net.relayed.erase f } }
      if !s.rendering || !frOn r || frKind r != 1 then s
      else
        let up := (2 * s.fixed125 * 90000 + s.fs) / (2 * s.fs)
        (f.2.1.zip (List.range f.2.1.length)).foldl (fun s (b, j) =>
          let seq := tabGet 0 s.net.relaySeq entry
          let s := { s with net := { s.net with relaySeq := tabSet 0 s.net.relaySeq entry ((seq + 1) % 65536) } }
          let last := j + 1 == f.2.1.length
          let pkt := rtpBytes (foPt r) ((seq + foSeq r) % 65536) ((f.2.2 + up) % 2 ^ 32) (foSsrc r) last b
          if s.streams then s.sendFlow entry 5 r 0 pkt else s) s)

end Sys2Proof.Machine
end

