-- ==== Sys2Proof/Machine/Tap.lean ====
section
/-! DEFINITION. The tap engine's instruction set (chapter "Tap Engine Programmer's Model", R222 to R250): a unit's program run word
by word, from its entry to its END. -/

namespace Sys2Proof.Machine

/-- What a program runs on: customer or vendor rights (R225), its slot and words, local SRAM as it stands before the unit, by byte
address, its cycle limit, and the engine's TAP_INJ. -/
structure TapEnv where
  customer : Bool
  slot : Nat
  prog : Nat → Nat
  sram : Nat → Nat
  limit : Nat
  inj : Nat

/-- The region of a byte address (R224): HIST, KERN, COR, PROG, PAIR, PUB, SCRATCH, CUSTOM, SYSV, none. -/
def tapRegion (a : Nat) : Nat :=
  if a < 0x80000 then 0 else if a < 0xA0000 then 1 else if a < 0x220000 then 2 else if a < 0x230000 then 3
  else if a < 0x238000 then 4 else if a < 0x248000 then 5 else if a < 0x258000 then 6 else if a < 0x278000 then 7
  else if a < 0x280000 then 8 else 9

/-- The region that a code of TAP_INJ.REGION names (R256). -/
def injRegion (r : Nat) : Nat := getD' [0, 1, 2, 4, 5] r 9

/-- An armed fault fires: a PARITY fault at a read of the byte address `a`. -/
def injParity (inj a : Nat) : Bool := bits inj 1 0 == 1 && injRegion (bits inj 9 7) == tapRegion a

/-- An armed RESIDUE fault: every check covers all lanes, LANE among them. -/
def injResidue (inj : Nat) : Bool := bits inj 1 0 == 2

/-- The access rights of R225. -/
def tapMay (customer write : Bool) (a : Nat) : Bool :=
  let r := tapRegion a
  if customer then
    if write then r == 6 || r == 7 else r == 0 || r == 1 || r == 5 || r == 6 || r == 7 || (r == 8 && decide (a < 0x278030))
  else if write then r == 2 || r == 4 || r == 5 || r == 6
  else r == 0 || r == 1 || r == 2 || r == 4 || r == 5 || r == 6 || r == 8

/-- One word in execution: the engine before it and after it, the addresses read, the registers that its accumulator and
pointer results land in, whether it is legal so far, the address of a parity fault, and whether a residue check failed. -/
structure TapW where
  c0 : TapCpu
  c : TapCpu
  reads : List Nat
  stores : List (Nat × Nat)
  accs : List (Nat × List Int)
  ok : Bool
  parity : Option Nat
  residue : Bool

/-- The word raises ILLEGAL. -/
def TapW.bad (x : TapW) : TapW := { x with ok := false }

/-- Raise ILLEGAL unless a condition holds. -/
def TapW.need (x : TapW) (b : Bool) : TapW := if b then x else x.bad

/-- The register that a write lands in, for R230. -/
def RegWrite.dest : RegWrite → Nat
  | .reg r _ => r
  | .ptr i _ => 0x10 + i
  | .vec v _ => 32 + v
  | .setB i _ => 48 + i
  | .setL i _ => 56 + i

/-- A result that is visible from `d` words on; two writes to one register at the end of one word are ILLEGAL (R228, R230). -/
def TapW.put (x : TapW) (d : Nat) (w : RegWrite) : TapW :=
  let v := x.c0.word + d
  { x with c := { x.c with pend := x.c.pend ++ [(v, w)] }, ok := x.ok && !x.c.pend.any fun e => e.1 == v && e.2.dest == w.dest }

/-- A new value of an accumulator, visible in the next word. -/
def TapW.acc (x : TapW) (k : Nat) (v : List Int) : TapW :=
  { x with accs := x.accs ++ [(k, v)], ok := x.ok && !x.accs.any fun e => e.1 == k }

/-- A register as 32 bits (R222). -/
def TapCpu.get (c : TapCpu) (r : Nat) : Nat :=
  let v := tabGet 0 c.regs r
  if 0x18 ≤ r then code 32 (signed 22 v) else v

/-- An offset register. -/
def TapCpu.off (c : TapCpu) (j : Nat) : Int := signed 22 (tabGet 0 c.regs (0x18 + j))

/-- A pointer register. -/
def TapCpu.ptr (c : TapCpu) (i : Nat) : Int := ((tabGet 0 c.regs (0x10 + i) : Nat) : Int)

/-- A lane of a vector register, as 32 bits. -/
def TapCpu.lane (c : TapCpu) (v i : Nat) : Nat := tabGet 0 c.v (32 * v + i)

/-- The address that a pointer forms (R232). -/
def TapCpu.circ (c : TapCpu) (i : Nat) (a : Int) : Int :=
  let l : Int := (tabGet 0 c.l i : Nat)
  let b : Int := (tabGet 0 c.b i : Nat)
  if l = 0 then a else b + (a - b) % l

/-- Read the word at an address (R225, R231, R250): held stores and SCRATCH first. -/
def TapW.load (e : TapEnv) (x : TapW) (a : Int) : Nat × TapW :=
  let a' := a.toNat / 4 * 4
  let x := (x.need (decide (0 ≤ a) && tapMay e.customer false a.toNat))
  let v := match tabGet none x.c0.held a' with
    | some v => v
    | none => match tabGet none x.c0.scratch a' with
      | some v => v
      | none => e.sram a' % 2 ^ 32
  (v, { x with reads := a' / 4 :: x.reads, parity := if x.parity.isNone && injParity e.inj a' then some a' else x.parity })

/-- Read 32 lanes, each at its address. -/
def TapW.gather (e : TapEnv) (x : TapW) (f : Nat → Int) : List Nat × TapW :=
  (List.range 32).foldl (fun (r : List Nat × TapW) i => let (v, y) := r.2.load e (f i); (r.1 ++ [v], y)) ([], x)

/-- Write a word at an address: it lands at the end of this word. -/
def TapW.store (e : TapEnv) (x : TapW) (a : Int) (v : Nat) : TapW :=
  let x := x.need (decide (0 ≤ a) && tapMay e.customer true a.toNat)
  { x with stores := x.stores ++ [(a.toNat / 4 * 4, v % 2 ^ 32)] }

/-- A pending base and length take effect, and the pointer's value is trimmed (R233). -/
def TapCpu.settle (c : TapCpu) (i : Nat) (v : Int) : Int × TapCpu :=
  let pb := tabGet none c.pendB i
  let pl := tabGet none c.pendL i
  if pb.isNone && pl.isNone then (v, c)
  else
    let b := pb.getD (tabGet 0 c.b i)
    let l := pl.getD (tabGet 0 c.l i)
    let c := { c with b := tabSet 0 c.b i b, l := tabSet 0 c.l i l, pendB := tabSet none c.pendB i none, pendL := tabSet none c.pendL i none }
    if l ≠ 0 ∧ (v < b ∨ (b : Int) + l ≤ v) then (b + (v - b) % l, { c with sr := c.sr ||| 4, trimmed := true }) else (v, c)

/-- Post-modify a pointer by an offset register (R231 to R233). -/
def TapW.post (x : TapW) (i j : Nat) : TapW :=
  let (p, c) := x.c.settle i (x.c0.ptr i)
  { x with c }.put 1 (.ptr i (code 22 (c.circ i (p + x.c0.off j))))

/-- A write of a base or a length, which is held pending. -/
def RegWrite.isSetc : RegWrite → Bool
  | .setB _ _ => true
  | .setL _ _ => true
  | _ => false

/-- Results that become visible at this word (R228): a SETC visible at a word acts on the updates after it (R233). -/
def TapCpu.land (c : TapCpu) : TapCpu :=
  let now := c.pend.filter fun e => decide (e.1 ≤ c.word)
  let due := now.filter (fun e => !e.2.isSetc) ++ now.filter fun e => e.2.isSetc
  due.foldl (fun c e => match e.2 with
    | .reg r v =>
      if 0x10 ≤ r ∧ r < 0x18 then
        let (p, c) := c.settle (r - 0x10) ((v % 2 ^ 22 : Nat) : Int)
        { c with regs := tabSet 0 c.regs r p.toNat }
      else { c with regs := tabSet 0 c.regs r (if r < 0x10 then v % 2 ^ 32 else v % 2 ^ 22) }
    | .ptr i v => { c with regs := tabSet 0 c.regs (0x10 + i) v }
    | .vec v l => { c with v := tabFill 0 c.v (32 * v) l }
    | .setB i v => { c with pendB := tabSet none c.pendB i (some (v % 2 ^ 22)) }
    | .setL i v => { c with pendL := tabSet none c.pendL i (some (v % 2 ^ 22)) })
    { c with pend := c.pend.filter fun e => decide (c.word < e.1) }

/-! The compute slot (R235, R238, R239, R245). -/

/-- An accumulator's lane. -/
def accLane (a : Tab Int) (k i : Nat) : Int := tabGet 0 a (32 * k + i)

/-- Add into an accumulator: the lanes, modulo 2^80, and whether one overflowed (R235). -/
def TapW.sum (x : TapW) (k : Nat) (clr : Bool) (f : Nat → Int) : TapW :=
  let raw := (List.range 32).map fun i => (if clr then 0 else accLane x.c0.a k i) + f i
  let ovf := raw.any fun v => decide (v < -(2 ^ 79) ∨ 2 ^ 79 ≤ v)
  ({ x with c := { x.c with sr := if ovf then x.c.sr ||| 2 else x.c.sr, ovf := x.c.ovf || ovf, wrote := true } }).acc k (raw.map (keep 80))

/-- The signed value of 32 bits. -/
def sg (v : Nat) : Int := signed 32 v

/-- The compute slot. -/
def tapCompute (e : TapEnv) (w : Nat) (x : TapW) : TapW :=
  let op := bits w 63 58
  let ad := bits w 57 56
  let c := x.c0
  if op = 0 then x.need (bits w 57 32 == 0)
  else if op = 1 ∨ op = 2 then
    let g (i : Nat) : Int := if op = 1 then sg (c.lane (bits w 51 48) i) else sg (c.get (bits w 51 48))
    let p (i : Nat) : Int :=
      let m := sg (c.lane (bits w 55 52) i) * g i * 2 ^ bits w 45 43
      if bit w 47 then -m else m
    (x.need (bits w 42 32 == 0)).sum ad (bit w 46) p
  else if op = 3 then
    let pc := bits w 55 53
    let pd := bits w 49 47
    let (cs, x) := (x.need (bits w 38 32 == 0)).gather e fun i => c.circ pc (c.ptr pc + 4 * i)
    let (ds, x) := x.gather e fun i => c.circ pd (c.ptr pd + 4 * i)
    let x := x.sum ad (bit w 40) fun i => sg (getD' cs i 0) * sg (getD' ds i 0)
    let x := if bit w 39 then
        (List.range 32).foldl (fun x (i : Nat) => x.store e (c.circ pd (c.ptr pd + c.off (bits w 43 41) + 4 * i)) (getD' ds i 0)) x
      else x
    (x.post pc (bits w 52 50)).post pd (bits w 46 44)
  else if op = 4 then
    let px := bits w 47 45
    let pk := bits w 44 42
    let k := bits w 41 39
    let (xs, x) := (x.need (bits w 37 32 == 0)).gather e fun i => c.circ px (c.ptr px + 4 * (sg (c.lane (bits w 55 52) i) - k))
    let (hs, x) := x.gather e fun i => c.circ pk (c.ptr pk + 32 * sg (c.lane (bits w 51 48) i) + 4 * k)
    x.sum ad (bit w 38) fun i =>
      let h := getD' hs i 0
      (if h = 0x80000000 then 2 ^ 31 else sg h) * sg (getD' xs i 0)
  else x.bad

/-! The auxiliary slot (R233, R236, R237, R240, R241, R246). -/

/-- The operations that SALU and VALU share; `none` where FN is reserved. A shift by 32 or more is the engine's own. -/
def tapAlu (fn a b sh : Nat) : Option Nat :=
  let m (v : Int) : Option Nat := some (code 32 v)
  let shift (v : Int) : Option Nat := if sh < 32 then m v else some ((Config.tapShift fn a sh) % 2 ^ 32)
  if fn = 0 then m (sg a + sg b) else if fn = 1 then m (sg a - sg b) else if fn = 2 then some (a &&& b)
  else if fn = 3 then some (a ||| b) else if fn = 4 then some (a ^^^ b)
  else if fn = 5 then shift (sg a * 2 ^ (sh % 32)) else if fn = 6 then shift (sar (sg a) (sh % 32))
  else if fn = 7 then shift ((a / 2 ^ (sh % 32) : Nat) : Int)
  else if fn = 8 then m (min (sg a) (sg b)) else if fn = 9 then m (max (sg a) (sg b))
  else if fn = 10 then m (sg a * sg b) else none

/-- VALU, lane `i` (R246). -/
def tapValu (c : TapCpu) (fn va vb imm i : Nat) : Option Nat :=
  let a := c.lane va i
  let b := c.lane vb i
  if fn = 11 then some (code 32 (sar (sg a * sg b) imm)) else if fn = 12 then some (c.get vb) else if fn = 13 then some i
  else tapAlu fn a b imm

/-- The accumulators that SCA, NARV and STA read: as they stood at the end of word r − 4 (R229). -/
def TapCpu.accOld (c : TapCpu) : Tab Int := getD' c.aOld 3 []

/-- The conversion of R236: the value, and whether the clamp acted. -/
def tapNarrow (a : Int) (sh : Nat) (sat : Bool) : Int × Bool :=
  let v := sar a sh
  if sat then (sat32 v, decide (sat32 v ≠ v)) else (keep 32 v, false)

/-- A check of the residues at an instruction that reads an accumulator (R249). -/
def TapW.check (e : TapEnv) (x : TapW) : TapW := { x with residue := x.residue || injResidue e.inj }

/-- A conversion of every lane of an accumulator. -/
def TapW.narrow (x : TapW) (as sh : Nat) (sat : Bool) : List Int × TapW :=
  let l := (List.range 32).map fun i => tapNarrow (accLane x.c0.accOld as i) sh sat
  (l.map (·.1), { x with c := { x.c with sr := if l.any (·.2) then x.c.sr ||| 1 else x.c.sr } })

/-- The auxiliary slot, but for BR, LOOP and END. -/
def tapAux (e : TapEnv) (w : Nat) (x : TapW) : TapW :=
  let op := bits w 31 26
  let c := x.c0
  let pm (i j : Nat) (on : Bool) (x : TapW) : TapW := if on then x.post i j else x
  let hi := bits w 25 22
  let i3 := bits w 21 19
  let rd := bits w 25 21
  let imm := signed 16 (bits w 15 0)
  if op = 0 then x.need (bits w 25 0 == 0)
  else if op = 1 then
    let (l, x) := (x.need (bits w 14 0 == 0)).gather e fun i => c.circ i3 (c.ptr i3 + 4 * i)
    pm i3 (bits w 18 16) (bit w 15) (x.put 4 (.vec hi l))
  else if op = 2 then
    pm i3 (bits w 18 16) (bit w 15)
      ((List.range 32).foldl (fun x (i : Nat) => x.store e (c.circ i3 (c.ptr i3 + 4 * i)) (c.lane hi i)) (x.need (bits w 14 0 == 0)))
  else if op = 3 then
    let (l, x) := (x.need (bits w 14 0 == 0)).gather e fun i => c.circ i3 (c.ptr i3 + 4 * sg (c.lane (bits w 18 15) i))
    x.put 4 (.vec hi l)
  else if op = 4 then
    let p := bits w 20 18
    let (v, x) := (x.need (bits w 13 0 == 0)).load e (c.circ p (c.ptr p))
    pm p (bits w 17 15) (bit w 14) (x.put 4 (.reg rd v))
  else if op = 5 then
    let p := bits w 20 18
    pm p (bits w 17 15) (bit w 14) ((x.need (bits w 13 0 == 0)).store e (c.circ p (c.ptr p)) (c.get rd))
  else if op = 6 then
    let p := bits w 23 21
    let one (x : TapW) (i : Nat) : TapW :=
      let a := c.circ p (c.ptr p + 16 * i) / 16 * 16
      let v := code 128 (accLane c.accOld (bits w 25 24) i)
      (List.range 4).foldl (fun x (k : Nat) => x.store e (a + 4 * k) (v / 2 ^ (32 * k) % 2 ^ 32)) x
    pm p (bits w 20 18) (bit w 17) ((List.range 32).foldl one ((x.check e).need (bits w 16 0 == 0)))
  else if op = 7 then
    let (l, x) := ((x.check e).need (bits w 12 0 == 0)).narrow (bits w 21 20) (bits w 19 14) (bit w 13)
    x.put Config.tapNarv.toNat (.vec hi (l.map (code 32)))
  else if op = 8 then
    let (t, x) := ((x.check e).need (bits w 9 0 == 0)).narrow (bits w 23 22) (bits w 21 16) (bit w 15)
    x.sum (bits w 25 24) (bit w 10) fun i => getD' t i 0 * sg (c.lane (bits w 14 11) i)
  else if op = 9 then (x.need (bits w 20 16 == 0)).put 2 (.reg rd (code 32 imm))
  else if op = 10 then (x.need (bits w 20 16 == 0)).put 2 (.reg rd (bits w 15 0 * 65536 + c.get rd % 65536))
  else if op = 11 then
    let b := c.get (bits w 15 11)
    match tapAlu (bits w 10 7) (c.get (bits w 20 16)) b b with
    | some v => (x.need (bits w 6 0 == 0)).put 2 (.reg rd v)
    | none => x.bad
  else if op = 12 then x.put 2 (.reg rd (code 32 (sg (c.get (bits w 20 16)) + imm)))
  else if op = 13 then
    let l := (List.range 32).map fun i => tapValu c (bits w 13 10) (bits w 21 18) (bits w 17 14) (bits w 9 5) i
    if l.all Option.isSome then (x.need (bits w 4 0 == 0)).put 2 (.vec hi (l.map fun v => v.getD 0)) else x.bad
  else if op = 14 then
    let v := c.get (bits w 21 17)
    (x.need (bits w 16 0 == 0)).put 2 (if bit w 25 then .setL (bits w 24 22) v else .setB (bits w 24 22) v)
  else if op = 19 then (x.need (bits w 20 0 == 0)).put Config.tapRdsr.toNat (.reg rd c.sr)
  else if op = 20 then
    { x with c := { x.c with sr := x.c.sr &&& (7 - bits w 2 0) } }.need (bits w 25 3 == 0)
  else x.need (op == 16 || op == 17 || op == 18)

/-! Control flow (R240, R241). -/

/-- The test of BR. -/
def tapCond (cond v : Nat) : Option Bool :=
  if cond = 0 then some true else if cond = 1 then some (v == 0) else if cond = 2 then some (v != 0)
  else if cond = 3 then some (decide (sg v < 0)) else if cond = 4 then some (decide (0 ≤ sg v)) else none

/-- The word after `pc`, with the loops that end there (R241). -/
def TapCpu.next (c : TapCpu) : Nat → TapCpu
  | 0 => { c with pc := c.pc + 1 }
  | k + 1 =>
    match c.loops with
    | l :: r =>
      if c.pc ≠ l.last then { c with pc := c.pc + 1 }
      else
        let lc (c : TapCpu) (n : Nat) : TapCpu := if l.lvl = 0 then { c with lc0 := n } else { c with lc1 := n }
        if 1 < l.left then { lc c (l.left - 2) with loops := { l with left := l.left - 1 } :: r, pc := l.first }
        else TapCpu.next { lc c 0 with loops := r } k
    | [] => { c with pc := c.pc + 1 }

/-- How a program stands after a word: it runs on, it has ended, a fault has stopped it (kind, address and lane), or its cycle limit
has (R242). -/
inductive TapOut where
  | run (c : TapCpu)
  | done (c : TapCpu) (commit : Bool)
  | fault (c : TapCpu) (kind addr lane : Nat)
  | overrun (c : TapCpu)

/-- The end of a word: accumulators, stores and stalls (R226, R228, R229, R250). -/
def TapW.close (x : TapW) : TapW :=
  let c := x.c
  let a := x.accs.foldl (fun a e => tabFill 0 a (32 * e.1) e.2) c.a
  let c := { c with a, aOld := (a :: c.aOld).take 4 }
  let c := x.stores.foldl (fun c e =>
    if tapRegion e.1 = 6 then { c with scratch := tabSet none c.scratch e.1 (some e.2) }
    else { c with held := tabSet none c.held e.1 (some e.2) }) c
  let bank := (List.range 128).map fun b => (x.reads.filter fun r => r % 128 == b).length
  let c := { c with stalls := c.stalls + (bank.foldl max 1 - 1), word := c.word + 1 }
  { x with c, ok := x.ok && decide (c.held.length ≤ 8192) }

/-- Where the word at `pc` of a unit's slot lies (R224). -/
def progAddr (slot pc : Nat) : Nat := 0x220000 + 0x1000 * slot + 8 * pc

/-- The engine takes the BUDGET interrupt at this word: it is neither a delay slot nor inside a loop, and with it the unit has run
for more cycles than its limit (R242). -/
def TapCpu.over (c : TapCpu) (limit : Nat) : Bool := c.loops.isEmpty && c.branch.isNone && decide (limit < c.word + c.stalls + 1)

/-- One instruction word (R227 to R247). -/
def tapWord (e : TapEnv) (c : TapCpu) : TapOut :=
  let c := c.land
  let illegal (x : TapCpu) : TapOut := .fault x 3 (progAddr e.slot c.pc) 0
  if c.over e.limit then .overrun c
  else if 512 ≤ c.pc then illegal c
  else
    let w := e.prog c.pc
    let op := bits w 31 26
    let x0 : TapW := { c0 := c, c, reads := [], stores := [], accs := [], ok := true, parity := none, residue := false }
    let x := (tapAux e w (tapCompute e w x0)).close
    let inLoop := !c.loops.isEmpty
    let slot := c.branch.isSome
    let lane := bits e.inj 6 2
    if let some a := x.parity then .fault x.c 1 a 0
    else if x.residue then .fault x.c 2 (progAddr e.slot c.pc) lane
    else if !x.ok then illegal x.c
    else if op = 18 then
      if inLoop || slot || bits w 24 0 != 0 then illegal x.c
      else if x.c.wrote && injResidue e.inj then .fault x.c 2 (progAddr e.slot c.pc) lane
      else .done x.c (bit w 25)
    else if op = 17 then
      let lvl := bits w 25 25
      let first := c.pc + 1
      let last := c.pc + 1 + bits w 14 9
      let n := (if bit w 8 then c.get (bits w 7 3) % 1024 else bits w 24 15) + 1
      let nested := match c.loops with
        | [] => true
        | [l] => l.lvl == 0 && lvl == 1 && decide (last ≤ l.last)
        | _ => false
      if slot || !nested || bits w 2 0 != 0 then illegal x.c
      else
        let c := if lvl = 0 then { x.c with lc0 := n - 1 } else { x.c with lc1 := n - 1 }
        .run { c with loops := { lvl, first, last, left := n } :: c.loops, pc := c.pc + 1 }
    else if op = 16 then
      let target : Int := (c.pc : Int) + 3 + signed 16 (bits w 15 0)
      match tapCond (bits w 25 23) (c.get (bits w 22 18)) with
      | none => illegal x.c
      | some t =>
        if inLoop || bits w 17 16 != 0 || (t && decide (target < 0 ∨ 512 ≤ target)) then illegal x.c
        else if t then .run { x.c with branch := some (target.toNat, 2), pc := c.pc + 1 }
        else match c.branch with
          | some (to', 1) => .run { x.c with branch := none, pc := to' }
          | some (to', k) => .run { x.c with branch := some (to', k - 1), pc := c.pc + 1 }
          | none => .run { x.c with pc := c.pc + 1 }
    else match c.branch with
      | some (to', 1) => .run { x.c with branch := none, pc := to' }
      | some (to', k) => .run { x.c with branch := some (to', k - 1), pc := c.pc + 1 }
      | none => .run (x.c.next 2)

/-- Run a program for at most so many words. -/
def tapRun (e : TapEnv) : Nat → TapCpu → TapOut
  | 0, c => .run c
  | k + 1, c =>
    match tapWord e c with
    | .run c' => tapRun e k c'
    | o => o

/-- A program from its entry to its END, in the words that its budget and the longest hold-off leave it (R242, R243). -/
def tapProgram (e : TapEnv) (entry : Nat) : TapOut := tapRun e 32768 { TapCpu.start with pc := entry }

end Sys2Proof.Machine
end

