-- ==== Sys2Proof/Machine/Kernels.lean ====
section
/-! DEFINITION. What the units of a tick compute (stages 3 to 8 of R16): pair rendering, the summing ring, routing, correction,
pause fade and probe, and the cushion; and the band estimates of calibration (R204). -/

namespace Sys2Proof.Machine

/-- An open tick. -/
def State.openTick (s : State) (n : Nat) : Option OpenTick := s.rnd.open_.find? fun o => o.tick == n

/-- A stage-3-to-5 input of the tick is taken as zero (R17). -/
def OpenTick.mute (o : OpenTick) : Bool := o.mode == .sweep

/-! Pair rendering (R20 to R28, R104, R105). -/

/-- Sample `m` of object `o`'s history window. -/
def State.histAt (s : State) (o : Nat) (m : Int) : Int := tabGet 0 s.rnd.hist (65536 * o + (m % 65536).toNat)

/-- The interpolated sample of object `o` at sample index `m` and delay `d` in Q14.18 (R105). -/
def State.interp (s : State) (o m d : Nat) : Int :=
  let i : Nat := d / 2 ^ 18
  let p := d / 64 % 4096
  sat32 (sar (sumI ((List.range 8).map fun k => imgKernel s.boot.image p k * s.histAt o ((m : Int) - (i : Nat) + 3 - (k : Nat)))) 31)

/-- A value between the start and the end of a tick (R26). -/
def within (a b : Int) (n : Nat) : Int := a + sar ((b - a) * n) 4

/-- The contribution of pair (o, f) to sample `n` of tick `t` (R26, R28). -/
def State.pairTerm (s : State) (t o f n : Nat) : Int :=
  let e := pairAt s.rnd.rate96 s.pan.pairs t o f
  if e.gS = 0 ∧ e.gE = 0 then 0
  else
    let d := within (e.dS * 64 : Nat) (e.dE * 64 : Nat) n
    s.interp o (16 * t + n) d.toNat * within (gainExpand e.gS) (gainExpand e.gE) n

/-- Feeds of one PAIR unit (R18). -/
def pairFeeds (r96 : Bool) : Nat := if r96 then 48 else 96

/-- Objects of one shard (R18). -/
def shardObjs (r96 : Bool) : Nat := if r96 then 8 else 16

/-- Feeds of one shard (R18). -/
def shardFeeds (r96 : Bool) : Nat := if r96 then 12 else 24

/-- A PAIR unit: shard `k`, feed group `g` (R20). -/
def State.runPair (s : State) (o : OpenTick) (k g : Nat) : State :=
  let r96 := s.rnd.rate96
  let nf := pairFeeds r96
  let ps := (List.range nf).foldl (fun t i =>
    let f := nf * g + i
    (List.range 16).foldl (fun t n =>
      let v := if o.mute then 0
        else sumI ((List.range (shardObjs r96)).map fun j => s.pairTerm o.tick (shardObjs r96 * k + j) f n)
      tabSet 0 t (((k * 768 + f) * 16 + n) * 4 + o.tick % 4) v) t) s.rnd.partials
  { s with rnd := { s.rnd with partials := ps } }

/-- The ring converts the render sums of group `g` (R21, R22). -/
def State.runRing (s : State) (t g : Nat) : State :=
  let nf := pairFeeds s.rnd.rate96
  let bs := (List.range nf).foldl (fun b i =>
    let f := nf * g + i
    (List.range 16).foldl (fun b n =>
      let sum := sumI ((List.range 32).map fun k => tabGet 0 s.rnd.partials (((k * 768 + f) * 16 + n) * 4 + t % 4))
      tabSet 0 b ((f * 16 + n) * 4 + t % 4) (sat32 (sar sum 34))) b) s.rnd.buses
  { s with rnd := { s.rnd with buses := bs } }

/-! Routing (R129 to R145). -/

/-- The bed buses of a tick, before alignment (R130). -/
def State.runBeds (s : State) (o : OpenTick) : State :=
  let line := (List.range 128).foldl (fun l b =>
    let c := tabGet BedCtx.reset o.obj.beds b
    (List.range 16).foldl (fun l n =>
      let m := 16 * o.tick + n
      tabSet 0 l (16384 * b + m % 16384) (sat32 (mulQ31 (tabGet 0 s.rnd.bedHist (65536 * b + m % 65536)) (c.gain.val m)))) l) s.rte.bedLine
  { s with rte := { s.rte with bedLine := line } }

/-- What routing reads in a tick. -/
def State.routeIn (s : State) (o : OpenTick) : RouteIn :=
  { r96 := s.rnd.rate96, tick := o.tick,
    bus := fun b n =>
      let m := 16 * o.tick + n
      if b < 0x300 then tabGet 0 s.rnd.buses ((b * 16 + n) * 4 + o.tick % 4)
      else if o.mute then 0
      else if b < 0x400 then
        sar (tabGet 0 s.rte.bedLine (16384 * (b - 0x300) + (m + 16384 - tabGet 3 o.rte.align (b - 0x300)) % 16384)) 3
      else sar (s.histAt (b - 0x400) ((m : Int) - 3)) 3
    gain := fun bank i m => (tabGet (Ramp.at 0) o.rte.gains (16384 * bank + i)).val m
    scl := imgScl s.boot.image
    mkp := imgMkp s.boot.image
    hasLayout := fun f => s.layouts.any fun r => decide (r.count ≠ 0 ∧ r.method ≠ 0 ∧ r.first ≤ f ∧ f < r.first + r.count) }

/-- The state of routing before a unit. -/
def State.routeRun (s : State) : RouteRun :=
  { scale := s.rte.scale, target := s.rte.target, lines := s.rte.lines, nodeOut := s.rte.nodeOut, rescale := false, sat := false }

/-- Change an open tick. -/
def State.onOpen (s : State) (n : Nat) (f : OpenTick → OpenTick) : State :=
  { s with rnd := { s.rnd with open_ := s.rnd.open_.map fun o => if o.tick = n then f o else o } }

/-- Routing after a unit; saturations of one tick count once (R159). -/
def State.putRoute (s : State) (t : Nat) (r : RouteRun) : State :=
  let first := r.sat && !(s.openTick t).any (·.rteSat)
  let s := if r.sat then s.onOpen t fun o => { o with rteSat := true } else s
  let evt := setBitIf r.rescale (setBitIf r.sat s.rte.evt 0) 1
  { s with rte := { s.rte with scale := r.scale, target := r.target, lines := r.lines, nodeOut := r.nodeOut, evt
                               satCnt := if first then s.rte.satCnt + 1 else s.rte.satCnt } }

/-- The route program of a bank in a tick. -/
def OpenTick.prog (o : OpenTick) (b : Nat) : Memory := if b = 0 then o.rte.prog0 else o.rte.prog1

/-- Where the feed input of a feed stands that a bank's program writes in a tick. -/
def feedKey (t b f : Nat) : Nat := 16 * (2048 * (t % 4) + 1024 * b + f)

/-- The crosspoint's sources: slot and bus, in ascending slots (R134). -/
def xpSources (r : RteSt) : List (Nat × Nat) :=
  (List.range 128).filterMap fun i => let b := tabGet 0xFFFF r.xpSrc i; if b = 0xFFFF then none else some (i, b)

/-- A GRAPH unit in crosspoint mode: every feed of shard `k` (R136). -/
def State.runXp (s : State) (o : OpenTick) (k : Nat) : State :=
  let x := s.routeIn o
  let nf := shardFeeds s.rnd.rate96
  let srcs := xpSources o.rte
  let (out, r) := (List.range nf).foldl (fun (a : Tab Int × RouteRun) i =>
    let f := nf * k + i
    let dst := (List.range 128).find? fun d => tabGet 0xFFFF o.rte.xpDst d == f
    let (l, r) := xpFeed x srcs dst f a.2
    (tabFill 0 a.1 (feedKey o.tick 0 f) l, r)) (s.rte.feedOut, s.routeRun)
  { s with rte := { s.rte with feedOut := out } }.putRoute o.tick r

/-- A GRAPH unit in graph mode: segment `g` of a bank's program (R145). -/
def State.runSeg (s : State) (o : OpenTick) (bank g : Nat) : State :=
  let x := s.routeIn o
  let fresh := o.rte.fresh == some (bank, o.tick)
  let (outs, r) := graphSeg x bank fresh (segCode (o.prog bank) g) none [] s.routeRun
  let out := outs.foldl (fun t e => tabFill 0 t (feedKey o.tick bank e.1) e.2) s.rte.feedOut
  { s with rte := { s.rte with feedOut := out } }.putRoute o.tick r

/-- The banks whose programs run in a tick: the current one, and during a route hinge the other (R149). -/
def OpenTick.banks (o : OpenTick) : List Nat :=
  if !o.rte.graph then [0] else if o.rte.hinge.isSome then [o.rte.bank, 1 - o.rte.bank] else [o.rte.bank]

/-- The feed input of a feed by one bank's program (R135, R145), and whether a conversion saturated. -/
def State.bankInput (s : State) (o : OpenTick) (bank f : Nat) : List Int × Bool :=
  if !o.rte.graph || (routeOuts (o.prog bank)).contains f then
    ((List.range 16).map fun n => tabGet 0 s.rte.feedOut (feedKey o.tick bank f + n), false)
  else
    let l := (List.range 16).map (passFeed (s.routeIn o) f)
    (l.map (·.1), l.any (·.2))

/-- The feed input of a feed: during a route hinge the cross-fade of both programs' (R149). -/
def State.feedInput (s : State) (o : OpenTick) (f : Nat) : List Int × State :=
  let (a, fa) := s.bankInput o (o.banks.headD 0) f
  let (b, fb) := match o.rte.hinge with
    | some _ => s.bankInput o (1 - o.rte.bank) f
    | none => (a, false)
  let mix := match o.rte.hinge with
    | some h => ((a.zip b).zip (List.range 16)).map fun (p, n) => hingeMix p.1 p.2 (16 * (o.tick - h.start) + n) h.fade
    | none => a
  (mix, if fa || fb then s.putRoute o.tick { s.routeRun with sat := true } else s)

/-! Pause fade and probe (R43, R194 to R198, R217, R320). -/

/-- W(s, c) of R320. -/
def randWord (seed stream c : Nat) : Nat :=
  let m := 2 ^ 64
  let z := ((seed ^^^ (stream * 2 ^ 48)) + (c + 1) * 0x9E3779B97F4A7C15) % m
  let z := (z ^^^ (z / 2 ^ 30)) * 0xBF58476D1CE4E5B9 % m
  let z := (z ^^^ (z / 2 ^ 27)) * 0x94D049BB133111EB % m
  (z ^^^ (z / 2 ^ 31)) % 2 ^ 32

/-- e_f[m] (R194). -/
def excite (seed f m : Nat) : Int := if bit (randWord seed (0x600 + f) (m / 32)) (m % 32) then 2 ^ 28 else -(2 ^ 28)

/-- One sample through filter `b` of CAL_BANDTAB. -/
def bandStep (img : Memory) (r96 : Bool) (b : Nat) (q : Biq) (x : Int) : Int × Biq :=
  let c := imgBand img r96 b
  let (y, q', _) := biqStep (c 0) (c 1) (c 2) (c 3) (c 4) q x
  (y, q')

/-- A band filter over a run of samples: outputs, and the state after it. -/
def bandRun (img : Memory) (r96 : Bool) (b : Nat) (q : Biq) (xs : List Int) : List Int × Biq :=
  let r := xs.foldl (fun (a : List Int × Biq) x => let (y, q) := bandStep img r96 b a.2 x; (y :: a.1, q)) ([], q)
  (r.1.reverse, r.2)

/-- u_b over `n` samples from sample index `m`, with the filter's state before it (R195). -/
def probeBand (img : Memory) (r96 : Bool) (seed f b m n : Nat) (q : Biq) : List Int × Biq :=
  bandRun img r96 b q ((List.range n).map fun k => excite seed f (m + k))

/-- The state of the probe's filter `b` at sample index `m`, from its block boundary on (R195). -/
def probeState (img : Memory) (r96 : Bool) (seed f b m : Nat) : Biq :=
  let n := m % blockLen r96
  (probeBand img r96 seed f b (m - n) n .zero).2

/-- X_b (R187). -/
def xBand (r96 : Bool) (b : Nat) : Int :=
  getD' (if r96 then [-2731, -2735, -2434, -2133, -1832, -1531, -1230, -55]
         else [-2430, -2434, -2133, -1832, -1531, -1230, -929, -117]) b 0

/-- ℓ_b of a tick's filter outputs (R196). -/
def bandLevel (ys : List Int) : Int :=
  let e := sumN (ys.map fun y => (y * y).toNat)
  if e = 0 then -20000 else milliLog e (16 * 2 ^ 56)

/-- P_b(N) from the levels of this tick and the one before (R196, R197, R217). -/
def probeTarget (pol : CalPolicy) (sweep : Option Int) (r96 : Bool) (b : Nat) (l0 l1 : Int) : Int :=
  let t := match sweep with
    | some lev => lev - 903
    | none => min (min l1 l0 - getD' pol.k b 0 - pol.margin) (pol.ceil - 903)
  if t < -11000 then 0 else probeGain (t - xBand r96 b)

/-- A sample of the probe lane (R197), and whether it was clamped at PEAK. -/
def probeSample (peak : Int) (p0 p1 us : List Int) (n : Nat) : Int × Bool :=
  let a := sumI ((List.range 8).map fun b => within (getD' p0 b 0) (getD' p1 b 0) n * getD' us b 0)
  let v := sat32 (sar a 28)
  (clampI (-peak) peak v, decide (v < -peak ∨ peak < v))

/-- The level L at sample `n` of the tick (R43). -/
def OpenTick.levelAt (o : OpenTick) (n : Nat) : Nat :=
  match o.dir with
  | .down => o.level - (n + 1)
  | .up => min 64 (o.level + n + 1)
  | .hold => o.level

/-- The pause fade of one sample (R43, R25). -/
def pauseFade (l : Nat) (x : Int) : Int := if l = 64 then x else sat32 (sar (x * (l * 2 ^ 25 : Nat)) 31)

/-- The pause fade over the tick's samples (R43). -/
def OpenTick.fade (o : OpenTick) (l : List Int) : List Int := (l.zip (List.range 16)).map fun (x, n) => pauseFade (o.levelAt n) x

/-- The pause fade moves or holds the level below 64 in the tick (R43). -/
def OpenTick.fading (o : OpenTick) : Bool := (List.range 16).any fun n => o.levelAt n != 64

/-- A probe runs on the feed in this tick (R198, R199, R215): in PAUSED only while the fade of a pause entered from LIVE_PROBE runs. -/
def OpenTick.probes (o : OpenTick) (c : CalFeed) : Bool :=
  (o.mode == .liveProbe || o.mode == .sweep || (o.mode == .paused && o.halted && o.dir == .down)) && !c.stopped
    && (tabGet CapChan.reset o.cal.caps c.cap).live

/-- The tick's probe samples of the feed are faded or zeroed by a pause of probing (R202, R215). -/
def OpenTick.probePaused (o : OpenTick) (c : CalFeed) : Bool :=
  o.halted || c.stopped || !(tabGet CapChan.reset o.cal.caps c.cap).live || (o.mode == .liveProbe && o.fading)

/-- The probe gains that tick `t` left for the next. -/
def State.lastProbe (s : State) (f t : Nat) : List Int :=
  match tabGet none s.cal.probes (65536 * f + t % 65536) with
  | some p => if p.tick = t then p.p else List.replicate 8 0
  | none => List.replicate 8 0

/-- The probe lane of a feed in a tick, before the pause fade (R194 to R198). -/
def State.runProbe (s : State) (o : OpenTick) (f : Nat) (prog : List Int) : List Int × State :=
  let t := o.tick
  let r96 := s.rnd.rate96
  let img := s.boot.image
  let p0 := s.lastProbe f (t - 1)
  let c? := tabGet none o.cal.feeds f
  if c?.isNone && p0.all (· == 0) then (List.replicate 16 0, s)
  else
    let blk := (16 * t) % blockLen r96 == 0
    let r0 : CalRun := match tabGet none s.cal.run f with
      | some r => if r.last + 1 = t then (if blk then { r with exc := List.replicate 8 .zero } else r)
        else { last := t, mask := List.replicate 8 .zero, exc := (List.range 8).map fun b => probeState img r96 s.twn.seed f b (16 * t),
               ell := List.replicate 8 (-20000) }
      | none => { last := t, mask := List.replicate 8 .zero, exc := (List.range 8).map fun b => probeState img r96 s.twn.seed f b (16 * t),
                  ell := List.replicate 8 (-20000) }
    let ms := (List.range 8).map fun b => bandRun img r96 b (getD' r0.mask b .zero) (prog.map fun x => sar x 3)
    let es := (List.range 8).map fun b => probeBand img r96 s.twn.seed f b (16 * t) 16 (getD' r0.exc b .zero)
    let ell := ms.map fun m => bandLevel m.1
    let p1 := match c? with
      | some c =>
        if o.probes c then (List.range 8).map fun b =>
          probeTarget o.cal.policy (if o.mode = .sweep then some o.cal.level else none) r96 b (getD' r0.ell b 0) (getD' ell b 0)
        else List.replicate 8 0
      | none => List.replicate 8 0
    let out := (List.range 16).map fun n => probeSample s.cal.peak p0 p1 (es.map fun e => getD' e.1 n 0) n
    let clips := (out.filter (·.2)).length
    let faded := c?.any o.probePaused
    let run : CalRun := { last := t, mask := ms.map Prod.snd, exc := es.map Prod.snd, ell }
    let s := { s with cal := { s.cal with
      run := tabSet none s.cal.run f (if c?.isSome then some run else none)
      probes := tabSet none s.cal.probes (65536 * f + t % 65536) (some { tick := t, prev := p0, p := p1, faded, swept := o.mode == Mode.sweep })
      clipCnt := s.cal.clipCnt + wd clips, evt := setBitIf (clips != 0) s.cal.evt 8 } }
    (out.map (·.1), match s.calFeed f with
      | some c => s.setCalFeed f (some { c with p := p1 })
      | none => s)

/-! Correction (R160 to R183). -/

/-- The probe lane passes unfaded in SWEEP, and in the tick over which the probe ramps to zero after it (R198, R216, R217): PAUSED
rests at level 0, and the tick before did not fade the probe. -/
def State.probeClear (s : State) (o : OpenTick) (f : Nat) : Bool :=
  o.mode == .sweep || (o.mode == .paused && o.dir == .hold
    && (tabGet none s.cal.probes (65536 * f + (o.tick - 1) % 65536)).any fun p => p.tick + 1 == o.tick && p.swept)

/-- The feed's samples enter the cushion, after the pause fade and with the probe (stages 7 and 8 of R16). -/
def State.finishFeed (s : State) (o : OpenTick) (f : Nat) (prog : List Int) : State :=
  let (probe, s) := s.runProbe o f prog
  let b : CushBlk := { prog := o.fade prog, probe := if s.probeClear o f then probe else o.fade probe }
  { s with rnd := { s.rnd with cushion := tabSet none s.rnd.cushion (4 * f + o.tick % 4) (some (o.tick, b)) } }

/-- A conversion of R166 has saturated; saturations of one tick count once (R186). -/
def State.corSat (s : State) (t : Nat) (sat : Bool) : State :=
  if !sat then s
  else
    let first := !(s.openTick t).any (·.corSat)
    let s := s.onOpen t fun o => { o with corSat := true }
    { s with cor := { s.cor with evt := setBit s.cor.evt 0, satCnt := if first then s.cor.satCnt + 1 else s.cor.satCnt } }

/-- A feed's samples after its gain, each with whether it saturated (R165, R166). -/
def OpenTick.gained (o : OpenTick) (f : Nat) (ys : List Int) : List (Int × Bool) :=
  let g := (tabGet FeedCor.reset o.cor.feeds f).gain
  (ys.zip (List.range 16)).map fun (y, n) => gainOut g (16 * o.tick + n) y

/-- The gain stage of a feed (R165): its samples over the tick. -/
def State.gainFeed (s : State) (o : OpenTick) (f : Nat) (ys : List Int) : State :=
  let l := o.gained f ys
  (s.corSat o.tick (l.any (·.2))).finishFeed o f (l.map (·.1))

/-- The tick's chain outputs of a feed. -/
def chainKey (t f : Nat) : Nat := 16 * (1024 * (t % 4) + f)

/-- The bank that fades in at this tick starts at rest (R176). -/
def FeedCor.startOf (c : FeedCor) (t : Nat) : FeedCor :=
  if c.hinge.any fun h => h.start == t then c.clearBiq (1 - c.bank) else c

/-- A feed's chain state with the biquads that the shadow holds (R35): what an engine that takes over the feed works on. -/
def State.shadowOf (s : State) (f : Nat) (c : FeedCor) : FeedCor :=
  match tabGet none s.cor.shadow f with
  | some x => { c with biq0 := x.biq0, biq1 := x.biq1 }
  | none => c

/-- The chain of a feed (stages 1 to 4 of R160) over tick `o`, from the state `c`: its outputs, the state it leaves, and whether a
conversion saturated. -/
def OpenTick.chain (o : OpenTick) (r96 : Bool) (line : Tab Int) (f : Nat) (c : FeedCor) : List Int × FeedCor × Bool :=
  chainTick r96 o.cor.longMask o.cor.records line f o.tick (c.startOf o.tick)

/-- A COR unit's own chain: the delay line, the chain outputs and the biquads, which `shadow` takes from the DRAM shadow; the commit
writes the shadow (R35), which keeps the state entering the tick too (R322). -/
def State.runChain (s : State) (o : OpenTick) (shadow : Bool) (f : Nat) : State :=
  let (xs, s) := s.feedInput o f
  let line := (xs.zip (List.range 16)).foldl (fun l (x, n) => lineSet s.rnd.rate96 l f (16 * o.tick + n) x) s.cor.line
  let live := if shadow then s.shadowOf f (s.feedCor f) else s.feedCor f
  let c : FeedCor := { tabGet FeedCor.reset o.cor.feeds f with biq0 := live.biq0, biq1 := live.biq1 }
  let (ys, c', sat) := o.chain s.rnd.rate96 line f c
  let s := { s with cor := { s.cor with line, chain := tabFill 0 s.cor.chain (chainKey o.tick f) ys
                                        shadow := tabSet none s.cor.shadow f (some c')
                                        entering := tabSet none s.cor.entering (4 * f + o.tick % 4) (some (o.tick, c)) } }
  (s.onFeedCor f fun x => { x with biq0 := c'.biq0, biq1 := c'.biq1 }).corSat o.tick sat

/-- The chain outputs of a tick, as the fold sum reads them. -/
def State.chainOf (s : State) (t : Nat) : Tab Int := (s.cor.chain.filter fun e => e.1 / 16384 == t % 4).map fun e => (e.1 % 16384, e.2)

/-- A COR unit (R160, R170 to R172): the chain, and the feed samples of every feed that it completes. `done` tells which COR
units of the tick have ended before. -/
def State.runCor (s : State) (o : OpenTick) (shadow : Bool) (f : Nat) (done : Nat → Bool) : State :=
  let zero := List.replicate 16 (0 : Int)
  if isAbsorbed o.cor.longMask f then s.finishFeed o f zero
  else
    let s := s.runChain o shadow f
    let s := if isLong o.cor.longMask f then s.finishFeed o (f + 1) zero else s
    match foldOf o.cor.folds f with
    | none => s.gainFeed o f ((List.range 16).map fun n => tabGet 0 s.cor.chain (chainKey o.tick f + n))
    | some (_, g) =>
      let s := if f = g.target then s else s.finishFeed o f zero
      let all := g.target :: g.members
      if !all.all fun x => x == f || done x then s
      else
        let l := (List.range 16).map fun n => foldSum (s.chainOf o.tick) all n
        (s.corSat o.tick (l.any (·.2))).gainFeed o g.target (l.map (·.1))

/-! Band estimates (R201 to R207). -/

/-- The lag window W (R201). -/
def lagWindow (r96 : Bool) : Nat := if r96 then 8192 else 4096

/-- The first and the past-the-end capture index that a block of a feed reads (R201, R202). -/
def blockRange (r96 : Bool) (c : CalFeed) (block : Nat) : Nat × Nat :=
  (block * blockLen r96 + c.lagLo, (block + 1) * blockLen r96 + c.lagLo + lagWindow r96 - 1)

/-- Capture sample at an index, where it is stored and has not left the history (R200). -/
def State.capSample (s : State) (ch m : Nat) : Option Int :=
  match tabGet none s.cal.samples (2 ^ 20 * ch + m % 2 ^ 20) with
  | some (i, v) => if i = m ∧ s.sampleNow < m + s.capHist then some v else none
  | none => none

/-- The first capture sample of a block has left the history (R203). -/
def State.blockLost (s : State) (c : CalFeed) (block : Nat) : Bool :=
  decide ((blockRange s.rnd.rate96 c block).1 + s.capHist ≤ s.sampleNow)

/-- A block has been estimated, rejected or abandoned: it is not dealt with again. -/
def State.endBlock (s : State) (f block : Nat) : State :=
  let s := { s with cal := { s.cal with aligned := s.cal.aligned.filter (· != (f, block)) } }
  match s.calFeed f with
  | some c => s.setCalFeed f (some { c with ended := c.ended ++ [block] })
  | none => s

/-- A block is abandoned (R203). -/
def State.abandonBlock (s : State) (f block : Nat) : State :=
  ({ s with cal := { s.cal with abandonCnt := s.cal.abandonCnt + 1 } }.endBlock f block).calEvt 5

/-- The source sample index of output index `m` (R29): the probe of a tick leaves as the tick's own samples do. -/
def State.outToSource (s : State) (m : Nat) : Nat := m - s.fixed125

/-- The terms p_b[m] of band `b` over the output indices `[m0, m0 + n)` (R197, R204), regenerated. -/
def State.probeTerms (s : State) (f b m0 n : Nat) : List Int :=
  let r96 := s.rnd.rate96
  let j0 := s.outToSource m0
  let u (j : Nat) : Int :=
    let (l, _) := probeBand s.boot.image r96 s.twn.seed f b (j - j % blockLen r96) (j % blockLen r96 + 1) .zero
    l.getLast?.getD 0
  (List.range n).map fun k =>
    let j := j0 + k
    match tabGet none s.cal.probes (65536 * f + j / 16 % 65536) with
    | some p => if p.tick = j / 16 then within (getD' p.prev b 0) (getD' p.p b 0) (j % 16) * u j else 0
    | none => 0

/-- Σ h_b² over a list of squares with a common denominator. -/
def sumSq (l : List Int) : Nat := sumN (l.map fun c => (c * c).toNat)

/-- The estimates of a block (R204): τ_pk, and for each band R_b and Q_b where there is an estimate; without
residue Q_b has no value. -/
def State.estimate (s : State) (f ch lagLo block : Nat) : Nat × List (Option (Int × Option Int)) :=
  let r96 := s.rnd.rate96
  let n := blockLen r96
  let w := lagWindow r96
  let m0 := block * n
  let ps := (List.range 8).map fun b => s.probeTerms f b m0 n
  let cor (b τ : Nat) : Int := sumI (((getD' ps b []).zip (List.range n)).map fun (p, k) => p * (s.capSample ch (m0 + k + τ)).getD 0)
  let taus := (List.range w).map (lagLo + ·)
  let hs := (List.range 8).map fun b => taus.map (cor b)
  let den := ps.map sumSq
  -- Σ_b h_b² on the common denominator of every band's squared denominator
  let prod (l : List Nat) : Nat := l.foldl (fun a d => a * max 1 d * max 1 d) 1
  let tot (i : Nat) : Nat := sumN ((List.range 8).map fun b =>
    let d := getD' den b 0
    if d = 0 then 0 else ((getD' (getD' hs b []) i 0) ^ 2).toNat * (prod den / (d * d)))
  let pk := ((List.range w).foldl (fun (a : Nat × Nat) i => if a.2 < tot i then (i, tot i) else a) (0, tot 0)).1
  let from0 := min (pk - w / 64) (w - w / 4)
  let band (b : Nat) : Option (Int × Option Int) :=
    let d := getD' den b 0
    let h := getD' hs b []
    let er := sumSq ((h.drop from0).take (w / 4))
    let rest := sumSq (h.take from0) + sumSq (h.drop (from0 + w / 4))
    if d = 0 || 3 * er ≤ rest then none
    else some (milliLog ((3 * er - rest) * 2 ^ 56) (3 * d * d), if rest = 0 then none else some (milliLog (3 * er) rest))
  (lagLo + pk, (List.range 8).map band)

/-- What is computed of an estimate lies within ±2 of it (R205). -/
def State.near2 (s : State) (x : Int) : Int × State := s.freeRange (x - 2) (x + 2)

/-- R̄_b of the window of band `b` at boundary `n`, where it qualifies for a baseline that waits from boundary `b0` on (R207). -/
def State.baseWindow (s : State) (c : CalFeed) (b n b0 : Nat) : Option Int :=
  let pol := s.cal.policy
  let w := s.calWindow c b n
  let (r, q) := calStats w
  if w.length = pol.navg && w.all (fun e => decide (16 * b0 ≤ e.block * blockLen s.rnd.rate96)) && decide (pol.confMin ≤ q) then some r
  else none

/-- Each band that waits for a baseline takes it from its first full window (R207). -/
def State.baseFromWindow (s : State) (f n : Nat) : State :=
  match s.calFeed f with
  | none => s
  | some c =>
    let l := (List.range 8).map fun b => match getD' c.basePend b none with
      | some b0 => match s.baseWindow c b n b0 with
        | some r => (some r, none)
        | none => (getD' c.ref b none, some b0)
      | none => (getD' c.ref b none, none)
    s.setCalFeed f (some { c with ref := l.map (·.1), basePend := l.map (·.2) })

/-- The baselines that wait, at boundary `n`. -/
def State.runBases (s : State) (n : Nat) : State :=
  ((s.cal.feeds.filter fun e => e.2.any fun c => c.basePend.any Option.isSome).map (·.1)).foldl (fun s f => s.baseFromWindow f n) s

/-- An estimation unit commits (R204, R206). -/
def State.runEst (s : State) (f block : Nat) : State :=
  match s.calFeed f with
  | none => s
  | some c =>
    if !s.cal.aligned.contains (f, block) || c.stopped then s
    else if s.blockLost c block then s.abandonBlock f block
    else
      let (lag, es) := s.estimate f c.cap c.lagLo block
      let s := { s with cal := { s.cal with blockCnt := s.cal.blockCnt + 1 } }.endBlock f block
      let (est, s) := ((c.est.zip es).foldl (fun (a : List (List CalEst) × State) (old, e) =>
        match e with
        | none => (a.1 ++ [old], a.2)
        | some (r, q) =>
          let (r', s) := a.2.near2 r
          let (q', s) := match q with
            | some q => s.near2 q
            | none => s.freeRange (-32768) 32767
          (a.1 ++ [if s.cal.policy.qblk ≤ q' then { block, r := r', q := q' } :: old else old], s)) ([], s))
      s.setCalFeed f (some { c with est, arrival := some lag, ended := c.ended ++ [block] })

end Sys2Proof.Machine
end

