-- ==== Sys2Proof/Machine/Check.lean ====
section
/-! DEFINITION. The per-tick check of the twins, its verdicts, and how a join succeeds or fails (chapter "Twin Operation over the
Hasp", R317, R321 to R326). -/

namespace Sys2Proof.Machine

/-- The records that have been applied at or before the start of tick `n` (R317); one behind a gap has not. -/
def State.appliedUp (s : State) (n : Nat) : State :=
  let t := s.twn
  let done := t.inbox.filter fun m => decide (m.tick ≤ n ∧ m.mseq < t.nextMseq)
  { s with twn := { t with appliedHi := done.foldl (fun h m => max h m.mseq) t.appliedHi
                           mirrorCnt := t.mirrorCnt + wd done.length
                           inbox := t.inbox.filter fun m => decide (n < m.tick ∨ t.nextMseq ≤ m.mseq) } }

/-- C_f of a tick from C_f of the tick before and the feed's two lanes (R321). -/
def checkCrc (prev : Word) (b : CushBlk) : Word := crc32c (leB 4 prev.toNat ++ (b.prog ++ b.probe).flatMap (leI 4))

/-- Both lanes of a feed in tick `n`, while the cushion holds them. -/
def State.lanes? (s : State) (f n : Nat) : Option CushBlk :=
  match tabGet none s.rnd.cushion (4 * f + n % 4) with
  | some (m, b) => if m = n then some b else none
  | none => none

/-- Both lanes of a feed in tick `n`, as committed. -/
def State.lanes (s : State) (f n : Nat) : CushBlk :=
  (s.lanes? f n).getD { prog := List.replicate 16 0, probe := List.replicate 16 0 }

/-- A checking twin keeps a tick that completes, with every C_f before it, for R322. -/
def State.keepTick (s : State) (o : OpenTick) : State :=
  if !s.twn.checking then s
  else
    let before := (List.range (feedCount s.rnd.rate96)).map (tabGet 0 s.twn.crc)
    { s with rnd := { s.rnd with kept := ((o, before) :: s.rnd.kept).take 4 } }

/-- The CHECK of tick `n` (R321). -/
def State.checkOf (s : State) (n : Nat) : Check :=
  { tick := n, crcs := (List.range (feedCount s.rnd.rate96)).map fun f => checkCrc (tabGet 0 s.twn.crc f) (s.lanes f n),
    appliedHi := s.twn.appliedHi, gap := s.twn.gaps.contains n }

/-- The running CRCs take in a tick. -/
def State.keepCheck (s : State) (c : Check) : State :=
  { s with twn := { s.twn with crc := tabFill 0 s.twn.crc 0 c.crcs, gaps := s.twn.gaps.filter fun g => decide (c.tick < g) } }

/-- The checks end, with the stream of records that they belong to. -/
def State.endChecks (s : State) : State :=
  { s with twn := { s.twn with checking := false, crc := [], gaps := [], mine := [], theirs := [], verdict := none, peerVerdict := none,
                               unacked := [], inbox := [] }
           rnd := { s.rnd with joinSnap := none, kept := [] } }

/-- A join fails (R326): the joiner returns to SEEKING, and tries again 10 s later with AUTO_JOIN; the decider goes on alone. -/
def State.joinFail (s : State) : State :=
  if s.twn.join.isNone && s.twn.state != .joining then s
  else
    let s := (s.twnEvt 8).endChecks
    if s.twn.decider then { s with twn := { s.twn with join := none } }
    else { s with twn := { s.twn with join := none, state := .seeking, joinReq := false,
                                      retryAt := if s.twn.autoJoin then some (s.now + 10000000000) else none } }

/-! Verdicts (R322). -/

/-- A verdict has been acted on. -/
def State.judged' (s : State) : State := { s with twn := { s.twn with verdict := none, peerVerdict := none } }

/-- This twin yields because the twins differ and neither finds a fault of its own, or its partner does. -/
def State.diverged (s : State) (yields : Bool) : State :=
  let s := s.twnEvt 4
  if yields then s.decideYield 7 else s

/-- What a twin does once it knows what step 4 asks for; `force` is the end of the decider's wait. -/
def State.actOnVerdict (s : State) (force : Bool) : State :=
  match s.twn.verdict with
  | none => s
  | some (n, clean, _) =>
    let peer : Option Bool := match s.twn.peerVerdict with
      | some (m, c) => if m = n then some c else none
      | none => none
    if !s.twn.decider then
      if !clean then (s.decideYield 6).judged'
      else match peer with
        | some c => (if c then s.diverged true else s).judged'
        | none => s
    else match peer with
      | some c => (if clean then (if c then s.diverged false else s) else (if c then s.decideYield 6 else s)).judged'
      | none => if !force then s else (if clean then s else s.decideYield 6).judged'

/-- The programme lane of a feed in a completed tick, executed again from the shadow's feed inputs and the chain state entering the
tick (R322); `none` where the shadow no longer holds that state. -/
def State.remake (s : State) (o : OpenTick) (f : Nat) : Option (List Int) :=
  let zero := List.replicate 16 (0 : Int)
  if isAbsorbed o.cor.longMask f then some zero
  else match tabGet none s.cor.entering (4 * f + o.tick % 4) with
    | none => none
    | some (t, c) =>
      if t ≠ o.tick then none
      else
        let ys := (o.chain s.rnd.rate96 s.cor.line f c).1
        let out (g : Nat) (l : List Int) : Option (List Int) := some (o.fade ((o.gained g l).map (·.1)))
        match foldOf o.cor.folds f with
        | none => out f ys
        | some (_, g) =>
          if f ≠ g.target then some zero
          else
            let chain := tabFill 0 (s.chainOf o.tick) (16 * f) ys
            out f ((List.range 16).map fun n => (foldSum chain (g.target :: g.members) n).1)

/-- Step 2 of R322 on one feed: C_f from the cushion, or the feed's samples executed again, differ from what was committed. -/
def State.refutes (s : State) (o : OpenTick) (before c : Word) (f : Nat) : Bool :=
  match s.lanes? f o.tick with
  | none => false
  | some b => checkCrc before b != c || (s.remake o f).any fun l => l != b.prog

/-- The feeds whose C_f differ in the two CHECKs of a tick. -/
def State.differing (s : State) (a b : Check) : List Nat :=
  (List.range (feedCount s.rnd.rate96)).filter fun f => getD' a.crcs f 0 != getD' b.crcs f 0

/-- The COR units of the feeds are executed again, and counted (R53). -/
def State.countRemade (s : State) (fs : List Nat) : State :=
  if fs.isEmpty then s
  else { s with rnd := { s.rnd with recompCnt := s.rnd.recompCnt + wd fs.length, evt := setBit s.rnd.evt 2 } }

/-- Steps 2 and 3 of R322. -/
def State.findVerdict (s : State) (a b : Check) : State :=
  let fs := s.differing a b
  let wrong := match s.rnd.kept.find? fun e => e.1.tick == a.tick with
    | some (o, before) => fs.any fun f => s.refutes o (getD' before f 0) (getD' a.crcs f 0) f
    | none => false
  let s := s.countRemade fs
  let clean := !(wrong || (a.gap && !b.gap))
  let s := if clean then s
    else { s with intg := { s.intg with evt := setBit s.intg.evt 5, selfCnt := s.intg.selfCnt + 1 } }
  let s := s.sendTwin (.verdict a.tick clean) 12
  { s with twn := { s.twn with verdict := some (a.tick, clean, s.now) } }.actOnVerdict false

/-- The two CHECKs of a tick differ. -/
def State.checkDiffers (s : State) (a b : Check) : State :=
  let s := { s with twn := { s.twn with mismatchCnt := s.twn.mismatchCnt + 1 } }.twnEvt 3
  if s.twn.join.isSome then s.joinFail
  else if s.twn.state != .lockstep || s.intg.yieldPend.isSome || s.twn.verdict.isSome then s
  else if a.crcs == b.crcs && a.gap == b.gap then s.diverged (!s.twn.decider)
  else s.findVerdict a b

/-- The two CHECKs of a tick agree: 64 in a row make a join (R325). -/
def State.checkAgrees (s : State) : State :=
  match s.twn.join with
  | none => s
  | some j =>
    let j := { j with matched := j.matched + 1 }
    let s := { s with twn := { s.twn with join := some j } }
    if j.asDecider && j.g.isNone && decide (64 ≤ j.matched) then
      let g := s.firstCut
      let s := s.mirrorOut g .egress 0
      { s with twn := { s.twn with join := some { j with g := some g } } }
    else s

/-- The CHECKs of tick `n` are compared once both are here. -/
def State.compareChecks (s : State) (n : Nat) : State :=
  match s.twn.mine.find? (fun c => c.tick == n), s.twn.theirs.find? (fun c => c.tick == n) with
  | some a, some b =>
    let s := { s with twn := { s.twn with mine := s.twn.mine.filter fun c => decide (n < c.tick)
                                          theirs := s.twn.theirs.filter fun c => decide (n < c.tick) } }
    if a = b then s.checkAgrees else s.checkDiffers a b
  | _, _ => s

/-- Tick `n` has completed: the CHECK is formed, sent and compared. A joiner sends it once it completes ticks on time (R325). -/
def State.checkTick (s : State) (n : Nat) (onTime : Bool) : State :=
  let s := s.appliedUp n
  if !s.twn.checking then s
  else
    let c := s.checkOf n
    let s := s.keepCheck c
    if s.twn.state = .joining && !onTime && (s.twn.join.any fun j => j.matched == 0) then s
    else
      let s := { s with twn := { s.twn with mine := s.twn.mine ++ [c] } }.sendTwin (.check c) (4 * c.crcs.length + 20)
      s.compareChecks n

end Sys2Proof.Machine
end

