-- ==== Sys2Proof/Machine/Units.lean ====
section
/-! DEFINITION. Work dispatch (chapter "Work Dispatch", R257 to R268): descriptors, admission, what a unit waits on, selection,
and the priority raise. -/

namespace Sys2Proof.Machine

/-! Descriptors (R257, R258). -/

/-- The base level of a kind that is not an output-path unit of level 5 or 6. -/
def kindLevel (k : Nat) : Nat := getD' [5, 5, 5, 2, 4, 4, 7, 1, 0, 2, 3] k 0

/-- A descriptor taken apart. -/
def parseDesc (b : Bytes) : Desc :=
  { seq := 0, kind := rd8 b 4, output := bit (rd8 b 5) 3, level := rd8 b 5 % 8, any := rd8 b 6 == 1, shard := rd8 b 7, tick := rd64 b 8,
    slot := rd8 b 16, entry := rd16 b 18, limit := rd32 b 20, ringmask := rd8 b 24,
    waits := (List.range (rd8 b 25)).map fun i => (rd16 b (28 + 2 * i) / 2048, rd16 b (28 + 2 * i) % 2048),
    key := rd32 b 36, arg := rd64 b 40, raw := b }

/-- A wait names a known event, and its index is in range (R262). -/
def waitOk (w : Nat × Nat) : Bool :=
  match w.1 with
  | 1 => w.2 == 0
  | 2 => w.2 == 0
  | 4 => decide (w.2 < 256)
  | 5 => decide (w.2 < 32)
  | 6 => decide (w.2 < 768)
  | 7 => decide (w.2 < 32)
  | 8 => decide (w.2 < 32)
  | _ => false

/-- A descriptor that R258 does not refuse. -/
def descOk (b : Bytes) : Bool :=
  let d := parseDesc b
  decide (d.kind ≤ 10 ∧ rd8 b 5 < 16 ∧ rd8 b 6 ≤ 1 ∧ d.shard < 32 ∧ d.slot < 16 ∧ rd8 b 17 = 0 ∧ d.entry < 512 ∧ 1 ≤ d.limit)
    && decide (d.limit ≤ 16777215 ∧ rd8 b 25 ≤ 4) && zeroAt b 26 2
    && (if d.kind ≤ 2 then d.output else !d.output && d.level == kindLevel d.kind)
    && (d.kind == 1 || d.any == decide (7 ≤ d.kind)) && d.waits.all waitOk

/-! Events (R262). They are what the state shows of a tick: nothing of its own is kept of a firing. -/

/-- Tick `n` has completed. -/
def State.tickDone (s : State) (n : Nat) : Bool := decide (n ≤ s.tick) && (s.openTick n).isNone

/-- The render slot of tick `n` has opened (R30). -/
def State.slotOpen (s : State) (n : Nat) : Bool :=
  match s.openTick n with
  | some o => o.opened
  | none => decide (n ≤ s.tick)

/-- An output unit of tick `n` has ended: kind and index (PAIR: 8 · shard + group; GRAPH: ARG, or the shard; COR: the feed). -/
def State.unitDone (s : State) (kind idx n : Nat) : Bool := s.tickDone n || s.disp.commits.contains (kind, idx, n)

/-- The GRAPH units of a tick by the index they commit under: segments of each program that runs, the second one from 65,536 on;
in crosspoint mode the shards. -/
def OpenTick.graphUnits (o : OpenTick) : List Nat :=
  if !o.rte.graph then List.range 32
  else ((o.banks.zip (List.range 2)).map fun (b, j) => (List.range (memLE (o.prog b) 0xE 2)).map (65536 * j + ·)).flatten

/-- RING(g) of a tick. -/
def State.ringFired (s : State) (n g : Nat) : Bool := (List.range 32).all fun k => s.unitDone 0 (8 * k + g) n

/-- FEEDIN of a shard: every GRAPH unit of the tick that writes one of its feed inputs has ended. -/
def State.feedinFired (s : State) (o : OpenTick) (sh : Nat) : Bool :=
  o.graphUnits.all fun i =>
    (if o.rte.graph then
      let b := getD' o.banks (i / 65536) 0
      !bit (memLE (o.prog b) (0x30040 + 4 * (i % 65536)) 4) sh
    else i != sh) || s.unitDone 1 i o.tick

/-- The segment of a program that computes a node. -/
def nodeSegment (m : Memory) (node : Nat) : Option Nat :=
  (List.range (memLE m 0xE 2)).find? fun g => (segCode m g).any fun w => riOp w == 2 && riNode w == node

/-- The buses that a GRAPH unit reads: those of its terms and outputs, or, in crosspoint mode, of the sources and of its own feeds. -/
def OpenTick.graphBuses (o : OpenTick) (r96 : Bool) (i : Nat) : List Nat :=
  if o.rte.graph then
    ((segCode (o.prog (getD' o.banks (i / 65536) 0)) (i % 65536)).filter fun w => riOp w == 3 || riOp w == 4).map riSrc
  else (List.range (shardFeeds r96)).map (shardFeeds r96 * i + ·) ++ (xpSources o.rte).map (·.2)

/-- What a GRAPH unit reads of its tick is complete: render buses, and the nodes of the segments before its own (R16, R34). -/
def State.graphInputs (s : State) (o : OpenTick) (i : Nat) : Bool :=
  let bank := getD' o.banks (i / 65536) 0
  (o.graphBuses s.rnd.rate96 i).all fun b =>
    if b < 0x300 then s.ringFired o.tick (b / pairFeeds s.rnd.rate96)
    else if 0x1000 ≤ b then match nodeSegment (o.prog bank) (b - 0x1000) with
      | some g => g == i % 65536 || s.unitDone 1 (65536 * (i / 65536) + g) o.tick
      | none => true
    else true

/-- A feed that no program of the tick writes receives its own render bus (R135, R145). -/
def OpenTick.passes (o : OpenTick) (f : Nat) : Bool :=
  o.rte.graph && o.banks.any fun b => !(routeOuts (o.prog b)).contains f

/-- The feeds of a shard that have COR units which matter: those not absorbed (R170). -/
def State.corFeeds (s : State) (o : OpenTick) (sh : Nat) : List Nat :=
  let n := shardFeeds s.rnd.rate96
  ((List.range n).map (n * sh + ·)).filter fun f => !isAbsorbed o.cor.longMask f

/-- The transform of the bank that the tick's hinge brings in on the feed is done (R179). -/
def State.prepped (s : State) (o : OpenTick) (f : Nat) : Bool :=
  (tabGet FeedCor.reset o.cor.feeds f).lastReq.any fun id => s.cor.prep.contains (id, f)

/-- An event has fired for tick `n`. -/
def State.fired (s : State) (n : Nat) (w : Nat × Nat) : Bool :=
  let (c, i) := w
  if c = 8 then !s.disp.queue.any fun u => u.d.kind == 6 && u.d.shard == i
  else if c = 2 then s.tickDone n || s.pan.ready.any fun r => decide (n ≤ r)
  else if s.tickDone n then true
  else match s.openTick n with
    | none => false
    | some o =>
      if c = 1 then o.opened
      else if c = 4 then o.graphUnits.all fun g => g % 65536 != i || s.unitDone 1 g n
      else if c = 5 then s.feedinFired o i
      else if c = 6 then
        (if (tabGet FeedCor.reset o.cor.feeds i).hinge.any (fun h => h.start == n) then s.prepped o i else o.opened)
      else (s.corFeeds o i).all fun f => s.unitDone 2 f n

/-- A SHADOW_LD unit of the shard is queued. -/
def State.loading (s : State) (sh : Nat) : Bool := !s.fired 0 (8, sh)

/-- The earlier stages have committed what an output unit of a tick reads, and the same unit of the tick before has ended, whose state
it carries on (R16, R33, R34): the bank for PAIR, the buses for GRAPH, the feed inputs and the transform for COR. -/
def State.inputsDone (s : State) (o : OpenTick) (d : Desc) : Bool :=
  let n := o.tick
  if d.kind = 0 then s.fired n (2, 0)
  else if d.kind = 1 then
    let i := if o.rte.graph then d.arg else d.shard
    s.graphInputs o i && (!(s.openTick (n - 1)).any (fun p => p.graphUnits.contains i) || s.unitDone 1 i (n - 1))
  else s.feedinFired o d.shard && s.fired n (6, d.arg)
    && (!o.passes d.arg || s.ringFired n (d.arg / pairFeeds s.rnd.rate96)) && s.unitDone 2 d.arg (n - 1)

/-- A unit may start as the stages of its tick stand (R16, R31, R253): no work but a hinge's preparation and a shadow load starts
before the render slot opens. -/
def State.mayStart (s : State) (d : Desc) : Bool :=
  if d.kind = 4 ∨ d.kind = 6 then true
  else s.slotOpen d.tick
    && (if d.kind ≤ 2 then (s.openTick d.tick).all fun o => s.inputsDone o d
        else d.kind != 3 || s.fired d.tick (7, d.shard))

/-- A queued unit may become READY (R31, R263, R264). -/
def State.unitReady (s : State) (u : QUnit) : Bool :=
  let d := u.d
  s.mayStart d && d.waits.all (s.fired d.tick)
    && (List.range 8).all (fun g => !bit d.ringmask g || s.ringFired d.tick g)
    && (d.key == 0 || s.disp.queue.all fun v => v.d.key != d.key || decide (d.tick ≤ v.d.tick))
    && (u.any || d.kind == 6 || !s.loading d.shard)

/-- SCHED is LATE. -/
def State.schedLate (s : State) : Bool := s.rnd.sched == .late

/-- The level at which a unit becomes READY (R267). -/
def State.readyLevel (s : State) (u : QUnit) : Nat := if u.lvl = 5 && s.schedLate then 6 else u.lvl

/-- The batch of the units that become READY now: those of one cycle are one batch (R266). -/
def State.batch (s : State) : State :=
  if s.disp.batchAt = some s.now then s
  else { s with disp := { s.disp with nextOrd := s.disp.nextOrd + 1, batchAt := some s.now } }

/-- HELD units whose conditions have come to hold become READY (R266, R269). -/
def State.rouse (s : State) : State :=
  let rises (u : QUnit) : Bool := u.st == .held && s.unitReady u
  if !s.disp.queue.any rises then s
  else
    let s' := s.batch
    let rise (u : QUnit) : QUnit :=
      if rises u then { u with st := .ready, lvl := s.readyLevel u, ord := s'.disp.nextOrd, readyAt := s.now } else u
    { s' with disp := { s'.disp with queue := s.disp.queue.map rise } }

/-! Admission (R258 to R261). -/

/-- The capacity of a class (R259). -/
def classRoom (c : Nat) : Nat := getD' [2688, 512, 896] c 0

/-- Set a bit of DISP_EVT. -/
def State.dispEvt (s : State) (i : Nat) : State := { s with disp := { s.disp with evt := setBit s.disp.evt i } }

/-- No engine holds the shard (R271, R283). -/
def State.homeless (s : State) (sh : Nat) : Bool := s.intg.homeless.contains sh

/-- How a unit of a homeless shard is treated (R271): PAIR, GRAPH and COR at level 7 with a shadow load, PREP and SHADOW_WR at their
own level, both on any engine. -/
def QUnit.adrift (u : QUnit) : QUnit :=
  if u.d.kind ≤ 2 then { u with any := true, lvl := 7, shadow := true }
  else if u.d.kind = 4 ∨ u.d.kind = 5 then { u with any := true } else u

/-- A submission is accepted: SEQ, an entry, and READY at once where R263 holds. -/
def State.takeUnit (s : State) (d : Desc) : State :=
  let d := { d with seq := s.disp.nextSeq }
  let u : QUnit := { d, lvl := kindLevel d.kind, any := d.any, shadow := false, st := .held, ord := 0, readyAt := s.now, runs := 0,
                     failedOn := none }
  let u := if s.homeless d.shard && decide (d.kind ≤ 6) then u.adrift else { u with lvl := s.readyLevel u }
  { s with disp := { s.disp with queue := s.disp.queue ++ [u], nextSeq := (d.seq + 1) % 2 ^ 32 } }.rouse

/-- A submission is answered FULL (R260, R261): counted, and submitted again later. -/
def State.refuseUnit (s : State) (core : Nat) (b : Bytes) (out : Bool) : State :=
  let d := { s.disp with refuseCnt := s.disp.refuseCnt + 1, evt := setBitIf out (setBit s.disp.evt 0) 1
                         refusedUnits := s.disp.refusedUnits ++ [(core, b)] }
  { s with disp := if out then { d with refuseOutCnt := d.refuseOutCnt + 1 } else d }

/-- One submission (R260): BAD_DESC makes the module yield (R261, R284). -/
def State.submit (s : State) (core : Nat) (b : Bytes) : State :=
  if !descOk b then ((s.dispEvt 5).logOpen 16 6).decideYield 4
  else
    let d := parseDesc b
    let c := kindClass d.kind
    if classRoom c ≤ s.occupancy c then s.refuseUnit core b (c == 0) else s.takeUnit d

/-- The control cores and the dispatcher run: an image, the FAB and CORE clocks, and no yield. -/
def State.dispRuns (s : State) : Bool :=
  s.imageRuns && s.powered && s.domainOn 3 && (s.gate 2).st == .opened && s.sys.mode != .yielded

/-- A submission's cycle (R260): those of one cycle come in the order of their control cores, so one of an earlier core, or of the same
one, belongs to the next. -/
def State.submitAt (s : State) (core : Nat) : State :=
  let s := if s.disp.lastSub.any (fun x => x.1 == s.now && decide (core ≤ x.2)) then s.at (s.now + 1) else s
  { s with disp := { s.disp with lastSub := some (s.now, core) } }

/-- The firmware submits a KRN unit only for an enabled slot, for a shard that an engine holds, and once per tick (R253, R271). -/
def State.submitsKrn (s : State) (d : Desc) : Bool :=
  decide (12 ≤ d.slot) && bit s.tap.en (d.slot - 12) && !s.homeless d.shard
    && decide (tabGet 0 s.disp.krnNext (32 * d.slot + d.shard) ≤ d.tick)

/-- UNIT_SUBMIT (R257 to R260). -/
def execUnitSubmit (t core : Nat) (desc : Bytes) (s : State) : Result :=
  let s := s.at t
  let d := parseDesc desc
  let krn := descOk desc && d.kind == 3
  .next (if !s.dispRuns || (krn && !s.submitsKrn d) then s
    else
      let s := s.submitAt core
      let s := if krn then { s with disp := { s.disp with krnNext := tabSet 0 s.disp.krnNext (32 * d.slot + d.shard) (d.tick + 1) } } else s
      s.submit core desc)

/-- Refused submissions are made again, in their order. -/
def State.resubmit (s : State) (which : Bytes → Bool) : State :=
  let l := s.disp.refusedUnits
  let s := { s with disp := { s.disp with refusedUnits := l.filter fun e => !which e.2 } }
  (l.filter fun e => which e.2).foldl (fun s e => s.submit e.1 e.2) s

/-- SUBMIT_RETRY (R261): output-path and SHADOW_LD submissions, every 1 µs. -/
def execSubmitRetry (t : Nat) (s : State) : Result :=
  let s := s.at t
  .next (if s.dispRuns then s.resubmit fun b => kindClass (rd8 b 4) == 0 else s)

/-! Selection (R265, R266). -/

/-- The shard that an engine holds, or that is being moved to it. -/
def State.holds (s : State) (k : Nat) : Option Nat :=
  match s.rnd.moves.find? fun m => m.2 == k with
  | some m => some m.1
  | none => (s.engine k).shard

/-- The engine is eligible for the unit, and free for it. -/
def State.eligible (s : State) (k : Nat) (u : QUnit) : Bool :=
  let e := s.engine k
  if u.d.kind = 6 then e.st == .spare && s.holds k == some u.d.shard
  else e.st == .idle && (u.any || (!s.homeless u.d.shard && getD' s.rnd.shardEng u.d.shard 0 == k))

/-- The level is dispatched (R267). -/
def State.dispatchable (s : State) (l : Nat) : Bool := decide (4 ≤ l) || !bit s.disp.shed l

/-- A unit is before another in its level: it became READY first, or in the same cycle with a lower SEQ (R266). -/
def QUnit.older (u v : QUnit) : Bool := decide (u.ord < v.ord) || (u.ord == v.ord && decide (u.d.seq < v.d.seq))

/-- A unit goes before another. -/
def QUnit.beats (u v : QUnit) : Bool := decide (v.lvl < u.lvl) || (u.lvl == v.lvl && u.older v)

/-- The unit that engine `k` takes. -/
def State.choose (s : State) (k : Nat) : Option QUnit :=
  s.disp.queue.foldl (fun best u =>
    if u.st == .ready && s.dispatchable u.lvl && s.eligible k u then
      match best with
      | none => some u
      | some v => if u.beats v then some u else best
    else best) none

/-- Change the queued unit of a SEQ. -/
def State.onUnit (s : State) (seq : Nat) (f : QUnit → QUnit) : State :=
  { s with disp := { s.disp with queue := s.disp.queue.map fun u => if u.d.seq = seq then f u else u } }

/-- Engine `k` takes a unit (R266, R269, R273). -/
def State.dispatch (s : State) (k : Nat) (u : QUnit) : State :=
  let w := min 0xFFFFFF (s.now - u.readyAt)
  let s := { s with disp := { s.disp with waitLast := setAt s.disp.waitLast u.lvl w
                                          waitMax := modAt s.disp.waitMax u.lvl (max w) } }
  let s := if u.runs = 0 then s
    else { s with rnd := { s.rnd with recompCnt := s.rnd.recompCnt + 1, evt := setBit s.rnd.evt 2 } }
  let s := s.onUnit u.d.seq fun u => { u with st := .running k, runs := u.runs + 1 }
  s.onEngine k fun e => { e with st := .run, unit := some u.d.seq, slot := u.d.slot, since := s.now, haltAt := 0, frozen := 0
                                 cpu := { TapCpu.start with pc := u.d.entry } }

/-- UNIT_DISPATCH (R266): every free engine, in ascending order, takes the unit that is its turn. -/
def execUnitDispatch (t : Nat) (s : State) : Result :=
  let s := s.at t
  .next (if !s.dispRuns then s
    else (List.range 34).foldl (fun s k => match s.choose k with
      | some u => s.dispatch k u
      | none => s) s.rouse)

/-! The priority raise (R38, R267). -/

/-- Every queued output-path unit moves from level 5 to level 6, behind those already there and in its order. -/
def State.raiseUnits (s : State) : State :=
  let up (u : QUnit) : Bool := u.d.output && u.lvl == 5 && u.st == .ready
  let l := sortBy QUnit.older (s.disp.queue.filter up)
  let s := (l.zip (List.range l.length)).foldl (fun s (u, i) =>
    s.onUnit u.d.seq fun u => { u with lvl := 6, ord := s.disp.nextOrd + 1 + i }) s
  { s with disp := { s.disp with nextOrd := s.disp.nextOrd + l.length, batchAt := none
                                 queue := s.disp.queue.map fun u =>
                                   if u.d.output && u.lvl == 5 && u.st == .held then { u with lvl := 6 } else u } }

/-- The shed set (R38): a mask over levels 0 to 3, which RND_STAT and DISP_STAT show. -/
def State.setShed (s : State) (m : Nat) : State :=
  { s with rnd := { s.rnd with shed := m }, disp := { s.disp with shed := m } }

/-- SCHED becomes LATE (R38, R267): levels and shed set, before any other dispatch decision. -/
def State.becomeLate (s : State) : State :=
  let s := { s with rnd := { s.rnd with sched := .late, epRun := 0, largest := 0 } }
  let s := { s.raiseUnits with disp := { s.raiseUnits.disp with raised := true, lower := false } }
  (s.dispEvt 2).setShed 1

/-- The slot opening after the return to ON_TIME (R39, R267). -/
def State.lowerLevels (s : State) : State :=
  let q := s.disp.queue.map fun u => if u.lvl = 6 then { u with lvl := 5 } else u
  { s with disp := { s.disp with queue := q, raised := false, lower := false } }.setShed 0

/-- The levels that a lateness in samples sheds (R37). -/
def shedMask (late : Nat) : Nat := if 16 ≤ late then 15 else if 8 ≤ late then 7 else if 4 ≤ late then 3 else 1

end Sys2Proof.Machine
end

