-- ==== Sys2Proof/Machine/Commit.lean ====
section
/-! DEFINITION. How a unit ends and what follows (chapters "Tap Engine Programmer's Model", R250 to R254, and "Work Dispatch",
R262 to R271; R33 and R36 to R39): commits, the completion of a tick, the geometry engine, faults, hard failures and budgets. -/

namespace Sys2Proof.Machine

/-! The geometry engine (R32, R33, R122). -/

/-- Every PAIR unit of a tick has ended. -/
def State.pairsDone (s : State) (n : Nat) : Bool := (List.range 8).all (s.ringFired n)

/-- The next bank starts once the one before is complete and every PAIR unit of the tick two before has ended. -/
def State.geomKick (s : State) : State :=
  match s.pan.building, s.pan.ready with
  | none, some r => if s.pairsDone (r - 1) then { s with pan := { s.pan with building := some (r + 1, s.now) } } else s
  | _, _ => s

/-- The object contexts and speeds of sound for the bank of tick `n`: as boundary `n` leaves them, passed or not (R51). -/
def State.geomInput (s : State) (n : Nat) : Tab ObjCtx × Tab Ramp :=
  match s.openTick n with
  | some o => (o.obj.objs, o.sound)
  | none =>
    let objs := s.obj.objs.map fun e => (e.1, e.2.applyDue s.refs n e.2.pend.length)
    let s' := (s.sched.filter fun e => e.op == 0x304 && decide (e.tick ≤ n)).foldl (fun s e => s.soundAt e.tick e.body) s
    (objs, s'.pan.sound)

/-- The bank of tick `n` (R113, R122). -/
def State.buildGeom (s : State) (n : Nat) : Build :=
  let (objs, snd) := s.geomInput n
  buildBank s.pan.image s.rnd.rate96 s.pan.first n (tabGet ObjCtx.reset objs)
    (fun l => ((tabGet (Ramp.at 0) snd l).val (n + 1)).toNat)
    { pairs := s.pan.pairs, norm := s.pan.norm, slew := false, reach := false, near := false, cap := false, walks := 0, silent := false }

/-- PAN_EVT and PAN_*_CNT after a bank (R127): 0 SLEW, 1 REACH, 2 NEAR, 3 WALK_LIMIT, 4 NORM_CAP. -/
def State.geomEvents (s : State) (b : Build) : State :=
  let e := setBitIf b.cap (setBitIf (b.walks != 0) (setBitIf b.near (setBitIf b.reach (setBitIf b.slew s.pan.evt 0) 1) 2) 3) 4
  let s := { s with pan := { s.pan with evt := e, slewCnt := s.pan.slewCnt + wd (b2n b.slew), walkCnt := s.pan.walkCnt + wd b.walks } }
  if b.silent then s.objEvt 6 else s

/-- A check of the geometry engine failed (R276, R284): 2, a residue at the write of a pair entry, which is computed again; 1, the
parity of an entry that it read, which it rewrites. -/
def State.geomFault (s : State) (kind : Nat) : State :=
  let (d, s) := (s.countCheck kind).freeBelow (2 ^ 32)
  s.logFault 8 (if kind = 2 then 0 else 1) 0x100 d

/-- GEOMETRY_BANK_COMPLETE (R32, R33, R113, R122); `faults` lists the checks that failed while the bank was made. -/
def execGeometryBankComplete (g : GeomDone) (s : State) : Result :=
  let s := s.at g.t
  .next (match s.pan.building with
    | none => s
    | some (n, t0) =>
      if !s.dispRuns then s
      else
        let b := s.buildGeom n
        let d := s.now - t0
        let s := (g.faults.filter fun k => k == 1 || k == 2).foldl State.geomFault (s.geomEvents b)
        let s := { s with pan := { s.pan with pairs := b.pairs, norm := b.norm, first := false, ready := some n, building := none,
                                              geomLast := min 0x3FFFF d, geomMax := max s.pan.geomMax (min 0x3FFFF d) } }
        s.geomKick.rouse)

/-! The completion of a tick (R36 to R39). -/

/-- Every output unit of the tick has ended: PAIR, GRAPH, and COR of every feed that is not absorbed. -/
def State.outputDone (s : State) (o : OpenTick) : Bool :=
  s.pairsDone o.tick && o.graphUnits.all (fun i => s.unitDone 1 i o.tick)
    && (List.range 32).all fun sh => (s.corFeeds o sh).all fun f => s.unitDone 2 f o.tick

/-- The entries of one bank of the pair store by pair index. -/
def bankPairs (pairs : Tab Nat) (t : Nat) : Tab Nat :=
  (pairs.filter fun e => e.1 / 393216 == t % 2).map fun e => (e.1 % 393216, e.2)

/-- The payloads of CAL_QUERY after a completed tick: what its boundary left of each feed, with the estimates there are. -/
def State.seeCal (s : State) (o : OpenTick) : Tab Bytes :=
  let n := o.tick
  let own (f : Nat) (c : CalFeed) : CalFeed :=
    let c := match s.calFeed f with
      | some x => if x.since = c.since then { c with est := x.est, arrival := x.arrival } else c
      | none => c
    { c with p := s.lastProbe f n }
  let feeds := o.cal.feeds.map fun e => (e.1, e.2.map (own e.1))
  let s := { s with cal := { s.cal with feeds, lastSeq := o.cal.lastSeq, policy := o.cal.policy } }
  ((feeds ++ s.cal.lastSeq.map fun e => (e.1, none)).map (·.1)).foldl (fun t f => tabSet [] t f (s.calRecord f (n + 1))) []

/-- What the queries read from a completed tick. -/
def State.seeTick (s : State) (o : OpenTick) : State :=
  let n := o.tick
  let snd := { s with pan := { s.pan with sound := o.sound } }.soundView (n + 1)
  let s := { s with obj := { s.obj with seen := o.obj.objs, seenTick := n }
                    pan := { s.pan with seen := o.pairs, soundSeen := snd }
                    net := { s.net with seenIn := o.flowIn, seenOut := o.flowOut }
                    cal := { s.cal with seen := s.seeCal o } }
  { s with cor := { s.cor with feeds := tabMapK FeedCor.reset (fun f c =>
      { c with gainSeen := (tabGet FeedCor.reset o.cor.feeds f).gain.val (16 * n + 16) }) s.cor.feeds } }

/-- The nominal deadline of a tick, as a sample index (R29, R154). -/
def State.deadline (s : State) (n : Nat) : Nat := 16 * n + 32 + s.rte.ingress

/-- The lateness of a tick that completes now: whole samples past its deadline, rounded up (R36). -/
def State.lateness (s : State) (n : Nat) : Nat := (ceilDivI (s.media * s.fs) 1000000000).toNat - s.deadline n

/-- SCHED, the margin and the episode when a tick completes (R36, R38, R39). -/
def State.judgeTick (s : State) (late : Nat) : State :=
  let m := 32 - min 32 late
  let s := { s with rnd := { s.rnd with margin := m, minMargin := min s.rnd.minMargin m } }
  if late = 0 then
    let s := if s.schedLate then { s with rnd := { s.rnd with episode := s.rnd.epRun }, disp := { s.disp with lower := true } } else s
    { s with rnd := { s.rnd with sched := .onTime } }
  else if s.schedLate then
    let g := max s.rnd.largest late
    { s with rnd := { s.rnd with largest := g } }.setShed (max s.rnd.shed (shedMask g))
  else s

/-- The decider's snapshot takes the signal state that the tick before its boundary has left (R325). -/
def State.snapSignal (s : State) (n : Nat) : State :=
  match s.rnd.joinSnap with
  | none => s
  | some j =>
    if j.tick ≠ n + 1 then s
    else
      -- a tick from the snapshot's boundary on that has counted already counts on the joiner too
      let ahead (f : OpenTick → Bool) : Word := wd (s.rnd.open_.filter fun o => f o && decide (n < o.tick)).length
      let rte := { j.rte with lines := s.rte.lines, scale := s.rte.scale, target := s.rte.target, bedLine := s.rte.bedLine,
                              nodeOut := s.rte.nodeOut, evt := s.rte.evt, satCnt := s.rte.satCnt - ahead (·.rteSat) }
      let put (t : Tab FeedCor) (f : Nat) : Tab FeedCor :=
        tabSet FeedCor.reset t f { tabGet FeedCor.reset t f with biq0 := (s.feedCor f).biq0, biq1 := (s.feedCor f).biq1 }
      let feeds := ((j.cor.feeds ++ s.cor.feeds).map (·.1)).foldl put j.cor.feeds
      let cor := { j.cor with line := s.cor.line, feeds, evt := s.cor.evt, satCnt := s.cor.satCnt - ahead (·.corSat)
                              prep := s.cor.prep }
      let cal := { j.cal with samples := [], run := s.cal.run, probes := s.cal.probes }
      { s with rnd := { s.rnd with joinSnap := some { j with pan := s.pan, rte, cor, cal } } }

/-- Tick `n` is complete. -/
def State.completeTick (s : State) (o : OpenTick) : State :=
  let n := o.tick
  let late := s.lateness n
  let s := { s with rnd := { s.rnd with lastTick := max s.rnd.lastTick n, open_ := s.rnd.open_.filter fun x => x.tick != n }
                    disp := { s.disp with commits := s.disp.commits.filter fun c => c.2.2 != n } }
  ((((s.judgeTick late).seeTick o).snapSignal n).keepTick o).checkTick n (late == 0)

/-! Commits (R250, R262, R269). -/

/-- The index under which an output unit commits; `none` for a unit that the tick does not have. -/
def State.unitIndex (s : State) (o : OpenTick) (d : Desc) : Option Nat :=
  if d.kind = 0 then (if d.arg < 8 then some (8 * d.shard + d.arg) else none)
  else if d.kind = 1 then
    (if !o.rte.graph then some d.shard else if o.graphUnits.contains d.arg then some d.arg else none)
  else if d.kind = 2 then (if d.arg < feedCount s.rnd.rate96 && shardOfFeed s.rnd.rate96 d.arg == d.shard then some d.arg else none)
  else none

/-- What a PAIR, GRAPH or COR unit computes; a migrated one loads its state from the shadow (R270). -/
def State.outputEffect (s : State) (o : OpenTick) (d : Desc) (shadow : Bool) (i : Nat) : State :=
  if d.kind = 0 then s.runPair o d.shard d.arg
  else if d.kind = 1 then
    (if o.rte.graph then s.runSeg o (getD' o.banks (i / 65536) 0) (i % 65536) else s.runXp o i)
  else s.runCor o shadow i fun f => s.unitDone 2 f o.tick

/-- An output unit has ended: the ring, the geometry engine, and the tick. -/
def State.outputEnds (s : State) (o : OpenTick) (d : Desc) (i : Nat) : State :=
  let n := o.tick
  let s := { s with disp := { s.disp with commits := s.disp.commits ++ [(d.kind, i, n)] } }
  let s := if d.kind = 0 && s.ringFired n d.arg then s.runRing n d.arg else s
  let s := if d.kind = 0 && s.pairsDone n then (s.onOpen n fun x => { x with pairs := bankPairs s.pan.pairs n }).geomKick else s
  match s.openTick n with
  | some o' => if s.outputDone o' then (s.completeTick o').geomKick else s
  | none => s

/-- The transform of the incoming bank of a feed is done: for the request that waits for it, which may have started. -/
def State.prepEnds (s : State) (f : Nat) : State :=
  let started := (s.feedCor f).lastReq.toList
  let asked := (s.cor.pend.filter fun r => r.feeds.contains f).map (·.id)
  match (started ++ asked).find? fun id => !s.cor.prep.contains (id, f) with
  | some id => { s with cor := { s.cor with prep := s.cor.prep ++ [(id, f)] } }
  | none => s

/-- Word `a / 4` of local SRAM (R224), whose top half holds shard `sh` with the input of tick `n` and the descriptor `d`. -/
def State.sramAt (s : State) (k sh n : Nat) (d : Bytes) (a : Nat) : Nat :=
  let r96 := s.rnd.rate96
  let r := tapRegion a
  if r = 0 then
    let len := if r96 then 16384 else 8192
    let top := 16 * n + 15
    let i := (a / 4 % len + Config.histOrigin.toNat) % len
    code 32 (s.histAt (shardObjs r96 * sh + a / (4 * len)) ((top : Int) - ((top + len - i) % len : Nat)))
  else if r = 1 then code 32 (imgKernel s.boot.image ((a - 0x80000) / 32) (a % 32 / 4))
  else if r = 3 then imgProg s.boot.image (a % 0x10000 / 0x1000) (a % 0x1000 / 8) / 2 ^ (8 * (a % 8)) % 2 ^ 32
  else if r = 5 then
    match Config.pubPlace a with
    | some (j, m) => code 32 (getD' (s.lanes (shardFeeds r96 * sh + j) n).prog m 0)
    | none => Config.sramWord k (s.engine k).unitCnt.toNat a
  else if r = 7 then tabGet 0 (s.engine k).custom (a / 4)
  else if r = 8 && decide (a < 0x278030) then rdLE d (a - 0x278000) 4
  else Config.sramWord k (s.engine k).unitCnt.toNat a

/-- The descriptor as the dispatcher copies it to SYSV (R257). -/
def Desc.copy (d : Desc) : Bytes := leB 4 d.seq ++ d.raw.drop 4

/-- Local SRAM as a KRN unit of engine `k` finds it (R225, R253), by byte address. -/
def State.krnSram (s : State) (k : Nat) (d : Desc) (a : Nat) : Nat := s.sramAt k d.shard d.tick d.copy a

/-- A KRN unit's program on engine `k`, from its entry. -/
def State.krnRun (s : State) (k : Nat) (d : Desc) : TapOut :=
  let budget := ((s.tap.kslots[d.slot - 12]?).map (·.budget)).getD 0
  tapProgram { customer := true, slot := d.slot, prog := imgProg s.boot.image d.slot, sram := s.krnSram k d
               limit := min d.limit budget, inj := (s.engine k).inj.toNat } d.entry

/-- What a program leaves on its engine when it stops, however it stops: its registers, its stalls, and the events of R233 and R235. -/
def State.cpuStops (s : State) (k : Nat) (c : TapCpu) : State :=
  s.onEngine k fun e => { e with cpu := c, stallCnt := e.stallCnt + wd c.stalls, evt := setBitIf c.ovf (setBitIf c.trimmed e.evt 3) 5 }

/-- What a KRN unit leaves at its END: with COMMIT, its stores (R250). -/
def State.krnEnds (s : State) (k : Nat) (d : Desc) (c : TapCpu) (commit : Bool) : State :=
  let s := { s with tap := { s.tap with kslots := modAt s.tap.kslots (d.slot - 12) fun x => { x with overruns := 0 } } }.cpuStops k c
  s.onEngine k fun e =>
    { e with custom := if commit then c.held.foldl (fun t w => tabSet 0 t (w.1 / 4) (w.2.getD 0)) e.custom else e.custom }

/-- The unit that an engine runs. -/
def State.unitOn (s : State) (k : Nat) : Option QUnit :=
  match (s.engine k).unit with
  | some q => s.disp.queue.find? fun u => u.d.seq == q
  | none => none

/-- The engine has ended its unit (R274): a spare stays one until its shard is loaded and has moved. -/
def State.freeEngine (s : State) (k : Nat) : State :=
  let spare := decide (32 ≤ k) && ((s.rnd.moves.any fun m => m.2 == k) || (s.holds k).any s.loading)
  s.onEngine k fun e =>
    { e with st := if spare then .spare else .idle
             unit := none, busy := e.busy + (s.now - max e.since s.disp.slotStart) }

/-- The unit leaves the queue, and its engine is free. -/
def State.unitLeaves (s : State) (k : Nat) (u : QUnit) : State :=
  { s with disp := { s.disp with queue := s.disp.queue.filter fun v => v.d.seq != u.d.seq } }.freeEngine k

/-- A vendor unit's stall cycles, which its program fixes. -/
def State.freeStalls (s : State) (k : Nat) : State :=
  let (n, s) := s.freeBelow (2 ^ 32)
  s.onEngine k fun e => { e with stallCnt := e.stallCnt + wd n }

/-- A SHADOW_LD or SHADOW_WR unit of a shard commits (R35): the load makes the shadow's chain state the working one, the write makes
the working one the shadow's. -/
def State.shadowCopy (s : State) (sh : Nat) (load : Bool) : State :=
  let n := shardFeeds s.rnd.rate96
  (List.range n).foldl (fun s i =>
    let f := n * sh + i
    if load then s.onFeedCor f fun c => s.shadowOf f c
    else { s with cor := { s.cor with shadow := tabSet none s.cor.shadow f (some (s.feedCor f)) } }) s

/-- A unit ends on engine `k`, with or without COMMIT: its effect, its entry, its events (R250, R269). -/
def State.unitEnds (s : State) (k : Nat) (u : QUnit) (commit : Bool) : State :=
  let d := u.d
  let s := s.onEngine k fun e => { e with unitCnt := e.unitCnt + 1 }
  let s := if commit then { s with disp := { s.disp with dispatchCnt := s.disp.dispatchCnt + 1 } } else s
  if d.kind ≤ 2 then
    match s.openTick d.tick with
    | none => (s.unitLeaves k u).rouse
    | some o => match s.unitIndex o d with
      | none => (s.unitLeaves k u).rouse
      | some i =>
        if s.unitDone d.kind i d.tick then (s.unitLeaves k u).rouse
        else
          let s := if commit then s.outputEffect o d u.shadow i else s
          ((s.unitLeaves k u).outputEnds o d i).rouse
  else
    let s := if d.kind = 4 then s.prepEnds (d.arg % 65536)
      else if !commit then s
      else if d.kind = 5 ∨ d.kind = 6 then s.shadowCopy d.shard (d.kind == 6)
      else if d.kind = 8 then s.runEst (d.arg % 65536) (d.arg / 65536)
      else s
    (s.unitLeaves k u).rouse

/-! Failure (R251, R252, R269 to R271, R281 to R284). -/

/-- The tick being rendered: the oldest whose slot has opened. -/
def State.rendered (s : State) : Option Nat := (s.rnd.open_.find? fun o => o.opened).map (·.tick)

/-- The READY units that satisfy a test go to the tail, in the order of SEQ. -/
def State.toTail (s : State) (test : QUnit → Bool) : State :=
  let r := s.disp.queue.foldl (fun (a : List QUnit × Nat) u =>
    if u.st == .ready && test u then (a.1 ++ [{ u with ord := a.2 }], a.2 + 1) else (a.1 ++ [u], a.2)) ([], s.disp.nextOrd)
  { s with disp := { s.disp with queue := r.1, nextOrd := r.2 } }

/-- A unit waits in the queue. -/
def QUnit.waits (u : QUnit) : Bool := u.st == .held || u.st == .ready

/-- The SHADOW_LD unit of a move. -/
def shadowLoad (sh n : Nat) : Desc :=
  { seq := 0, kind := 6, output := false, level := 7, any := false, shard := sh, tick := n, slot := 0, entry := 0, limit := 16777215,
    ringmask := 0, waits := [], key := 0, arg := 0, raw := [] }

/-- What the dispatcher does with a shard's units when its engine is declared hard-failed (R270, R271). -/
def State.reassign (s : State) (sh : Nat) (n : Option Nat) (spare : Option Nat) : State :=
  let now' (u : QUnit) : Bool := u.waits && u.d.shard == sh && n == some u.d.tick && decide (u.d.kind ≤ 2)
  match spare with
  | some sp =>
    let had := s.loading sh
    let q := s.disp.queue.map fun u =>
      if now' u then u.adrift
      else if u.st == .ready && u.d.shard == sh && !u.any && u.d.kind != 6 then { u with st := .held } else u
    let s := ({ s with disp := { s.disp with queue := q } }.toTail now').onEngine sp fun e => { e with st := .spare }
    if had then s else s.takeUnit (shadowLoad sh (n.getD s.tick))
  | none =>
    let mine (u : QUnit) : Bool := u.waits && u.d.shard == sh && decide (u.d.kind ≤ 5)
    let q := (s.disp.queue.filter fun u => !(mine u && u.d.kind == 3)).map fun u => if mine u then u.adrift else u
    { s with disp := { s.disp with queue := q } }.toTail fun u => mine u && decide (u.d.kind ≤ 2)

/-- Engine `k` is declared hard-failed while it renders (R281 to R283): its shard moves at the next tick boundary, or at once where
no tick runs. -/
def State.hardFail (s : State) (k : Nat) : State :=
  let (r, s) := (s.declareFailed k).assignSpare k
  match r with
  | none => s
  | some (sh, spare) =>
    let s := s.reassign sh s.rendered spare
    let s := if s.ticking then s else s.applyMoves
    if spare.isNone && (s.rnd.rate96 || decide (2 ≤ s.intg.homeless.length)) then s.decideYield 5 else s

/-- TAP_EVT's bit of a fault kind: 1 PARITY, 2 RESIDUE, 3 ILLEGAL, 4 BUDGET. -/
def faultBit (kind : Nat) : Nat := getD' [0, 0, 1, 2, 6] kind 0

/-- The engine and INTG record a fault (R251, R252, R276): an armed fault of the kind, and of its region or lane, is the one that
fires. -/
def State.noteFault (s : State) (k kind addr lane : Nat) : State :=
  let armed := (s.engine k).inj
  let inj := (kind == 1 && injParity armed.toNat addr) || (kind == 2 && injResidue armed.toNat && bits armed.toNat 6 2 == lane % 32)
  let chk := kind + 8 * b2n inj + 16 * (if kind = 2 then lane % 32 else 0) + 1024 * (addr % 2 ^ 22)
  let s := s.onEngine k fun e =>
    { e with chk := wd chk, evt := setBit e.evt (faultBit kind), faultCnt := e.faultCnt + 1
             inj := if inj && !bit armed.toNat 10 then armed &&& ~~~(3#32) else armed
             faults := s.tick :: e.faults.filter fun f => decide (s.tick < f + 4096) }
  s.countCheck kind

/-- The failed unit is READY again at the tail of level 7 (R269). -/
def State.requeue (s : State) (k : Nat) (u : QUnit) : State :=
  let s := s.onUnit u.d.seq fun u => { u with st := .ready, lvl := 7, ord := s.disp.nextOrd, readyAt := s.now, failedOn := some k }
  { s with disp := { s.disp with nextOrd := s.disp.nextOrd + 1, requeueCnt := s.disp.requeueCnt + 1, evt := setBit s.disp.evt 3 } }.freeEngine k

/-- The OUTCOME of a unit's fault (R284, R289): YIELD, HOMELESS or REEXEC; where the engine hard-fails and its units and its shard move,
HARD or MIGRATED, which the spec does not tell apart. -/
def State.unitOutcome (s : State) (stops alone hard : Bool) : Nat × State :=
  if stops then (6, s)
  else if alone then (4, s)
  else if hard then
    let (o, s) := s.freeBelow 2
    (2 + o, s)
  else (0, s)

/-- A unit fails on engine `k` (R251, R269, R281, R284). -/
def State.unitFails (s : State) (k : Nat) (u : QUnit) (kind addr lane : Nat) : State :=
  let s := s.noteFault k kind addr lane
  let hard := u.failedOn == some k || decide (8 ≤ (s.engine k).faults.length)
  let fw := decide (3 ≤ kind) && u.failedOn.any (· != k)
  let alone := hard && (s.holds k).isSome && s.freeSpares.isEmpty
  let stops := fw || (alone && (s.rnd.rate96 || !s.intg.homeless.isEmpty))
  let (o, s) := s.unitOutcome stops alone hard
  let s := s.logFault kind o k (addr % 2 ^ 22)
  let s := s.requeue k u
  let s := if fw then s.decideYield 4 else s
  (if hard then s.hardFail k else s).rouse

/-- A KRN unit overruns its budget: it leaves, and the third overrun in a row disables its slot (R254). -/
def State.krnOverrun (s : State) (k : Nat) (u : QUnit) : State :=
  let i := u.d.slot - 12
  let s := s.onEngine k fun e => { e with evt := setBit e.evt 4, kovrCnt := e.kovrCnt + 1 }
  let n := ((s.tap.kslots[i]?.map (·.overruns)).getD 0) + 1
  let ks := modAt s.tap.kslots i fun x => { x with overruns := if 3 ≤ n then 0 else n, disabledOvr := x.disabledOvr || decide (3 ≤ n) }
  let en := if 3 ≤ n && bit s.tap.en i then s.tap.en - 2 ^ i else s.tap.en
  ({ s with tap := { s.tap with kslots := ks, en } }.unitLeaves k u).rouse

/-- Core cycles in a time in ns: the core clock runs at 1,000 MHz, and at 400 MHz while it coasts (R444). -/
def State.coreCycles (s : State) (ns : Nat) : Nat := if (s.pll 0).coast then 2 * ns / 5 else ns

/-- The running unit has run for more cycles than its descriptor's limit (R242). -/
def State.overLimit (s : State) (k : Nat) (u : QUnit) : Bool :=
  decide (u.d.limit < s.coreCycles (s.now - (s.engine k).since - (s.engine k).frozen))

/-! How a unit stops: a KRN unit as its program says, a vendor unit as the event tells. -/

/-- A KRN unit stops as its program on the engine does: at its END, by a fault, or over its budget (R250, R251, R254). -/
def State.krnStops (s : State) (k : Nat) (u : QUnit) : State :=
  match s.krnRun k u.d with
  | .done c b => (s.krnEnds k u.d c b).unitEnds k u b
  | .fault c kind addr lane => (s.cpuStops k c).unitFails k u kind addr lane
  | .overrun c => (s.cpuStops k c).krnOverrun k u
  | .run _ => s

/-- The regions of local SRAM that a kind of vendor unit reads (R16, R224): those of TAP_INJ.REGION, as its codes. -/
def kindRegions (kind : Nat) : List Nat :=
  if kind = 0 then [0, 1, 3] else if kind = 1 then [4] else if kind = 2 ∨ kind = 4 ∨ kind = 5 then [2] else []

/-- An armed fault fires in a vendor unit of the kind (R252): it reads the region, or checks the lanes. -/
def injFires (inj kind : Nat) : Bool :=
  (bits inj 1 0 == 1 && (kindRegions kind).contains (bits inj 9 7)) || (injResidue inj && (decide (kind ≤ 2) || kind == 4 || kind == 8))

/-- The first byte address and the size in bytes of a region, by its code in TAP_INJ (R224). -/
def regionSpan (r : Nat) : Nat × Nat := getD' [(0, 0x80000), (0x80000, 0x20000), (0xA0000, 0x180000), (0x230000, 0x8000), (0x238000, 0x10000)] r (0, 0x80000)

/-- A vendor unit fails: its stalls are its program's, and so is the place of the fault. -/
def State.vendorFails (s : State) (k : Nat) (u : QUnit) (kind : Nat) : State :=
  let inj := (s.engine k).inj.toNat
  let (lo, n) := if kind = 1 then regionSpan (bits inj 9 7) else (0x220000, 0xC000)
  let w := if kind = 1 then 4 else 8
  let (a, s) := (s.freeStalls k).freeBelow (n / w)
  s.unitFails k u kind (lo + w * a) (bits inj 6 2)

/-- A unit of a vendor kernel reaches an END (R242, R249 to R252). -/
def State.vendorEnds (s : State) (k : Nat) (u : QUnit) (commit : Bool) : State :=
  let inj := (s.engine k).inj.toNat
  if injFires inj u.d.kind then s.vendorFails k u (bits inj 1 0)
  else if s.overLimit k u then s.vendorFails k u 4
  else (s.freeStalls k).unitEnds k u commit

/-- What an event does to the unit that engine `k` runs. -/
def State.onRunning (s : State) (k : Nat) (f : QUnit → State → State) : State :=
  match s.unitOn k with
  | none => s
  | some u => if s.dispRuns && (s.engine k).st == .run then f u s else s

/-- END on engine `k`. -/
def State.endOn (s : State) (k : Nat) (commit : Bool) : State :=
  s.onRunning k fun u s => if u.d.kind = 3 then s.krnStops k u else s.vendorEnds k u commit

/-- A check of the summing ring failed in a pass (R276, R284): it is repeated from the partials in PUB. -/
def State.ringFault (s : State) (kind : Nat) : State :=
  let (d, s) := (s.countCheck kind).freeBelow (2 ^ 32)
  s.logFault 7 0 0x101 d

/-- UNIT_COMMIT (R250); `ring` lists the checks, 1 parity and 2 residue, that failed in the ring pass which the commit lets run. -/
def execUnitCommit (t : Nat) (e : UnitEnd) (s : State) : Result :=
  let s := s.at t
  .next (match s.unitOn e.engine with
    | none => s
    | some u =>
      let s' := s.endOn e.engine true
      if u.d.kind = 0 && !s.ringFired u.d.tick u.d.arg && s'.ringFired u.d.tick u.d.arg
      then (e.ring.filter fun k => k == 1 || k == 2).foldl State.ringFault s' else s')

/-- UNIT_END_NO_COMMIT (R250, R269). -/
def execUnitEndNoCommit (t engine : Nat) (s : State) : Result := .next ((s.at t).endOn engine false)

/-- A PAIR unit has read an entry of the pair store whose parity fails (R276, R284): the geometry engine rewrites the object's
entries, and the unit re-executes. -/
def State.pairParity (s : State) (k : Nat) (u : QUnit) (addr : Nat) : State :=
  let s := (s.freeStalls k).countCheck 1
  (((s.logFault 8 0 0x100 (addr % 2 ^ 32)).requeue k u).onUnit u.d.seq fun v => { v with failedOn := u.failedOn }).rouse

/-- UNIT_FAULT (R251): a check fails in the unit that the engine runs: 1 parity at a word address, 2 residue in a lane, 3 ILLEGAL, and
5 parity in the pair store. A KRN unit's ILLEGAL is its program's own. -/
def execUnitFault (t engine kind : Nat) (site : FaultSite) (s : State) : Result :=
  .next ((s.at t).onRunning engine fun u s =>
    if u.d.kind = 3 && decide (kind = 3) then s.krnStops engine u
    else if kind = 5 then (if u.d.kind = 0 then s.pairParity engine u site.addr else s)
    else if 1 ≤ kind ∧ kind ≤ 3 then (if u.d.kind = 3 then s else s.freeStalls engine).unitFails engine u kind site.addr site.lane
    else s)

/-! Budgets and HALT (R242 to R244, R254). -/

/-- BUDGET_INTERRUPT (R242, R244, R254). -/
def execBudgetInterrupt (t engine : Nat) (s : State) : Result :=
  .next ((s.at t).onRunning engine fun u s =>
    if !s.overLimit engine u then s
    else if u.d.kind = 3 then s.krnStops engine u else s.vendorFails engine u 4)

/-- HALT_REQUEST (R242, R244): only with TEST_EN. -/
def execHaltRequest (t engine : Nat) (s : State) : Result :=
  let s := s.at t
  .next (if s.tap.testEn && (s.engine engine).st == .run then s.onEngine engine fun e => { e with st := .halt, haltAt := s.now } else s)

/-- HALT_RELEASE (R244). -/
def execHaltRelease (t engine : Nat) (s : State) : Result :=
  let s := s.at t
  .next (if (s.engine engine).st == .halt then
      s.onEngine engine fun e => { e with st := .run, frozen := e.frozen + (s.now - e.haltAt) }
    else s)

end Sys2Proof.Machine
end

