-- ==== Sys2Proof/Machine/Slot.lean ====
section
/-! DEFINITION. The render slot (chapter "Render Core and the Tick", R29 to R31, R37 to R39): the input of a tick closes and its
slot opens; a tick passes its nominal deadline; the shed set widens. -/

namespace Sys2Proof.Machine

/-- The loads of the slot that has just ended (R274). -/
def State.slotLoads (s : State) : State :=
  let one (e : Engine) : Engine :=
    let runs := if e.st == .run || e.st == .halt then s.now - max e.since s.disp.slotStart else 0
    let l := min 1000 ((e.busy + runs) * s.fs * 1000 / 16000000000)
    { e with busy := 0, loadLast := l, loadMax := max e.loadMax l }
  { s with tap := { s.tap with engines := s.tap.engines.map one }, disp := { s.disp with slotStart := s.now } }

/-- A hinge starts at the tick, and a transform that it needs is not done (R179). -/
def State.prepLate (s : State) (o : OpenTick) : Bool :=
  o.cor.feeds.any fun e => e.2.hinge.any (fun h => h.start == o.tick) && !s.prepped o e.1

/-- The input of a tick closes and its render slot opens (R30, R31). -/
def State.slotOpens (s : State) (o : OpenTick) : State :=
  let n := o.tick
  let s := ((s.ingest n).runBeds o).onOpen n fun x => { x with opened := true }
  let s := { s with rnd := { s.rnd with nextIn := n + 1 } }.slotLoads
  let s := if s.prepLate o then
      { s with cor := { s.cor with prepLateCnt := s.cor.prepLateCnt + 1, evt := setBit s.cor.evt 5 } }
    else s
  let s := if s.disp.lower then s.lowerLevels else s
  (s.resubmit fun b => kindClass (rd8 b 4) != 0).rouse

/-- INGRESS_DEADLINE (R29, R30): the next tick, once its deadline has come. -/
def execIngressDeadline (t : Nat) (s : State) : Result :=
  let s := s.at t
  let n := s.rnd.nextIn
  .next (match s.openTick n with
    | none => s
    | some o => if s.ticking && decide (16 * n + 16 + s.rte.ingress ≤ s.sampleNow) then s.slotOpens o else s)

/-- A tick passes its nominal deadline (R38). -/
def State.tickLate (s : State) (n : Nat) : State :=
  let s := s.onOpen n fun o => { o with late := true }
  let s := if s.schedLate then s else s.becomeLate
  { s with rnd := { s.rnd with epRun := s.rnd.epRun + 1, lateCnt := s.rnd.lateCnt + 1, evt := setBit s.rnd.evt 0 } }

/-- NOMINAL_DEADLINE (R38): the oldest open tick whose deadline has passed. -/
def execNominalDeadline (t : Nat) (s : State) : Result :=
  let s := s.at t
  .next (match s.rnd.open_.find? fun o => !o.late with
    | none => s
    | some o => if s.ticking && decide (s.deadline o.tick ≤ s.sampleNow) then s.tickLate o.tick else s)

/-- SHED_WIDEN (R37, R38): the lateness so far of the oldest late tick. -/
def execShedWiden (t : Nat) (s : State) : Result :=
  let s := s.at t
  .next (match s.rnd.open_.find? fun o => o.late with
    | none => s
    | some o =>
      if !s.schedLate then s
      else
        let g := max s.rnd.largest (s.lateness o.tick)
        { s with rnd := { s.rnd with largest := g } }.setShed (max s.rnd.shed (shedMask g)))

end Sys2Proof.Machine
end

