-- ==== Sys2Proof/Machine/CalRows.lean ====
section
/-! DEFINITION. The events of calibration (chapter "In-Service Calibration", R189, R199 to R215): alignment and abandonment of
blocks, a capture channel that is no longer live, and the decision round. -/

namespace Sys2Proof.Machine

/-! Blocks (R200 to R203). -/

/-- A capture sample of clipping magnitude (R202). -/
def capClips (v : Int) : Bool := decide (0x7FFF0000 ≤ v.natAbs)

/-- A pause of probing has faded or zeroed a probe sample of the block (R202). -/
def State.blockFaded (s : State) (f block : Nat) : Bool :=
  let n := blockLen s.rnd.rate96
  let j0 := s.outToSource (block * n) / 16
  let j1 := s.outToSource ((block + 1) * n - 1) / 16
  (List.range (j1 + 1 - j0)).any fun k => match tabGet none s.cal.probes (65536 * f + (j0 + k) % 65536) with
    | some p => p.tick == j0 + k && p.faded
    | none => false

/-- Every capture sample up to index (k + 1)B + LAG_LO + W − 1 is stored, or its 10 ms for the second path are over: it is a gap
(R199, R202, R406). -/
def State.blockIn (s : State) (c : CalFeed) (block : Nat) : Bool :=
  let (a, e) := blockRange s.rnd.rate96 c block
  (List.range (e + 1 - a)).all fun k => (s.capSample c.cap (a + k)).isSome || decide (a + k + 1 + s.fs / 100 ≤ s.sampleNow)

/-- A block of the present enrolment that has not been estimated, rejected or abandoned. -/
def State.blockDue (s : State) (c : CalFeed) (block : Nat) : Bool :=
  !c.ended.contains block && decide (16 * c.since < (block + 1) * blockLen s.rnd.rate96)

/-- Alignment of a block: rejected, or passed on to estimation. -/
def State.alignBlock (s : State) (f : Nat) (c : CalFeed) (block : Nat) : State :=
  let (a, e) := blockRange s.rnd.rate96 c block
  let xs := (List.range (e - a)).map fun k => s.capSample c.cap (a + k)
  let clip := xs.any fun x => x.any capClips
  let s := { s with cal := { s.cal with caps := tabSet CapChan.reset s.cal.caps c.cap { s.cap c.cap with clip } } }
  if clip || xs.any Option.isNone || s.blockFaded f block then
    { s with cal := { s.cal with rejectCnt := s.cal.rejectCnt + 1 } }.endBlock f block
  else { s with cal := { s.cal with aligned := s.cal.aligned ++ [(f, block)] } }

/-- CAL_ALIGN_START (R202): the deadbolt's stop ends estimation too (R215), and alignment waits while level 1 is shed (R203). -/
def execCalAlignStart (t f block : Nat) (s : State) : Result :=
  let s := s.at t
  .next (match s.calFeed f with
    | none => s
    | some c =>
      if s.ticking && s.dispatchable 1 && !c.stopped && s.blockDue c block && !s.cal.aligned.contains (f, block)
          && !s.blockLost c block && s.blockIn c block then s.alignBlock f c block
      else s)

/-- CAL_BLOCK_ABANDON (R203): the block's first capture sample has left the history before its estimation. -/
def execCalBlockAbandon (t f block : Nat) (s : State) : Result :=
  let s := s.at t
  .next (match s.calFeed f with
    | none => s
    | some c =>
      if s.blockDue c block && s.blockLost c block then s.abandonBlock f block else s)

/-- CAPTURE_NOT_LIVE (R215): no sample for 100 ms. -/
def execCaptureNotLive (t ch : Nat) (s : State) : Result :=
  let s := s.at t
  let c := s.cap ch
  .next (if c.live && c.last.all (fun l => decide (l + 100000000 ≤ s.now)) then
      { s with cal := { s.cal with caps := tabSet CapChan.reset s.cal.caps ch { c with live := false } } }.calEvt 4
    else s)

/-! Adoption (R189, R212, R218). -/

/-- Copy `n` bytes of the coefficient records. -/
def recCopy (m : Memory) (src dst n : Nat) : Memory :=
  let part := (m.filter fun e => decide (src ≤ e.1 ∧ e.1 < src + n)).map fun e => (e.1 - src + dst, e.2)
  (m.filter fun e => decide (e.1 < dst)) ++ part ++ m.filter fun e => decide (dst + n ≤ e.1)

/-- Calibration writes the feed's incoming bank (R189): the current bank's record, with the sections of the new gains. -/
def State.calWrite (s : State) (f : Nat) (g : List Int) : State :=
  let b := (s.feedCor f).bank
  let n := if isLong s.cor.longMask f then 2 * 0x4100 else 0x4100
  let m := recCopy s.cor.records (corAddr b f 0) (corAddr (1 - b) f 0) n
  let m := (List.range 8).foldl (fun m k =>
    corFill s.cor.longMask m (corAddr (1 - b) f (0x40 + 20 * k)) (imgEq s.boot.image s.rnd.rate96 k (getD' g k 0))) m
  { s with cor := { s.cor with records := m } }

/-- Keep a report record, with the last 256 (R219). -/
def State.addReport (s : State) (r : CalReport) : State :=
  let l := s.cal.reports ++ [r]
  { s with cal := { s.cal with reports := l.drop (l.length - 256), seq := r.seq, lastSeq := tabSet 0 s.cal.lastSeq r.feed r.seq } }

/-- C_b of every band of a feed at boundary `n`. -/
def State.confs (s : State) (c : CalFeed) (n : Nat) : List Int := (List.range 8).map fun b => (calStats (s.calWindow c b n)).2

/-- An adoption decided at boundary `n` for the start boundary `start` (R212). -/
def State.adopt (s : State) (f : Nat) (g : List Int) (n start fade seq : Nat) : State :=
  match s.calFeed f with
  | none => s
  | some c =>
    let ch := ((s.confs c n).zip (c.g.zip g)).filterMap fun (q, x, y) => if x = y then none else some q
    let r : CalReport :=
      { seq, feed := f, status := 0, decision := n, start := some start, gOld := c.g, gNew := g, arrival := c.arrival.getD 0xFFFFFFFF,
        minConf := minI ch, req := s.cor.nextId, revert := none }
    let s := (s.calWrite f g).corRequest [f] start fade (some (.adopt g)) { src := .none, opcode := 0, tag := 0, aseq := 0 }
    (s.addReport r).calEvt 0

/-- A feed becomes suspect at a round, with its record, or stops being so (R210). -/
def State.setSuspect (s : State) (f : Nat) (on : Bool) (n seq : Nat) : State :=
  match s.calFeed f with
  | none => s
  | some c =>
    let s := s.setCalFeed f (some { c with suspect := on })
    if !on then s
    else (s.addReport { seq, feed := f, status := 7, decision := n, start := none, gOld := c.g, gNew := c.g,
                        arrival := c.arrival.getD 0xFFFFFFFF, minConf := minI (s.confs c n), req := 0, revert := none }).calEvt 3

/-! The decision round (R208 to R211). -/

/-- The gains of band `b` in force at any instant of the hour before boundary `n` (R211). -/
def State.hourGains (s : State) (c : CalFeed) (b n : Nat) : List Int :=
  let from0 := n - s.secTicks 3600
  let new := c.gHist.filter fun e => decide (from0 < e.1)
  let old := (c.gHist.find? fun e => decide (e.1 ≤ from0)).toList
  (new ++ old).map fun e => getD' e.2 b 0

/-- The new gain of an eligible band (R211): `d` is D_b, `g` is G_b. -/
def newGain (p : CalPolicy) (d g lo hi : Int) : Int :=
  let x := clampI p.gmin p.gmax (-d)
  let x := clampI (min g (hi - p.rate)) (max g (lo + p.rate)) x
  if (x - g).natAbs < p.deadband.toNat then g else x

/-- D_b of each band, where it is eligible (R207, R208). -/
def State.deviations (s : State) (c : CalFeed) (n : Nat) : List (Option Int) :=
  (List.range 8).map fun b =>
    let w := s.calWindow c b n
    let (r, q) := calStats w
    match getD' c.ref b none with
    | some ref => if w.length = s.cal.policy.navg ∧ s.cal.policy.confMin ≤ q then some (r - ref) else none
    | none => none

/-- The feed is considered (R209), but for the number of pending requests. -/
def State.considered (s : State) (f : Nat) (c : CalFeed) (n : Nat) : Bool :=
  c.mode == 2 && !(s.feedCor f).dirty && !s.corFrozen f && !c.suspect && !c.stopped && decide (c.vetoEnd ≤ n)
    && c.lastAdopt.all fun a => decide (16 * a + s.cal.policy.hold * s.fs ≤ 16 * n)

/-- The start boundary of an adoption decided at boundary `n` (R212). -/
def State.leadFrom (s : State) (n : Nat) : Nat := ceilDiv (16 * n * 1000 + s.cal.policy.lead * s.fs) 16000

/-- The round at one feed. -/
def State.roundFeed (s : State) (n f : Nat) : State :=
  match s.calFeed f with
  | none => s
  | some c =>
    let ds := s.deviations c n
    let bad := decide (4 ≤ (ds.filter fun d => d.any fun x => decide (s.cal.policy.suspect ≤ x.natAbs)).length)
    let tell (s : State) (seq : Nat) : State := if s.mirrors then s.mirrorOut s.firstCut (.suspect f bad seq) 8 else s
    let s := if bad == c.suspect then s
      else
        let seq := s.cal.seq + 1
        (tell s seq).setSuspect f bad n seq
    if bad || !s.considered f { c with suspect := bad } n then s
    else if 48 ≤ s.cor.pend.length then s.calEvt 7
    else
      let g := ((ds.zip c.g).zip (List.range 8)).map fun ((d, x), b) => match d with
        | some d =>
          let h := s.hourGains c b n
          newGain s.cal.policy d x (minI h) (h.foldl max (getD' h 0 0))
        | none => x
      if g = c.g then s
      else
        let start := s.leadFrom n
        let seq := s.cal.seq + 1
        let fade := s.cal.policy.fade
        let s := if s.mirrors then s.mirrorOut start (.adopt f g fade seq) 32 else s
        s.adopt f g n start fade seq

/-- Only a module that decides holds rounds (R218). -/
def State.holdsRounds (s : State) : Bool := !s.follows && s.twn.state != .seeking

/-- CAL_DECISION_ROUND (R208): at the boundary just passed, once, in LIVE_PROBE. -/
def execCalDecisionRound (s : State) : Result :=
  let n := s.tick
  .next (if s.sys.mode != .liveProbe || !s.ticking || !s.holdsRounds || s.cal.lastRound == some n
        || 16 * n % (s.cal.policy.period * s.fs) != 0 then s
    else
      let s := { s with cal := { s.cal with lastRound := some n } }
      let s := ((s.cal.feeds.filter fun e => e.2.isSome).map (·.1)).foldl (fun s f => s.roundFeed n f) s
      s.onOpen n fun o => { o with cal := { o.cal with feeds := s.cal.feeds, lastSeq := s.cal.lastSeq } })

end Sys2Proof.Machine
end

