-- ==== Sys2Proof/Machine/Render.lean ====
section
/-! DEFINITION. The commands of chapter "Render Core and the Tick": RENDER_CONFIG, PAUSE and RESUME (R43 to R48). -/

namespace Sys2Proof.Machine

/-- Every setting that depends on the rate returns to its reset value (R48). -/
def State.rateReset (s : State) : State :=
  { s with
    pan := { PanSt.reset with kernelId := s.pan.kernelId, evt := s.pan.evt, slewCnt := s.pan.slewCnt, walkCnt := s.pan.walkCnt
                              geomLast := s.pan.geomLast, geomMax := s.pan.geomMax }
    rte := { RteSt.reset with evt := s.rte.evt, satCnt := s.rte.satCnt, hingeCnt := s.rte.hingeCnt, wdiscardCnt := s.rte.wdiscardCnt }
    cor := { CorSt.reset with evt := s.cor.evt, satCnt := s.cor.satCnt, hingeCnt := s.cor.hingeCnt
                              supersedeCnt := s.cor.supersedeCnt, wdiscardCnt := s.cor.wdiscardCnt
                              prepLateCnt := s.cor.prepLateCnt, nextId := s.cor.nextId }
    obj := { s.obj with objs := [], beds := [], pol := [], frameAt := [] }
    net := { s.net with flowIn := [], flowOut := [], pend := [], seenIn := [], seenOut := [], rx := [], raw := [] }
    cal := { s.cal with feeds := [], seen := [], lastSeq := [], policy := .reset, caps := [], reports := [], seq := 0, samples := [], run := []
                        probes := [], aligned := [] }
    dac := { s.dac with chans := s.dac.chans.map fun c => { DacCh.reset with span := c.span } }
    tap := { s.tap with en := 0, enPend := none } }

/-- RENDER_CONFIG (R47, R48). -/
def renderConfigRun (i : CmdIn) (s : State) : Verdict :=
  if s.sys.mode != .staged then .no .badMode
  else if 1 < rd8 i.body 0 || !zeroAt i.body 1 3 then .no .badParam
  else
    let r := rd8 i.body 0 == 1
    if r == s.rnd.rate96 then .ok s
    else
      let s := s.rateReset
      .ok { s with rnd := { s.rnd with rate96 := r } }

/-- RENDER_CONFIG. -/
def renderConfigCmd : Cmd :=
  { op := 0x110, boot := false, len := lenIs 4, uses := false, quiet := false, asleep := false, mirrored := false,
    run := renderConfigRun }

/-- RENDER_CONFIG (R47, R48). -/
def execRenderConfig (h : Hdr) (p : Bytes) (s : State) : Result := keyway renderConfigCmd h p s

/-- The modes in which PAUSE and RESUME are accepted (R45). -/
def State.pausable (s : State) : Bool :=
  match s.sys.mode with
  | .render | .renderCoast | .liveProbe | .paused => true
  | _ => false

/-- The request takes the place of the pending one, which is answered SUPERSEDED (R46). -/
def State.setPause (s : State) (p : PausePend) : State :=
  let s := match s.rnd.pend with
    | some old => s.answer old.ref .superseded true false []
    | none => s
  { s with rnd := { s.rnd with pend := some p } }

/-- PAUSE and RESUME: accepted for a boundary (R43 to R46). -/
def pauseRun (resume : Bool) (i : CmdIn) (s : State) : Verdict :=
  if !s.pausable && i.mirror.isNone then .no .badMode
  else match s.boundary i s.firstNext with
    | .bad => .no .badParam
    | .late => .no .late
    | .ok n => .defer (s.setPause { resume, tick := n, ref := i.ref }) n

/-- PAUSE. -/
def pauseCmd : Cmd :=
  { op := 0x111, boot := false, len := lenIs 0, uses := true, quiet := false, asleep := false, mirrored := true,
    run := pauseRun false }

/-- PAUSE (R43 to R46). -/
def execPause (h : Hdr) (p : Bytes) (s : State) : Result := keyway pauseCmd h p s

/-- RESUME. -/
def resumeCmd : Cmd :=
  { op := 0x112, boot := false, len := lenIs 0, uses := true, quiet := false, asleep := false, mirrored := true,
    run := pauseRun true }

/-- RESUME (R43 to R46). -/
def execResume (h : Hdr) (p : Bytes) (s : State) : Result := keyway resumeCmd h p s

end Sys2Proof.Machine
end

