-- ==== Sys2Proof/Machine/TwinCmds.lean ====
section
/-! DEFINITION. The twin commands (chapter "Twin Operation over the Hasp", R305, R324 and R328). -/

namespace Sys2Proof.Machine

/-- The ranges of TWIN_CONFIG (R328). -/
def twinConfigOk (p : Bytes) : Bool :=
  let g := rdBE p 24 4
  decide (rd8 p 0 ≤ 1 ∧ rd8 p 1 ≤ 1 ∧ rd8 p 2 ≤ 1 ∧ rd8 p 3 = 0 ∧ rd16 p 4 ≤ 60 ∧ 1024 ≤ rd16 p 6)
    && decide (224 * 2 ^ 24 ≤ g ∧ g < 240 * 2 ^ 24) && zeroAt p 28 4

/-- TWIN_CONFIG: the twin parameters; a twin that is enabled seeks its partner, and one that is not has no path. -/
def twinConfigRun (i : CmdIn) (s : State) : Verdict :=
  let p := i.body
  if s.sys.mode != .staged then .no .badMode
  else if !twinConfigOk p then .no .badParam
  else
    let t := s.twn
    let t := if rd8 p 0 = 1 then t
      else { t with haspUp := false, netaUp := false, netbUp := false, missHasp := 0, missA := 0, missB := 0 }
    .ok { s with twn := { t with
    id := rd8 p 1, autoJoin := rd8 p 2 == 1, wait := rd16 p 4, port := rd16 p 6, seed := rd64 p 8, peerA := rdBE p 16 4,
    peerB := rdBE p 20 4, group := rdBE p 24 4, state := if rd8 p 0 = 1 then .seeking else .off } }

/-- TWIN_CONFIG. -/
def twinConfigCmd : Cmd :=
  { op := 0xA01, boot := false, len := lenIs 32, uses := false, quiet := false, asleep := false, mirrored := false,
    run := twinConfigRun }

/-- TWIN_CONFIG (R305, R328). -/
def execTwinConfig (h : Hdr) (p : Bytes) (s : State) : Result := keyway twinConfigCmd h p s

/-- A twin that renders without a partner's streams asks to join again (R324, R326). -/
def State.rejoin (s : State) : State :=
  { s with twn := { s.twn with state := .joining, joinReq := true, want := false, retryAt := none } }

/-- TWIN_JOIN: a join is wanted; a twin that renders already asks for it at once. -/
def twinJoinRun (_i : CmdIn) (s : State) : Verdict :=
  if s.twn.state != .seeking then .no .badMode
  else if !s.twn.haspUp then .no .busy
  else
    let s := { s with twn := { s.twn with want := true, retryAt := none } }
    .ok (if s.rendering then s.rejoin else s.planStart)

/-- TWIN_JOIN. -/
def twinJoinCmd : Cmd :=
  { op := 0xA02, boot := false, len := lenIs 0, uses := false, quiet := false, asleep := false, mirrored := false, run := twinJoinRun }

/-- TWIN_JOIN (R324, R328). -/
def execTwinJoin (h : Hdr) (p : Bytes) (s : State) : Result := keyway twinJoinCmd h p s

/-- TWIN_QUERY. -/
def twinQueryCmd : Cmd :=
  { op := 0xA03, boot := false, len := lenIs 0, uses := false, quiet := true, asleep := true, mirrored := false,
    run := fun _ s => .done s (leB 4 s.twnStat ++ leB 4 s.twnDigest.toNat ++ leB 4 ((s.twn.peer.map Tumbler.digest).getD 0).toNat
      ++ leB 4 s.twn.appliedHi) (s.tick + 1) }

/-- TWIN_QUERY (R328). -/
def execTwinQuery (h : Hdr) (p : Bytes) (s : State) : Result := keyway twinQueryCmd h p s

end Sys2Proof.Machine
end

