-- ==== Sys2Proof/Machine/Mirror.lean ====
section
/-! DEFINITION. Mirrored actions as the follower takes them, the takeover, and the snapshot of a join (chapter "Twin Operation over
the Hasp", R307, R308, R315 to R318, R325). -/

namespace Sys2Proof.Machine

/-! Commands (R315, R316). -/

/-- The commands that are mirrored (R315). -/
def mirroredCmds : List Cmd :=
  [pauseCmd, resumeCmd, objBindCmd, objSourceCmd, objMoveCmd, objGainCmd, objSpreadCmd, objZonesCmd, objLayoutsCmd, objAttenCmd,
   bedGainCmd, bedBindCmd, metaPolicyCmd, soundSpeedCmd] ++
  [routeGainCmd, routeWriteCmd, routeCommitCmd, corWriteCmd, corHingeCmd, corGainCmd, calCaptureCmd, calEnrollCmd, calPolicyCmd,
   calStartCmd, calStopCmd, sweepStartCmd, sweepStopCmd, calBaselineCmd, calVetoCmd, flowInSetCmd]

/-- The mirrored command of an opcode. -/
def mirroredCmd (op : Nat) : Option Cmd := mirroredCmds.find? fun c => c.op == op

/-- The reply of a command that is answered elsewhere. -/
def noRef (op : Nat) : ReplyRef := { src := .none, opcode := op, tag := 0, aseq := 0 }

/-- The commands without a WHEN: the decider runs them at once, the follower at the record's boundary. -/
def isWrite (op : Nat) : Bool := [0x20A, 0x404, 0x501].contains op

/-- A mirrored command waits for its boundary. -/
def State.takeCmd (s : State) (c : Cmd) (i : CmdIn) (n : Nat) : State :=
  if isWrite i.op then s.schedule n i
  else if i.op = 0x703 then s.flowPend (rd16 i.body 0) n (slice i.body 4 192)
  else match c.run i s with
    | .done s' _ _ => s'
    | .defer s' _ => s'
    | .fail s' _ _ => s'
    | .held s' => s'
    | .refuse _ _ => s

/-- A mirrored command arrives at the follower: a relay of its own that it answers to is decided with it (R316). -/
def State.mirrorCmd (s : State) (n op : Nat) (body : Bytes) : State :=
  match mirroredCmd op with
  | none => s
  | some c =>
    let mine (r : Relay) : Bool := r.op == op && r.body == body && r.decided.isNone
    let rel := s.twn.relays.find? mine
    let ref := (rel.map (·.ref)).getD (noRef op)
    let relays := s.twn.relays.map fun r => if some r = rel then { r with decided := some n } else r
    ({ s with twn := { s.twn with relays } }.takeCmd c { op, body, form := 0, when := 0, ref, mirror := some n } n).sendFreed

/-! Other actions (R317). -/

/-- An accepted S-ADM set arrives for boundary `n`: its blocks, its counts and events, and its frame for the relays (R73, R93, R412).
What this twin has kept of the frame and of earlier ones is covered (R308). -/
def State.mirrorSadm (s : State) (n : Nat) (x : SadmSet) : State :=
  let e := x.entry
  let start := s.frameStart x.ts
  let newest := max ((tabGet none s.obj.frameAt e).getD 0) start
  let s := x.blocks.foldl (fun s (bed, k, flow, b) =>
    if bed then s.pendBed k b
    else
      let s := s.pendObjAt n k b
      s.setObj k { s.objCtx k with flow := some flow }) s
  let o := s.obj
  let s := { s with obj := { o with frameAt := tabSet none o.frameAt e (some newest), evt := o.evt ||| x.evts,
                                    lateCnt := o.lateCnt + x.late, staleCnt := o.staleCnt + x.stale, dropCnt := o.dropCnt + x.drop }
                    net := { s.net with unheard := s.net.unheard.filter fun u => u.1 != e || decide (start < s.frameStart u.2.1) } }
  s.relayFrame e x.bodies x.ts

/-- The boundary of the round that decided an adoption for the start boundary `start` (R212). -/
def State.roundOf (s : State) (start : Nat) : Nat := start - ceilDiv (s.cal.policy.lead * s.fs) 16000

/-- The round boundary at or before boundary `n` (R208). -/
def State.roundBefore (s : State) (n : Nat) : Nat := n - n % (s.cal.policy.period * s.fs / 16)

/-- One record of the decider's waits for its boundary. -/
def State.applyMirror (s : State) (m : Mirror) : State :=
  match m.act with
  | .cmd op body _ => s.mirrorCmd m.tick op body
  | .sadm x => s.mirrorSadm m.tick x
  | .adopt f g fade seq => s.adopt f g (s.roundOf m.tick) m.tick fade seq
  | .suspect f on seq => s.setSuspect f on (s.roundBefore m.tick) seq
  | .timeRef x => { s with twn := { s.twn with refLost := x }, ptm := { s.ptm with declared := s.ptm.declared ++ [(m.tick, x)] } }
  | .egress => { s with twn := { s.twn with join := s.twn.join.map fun j => { j with g := some m.tick } } }
  | .start => s
  | .snap => s

/-- The records that stand next in order of MSEQ are applied (R317); on a follower `nextMseq` is the next of them. -/
def State.drainMirror : Nat → State → State
  | 0, s => s
  | k + 1, s =>
    match s.twn.inbox.find? fun m => m.mseq == s.twn.nextMseq with
    | none => s
    | some m => State.drainMirror k ({ s with twn := { s.twn with nextMseq := m.mseq + 1 } }.applyMirror m)

/-- The records of the inbox that stand next are applied, unless the snapshot that precedes them has not been loaded. -/
def State.drain (s : State) : State :=
  if s.twn.state == .joining && !(s.twn.join.any fun j => j.snap) then s else State.drainMirror s.twn.inbox.length s

/-- A record arrives at the twin that follows (R317, R324, R325). -/
def State.takeMirror (s : State) (m : Mirror) : State :=
  match m.act with
  | .start =>
    if s.sys.mode != .locking || s.rnd.startAt.isSome then s
    else { s with rnd := { s.rnd with startAt := some m.tick }
                  twn := { s.twn with startAs := .lockstep, appliedHi := 0, inbox := [m], nextMseq := m.mseq + 1 } }
  | .snap =>
    if s.twn.state != .joining || s.twn.join.isSome then s
    else { s with twn := { s.twn with
      join := some { asDecider := false, k := m.tick, g := none, matched := 0, snap := false, first := 0 }
      joinReq := false, appliedHi := 0, inbox := [m], nextMseq := m.mseq + 1, theirs := [] } }
  | _ =>
    if !s.follows && s.twn.startAs != .lockstep then s
    else { s with twn := { s.twn with inbox := s.twn.inbox ++ [m] } }.drain

/-! The takeover (R307, R308). -/

/-- A structure of the module owes a reply to this reference. -/
def State.awaits (s : State) (r : ReplyRef) : Bool :=
  s.rnd.pend.any (·.ref == r) || s.rte.pend.any (·.ref == r) || s.cor.pend.any fun q => q.ref == r

/-- A relay of a twin that now decides: decided already, or decided here (R308). -/
def State.settleRelay (s : State) (r : Relay) : State :=
  match r.decided with
  | none => match mirroredCmd r.op with
    | some c => runCmd c { op := r.op, body := r.body, form := r.flags % 4, when := r.when, ref := r.ref, mirror := none } s
    | none => s
  | some n =>
    if defers r.op && s.awaits r.ref then { s with key := { s.key with due := s.key.due ++ [r.ref] } }
    else s.answer r.ref .ok (defers r.op) true (if r.op = 0x502 then leB 8 n ++ leB 4 0 else [])

/-- Every record that has been received is applied in order of MSEQ, past the gaps that stay (R308). -/
def State.drainAll (s : State) : State :=
  let s := s.drain
  (sortBy (fun (a b : Mirror) => decide (a.mseq < b.mseq)) (s.twn.inbox.filter fun m => decide (s.twn.nextMseq < m.mseq))).foldl
    State.applyMirror s

/-- The follower takes the deciding role (R307, R308). -/
def State.takeOver (s : State) : State :=
  let s := s.drainAll
  let t := s.twn
  let heard := s.net.unheard
  let s := { s with twn := { t with state := .alone, decider := true, tookOver := true, takeover := false, relays := [] }
                    net := { s.net with unheard := [] } }.twnEvt 2 |>.endChecks
  let s := heard.foldl (fun s u => s.acceptFrame u.1 u.2.1 u.2.2.1 u.2.2.2) s
  (t.relays.foldl State.settleRelay s).refChange

/-! The snapshot (R325). -/

/-- The snapshot of boundary `k`, with every control as the boundary has left it. -/
def State.takeSnap (s : State) (k : Nat) : Snapshot :=
  { tick := k, mseq := s.twn.nextMseq, startS := s.rnd.startS, ord := s.ord, mode := s.sys.mode, obj := s.obj, pan := s.pan, rte := s.rte,
    cor := s.cor, cal := { s.cal with samples := [] }, level := s.rnd.level, dir := s.rnd.dir, pend := s.rnd.pend,
    retMode := s.rnd.retMode, coastLive := s.rnd.coastLive, refLost := s.twn.refLost, lostRec := s.ptm.lostRec,
    declared := s.ptm.declared, flowIn := s.net.flowIn, flowPend := s.net.pend, relaySeq := s.net.relaySeq, feeds := s.dblt.feeds,
    sched := s.sched }

/-- The snapshot's objects, with this module's own events and its count of its own arrivals (R93). -/
def State.snapObj (s : State) (x : ObjSt) : ObjSt := { x with evt := s.obj.evt, unsupCnt := s.obj.unsupCnt }

/-- The snapshot's pair store and geometry, with this module's own geometry times and staging area (R127). -/
def State.snapPan (s : State) (x : PanSt) : PanSt :=
  let p := s.pan
  { x with staging := p.staging, kernelId := p.kernelId, geomLast := p.geomLast, geomMax := p.geomMax,
           building := x.building.map fun b => (b.1, s.now) }

/-- The snapshot's routing, with this module's own count of discarded writes (R159); its replies are the decider's. -/
def State.snapRte (s : State) (x : RteSt) : RteSt :=
  { x with wdiscardCnt := s.rte.wdiscardCnt, pend := x.pend.map fun p => { p with ref := noRef 0x405 } }

/-- The snapshot's correction, with this module's own counts of discarded writes and late transforms (R186). -/
def State.snapCor (s : State) (x : CorSt) : CorSt :=
  let c := s.cor
  let mute (l : List CorReq) : List CorReq := l.map fun q => { q with ref := noRef 0x502 }
  { x with shadow := [], entering := [], wdiscardCnt := c.wdiscardCnt, prepLateCnt := c.prepLateCnt, pend := mute x.pend, running := mute x.running }

/-- The snapshot's calibration, with this module's own capture samples, events and counts of its own estimates (R220); a capture
channel of the same binding stays as live as it is here. -/
def State.snapCal (s : State) (x : CalSt) : CalSt :=
  let c := s.cal
  let cap (k : Nat) (e : CapChan) : CapChan :=
    if (s.cap k).bind = e.bind then s.cap k else { CapChan.reset with bind := e.bind }
  -- estimates and arrival lags are each module's own (R218)
  let own (x : Option CalFeed) : Option CalFeed :=
    x.map fun f => { f with est := List.replicate 8 [], arrival := none, ended := [] }
  { x with feeds := tabMap none own x.feeds, caps := tabMapK CapChan.reset cap x.caps, samples := c.samples, aligned := [], evt := c.evt, blockCnt := c.blockCnt, rejectCnt := c.rejectCnt,
           abandonCnt := c.abandonCnt, clipCnt := c.clipCnt }

/-- The snapshot's deadbolt running state; what a parity failure holds here stays held, and nothing else does (R302). -/
def State.snapDblt (s : State) (x : Tab DbFeed) : Tab DbFeed :=
  let keep (t : Tab DbFeed) (f : Nat) : Tab DbFeed :=
    tabSet DbFeed.reset t f { tabGet DbFeed.reset x f with held := (tabGet DbFeed.reset s.dblt.feeds f).held }
  ((x ++ s.dblt.feeds).map (·.1)).foldl keep x

/-- The ingress table of the snapshot: an entry that differs starts reception anew. -/
def State.snapFlows (s : State) (x : Snapshot) : State :=
  let old := s.neededGroups
  let keys := (s.net.flowIn ++ x.flowIn).map (·.1)
  let s := keys.foldl (fun s i =>
    let r := tabGet [] x.flowIn i
    if s.flowIn i = r then s else s.setFlowIn i r false) s
  let s := { s with net := { s.net with pend := x.flowPend, relaySeq := x.relaySeq, fading := [] } }
  ((s.neededGroups.filter fun g => !old.contains g).foldl State.joinGroup s).leaveUnneeded old

/-- The joiner loads the snapshot and stands before tick K (R325). Inputs up to tick K come from its own windows. -/
def State.loadSnap (s : State) (x : Snapshot) (j : JoinSt) : State :=
  let k := x.tick
  let s := (s.rnd.open_.filter fun o => !o.opened && decide (o.tick < k)).foldl (fun s o => s.ingest o.tick) s
  let s := (s.stopEngines.snapFlows x).setMode x.mode
  let pend := x.pend.map fun p => { p with ref := noRef 0x111 }
  let sched := x.sched.map fun e => { e with ref := noRef e.op }
  let gaps := s.twn.gaps.filter fun g => decide (k ≤ g)
  let join : JoinSt := { j with snap := true, first := x.mseq }
  { s with
    obj := s.snapObj x.obj, pan := s.snapPan x.pan, rte := s.snapRte x.rte, cor := s.snapCor x.cor, cal := s.snapCal x.cal, sched
    ord := x.ord
    dblt := { s.dblt with feeds := s.snapDblt x.feeds, dcDone := k }
    ptm := { s.ptm with lostRec := x.lostRec, declared := x.declared }
    disp := { s.disp with commits := [] }
    rnd := { s.rnd with level := x.level, dir := x.dir, pend, retMode := x.retMode, coastLive := x.coastLive, startS := x.startS
                        nextIn := k, nextOut := k, cushion := [], kept := [], partials := [], buses := [], lastTick := k - 1, sched := .onTime }
    twn := { s.twn with join := some join, refLost := x.refLost, checking := true, crc := [], gaps, nextMseq := x.mseq } }.drain

end Sys2Proof.Machine
end

