-- ==== Sys2Proof/Machine/Twin.lean ====
section
/-! DEFINITION. The twins' messages and timers (chapter "Twin Operation over the Hasp", R306 to R326): tumblers and the loss of paths,
mirror records, relays, checks and verdicts, the snapshot, and the start and the failure of joins. -/

namespace Sys2Proof.Machine

/-! Paths (R309 to R311). -/

/-- The port of a path. -/
def TwinPath.port : TwinPath → Nat
  | .hasp => 3
  | .netA => 0
  | .netB => 1

/-- Twin operation is enabled and an image runs (R305, R306). -/
def State.twinOn (s : State) : Bool := s.twn.state != .off && s.imageRuns

/-- A twin message arrives on a path. -/
def State.twinReceive (s : State) (path : TwinPath) (f : State → State) : State :=
  s.receive path.port 0 (s.portServes path.port && s.twinOn) f

/-- A message whose number of its own type has not come before is handled; a duplicate is discarded (R309). -/
def State.unlessSeen (s : State) (ty seq : Nat) (f : State → State) : State :=
  if s.twn.seenSeq.contains (ty, seq) then s
  else f { s with twn := { s.twn with seenSeq := ((ty, seq) :: s.twn.seenSeq).take 65536 } }

/-- The path is up. -/
def State.pathUp (s : State) (p : TwinPath) : Bool :=
  match p with
  | .hasp => s.twn.haspUp
  | .netA => s.twn.netaUp
  | .netB => s.twn.netbUp

/-- The path is up or lost; its run of missed intervals starts anew. -/
def State.setPath (s : State) (p : TwinPath) (up : Bool) : State :=
  let t := s.twn
  { s with twn := match p with
    | .hasp => { t with haspUp := up, missHasp := 0 }
    | .netA => { t with netaUp := up, missA := 0 }
    | .netB => { t with netbUp := up, missB := 0 } }

/-- A tumbler is due on a path and has not come: the run of missed intervals, and the count. -/
def State.missOne (s : State) (p : TwinPath) : State :=
  let t := s.twn
  { s with twn := match p with
    | .hasp => { t with missHasp := t.missHasp + 1, missHaspCnt := t.missHaspCnt + 1 }
    | .netA => { t with missA := t.missA + 1, missNetaCnt := t.missNetaCnt + 1 }
    | .netB => { t with missB := t.missB + 1, missNetbCnt := t.missNetbCnt + 1 } }

/-- The run of missed intervals that loses the path has been reached (R311). -/
def State.missedOut (s : State) (p : TwinPath) : Bool :=
  match p with
  | .hasp => decide (5 ≤ s.twn.missHasp)
  | .netA => decide (3 ≤ s.twn.missA)
  | .netB => decide (3 ≤ s.twn.missB)

/-! Tumblers (R310). -/

/-- This module's tumbler. -/
def State.tumbler (s : State) : Tumbler :=
  let t := s.twn
  { state := t.state.num, decider := t.decider, id := t.id, timeLocked := if s.rendering then !s.ptm.lost else s.timeLocked,
    ready := t.ready, joinReq := t.joinReq, reason := s.intg.reason, digest := s.twnDigest,
    tick := if s.rendering || s.sys.mode == .yielded then s.rnd.lastTick else 2 ^ 64 - 1, appliedHi := t.appliedHi,
    stateDigest := s.twnStateDigest }

/-- A tumbler as its 24 bytes (R310). -/
def Tumbler.bytes (m : Tumbler) : Bytes :=
  leB 1 1 ++ leB 1 m.state ++ leB 1 (flags [m.decider, m.id == 1, m.timeLocked, m.ready, m.joinReq]) ++ leB 1 m.reason
    ++ leB 4 m.digest.toNat ++ leB 8 m.tick ++ leB 4 m.appliedHi ++ leB 4 m.stateDigest.toNat

/-- TUMBLER_SEND (R309): on HASP once twin operation is enabled; to the tumbler group on a media port while it transmits (R10). -/
def execTumblerSend (t : Nat) (path : TwinPath) (s : State) : Result :=
  let s := s.at t
  let dst := if path = .hasp then s.haspPeer else s.twn.group
  .next (if !s.twinOn || !s.portServes path.port then s
    else s.post path.port (.made 4 dst s.twn.port (.twin path 0 24 (.tumbler s.tumbler.bytes))))

/-- Lockstep ends (R307, R311): the decider goes on alone; a follower takes the role at the next tick boundary. -/
def State.partLock (s : State) : State :=
  if s.twn.state != .lockstep then s
  else if s.twn.decider then ({ s with twn := { s.twn with state := .alone } }.endChecks).refChange
  else { s with twn := { s.twn with takeover := true } }

/-- The partner's REASON (R311, R322). -/
def State.peerYields (s : State) (m : Tumbler) : State :=
  if m.reason = 0 then s
  else
    let s := s.twnEvt 9
    let s := if m.reason = 7 then s.twnEvt 4 else s
    s.partLock.joinFail

/-- A live partner that decides is seen again after it was lost (R312). -/
def State.peerReturns (s : State) (m : Tumbler) : State :=
  if m.state = TwnState.seeking.num && m.reason == 0 then { s with twn := { s.twn with wasLost := false } }
  else if s.twn.wasLost && s.twn.tookOver && s.twn.decider && s.rendering && m.decider && m.reason == 0 then s.diverged true
  else s

/-- The decider that renders alone answers JOIN_REQ with a snapshot boundary (R325). -/
def State.startJoin (s : State) (m : Tumbler) : State :=
  if !m.joinReq || m.state != TwnState.joining.num || m.reason != 0 || m.digest != s.twnDigest || m.id == s.twn.id || !s.twn.haspUp
      || s.twn.state != .alone || !s.ticking || s.twn.join.isSome || s.twn.wasLost then s
  else
    let k := s.firstAhead (256 * s.fs / 1000)
    let j : JoinSt := { asDecider := true, k, g := none, matched := 0, snap := false, first := 0 }
    { s with twn := { s.twn with join := some j, nextMseq := 1, unacked := [], inbox := [], appliedHi := 0 } }.mirrorOut k .snap 0

/-- The digest and the ID of a partner that is seen (R313). -/
def State.peerChecks (s : State) (m : Tumbler) : State :=
  let s := if m.id = s.twn.id then s.twnEvt 6 else s
  if m.digest = s.twnDigest then s else s.twnEvt 5

/-- TUMBLER_RX (R311 to R313, R318, R324, R325); before an image runs a tumbler on HASP is logged and counted (R369). -/
def execTumblerRx (t : Nat) (path : TwinPath) (m : Tumbler) (s : State) : Result :=
  let s := s.at t
  let log (s : State) : State := { s with twn := { s.twn with logged := (m :: s.twn.logged).take 64 } }
  .next (if path = .hasp && !s.imageRuns then s.receive 3 0 true log else s.twinReceive path fun s =>
    let s := if s.seesPeer then s else { s with twn := { s.twn with seenSeq := [] } }
    let s := if s.pathUp path then s else s.twnEvt 1
    let s := { (s.setPath path true) with twn := { (s.setPath path true).twn with peer := some m } }
    ((((s.peerChecks m).peerYields m).peerReturns m).startJoin m).refChange.planStart)

/-- The relays of a twin that does not take the role are answered without the partner that is lost: as decided where the decision has come,
and otherwise BAD_MODE. -/
def State.endRelays (s : State) : State :=
  if s.twn.takeover then s
  else s.twn.relays.foldl (fun s r => if r.decided.isSome then s.settleRelay r
      else s.countRefusal.answer r.ref .badMode false true []) { s with twn := { s.twn with relays := [] } }

/-- The partner is lost (R311). -/
def State.losePeer (s : State) : State :=
  ({ s with twn := { s.twn with wasLost := s.twn.wasLost || s.rendering } }.twnEvt 0).partLock.joinFail.endRelays

/-- A path is lost (R311, R326). -/
def State.losePath (s : State) (p : TwinPath) : State :=
  let s := (s.setPath p false).twnEvt 1
  let s := if p = .hasp then s.joinFail else s
  if s.seesPeer then s else s.losePeer

/-- TUMBLER_MISS (R311): an interval has passed without a tumbler on the path. -/
def execTumblerMiss (t : Nat) (path : TwinPath) (s : State) : Result :=
  let s := s.at t
  .next (if !s.twinOn then s
    else
      let s := s.missOne path
      if s.pathUp path && s.missedOut path then s.losePath path else s)

/-! Mirror records and relays (R316, R317). -/

/-- MIRROR_RX (R317): acknowledged by the twin that does not decide, and taken. -/
def execMirrorRx (t seq : Nat) (path : TwinPath) (m : Mirror) (s : State) : Result :=
  let s := s.at t
  .next (s.twinReceive path fun s =>
    if s.twn.decider then s
    else (s.sendTwin (.ack m.mseq) 8).unlessSeen 2 seq fun s => s.takeMirror m)

/-- ACK_RX (R317). -/
def execAckRx (t seq : Nat) (path : TwinPath) (mseq : Nat) (s : State) : Result :=
  let s := s.at t
  .next (s.twinReceive path fun s => s.unlessSeen 3 seq fun s =>
    { s with twn := { s.twn with unacked := s.twn.unacked.filter fun m => m.2.mseq != mseq } })

/-- The bytes of a record's payload. -/
def Mirror.len (m : Mirror) : Nat :=
  32 + match m.act with
    | .cmd _ body _ => body.length
    | .sadm x => sumN (x.bodies.map (·.length))
    | .adopt _ _ _ _ => 32
    | .suspect _ _ _ => 8
    | .timeRef _ => 1
    | .start => 0
    | .snap => 0
    | .egress => 0

/-- A record goes out again on every available path, under its own number. -/
def State.resend (s : State) (e : Nat × Mirror) : State :=
  [TwinPath.hasp, .netA, .netB].foldl (fun s p => if s.pathUp p then s.postOn p e.1 (.mirror e.2) e.2.len else s)
    { s with twn := { s.twn with retxCnt := s.twn.retxCnt + 1 } }

/-- MIRROR_RETX (R317): every record without an acknowledgement. -/
def execMirrorRetx (t : Nat) (s : State) : Result :=
  let s := s.at t
  .next (if s.twinOn && s.seesPeer then s.twn.unacked.foldl State.resend s else s)

/-- A relayed command at the decider (R316): checked as one of its own. A twin that has no role any more answers BAD_MODE. -/
def State.relayed (s : State) (rseq op : Nat) (body : Bytes) (fl when : Nat) : State :=
  if !s.twn.decider || !s.rendering then s.sendTwin (.answer rseq .badMode [] false) 16
  else
    let ref : ReplyRef := { src := .relay rseq, opcode := op, tag := 0, aseq := s.key.aseq.toNat }
    match headCheck s (mirroredCmd op) true body.length fl body, mirroredCmd op with
    | some st, _ => s.countRefusal.answer ref st false false []
    | none, some c => runCmd c { op, body, form := fl % 4, when, ref, mirror := none } s
    | none, none => s

/-- The decider's answer at the twin that relayed (R316): the reply of the command. -/
def State.relayAnswer (s : State) (rseq : Nat) (st : Status) (payload : Bytes) (deferred : Bool) : State :=
  match s.twn.relays.find? fun r => r.seq == rseq with
  | none => s
  | some r =>
    let s := { s with twn := { s.twn with relays := s.twn.relays.filter (· != r) } }
    let s := if st == .ok || st == .superseded then s else s.countRefusal
    s.answer r.ref st deferred true payload

/-- RELAY_RX (R316). -/
def execRelayRx (t seq : Nat) (path : TwinPath) (m : TwinMsg) (s : State) : Result :=
  let s := s.at t
  .next (s.twinReceive path fun s => s.unlessSeen 6 seq fun s =>
    match m with
    | .relay rseq op body fl when => s.relayed rseq op body fl when
    | .answer rseq st payload deferred => s.relayAnswer rseq st payload deferred
    | _ => s)

/-! Checks (R321, R322). -/

/-- CHECK_RX (R322): kept until this twin's own check of the tick is there. -/
def execCheckRx (t seq : Nat) (path : TwinPath) (c : Check) (s : State) : Result :=
  let s := s.at t
  .next (s.twinReceive path fun s => s.unlessSeen 4 seq fun s =>
    if !s.twn.checking && s.twn.join.isNone then s
    else { s with twn := { s.twn with theirs := s.twn.theirs ++ [c] } }.compareChecks c.tick)

/-- VERDICT_RX (R322). -/
def execVerdictRx (t seq : Nat) (path : TwinPath) (n : Nat) (clean : Bool) (s : State) : Result :=
  let s := s.at t
  .next (s.twinReceive path fun s => s.unlessSeen 5 seq fun s =>
    if s.twn.state != .lockstep then s
    else { s with twn := { s.twn with peerVerdict := some (n, clean) } }.actOnVerdict false)

/-- VERDICT_TIMEOUT (R322): 1 ms after its own verdict. -/
def execVerdictTimeout (t : Nat) (s : State) : Result :=
  let s := s.at t
  .next (match s.twn.verdict with
    | some (_, _, t0) => if s.twn.decider && decide (t0 + 1000000 ≤ s.now) then s.actOnVerdict true else s
    | none => s)

/-! Starts and joins (R324 to R326, R385). -/

/-- A SNAPSHOT goes out on HASP (R310). Its length is not stated. -/
def State.sendSnapshot (s : State) (x : Snapshot) : State :=
  let (q, s) := s.nextTwinSeq 7
  s.postOn .hasp q (.snapshot x) 8192

/-- SNAPSHOT_SEND (R325): once tick K - 1 has completed. -/
def execSnapshotSend (t : Nat) (s : State) : Result :=
  let s := s.at t
  .next (match s.rnd.joinSnap, s.twn.join with
    | some x, some j =>
      if !s.twn.haspUp || s.rnd.nextOut < x.tick || s.rnd.lastTick + 1 < x.tick then s
      else
        let x := if s.rnd.nextOut = x.tick then { x with feeds := s.dblt.feeds } else x
        let s := { s with rnd := { s.rnd with joinSnap := none }, twn := { s.twn with join := some { j with snap := true } } }
        s.sendSnapshot x
    | _, _ => s)

/-- SNAPSHOT_RX (R325): loaded once, when the joiner stands before the boundary it belongs to. -/
def execSnapshotRx (t seq : Nat) (snap : Snapshot) (s : State) : Result :=
  let s := s.at t
  .next (s.twinReceive .hasp fun s => s.unlessSeen 7 seq fun s =>
    match s.twn.join with
    | some j =>
      if s.twn.state = .joining && s.rendering && !j.snap && snap.tick == j.k && s.tick + 1 == j.k then s.loadSnap snap j else s
    | none => s)

/-- The partner is not coming: it is not ready, or not seen (R324). -/
def State.peerWaits (s : State) : Bool :=
  s.peerNow.all fun m => m.state != TwnState.alone.num && !(m.ready && s.twn.haspUp && m.reason == 0)

/-- TWIN_WAIT_EXPIRY (R324). -/
def execTwinWaitExpiry (t : Nat) (s : State) : Result :=
  let s := s.at t
  .next (if s.sys.mode = .locking && s.twn.state = .seeking && s.twn.ready && s.timeLocked && s.rnd.startAt.isNone && !s.peerBars
      && s.peerWaits && decide (s.twn.readyAt + s.twn.wait * 1000000000 ≤ s.now) then s.planAt s.now .alone
    else s)

/-- JOIN_REQ_SEND (R385): 200 ms after the start boundary. -/
def execJoinReqSend (t : Nat) (s : State) : Result :=
  let s := s.at t
  .next (if s.twn.state = .joining && s.rendering && s.twn.join.isNone
      && decide (16 * s.rnd.startS + s.fs / 5 ≤ s.sampleNow) then { s with twn := { s.twn with joinReq := true } }
    else s)

/-- JOIN_FAIL_TIMEOUT (R326): not caught up within 10 s of K. -/
def execJoinFailTimeout (t : Nat) (s : State) : Result :=
  let s := s.at t
  .next (match s.twn.join with
    | some j => if j.matched = 0 && decide (16 * j.k + 10 * s.fs ≤ s.sampleNow) then s.joinFail else s
    | none => s)

/-- AUTO_JOIN_RETRY (R326): 10 s after the failure. -/
def execAutoJoinRetry (t : Nat) (s : State) : Result :=
  let s := s.at t
  .next (match s.twn.retryAt with
    | some r =>
      if decide (s.now < r) || s.twn.state != .seeking || !s.twn.autoJoin then s
      else if s.rendering then s.rejoin
      else { s with twn := { s.twn with retryAt := none } }.planStart
    | none => s)

end Sys2Proof.Machine
end

