-- ==== Sys2Proof/Machine/Boundary.lean ====
section
/-! DEFINITION. Tick boundaries: what the start boundary and every later one apply (R43 to R46, R51, R149, R173 to R181, R382 to R385,
R401, R430), staleness (R89), and the ends of fades. -/

namespace Sys2Proof.Machine

/-- The time in ns since reset release at which sample index `m` comes (R420, R428). -/
def State.nsOfSample (s : State) (m : Nat) : Nat :=
  let want : Int := (ceilDiv (m * 1000000000) s.fs : Nat)
  ((s.ptm.baseNow : Int) + ceilDivI ((want - s.ptm.baseMedia) * 1000000000) (1000000000 + s.ptm.freq)).toNat

/-! The ends of fades. -/

/-- The boundary at which a fade of `f` samples that started at boundary `b` ends (R174). -/
def fadeEnd (b f : Nat) : Nat := b + f / 16

/-- Correction fades that end at or before boundary `n` (R173, R175). -/
def State.corEnds (s : State) (n : Nat) : State :=
  (s.cor.running.filter fun r => r.feeds.any fun f => (s.feedCor f).hinge.any fun h => decide (fadeEnd h.start h.fade ≤ n)).foldl
    State.corEnd s

/-- The route cross-fade that ends at or before boundary `n` (R149). -/
def State.routeEnds (s : State) (n : Nat) : State :=
  match s.rte.hinge with
  | none => s
  | some h =>
    if n < fadeEnd h.start h.fade then s
    else { s with rte := { s.rte with bank := 1 - s.rte.bank, hinge := none, evt := setBit s.rte.evt 3, hingeCnt := s.rte.hingeCnt + 1 } }

/-- The boundary that has come: the last one passed, or the next when its time has come. -/
def State.boundaryNow (s : State) : Nat := max s.tick (min (s.tick + 1) (s.sampleNow / 16))

/-- COR_FADE_END (R173, R175). -/
def execCorFadeEnd (s : State) : Result := .next (if s.ticking then s.corEnds s.boundaryNow else s)

/-- ROUTE_HINGE_END (R149). -/
def execRouteHingeEnd (s : State) : Result := .next (if s.ticking then s.routeEnds s.boundaryNow else s)

/-! Scheduled actions (R51). -/

/-- One scheduled command takes effect at boundary `n`. -/
def State.runSched (s : State) (n : Nat) (e : Sched') : State :=
  if e.op = 0x304 then s.soundAt n e.body
  else if e.op = 0x811 then s.dacMapAt (some n) e.body
  else if isWrite e.op then
    match mirroredCmd e.op with
    | some c =>
      match c.run { op := e.op, body := e.body, form := 0, when := 0, ref := e.ref, mirror := none } s with
      | .done s' _ _ => s'
      | _ => s
    | none => s
  else s.calAt e.op n e.body

/-- The scheduled commands of boundary `n`, in their order. -/
def State.runScheds (s : State) (n : Nat) : State :=
  let due := s.sched.filter fun e => decide (e.tick ≤ n)
  due.foldl (fun s e => s.runSched n e) { s with sched := s.sched.filter fun e => decide (n < e.tick) }

/-- The metadata blocks of boundary `n` (R65, R69 to R71). -/
def State.runBlocks (s : State) (n : Nat) : State :=
  { s with obj := { s.obj with objs := tabMap ObjCtx.reset (fun c => (c.wakeAt n).applyDue s.refs n c.pend.length) s.obj.objs
                               beds := tabMap BedCtx.reset (fun c => c.applyDue n c.pend.length) s.obj.beds } }

/-- A route hinge starts at boundary `n` (R149, R152): the new program's state starts with its first tick. -/
def State.routeStarts (s : State) (n : Nat) : State :=
  match s.rte.pend with
  | none => s
  | some p =>
    if n < p.tick || s.rte.hinge.isSome then s
    else
      let b := 1 - s.rte.bank
      let s := s.loadProg b
      let h : HingeRun := { start := n, fade := p.fade }
      { s with rte := { s.rte with hinge := some h, pend := none, frozen := false, fresh := some (b, n) } }.answer p.ref .ok true false []

/-- The gain changes of boundary `n`: ROUTE_GAIN and COR_GAIN (R133, R165). -/
def State.runGains (s : State) (n : Nat) : State :=
  let r := s.rte.gainPend.filter fun e => decide (e.1 ≤ n)
  let c := s.cor.gainPend.filter fun e => decide (e.1 ≤ n)
  let s := { s with rte := { s.rte with gainPend := s.rte.gainPend.filter fun e => decide (n < e.1) }
                    cor := { s.cor with gainPend := s.cor.gainPend.filter fun e => decide (n < e.1) } }
  c.foldl (fun s e => s.feedGainsAt n e.2.2) (r.foldl (fun s e => s.gainsAt n e.2.2) s)

/-- One ingress change takes effect at boundary `n` (R401): the replaced record fades out, and its groups wait for B + 64. -/
def State.flowStarts (s : State) (n : Nat) (p : FlowPend) : State :=
  let i := p.index
  let old := s.flowIn i
  let keep := (s.net.raw.filter fun e => decide (4194304 * i ≤ e.1 ∧ e.1 < 4194304 * (i + 1))).map fun e => (e.1 + 4194304 * 1024, e.2)
  let drop := 1024 + i
  let raw := tabDrop s.net.raw (4194304 * drop) (4194304 * (drop + 1))
  let lo := raw.filter fun e => decide (e.1 < 4194304 * drop)
  let hi := raw.filter fun e => decide (4194304 * (drop + 1) ≤ e.1)
  let rx := tabSet FlowRx.idle s.net.rx drop (s.flowRx i)
  let fading := s.net.fading.filter (fun f => f.1 != i) ++ [(i, old, 16 * n)]
  let leaves := s.net.leaves ++ (fiGroups old).map fun g => (g.1, g.2.1, g.2.2, 16 * n + 64)
  { s with net := { s.net with raw := lo ++ keep ++ hi, rx, fading, leaves, pend := s.net.pend.filter (· != p) } }.setFlowIn i p.record true

/-- The ingress changes of boundary `n` (R401). -/
def State.runFlows (s : State) (n : Nat) : State :=
  (s.net.pend.filter fun p => decide (p.tick ≤ n)).foldl (fun s p => s.flowStarts n p) s

/-- Correction requests whose boundary has come and none of whose feeds fades, oldest first (R175, R181). -/
def State.corStarts (s : State) (n : Nat) : State :=
  s.cor.pend.foldl (fun s r =>
    if r.start ≤ n && r.feeds.all (fun f => (s.feedCor f).hinge.isNone) then s.corStart r n else s) s

/-! Pause and resume (R43 to R46). -/

/-- A pause takes effect: the mode becomes PAUSED and L turns downward; in PAUSED it changes nothing. -/
def State.pauseNow (s : State) : State :=
  if s.sys.mode = .paused then s
  else
    let r := { s.rnd with dir := .down, retMode := s.sys.mode, coastLive := s.rnd.coastLive && s.sys.mode == .renderCoast }
    { s with rnd := r }.setMode .paused

/-- A resume takes effect: the mode before the pause returns, or RENDER_COAST after a recorded loss, and L turns upward. -/
def State.resumeNow (s : State) : State :=
  if s.sys.mode != .paused then s
  else
    let rec' := s.ptm.lostRec
    let live := (s.rnd.retMode == .liveProbe) || s.rnd.coastLive
    let m := if rec' then Mode.renderCoast else s.rnd.retMode
    let s := { s with rnd := { s.rnd with dir := .up, coastLive := live && m == Mode.renderCoast }, ptm := { s.ptm with lostRec := false } }
    s.setMode m

/-- The pending pause or resume takes effect at boundary `n`, and is answered; a sweep leaves it without effect. -/
def State.runPause (s : State) (n : Nat) : State :=
  match s.rnd.pend with
  | none => s
  | some p =>
    if n < p.tick then s
    else
      let s := { s with rnd := { s.rnd with pend := none } }
      let s := if s.sys.mode = .sweep then s else if p.resume then s.resumeNow else s.pauseNow
      s.answer p.ref .ok true false []

/-- The level L before tick `n`, after the sixteen samples of the tick before (R43). -/
def State.runLevel (s : State) : State :=
  let l := match s.rnd.dir with
    | .down => s.rnd.level - 16
    | .up => min 64 (s.rnd.level + 16)
    | .hold => s.rnd.level
  let d := if (s.rnd.dir == .down && l == 0) || (s.rnd.dir == .up && l == 64) then FadeDir.hold else s.rnd.dir
  { s with rnd := { s.rnd with level := l, dir := d } }

/-! Loss and regain of the time reference (R216, R318, R430). -/

/-- A declared loss changes the mode. -/
def State.lossNow (s : State) : State :=
  match s.sys.mode with
  | .render => { s with rnd := { s.rnd with coastLive := false } }.setMode .renderCoast
  | .liveProbe => { s with rnd := { s.rnd with coastLive := true } }.setMode .renderCoast
  | .paused => { s with ptm := { s.ptm with lostRec := true } }
  | .sweep => { s with ptm := { s.ptm with lostRec := true } }.setMode .paused
  | _ => s

/-- A declared regain changes the mode. -/
def State.regainNow (s : State) : State :=
  let back := if s.rnd.coastLive then Mode.liveProbe else Mode.render
  match s.sys.mode with
  | .renderCoast => { s with rnd := { s.rnd with coastLive := false } }.setMode back
  | .paused | .sweep =>
    let r := { s.rnd with retMode := if s.rnd.retMode = .renderCoast then back else s.rnd.retMode }
    { s with rnd := r, ptm := { s.ptm with lostRec := false } }
  | _ => s

/-- The declared losses and regains of boundary `n`, in their order. -/
def State.runRefs (s : State) (n : Nat) : State :=
  let due := s.ptm.declared.filter fun d => decide (d.1 ≤ n)
  let s := { s with ptm := { s.ptm with declared := s.ptm.declared.filter fun d => decide (n < d.1) } }
  due.foldl (fun s d => if d.2 then s.lossNow else s.regainNow) s

/-! The boundary. -/

/-- A twin's egress boundary (R325): the joiner sends from here on, in LOCKSTEP, on its partner's packet grid. -/
def State.runJoin (s : State) (n : Nat) : State :=
  match s.twn.join with
  | none => s
  | some j =>
    if !j.g.any (· ≤ n) then s
    else
      let from0 := s.flowsOut.foldl (fun t e =>
        let len := frLen s.rnd.rate96 e.2
        if j.asDecider then t else tabSet 0 t e.1 (ceilDiv (16 * n - s.stamp e.2 0) len)) s.rnd.pktNext
      { s with twn := { s.twn with state := .lockstep, join := none, joinReq := false, want := false, tookOver := false, wasLost := false }
               rnd := { s.rnd with pktNext := from0 } }.twnEvt 7

/-- The decider of a join keeps the snapshot of its boundary, and both twins' checks start there (R325). -/
def State.runSnap (s : State) (n : Nat) : State :=
  match s.twn.join with
  | none => s
  | some j =>
    if !j.asDecider || j.k != n then s
    else { s with rnd := { s.rnd with joinSnap := some (s.takeSnap n) }, twn := { s.twn with checking := true, crc := [], gaps := [] } }

/-- Probing pauses from this boundary on (R215). -/
def State.probeHalts (s : State) : Bool :=
  match s.sys.mode with
  | .paused => s.rnd.retMode == .liveProbe || s.rnd.coastLive
  | .renderCoast => s.rnd.coastLive
  | _ => false

/-- The tick of boundary `n` opens, with every control as the boundary has left it. -/
def State.openBoundary (s : State) (n : Nat) : State :=
  let o : OpenTick :=
    { tick := n, opened := false, late := false, mode := s.sys.mode, level := s.rnd.level, dir := s.rnd.dir, halted := s.probeHalts
      obj := s.obj
      sound := s.pan.sound, flowIn := s.net.flowIn, flowOut := s.net.flowOut, rte := s.rte, cor := s.cor, cal := s.cal, pairs := [],
      rteSat := false, corSat := false }
  { s with rnd := { s.rnd with open_ := s.rnd.open_ ++ [o] } }

/-- What boundary `n` applies, in this order: ends of fades, the takeover and the egress boundary of the twins, metadata, scheduled
commands, hinges, gains, flows, spans, customer kernels, the pause, and the time reference. -/
def State.applyBoundary (s : State) (n : Nat) : State :=
  let s := ((s.runLevel.corEnds n).routeEnds n)
  let s := if s.twn.takeover then s.takeOver else s
  let s := ((s.runJoin n).runBlocks n).runScheds n |>.runBases n
  let s := ((((s.routeStarts n).runGains n).runFlows n).corStarts n).spanStart n
  let s := { s with tap := { s.tap with en := s.tap.enPend.getD s.tap.en, enPend := none } }
  (((s.runPause n).runRefs n).runSnap n).openBoundary n

/-- The tick stops at P (R476, R518): nothing runs after it, and the sequencer's steps count from here. -/
def State.stopTick (s : State) (n : Nat) : State :=
  let t := s.twn
  let t := { t with state := if t.state = .alone then .seeking else t.state, decider := false }
  { s with tick := n, pwr := { s.pwr with transAt := s.now, stepNo := 1 }, twn := t
           tap := { s.tap with en := s.tap.enPend.getD s.tap.en, enPend := none } }.clampDac.stopEngines

/-- A joiner stands before boundary K until it holds the snapshot (R325). -/
def State.joinerWaits (s : State) (n : Nat) : Bool :=
  s.twn.state == .joining && s.twn.join.any fun j => !j.snap && decide (j.k ≤ n)

/-- TICK_BOUNDARY (R51): the next boundary, at its media time. -/
def execTickBoundary (s : State) : Result :=
  let n := s.tick + 1
  .next (if !s.ticking || s.joinerWaits n then s
    else
      let s := (s.at (s.nsOfSample (16 * n))).applyMoves
      if s.intg.yieldPend.any fun y => decide (y.1 ≤ n) then { s with tick := n }.takeYield
      else if s.rnd.stopAt.any fun p => decide (p ≤ n) then s.stopTick n
      else { s with tick := n }.applyBoundary n)

/-! Staleness (R89, R90). -/

/-- The hold time of an S-ADM flow in samples. -/
def State.holdSamples (s : State) (flow : Nat) : Nat := (tabGet MetaPol.reset s.obj.pol flow).holdMs * s.fs / 1000

/-- OBJ_STALE (R89, R90): at the boundary just passed, the objects bound through the flow; a policy applies while its entry is an
enabled S-ADM entry (R92). -/
def execObjStale (flow : Nat) (s : State) : Result :=
  let n := s.tick
  .next (match tabGet none s.obj.frameAt flow with
    | none => s
    | some f =>
      let r := s.flowIn flow
      if !s.ticking || !frOn r || frKind r != 1 || decide (16 * n ≤ f + s.holdSamples flow) then s
      else
        let fade := (tabGet MetaPol.reset s.obj.pol flow).fade
        let hit (c : ObjCtx) : Bool := c.flow == some flow && c.stale == .no
        let any := s.obj.objs.any fun e => hit e.2
        let s := { s with obj := { s.obj with objs := tabMap ObjCtx.reset (fun c => if hit c then c.goStale fade n else c) s.obj.objs } }
        -- the tick of this boundary renders the stale objects
        let s := s.onOpen n fun o => { o with obj := { o.obj with objs := s.obj.objs } }
        if any then s.objEvt 1 else s)

/-! The start boundary (R382 to R385). -/

/-- The ingress term I (R154). -/
def State.ingressFix (s : State) : Nat :=
  ((s.flowsIn.filter fun e => frKind e.2 == 0).map fun e => ingressTerm s.rnd.rate96 (frPtime e.2)).foldl max
    (ingressTerm s.rnd.rate96 0)

/-- PEAK (R197): 0.5 dB below the probe cap, truncated: the largest p with p^40 · 10 ≤ PCAP^40. -/
def peakOf (pcap : Nat) : Nat :=
  (List.range 25).reverse.foldl (fun p i => if (p + 2 ^ i) ^ 40 * 10 ≤ pcap ^ 40 then p + 2 ^ i else p) 0

/-- A module that wakes into PAUSED starts from empty histories, filters and lines; RESUME returns to LIVE_PROBE where the pause
was entered from it itself, not by way of RENDER_COAST, and otherwise to RENDER (R362). -/
def State.startEmpty (s : State) : State :=
  { s with
    rnd := { s.rnd with level := 0, dir := .hold, coastLive := false
                        retMode := if s.rnd.retMode = .liveProbe && !s.rnd.coastLive then .liveProbe else .render }
    rte := { s.rte with lines := [], bedLine := [], nodeOut := [], feedOut := [], scale := [], target := [] }
    cor := { s.cor with line := [], chain := [], shadow := [], entering := []
                        feeds := tabMap FeedCor.reset (fun c => (c.clearBiq 0).clearBiq 1) s.cor.feeds }
    cal := { s.cal with run := [], probes := [], aligned := [] } }

/-- The deadbolt at the start boundary (R11, R298, R301, R383): locked, buckets full, Q clear. A feed that a parity failure holds
stays held (R302). -/
def State.startDbolt (s : State) (n : Nat) : State :=
  let d := s.dblt
  let fresh (f : DbFeed) : DbFeed :=
    { f with q := 0, guard := false, sum := 0, last := 0, under := false, out := [] }
  { s with dblt := { d with locked := true, dcDone := n, tokA := 65536 * 8000, tokB := 65536 * 8000, fillA := s.now, fillB := s.now,
                            feeds := tabMap DbFeed.reset fresh d.feeds } }

/-- The twin at the start boundary (R307, R324, R382): a pair starts together only while the partner is still seen. -/
def State.startTwin (s : State) : State :=
  let t := s.twn
  let t := { t with join := none, ready := false, joinReq := false, refLost := false, tookOver := false, takeover := false, want := false }
  let lock := { t with state := TwnState.lockstep, decider := t.id == 0, checking := true, crc := [], gaps := [], mine := [], theirs := [] }
  let alone := { t with state := TwnState.alone, decider := true, unacked := [], inbox := [] }
  { s with twn :=
    if t.state = .off then t
    else if t.startAs = .joining then { t with state := .joining, decider := false }
    else if t.startAs = .lockstep && s.seesPeer then lock
    else alone }

/-- The render core at the start boundary `n`: its first tick. -/
def State.startRender (s : State) (n : Nat) : State :=
  { s with
    tick := n
    rnd := { s.rnd with startAt := none, startS := n, stopAt := none, sched := .onTime, open_ := [], nextIn := n, nextOut := n,
                        lastTick := if n ≤ s.rnd.lastTick then n - 1 else s.rnd.lastTick, hist := [], bedHist := [], partials := [], buses := [], cushion := [], kept := [], sent := [],
                        pktNext := [], joinSnap := none }
    dac := { s.dac with ramps := [], chans := s.dac.chans.map fun c => { c with old := [] } }
    net := { s.net with raw := [], rx := [], fading := [], relaySeq := [], relayed := [], unheard := [] }
    pan := { s.pan with pairs := [], norm := [], first := true, ready := none, building := some (n, s.now) }
    disp := { s.disp with queue := [], commits := [], krnNext := [], raised := false, lower := false, slotStart := s.now }
    intg := { s.intg with kickAt := s.now }
    rte := { s.rte with ingress := s.ingressFix }
    cor := { s.cor with shadow := [], entering := [] }
    tap := { s.tap with en := s.tap.enPend.getD s.tap.en, enPend := none }
    cal := { s.cal with peak := (peakOf (s.dbltGet 0xC) : Nat), lastRound := none } }

/-- What the queries show from the start boundary until the first tick completes. -/
def State.startSeen (s : State) (n : Nat) : State :=
  { s with obj := { s.obj with seen := s.obj.objs, seenTick := n }
           pan := { s.pan with seen := [], soundSeen := s.soundView n }
           net := { s.net with seenIn := s.net.flowIn, seenOut := s.net.flowOut }
           cal := { s.cal with seen := (s.cal.feeds.map (·.1) ++ s.cal.lastSeq.map (·.1)).foldl
                                         (fun t f => tabSet [] t f (s.calRecord f n)) [] } }

/-- The module enters RENDER, or PAUSED after a wake, at boundary `n` (R360, R383). -/
def State.enterRender (s : State) (n : Nat) : State :=
  let s := ((s.fixPhase (16 * n)).fixEps (16 * n)).startRender n
  let s := if s.pwr.fromPaused then s.startEmpty else { s with rnd := { s.rnd with level := 64, dir := .hold, coastLive := false, retMode := .render } }
  let s := ((s.startDbolt n).startTwin.startSeen n).setMode (if s.pwr.fromPaused then .paused else .render)
  (s.neededGroups.foldl State.joinGroup s).openBoundary n

/-- START_BOUNDARY (R382 to R385). A partner that is seen with another digest or the same ID keeps the module in LOCKING (R313). -/
def execStartBoundary (s : State) : Result :=
  .next (match s.rnd.startAt with
    | none => s
    | some n =>
      if s.sys.mode != .locking || s.pwr.off then s
      else
        let s := s.at (s.nsOfSample (16 * n))
        if s.intg.yieldPend.isSome then s.takeYield
        else if s.twn.state != .off && s.peerBars then { s with rnd := { s.rnd with startAt := none } }
        else s.enterRender n)

end Sys2Proof.Machine
end

