-- ==== Sys2Proof/Machine/Deadbolt.lean ====
section
/-! DEFINITION. DBLT_WRITE and DBLT_READ (R292, R294, R549). -/

namespace Sys2Proof.Machine

/-- OFFSET and LEN of a deadbolt command are in form: multiples of 4, 4 to 1,024 bytes, reserved bytes zero. -/
def dbltForm (p : Bytes) : Bool :=
  rd32 p 0 % 4 == 0 && rd16 p 4 % 4 == 0 && decide (4 ≤ rd16 p 4 ∧ rd16 p 4 ≤ 1024) && zeroAt p 6 2

/-- The offsets of a deadbolt command's range. -/
def dbltRange (p : Bytes) : List Nat := (List.range (rd16 p 4 / 4)).map fun k => rd32 p 0 + 4 * k

/-- DBLT_WRITE: refused whole when any offset is no setting or any value is out of range. -/
def dbltWriteRun (i : CmdIn) (s : State) : Verdict :=
  if s.sys.mode != .staged || s.dblt.locked then .no .badMode
  else if !dbltForm i.body then .no .badParam
  else
    let offs := dbltRange i.body
    if offs.any fun o => (dbltDflt o).isNone then .no .badParam
    else
      let vs := (List.range offs.length).map fun k => rd32 i.body (8 + 4 * k)
      if (offs.zip vs).any fun e => !dbltInRange e.1 e.2 then .no .badParam
      else .ok ((offs.zip vs).foldl (fun s e => s.dbltSet e.1 e.2) s)

/-- DBLT_WRITE. -/
def dbltWriteCmd : Cmd :=
  { op := 0x120, boot := false, len := fun n p => decide (8 ≤ n) && n == 8 + rd16 p 4, uses := false, quiet := false,
    asleep := false, mirrored := false, run := dbltWriteRun }

/-- DBLT_WRITE (R294). -/
def execDbltWrite (h : Hdr) (p : Bytes) (s : State) : Result := keyway dbltWriteCmd h p s

/-- DBLT_READ: refused when the range holds an offset that names no register. While gate 13 is closed (SLEEP) or its domain is
off, the registers answer an error response, and the command answers as REG_READ does. -/
def dbltReadRun (i : CmdIn) (s : State) : Verdict :=
  if !dbltForm i.body then .no .badParam
  else
    let offs := dbltRange i.body
    if offs.any fun o => (dbltView s o).isNone then .no .badParam
    else match s.bar0Code (0x330000 + rd32 i.body 0) with
      | some 0 | none => .done s ((offs.map fun o => leB 4 ((dbltView s o).getD 0)).flatten) (s.tick + 1)
      | some c => .fail s .busError (leB 4 (0x330000 + rd32 i.body 0) ++ leB 4 c)

/-- DBLT_READ. -/
def dbltReadCmd : Cmd :=
  { op := 0x121, boot := false, len := lenIs 8, uses := false, quiet := true, asleep := true, mirrored := false, run := dbltReadRun }

/-- DBLT_READ (R294). -/
def execDbltRead (h : Hdr) (p : Bytes) (s : State) : Result := keyway dbltReadCmd h p s

end Sys2Proof.Machine
end

