-- ==== Sys2Proof/Machine/Dram.lean ====
section
/-! DEFINITION. The DRAM controller and the bus matrix (chapter "DRAM and the Bus Matrix", R486 to R499). -/

namespace Sys2Proof.Machine

/-- The DRAM channels serve requests: trained, powered and not in self-refresh. -/
def State.dramRuns (s : State) : Bool := s.dramOk && !s.unpowered && !s.ddr.selfRefresh

/-- One training step of a channel whose next step is `next`, after `tries` attempts, with `first` the first failing step: what
they become. A failed step restarts at step 1, and the third failed attempt ends the training (R487). -/
def trainStep (ok : Bool) (next tries first : Nat) : Nat × Nat × Nat :=
  let tries := if next = 0 then tries + 1 else tries
  if ok then (next + 1, tries, first)
  else (if 3 ≤ tries then 10 else 0, tries, if first = 0 then next + 1 else first)

/-- The training time, when both channels have ended: the spec does not state from where it counts. -/
def State.trainTime (s : State) : State :=
  if s.trainEnded then
    let (ms, s) := s.freeBelow (min 255 (s.now / 1000000) + 1)
    { s with ddr := { s.ddr with ms } }
  else s

/-- DRAM_TRAINING_STEP (R487): the next step of channel `ch` ends, well or not. -/
def execDramTrainingStep (t ch : Nat) (ok : Bool) (s : State) : Result :=
  let s := s.at t
  let d := s.ddr
  .next (if s.sys.mode != .cold || s.pwr.off || s.pwr.resetLow then s
    else if ch = 0 then
      if d.next0 = 10 then s
      else
        let (next0, tries0, step0) := trainStep ok d.next0 d.tries0 d.step0
        { s with ddr := { d with next0, tries0, step0, trained0 := ok && next0 == 10 } }.trainTime
    else if ch = 1 then
      if d.next1 = 10 then s
      else
        let (next1, tries1, step1) := trainStep ok d.next1 d.tries1 d.step1
        { s with ddr := { d with next1, tries1, step1, trained1 := ok && next1 == 10 } }.trainTime
    else s)

/-- WCK_TRACK (R488): `beyond`, an adjustment lay outside the trained range. -/
def execWckTrack (t : Nat) (beyond : Bool) (s : State) : Result :=
  let s := s.at t
  .next (if s.dramRuns && beyond then { s with ddr := { s.ddr with evt := setBit s.ddr.evt 5 } } else s)

/-- MR4_READ (R494): the highest refresh multiplier that the devices report; codes 5 to 7 are reserved. -/
def execMr4Read (t rate : Nat) (s : State) : Result :=
  let s := s.at t
  .next (if s.dramRuns && decide (rate ≤ 4) then { s with ddr := { s.ddr with rate } } else s)

/-- The refresh debt after a refresh falls due (R495): `demand`, a request of class 0 or 1 waits; `ahead`, the refreshes issued in
advance while the channel is idle. Whether the burst is forced stands beside it. -/
def refreshDebt (debt : Int) (demand : Bool) (ahead : Nat) : Int × Bool :=
  let forced := debt == 8
  let d := if forced then 4 else debt + 1
  (if demand then d else max (-8) (min d 0 - ahead), forced)

/-- REFRESH_DUE (R495). -/
def execRefreshDue (t ch : Nat) (demand : Bool) (ahead : Nat) (s : State) : Result :=
  let s := s.at t
  .next (if !s.dramRuns || 2 ≤ ch then s
    else
      let (debt, forced) := refreshDebt (if ch = 0 then s.ddr.debt0 else s.ddr.debt1) demand ahead
      let s := if ch = 0 then { s with ddr := { s.ddr with debt0 := debt } } else { s with ddr := { s.ddr with debt1 := debt } }
      if forced then { s with ddr := { s.ddr with forcedRef := s.ddr.forcedRef + 1, evt := setBit s.ddr.evt 2 } } else s)

/-- A line failed its CRC on a channel (R278, R484). -/
def State.lineFails (s : State) (ch : Nat) : State :=
  if ch = 0 then { s with ddr := { s.ddr with crc0 := s.ddr.crc0 + 1, evt := setBit s.ddr.evt 0 } }
  else { s with ddr := { s.ddr with crc1 := s.ddr.crc1 + 1, evt := setBit s.ddr.evt 1 } }

/-- Sixteen samples of a feed's delay line read as zero: the line at offset `a` (R162, R484). -/
def State.zeroDelay (s : State) (a : Nat) : State :=
  let len := lineLen s.rnd.rate96
  { s with cor := { s.cor with line := tabFill 0 s.cor.line (131072 * (a / 4 / len) + a / 4 % len) (List.replicate 16 0) } }

/-- Sixteen samples of the input shadow read as zero, for an item of a shard that has no engine: any other reads its window in HIST
(R35, R283, R484). Objects come first, then bed inputs. -/
def State.zeroShadow (s : State) (a : Nat) : State :=
  let item := a / 65536
  let top := 16 * s.rnd.nextIn + 65535
  let clear (o : Nat) (t : Tab Int) : Tab Int :=
    (List.range 16).foldl (fun t k => tabSet 0 t (65536 * o + (top - (top + 16384 - (a % 65536 / 4 + k)) % 16384) % 65536) 0) t
  if item < 512 then
    if s.intg.homeless.contains (item / shardObjs s.rnd.rate96) then { s with rnd := { s.rnd with hist := clear item s.rnd.hist } } else s
  else { s with rnd := { s.rnd with bedHist := clear (item - 512) s.rnd.bedHist } }

/-- A line of a duplicated region has failed on both channels and reads as zeros (R284, R484). -/
def State.zeroLine (s : State) (a : Nat) : State :=
  if a < 0x0C000000 then s.zeroDelay a
  else if a < 0x0E800000 then s.zeroShadow (a - 0x0C000000)
  else if 0x10000000 ≤ a ∧ a < 0x16000000 then
    match Config.chainLine (a - 0x10000000) with
    | some f =>
      let zero (c : FeedCor) : FeedCor := (c.clearBiq 0).clearBiq 1
      { s with cor := { s.cor with shadow := tabSet none s.cor.shadow f ((tabGet none s.cor.shadow f).map zero) } }
    | none => s
  else if 0x16000000 ≤ a ∧ a < 0x17860000 then
    { s with cor := { s.cor with records := corFill s.cor.longMask s.cor.records (a - 0x16000000) (zeros 64) } }
  else s

/-- A line of capture history has failed: its sixteen samples are gaps (R200, R202, R284). -/
def State.gapLine (s : State) (a : Nat) : State :=
  let pos := a % 0x400000 / 4
  let gone (e : Nat × Option (Nat × Int)) : Bool :=
    e.1 / 2 ^ 20 == a / 0x400000 && e.2.any fun x => decide (pos ≤ x.1 % s.capHist ∧ x.1 % s.capHist < pos + 16)
  { s with cal := { s.cal with samples := s.cal.samples.filter fun e => !gone e } }

/-- A line that is held once has failed (R284, R484): capture history, the image staging area, or four records of the fault log. -/
def State.lostOnce (s : State) (ch a : Nat) : State :=
  if ch ≠ 0 then s
  else if 0x21000000 ≤ a ∧ a < 0x31000000 then s.gapLine (a - 0x21000000)
  else if 0x31000000 ≤ a ∧ a < 0x33000000 then { s with boot := { s.boot with badLine := some (a - 0x31000000) } }
  else if 0x33000000 ≤ a ∧ a < 0x33100000 then
    let i := (a - 0x33000000) / 16
    let held := (List.range 4).filter fun k => (tabGet none s.intg.log (i + k)).isSome
    { s with intg := { s.intg with damaged := (s.intg.damaged ++ held.map (i + ·)).eraseDups } }
  else s

/-- A line that failed on one channel is counted (R276, R304). -/
def State.crcOnce (s : State) : State :=
  { s with intg := { s.intg with dramCrcCnt := s.intg.dramCrcCnt + 1, evt := setBit s.intg.evt 2 } }

/-- A line lies in a region that both channels hold (R278, R484). -/
def duplicated (a : Nat) : Bool := decide (a < 0x21000000)

/-- The master whose read of a lost line is answered SLVERR (R498, R499). -/
def State.slvErr (s : State) (req : Option FabErr) : State :=
  match req with
  | some e => s.fabErr { e with code := 1, ts := s.ts32 }
  | none => s

/-- A read whose line fails its CRC (R278, R284, R485). In a duplicated region the other channel serves it and the copy is rewritten, or
the line is lost where that one fails as well. Elsewhere a write of less than a line leaves it poisoned, and a read has lost it. -/
def State.badLine (s : State) (bad : List LineFail) (e : LineFail) : State :=
  let s := s.lineFails e.ch
  let a := e.addr / 64 * 64
  if duplicated a then
    if !bad.any fun x => x.ch == 1 - e.ch && x.addr / 64 * 64 == a then s.crcOnce.logFault 5 1 0x102 a
    else if e.ch = 0 then
      let s := { s with intg := { s.intg with dramLostCnt := s.intg.dramLostCnt + 1, evt := setBit s.intg.evt 3 } }
      ((s.logFault 6 s.selfOutcome 0x102 a).selfFault.zeroLine a).slvErr e.req
    else s
  else if e.merge then
    { s.crcOnce with ddr := { s.ddr with poison := s.ddr.poison + 1, evt := setBit s.ddr.evt 7 } }.logFault 5 7 0x102 a
  else ((s.crcOnce.logFault 5 7 0x102 a).lostOnce e.ch a).slvErr e.req

/-- DRAM_SCRUB (R278, R485, R486): the failed reads of a pass over the duplicated regions, which ends, or of the requesters. -/
def execDramScrub (t : Nat) (c : LineCheck) (s : State) : Result :=
  let s := s.at t
  .next (if !s.dramRuns then s
    else
      let bad := (c.bad.filter fun e => decide (e.ch < 2) && (!c.pass || (duplicated e.addr && !e.merge))).eraseDups
      let s := bad.foldl (fun s e => s.badLine bad e) s
      if c.pass then { s with ddr := { s.ddr with scrub := s.ddr.scrub + 1, evt := setBit s.ddr.evt 6 } } else s)

/-- REQUEST_PROMOTE (R492): a request that has waited its limit leaves class `n` for the class before it. -/
def execRequestPromote (t n : Nat) (s : State) : Result :=
  let s := s.at t
  .next (if s.dramRuns && decide (1 ≤ n ∧ n ≤ 3) then
      { s with ddr := { s.ddr with promote := s.ddr.promote + 1, evt := setBit s.ddr.evt 3 } }
    else s)

/-- FABRIC_TIMEOUT (R498 to R500): the access `e` is answered TIMEOUT, with its timestamp. -/
def execFabricTimeout (t : Nat) (e : FabErr) (s : State) : Result :=
  let s := s.at t
  .next (if s.unpowered then s else s.fabErr { e with code := 5, ts := s.ts32 })

end Sys2Proof.Machine
end

