-- ==== Sys2Proof/Machine/Egress.lean ====
section
/-! DEFINITION. The read-out of the cushion: the deadbolt's stages for each feed (R295 to R299, R302), underruns (R42), and the
samples that the packets and the monitor channels take (R505, R506, R514). -/

namespace Sys2Proof.Machine

/-- Set a bit of DBLT_EVT. -/
def State.dbltEvt (s : State) (i : Nat) : State := { s with dblt := { s.dblt with evt := setBit s.dblt.evt i } }

/-- Replace the running deadbolt state of a feed. -/
def State.setDbFeed (s : State) (f : Nat) (c : DbFeed) : State :=
  { s with dblt := { s.dblt with feeds := tabSet DbFeed.reset s.dblt.feeds f c } }

/-! The stages over one block of a feed. -/

/-- The largest magnitude of a block. -/
def peakAbs (xs : List Int) : Nat := (xs.map Int.natAbs).foldl max 0

/-- The probe cap (R296): the probe samples that are added, whether the lane is blocked after the block, and the replaced samples. -/
def capLane (pcap : Nat) (blocked : Bool) (xs : List Int) : List Int × Bool × Nat :=
  let r := xs.foldl (fun (acc : List Int × Bool) x =>
    let b := acc.2 || decide (pcap < x.natAbs)
    (acc.1 ++ [if b then 0 else x], b)) (([] : List Int), blocked)
  (r.1, r.2 && !(xs.all fun x => x == 0), (xs.filter fun x => decide (pcap < x.natAbs)).length)

/-- The lane sum (R295). -/
def laneSum (prog probe : List Int) : List Int := (prog.zip probe).map fun (a, b) => sat32 (a + b)

/-- The next mute level (R297). -/
def muteNext (falling rising : Bool) (m : Nat) : Nat := if falling then m - 1 else if rising then min 64 (m + 1) else m

/-- The DC mute (R297): the samples, and the mute level after the block. -/
def muteLane (falling rising : Bool) (m : Nat) (xs : List Int) : List Int × Nat :=
  xs.foldl (fun (acc : List Int × Nat) x =>
    let m := muteNext falling rising acc.2
    (acc.1 ++ [sar (x * m) 6], m)) (([] : List Int), m)

/-- The level that the rise guard allows a block (R298). -/
def guardLevel (ceil floor rise q : Nat) : Nat := min ceil (max floor (min (2 ^ 31 - 1) (q * 2 ^ rise)))

/-- The rise guard (R298): the samples, and whether γ applies to the block. -/
def guardBlock (ceil floor rise q : Nat) (xs : List Int) : List Int × Bool :=
  let p := peakAbs xs
  let a := guardLevel ceil floor rise q
  if rise = 0 || decide (p ≤ a) then (xs, false)
  else
    let g : Int := (2 ^ 31 * a / p : Nat)
    (xs.map fun x => sar (x * g) 31, true)

/-- The ceiling (R299): the samples, and how many it clamps. -/
def ceilLane (c : Nat) (xs : List Int) : List Int × Nat :=
  (xs.map (clampI (-(c : Int)) c), (xs.filter fun x => decide (clampI (-(c : Int)) c x ≠ x)).length)

/-! Fades of egress, whose course the spec does not state: each sample lies between zero and the sample that it fades. -/

/-- A sample between zero and `x`. -/
def State.fadeOne (s : State) (x : Int) : Int × State := s.freeRange (min 0 x) (max 0 x)

/-- A block of faded samples. -/
def State.fadeAll (s : State) (xs : List Int) : List Int × State :=
  xs.foldl (fun (acc : List Int × State) x =>
    let (y, s) := acc.2.fadeOne x
    (acc.1 ++ [y], s)) (([] : List Int), s)

/-! One feed's block. -/

/-- The ceiling of a feed, counted (R299). -/
def State.ceilFeed (s : State) (f : Nat) (xs : List Int) : List Int × State :=
  let r := ceilLane (s.dbltGet (0x1000 + 4 * f)) xs
  (r.1, if r.2 = 0 then s else { s with dblt := { s.dblt with ceilCnt := s.dblt.ceilCnt + wd r.2 } }.dbltEvt 4)

/-- The probe cap acts on a feed: firmware stops the feed's probe and estimation (R215, R296). -/
def State.probeActs (s : State) (f n : Nat) : State :=
  if n = 0 then s
  else
    let s := { s with dblt := { s.dblt with probeCnt := s.dblt.probeCnt + wd n } }.dbltEvt 1
    match s.calFeed f with
    | none => s
    | some c => s.setCalFeed f (some { c with stopped := true })

/-- A block of a feed that stands in the cushion passes the five stages; after an underrun egress fades it in (R42, R295). -/
def State.passFeed (s : State) (f : Nat) (b : CushBlk) : State :=
  let c := s.dbFeed f
  let (probe, blocked, n) := capLane (s.dbltGet 0xC) c.blocked b.probe
  let s := s.probeActs f n
  let sums := laneSum b.prog probe
  let (muted, m) := muteLane c.falling c.rising c.m sums
  let (y, hit) := guardBlock (s.dbltGet (0x1000 + 4 * f)) (s.dbltGet (0x2000 + 4 * f)) (s.dbltGet (0x4000 + 4 * f)) c.q muted
  let s := if hit then { s with dblt := { s.dblt with riseCnt := s.dblt.riseCnt + 1 } }.dbltEvt 3 else s
  let (z, s) := s.ceilFeed f y
  let (out, s) := if c.under then s.fadeAll z else (z, s)
  s.setDbFeed f { c with m, falling := c.falling && m != 0, rising := c.rising && m != 64, sum := c.sum + sumI sums, q := peakAbs y,
                         blocked, guard := hit, under := false, last := out.getLastD 0, out }

/-- A feed's underrun starts (R42, R285, R289). -/
def State.underrun (s : State) (f : Nat) : State :=
  let s := { s with rnd := { s.rnd with evt := setBit s.rnd.evt 1, underrunCnt := s.rnd.underrunCnt + 1 } }
  (s.logFault 14 s.selfOutcome 0x104 f).selfFault

/-- A block of a feed that is not in the cushion: a fade from the last sample sent, then zeros; only the ceiling applies. -/
def State.missFeed (s : State) (f : Nat) : State :=
  let c := s.dbFeed f
  if c.under then s.setDbFeed f { c with guard := false, last := 0, out := List.replicate 16 0 }
  else
    let (xs, s) := (s.underrun f).fadeAll (List.replicate 16 c.last)
    let (out, s) := s.ceilFeed f xs
    s.setDbFeed f { c with guard := false, under := true, last := out.getLastD 0, out }

/-- The block of a feed for read-out, where the cushion holds it; an absorbed feed carries zero (R170). -/
def State.cushionBlock (s : State) (f n : Nat) : Option CushBlk :=
  match tabGet none s.rnd.cushion (4 * f + n % 4) with
  | some (m, b) => if m = n then some b else none
  | none => if isAbsorbed s.cor.longMask f then some { prog := List.replicate 16 0, probe := List.replicate 16 0 } else none

/-- Read out block `n` of a feed. A held feed sends zero, whatever stands in the cushion (R302). -/
def State.readFeed (s : State) (f n : Nat) : State :=
  let zero := List.replicate 16 (0 : Int)
  let held := (s.dbFeed f).held
  let s := match s.cushionBlock f n with
    | none => s.missFeed f
    | some b => if held then s else s.passFeed f b
  let s := if held then s.setDbFeed f { s.dbFeed f with under := (s.dbFeed f).under && (s.cushionBlock f n).isNone, last := 0, out := zero } else s
  let c := s.dbFeed f
  { s with rnd := { s.rnd with sent := (List.range 16).foldl (fun t i => tabSet 0 t (f * 1024 + (16 * n + i) % 1024) (getD' c.out i 0)) s.rnd.sent } }

/-! The DC windows (R297). -/

/-- The end of a DC window for one feed: `k` is the shift of the mean; whether a fall starts. -/
def DbFeed.dcEnd (c : DbFeed) (lim k : Nat) : DbFeed × Bool :=
  let mean := (sar c.sum k).natAbs
  let high := if lim ≠ 0 && decide (lim < mean) then min 2 (c.high + 1) else 0
  let low := if 2 * mean ≤ lim then min 12 (c.low + 1) else 0
  let fall := high == 2 && !c.falling && c.m != 0
  let rise := low == 12 && decide (c.m < 64)
  ({ c with sum := 0, high, low, falling := (c.falling || fall) && !rise, rising := (c.rising || rise) && !fall }, fall)

/-- The DC window length in samples. -/
def State.dcWindow (s : State) : Nat := if s.rnd.rate96 then 8192 else 4096

/-- The windows that end before the next block are judged, once. -/
def State.dcJudge (s : State) : State :=
  let n := s.rnd.nextOut
  if 16 * n % s.dcWindow != 0 || s.dblt.dcDone == n then s
  else (List.range (feedCount s.rnd.rate96)).foldl (fun s f =>
    let (c, fall) := (s.dbFeed f).dcEnd (s.dbltGet (0x3000 + 4 * f)) (if s.rnd.rate96 then 13 else 12)
    let s := s.setDbFeed f c
    if fall then { s with dblt := { s.dblt with dcCnt := s.dblt.dcCnt + 1 } }.dbltEvt 2 else s)
    { s with dblt := { s.dblt with dcDone := n } }

/-- DC_WINDOW_END (R297). -/
def execDcWindowEnd (t : Nat) (s : State) : Result :=
  let s := s.at t
  .next (if s.ticking then s.dcJudge else s)

/-! The monitor channels (R505, R506, R514). -/

/-- The sample that a channel carries at index `m`, through the changes of its feed, newest first: `g` reads a feed. -/
def dacCarry (g : Option Nat → Int) (m : Nat) : List (Option Nat × Nat) → Option Nat → Int
  | [], cur => g cur
  | (before, b) :: older, cur =>
    if b + 64 ≤ m then g cur
    else if m < b then dacCarry g m older before
    else dacCarry g m older before * ((64 - (m - b) : Nat) : Int) / 64 + g cur * ((m - b : Nat) : Int) / 64

/-- The level L of a span change that starts at index `b`, at index `m` (R514). -/
def rampLevel (z b m : Nat) : Nat :=
  if m < b then 64 else if m < b + 64 then 63 - (m - b) else if m < b + 64 + z then 0
  else if m < b + 128 + z then m - (b + 64 + z) + 1 else 64

/-- The sixteen samples of channel `c` in block `n`. -/
def State.dacBlock (s : State) (c n : Nat) : List Int :=
  let ch := s.dacChan c
  (List.range 16).map fun i =>
    let g (f : Option Nat) : Int := match f with | none => 0 | some f => getD' (s.dbFeed f).out i 0
    let x := dacCarry g (16 * n + i) ch.old ch.feed
    (s.dac.ramps.filter fun r => bit r.1 c).foldl (fun x r => pauseFade (rampLevel s.spanZ r.2 (16 * n + i)) x) x

/-- The monitor channels take block `n`. -/
def State.dacOut (s : State) (n : Nat) : State :=
  if !s.dac.running then s
  else
    let s := (List.range 16).foldl (fun s c => s.emit (.dac c (s.dacBlock c n))) s
    let e := 16 * (n + 1)
    { s with dac := { s.dac with
        chans := s.dac.chans.map fun c => { c with old := c.old.filter fun o => decide (e < o.2 + 64) }
        ramps := s.dac.ramps.filter fun r => decide (e < r.2 + 128 + s.spanZ) } }

/-- A value between 0 and `x`. -/
def State.freeFade (s : State) (x : Int) : Int × State := s.freeRange (min 0 x) (max 0 x)

/-- The fade to 0 V of a yield (R286), whose course the spec does not state: each sample lies between the running output, which the
cushion still holds, and 0. Then the clamps close (R518). -/
def State.yieldOut (s : State) : State :=
  if s.dac.yieldFade = 0 then s
  else
    let n := s.rnd.nextOut
    let live := (List.range (feedCount s.rnd.rate96)).foldl (fun s f => s.readFeed f n) s
    let s := (List.range 16).foldl (fun s c =>
      let (xs, s) := (live.dacBlock c n).foldl (fun (acc : List Int × State) x =>
        let (y, s) := acc.2.freeFade x
        (acc.1 ++ [y], s)) (([] : List Int), s)
      s.emit (.dac c xs)) s
    let left := s.dac.yieldFade - 16
    { s with rnd := { s.rnd with nextOut := n + 1 }
             dblt := { s.dblt with feeds := live.dblt.feeds }
             dac := { s.dac with yieldFade := left, clamped := s.dac.clamped || left == 0 } }

/-! The read-out. -/

/-- The next block is due: its first sample leaves the cushion 64 + I samples after its source (R29, R154). A joiner reads only
completed ticks (R325). -/
def State.readoutDue (s : State) : Bool :=
  decide (16 * s.rnd.nextOut + 64 + s.rte.ingress ≤ s.sampleNow)
    && (s.twn.state != .joining || decide (s.rnd.nextOut ≤ s.rnd.lastTick))

/-- A decider keeps for the joiner the deadbolt as it stands before the block of the snapshot's boundary (R325). -/
def State.snapFeeds (s : State) : State :=
  match s.rnd.joinSnap with
  | some x => if x.tick = s.rnd.nextOut then { s with rnd := { s.rnd with joinSnap := some { x with feeds := s.dblt.feeds } } } else s
  | none => s

/-- Egress reads the next block of every feed. -/
def State.readBlock (s : State) : State :=
  let s := s.dcJudge.snapFeeds
  let n := s.rnd.nextOut
  let s := ((List.range (feedCount s.rnd.rate96)).foldl (fun s f => s.readFeed f n) s).dacOut n
  { s with rnd := { s.rnd with nextOut := n + 1 } }

/-- EGRESS_READOUT (R295): one block of sixteen samples of every feed. -/
def execEgressReadout (t : Nat) (s : State) : Result :=
  let s := s.at t
  .next (if s.sys.mode = .yielded then s.yieldOut else if s.ticking && s.readoutDue then s.readBlock else s)

/-- The deadbolt checks its settings (R276, R302): a feed whose settings fail is held at zero, and the
failing words of the module's own settings are counted. -/
def execDbltParityCheck (t : Nat) (c : SettingsCheck) (s : State) : Result :=
  let s := s.at t
  .next (if !s.domainOn 2 || s.unpowered then s
    else
      let s := if c.words = 0 then s
        else { s with intg := { s.intg with parityCnt := s.intg.parityCnt + wd c.words, evt := setBit s.intg.evt 0 } }
      (c.feeds.filter fun f => decide (f < feedCount s.rnd.rate96)).foldl (fun s f =>
      if (s.dbFeed f).held then s
      else
        let s := ((s.setDbFeed f { s.dbFeed f with held := true }).dbltEvt 0).countCheck 1
        (s.logFault 15 s.selfOutcome 0x104 f).selfFault) s)

end Sys2Proof.Machine
end

