-- ==== Sys2Proof/Machine/TimeCmds.lean ====
section
/-! DEFINITION. The time commands (chapter "Media Time, Scene Time and Timestamps", R437 to R442). -/

namespace Sys2Proof.Machine

/-- PTP_CONFIG: the PTP parameters. -/
def ptpConfigRun (i : CmdIn) (s : State) : Verdict :=
  let p := i.body
  let ok := decide (rd8 p 0 ≤ 1 ∧ rd8 p 1 ≤ 127 ∧ rd8 p 2 ≤ 1 ∧ 1 ≤ rd8 p 3 ∧ rd8 p 3 ≤ 3 ∧ rd8 p 20 ≤ 63 ∧ rd8 p 21 ≤ 63)
    && inRange 1 200 (rd16 p 4) && inRange 50 10000 (rd16 p 6) && inRange 10000 10000000 (rd32 p 8) && zeroAt p 22 2
  if s.sys.mode != .staged then .no .badMode
  else if !ok then .no .badParam
  else .ok { s with ptm := { s.ptm with cfg :=
    { profile := rd8 p 0, domain := rd8 p 1, delayMode := rd8 p 2, ports := rd8 p 3, slew := rd16 p 4, lockWin := rd16 p 6,
      offsetLim := rd32 p 8, asymA := rdS32 p 12, asymB := rdS32 p 16, vlanA := rd8 p 20, vlanB := rd8 p 21 } } }

/-- PTP_CONFIG. -/
def ptpConfigCmd : Cmd :=
  { op := 0x801, boot := false, len := lenIs 24, uses := false, quiet := false, asleep := false, mirrored := false, run := ptpConfigRun }

/-- PTP_CONFIG (R442). -/
def execPtpConfig (h : Hdr) (p : Bytes) (s : State) : Result := keyway ptpConfigCmd h p s

/-- SCENE_TIME: frame rate, lines and frame source; φ is 0 until the start boundary sets it (R437, R438). -/
def sceneTimeRun (i : CmdIn) (s : State) : Verdict :=
  let p := i.body
  let n := rd32 p 0
  let d := rd32 p 4
  let ok := decide (1 ≤ n ∧ n ≤ 240000 ∧ 1 ≤ d ∧ d ≤ 1001 ∧ d ≤ n ∧ n ≤ 240 * d ∧ 1 ≤ rd16 p 8 ∧ rd16 p 8 ≤ 4500)
    && decide (rd8 p 10 ≤ 1 ∧ rd8 p 11 ≤ rd8 p 10)
  if s.sys.mode != .staged then .no .badMode
  else if !ok then .no .badParam
  else .ok { s with ptm := { s.ptm with
    phi := 0, scene := some { num := n, den := d, lines := rd16 p 8, strobe := rd8 p 10 == 1, falling := rd8 p 11 == 1 } } }

/-- SCENE_TIME. -/
def sceneTimeCmd : Cmd :=
  { op := 0x802, boot := false, len := lenIs 12, uses := false, quiet := false, asleep := false, mirrored := false, run := sceneTimeRun }

/-- SCENE_TIME (R437). -/
def execSceneTime (h : Hdr) (p : Bytes) (s : State) : Result := keyway sceneTimeCmd h p s

/-- The frame and line that contain the present instant (R437): all ones and 0 while scene time is not configured. -/
def State.frameLine (s : State) : Nat × Nat :=
  match s.ptm.scene with
  | none => (2 ^ 64 - 1, 0)
  | some sc =>
    let t := s.media * s.fs - (s.ptm.phi : Int) * 1000000000
    let q := (t * sc.num * sc.lines / ((sc.den * s.fs * 1000000000 : Nat) : Int)).toNat
    (q / sc.lines, q % sc.lines)

/-- The payload of TIME_QUERY (R442). -/
def State.timeRecord (s : State) : Bytes :=
  let p := s.ptm
  leB 8 s.time64 ++ leB 8 (if p.everLocked then s.sampleNow else 2 ^ 64 - 1) ++ leB 8 s.frameLine.1 ++ leB 2 s.frameLine.2
    ++ leB 1 p.lock ++ leB 1 (b2n p.activeB) ++ leI 4 p.offset ++ leI 4 p.freq ++ leI 2 p.utc ++ zeros 2 ++ leB 8 (p.gm.getD 0)

/-- TIME_QUERY. -/
def timeQueryCmd : Cmd :=
  { op := 0x803, boot := false, len := lenIs 0, uses := false, quiet := true, asleep := true, mirrored := false,
    run := fun _ s => .done s s.timeRecord (s.tick + 1) }

/-- TIME_QUERY (R442). -/
def execTimeQuery (h : Hdr) (p : Bytes) (s : State) : Result := keyway timeQueryCmd h p s

/-- TIME_CONVERT: σ, its tick and the media time of its boundary (R440). -/
def timeConvertRun (i : CmdIn) (s : State) : Verdict :=
  let p := i.body
  if 2 < rd8 p 0 || !zeroAt p 1 7 || rd64 p 8 = 0 then .no .badParam
  else match s.whenSample (rd8 p 0) (rd64 p 8) with
    | none => .no .badParam
    | some m => .done s (leB 8 m ++ leB 8 (tickOf m) ++ leB 8 (s.sampleTime (16 * tickOf m))) (s.tick + 1)

/-- TIME_CONVERT. -/
def timeConvertCmd : Cmd :=
  { op := 0x804, boot := false, len := lenIs 16, uses := false, quiet := true, asleep := true, mirrored := false,
    run := timeConvertRun }

/-- TIME_CONVERT (R440, R442). -/
def execTimeConvert (h : Hdr) (p : Bytes) (s : State) : Result := keyway timeConvertCmd h p s

end Sys2Proof.Machine
end

