-- ==== Sys2Proof/Machine/Gates.lean ====
section
/-! DEFINITION. The settling of gates (chapter "Clock Generation and Control", R456): a held command goes on, and then the datagrams
that arrived behind it are taken in their order (R351). -/

namespace Sys2Proof.Machine

/-- Every command of the keyway. -/
def allCmds : List Cmd :=
  [imgBeginCmd, imgDataCmd, imgEndCmd, imgStatusCmd, calCaptureCmd, calEnrollCmd, calPolicyCmd, calStartCmd,
   calStopCmd, sweepStartCmd, sweepStopCmd, calBaselineCmd, calVetoCmd, calReportCmd, calQueryCmd, corWriteCmd,
   corHingeCmd, corGainCmd, corLongCmd, corFoldCmd, corQueryCmd, dacConfigCmd, dacMapCmd, dacSpanCmd,
   dacQueryCmd, dbltWriteCmd, dbltReadCmd] ++
  [layoutWriteCmd, layoutLoadCmd, layoutQueryCmd, soundSpeedCmd, pairQueryCmd, stageCommitCmd, stageReturnCmd, netAddrCmd,
   vlanSetCmd, flowInSetCmd, flowOutSetCmd, flowQueryCmd, objBindCmd, objSourceCmd, objMoveCmd, objGainCmd,
   objSpreadCmd, objZonesCmd, objLayoutsCmd, objAttenCmd, bedGainCmd, bedBindCmd, sceneXformCmd, metaPolicyCmd,
   objQueryCmd, pwrQueryCmd, clkQueryCmd] ++
  [feedExerciseCmd, pwrSleepCmd, pwrDeepCmd, pwrWakeCmd, renderConfigCmd, pauseCmd, resumeCmd, routeModeCmd,
   xpMapCmd, routeGainCmd, routeWriteCmd, routeCommitCmd, bedAlignCmd, latQueryCmd, sysInfoCmd, sysResetCmd,
   nopCmd, logReadCmd, regReadCmd, regWriteCmd, ptpConfigCmd, sceneTimeCmd, timeQueryCmd, timeConvertCmd,
   twinConfigCmd, twinJoinCmd, twinQueryCmd]

/-- The datagrams that wait are taken, oldest first, up to one that a gate holds again. -/
def State.takeLater : Nat → State → State
  | 0, s => s
  | k + 1, s =>
    match s.midway, s.key.later with
    | false, (op, h, p) :: rest =>
      let s := { s with key := { s.key with later := rest } }
      State.takeLater k (match h.src with
        | .mgmt ip port => mgmtTake (allCmds.find? fun c => c.op == op) op h ip port p s
        | _ => s)
    | _, _ => s

/-- What gate `g` held is answered, and what waited behind it is taken. -/
def State.settleGate (s : State) (g : Nat) : State := State.takeLater s.key.later.length (s.releaseHeld g)

/-- GATE_IDLE (R456): a pending gate closes, and held accesses are answered. -/
def execGateIdle (t g : Nat) (s : State) : Result :=
  let s := s.at t
  .next (if g < 15 && (s.gate g).st == .pending then (s.setGate g false).settleGate g else s)

/-- GATE_CLOSE_TIMEOUT (R456, R477): the gate stays open, and held accesses proceed; through SLEEP it is held. -/
def execGateCloseTimeout (t g : Nat) (s : State) : Result :=
  let s := s.at t
  .next (if !(g < 15 && (s.gate g).st == .pending) then s
    else
      let s := s.onGate g fun x => { x with st := .opened, timeout := true }
      let s := { s with clk := { s.clk with evt := setBit s.clk.evt 3, timeoutCnt := s.clk.timeoutCnt + 1 } }
      let s := if s.pwr.trans = 1 then { s with pwr := { s.pwr with heldGates := s.pwr.heldGates ||| 2 ^ g } }.pwrEvt 7 else s
      s.settleGate g)

end Sys2Proof.Machine
end

