-- ==== Sys2Proof/Machine/Dispatch.lean ====
section
/-! DEFINITION. One arm per command: each calls its meaning, or is refused by name. -/

namespace Sys2Proof.Machine

def exec (i : Instr) (s : State) : Host.Outcome State Fault Refusal :=
  match i with
  | .sysInfo h p => Sys2Proof.Machine.execSysInfo h p s
  | .sysReset h p => Sys2Proof.Machine.execSysReset h p s
  | .nop h p => Sys2Proof.Machine.execNop h p s
  | .renderConfig h p => Sys2Proof.Machine.execRenderConfig h p s
  | .pause h p => Sys2Proof.Machine.execPause h p s
  | .resume h p => Sys2Proof.Machine.execResume h p s
  | .dbltWrite h p => Sys2Proof.Machine.execDbltWrite h p s
  | .dbltRead h p => Sys2Proof.Machine.execDbltRead h p s
  | .imgBegin h p => Sys2Proof.Machine.execImgBegin h p s
  | .imgData h p => Sys2Proof.Machine.execImgData h p s
  | .imgEnd h p => Sys2Proof.Machine.execImgEnd h p s
  | .imgStatus h p => Sys2Proof.Machine.execImgStatus h p s
  | .stageCommit h p => Sys2Proof.Machine.execStageCommit h p s
  | .stageReturn h p => Sys2Proof.Machine.execStageReturn h p s
  | .objBind h p => Sys2Proof.Machine.execObjBind h p s
  | .objSource h p => Sys2Proof.Machine.execObjSource h p s
  | .objMove h p => Sys2Proof.Machine.execObjMove h p s
  | .objGain h p => Sys2Proof.Machine.execObjGain h p s
  | .objSpread h p => Sys2Proof.Machine.execObjSpread h p s
  | .objZones h p => Sys2Proof.Machine.execObjZones h p s
  | .objLayouts h p => Sys2Proof.Machine.execObjLayouts h p s
  | .objAtten h p => Sys2Proof.Machine.execObjAtten h p s
  | .sceneXform h p => Sys2Proof.Machine.execSceneXform h p s
  | .metaPolicy h p => Sys2Proof.Machine.execMetaPolicy h p s
  | .bedGain h p => Sys2Proof.Machine.execBedGain h p s
  | .bedBind h p => Sys2Proof.Machine.execBedBind h p s
  | .objQuery h p => Sys2Proof.Machine.execObjQuery h p s
  | .layoutWrite h p => Sys2Proof.Machine.execLayoutWrite h p s
  | .layoutLoad h p => Sys2Proof.Machine.execLayoutLoad h p s
  | .layoutQuery h p => Sys2Proof.Machine.execLayoutQuery h p s
  | .soundSpeed h p => Sys2Proof.Machine.execSoundSpeed h p s
  | .pairQuery h p => Sys2Proof.Machine.execPairQuery h p s
  | .routeMode h p => Sys2Proof.Machine.execRouteMode h p s
  | .xpMap h p => Sys2Proof.Machine.execXpMap h p s
  | .routeGain h p => Sys2Proof.Machine.execRouteGain h p s
  | .routeWrite h p => Sys2Proof.Machine.execRouteWrite h p s
  | .routeCommit h p => Sys2Proof.Machine.execRouteCommit h p s
  | .bedAlign h p => Sys2Proof.Machine.execBedAlign h p s
  | .latQuery h p => Sys2Proof.Machine.execLatQuery h p s
  | .corWrite h p => Sys2Proof.Machine.execCorWrite h p s
  | .corHinge h p => Sys2Proof.Machine.execCorHinge h p s
  | .corGain h p => Sys2Proof.Machine.execCorGain h p s
  | .corLong h p => Sys2Proof.Machine.execCorLong h p s
  | .corFold h p => Sys2Proof.Machine.execCorFold h p s
  | .corQuery h p => Sys2Proof.Machine.execCorQuery h p s
  | .calCapture h p => Sys2Proof.Machine.execCalCapture h p s
  | .calEnroll h p => Sys2Proof.Machine.execCalEnroll h p s
  | .calPolicy h p => Sys2Proof.Machine.execCalPolicy h p s
  | .calStart h p => Sys2Proof.Machine.execCalStart h p s
  | .calStop h p => Sys2Proof.Machine.execCalStop h p s
  | .sweepStart h p => Sys2Proof.Machine.execSweepStart h p s
  | .sweepStop h p => Sys2Proof.Machine.execSweepStop h p s
  | .calBaseline h p => Sys2Proof.Machine.execCalBaseline h p s
  | .calVeto h p => Sys2Proof.Machine.execCalVeto h p s
  | .calReport h p => Sys2Proof.Machine.execCalReport h p s
  | .calQuery h p => Sys2Proof.Machine.execCalQuery h p s
  | .netAddr h p => Sys2Proof.Machine.execNetAddr h p s
  | .vlanSet h p => Sys2Proof.Machine.execVlanSet h p s
  | .flowInSet h p => Sys2Proof.Machine.execFlowInSet h p s
  | .flowOutSet h p => Sys2Proof.Machine.execFlowOutSet h p s
  | .flowQuery h p => Sys2Proof.Machine.execFlowQuery h p s
  | .ptpConfig h p => Sys2Proof.Machine.execPtpConfig h p s
  | .sceneTime h p => Sys2Proof.Machine.execSceneTime h p s
  | .timeQuery h p => Sys2Proof.Machine.execTimeQuery h p s
  | .timeConvert h p => Sys2Proof.Machine.execTimeConvert h p s
  | .dacConfig h p => Sys2Proof.Machine.execDacConfig h p s
  | .dacMap h p => Sys2Proof.Machine.execDacMap h p s
  | .dacSpan h p => Sys2Proof.Machine.execDacSpan h p s
  | .dacQuery h p => Sys2Proof.Machine.execDacQuery h p s
  | .pwrQuery h p => Sys2Proof.Machine.execPwrQuery h p s
  | .pwrSleep h p => Sys2Proof.Machine.execPwrSleep h p s
  | .pwrDeep h p => Sys2Proof.Machine.execPwrDeep h p s
  | .pwrWake h p => Sys2Proof.Machine.execPwrWake h p s
  | .feedExercise h p => Sys2Proof.Machine.execFeedExercise h p s
  | .clkQuery h p => Sys2Proof.Machine.execClkQuery h p s
  | .twinConfig h p => Sys2Proof.Machine.execTwinConfig h p s
  | .twinJoin h p => Sys2Proof.Machine.execTwinJoin h p s
  | .twinQuery h p => Sys2Proof.Machine.execTwinQuery h p s
  | .logRead h p => Sys2Proof.Machine.execLogRead h p s
  | .regRead h p => Sys2Proof.Machine.execRegRead h p s
  | .regWrite h p => Sys2Proof.Machine.execRegWrite h p s
  | .unknownOpcode h op p => Sys2Proof.Machine.execUnknownOpcode h op p s
  | .padSkip t tag => Sys2Proof.Machine.execPadSkip t tag s
  | .cmdFetchError t => Sys2Proof.Machine.execCmdFetchError t s
  | .mgmtShortDatagram t => Sys2Proof.Machine.execMgmtShortDatagram t s
  | .mgmtDenied h op p => Sys2Proof.Machine.execMgmtDenied h op p s
  | .mgmtRepeat h op p => Sys2Proof.Machine.execMgmtRepeat h op p s
  | .cmdRingEnable t => Sys2Proof.Machine.execCmdRingEnable t s
  | .cmdRingDisable t => Sys2Proof.Machine.execCmdRingDisable t s
  | .rplRingEnable t => Sys2Proof.Machine.execRplRingEnable t s
  | .rplRingDisable t => Sys2Proof.Machine.execRplRingDisable t s
  | .keyRingCfgWrite t off v => Sys2Proof.Machine.execKeyRingCfgWrite t off v s
  | .keyCmdPiWrite t v => Sys2Proof.Machine.execKeyCmdPiWrite t v s
  | .keyRplCiWrite t v => Sys2Proof.Machine.execKeyRplCiWrite t v s
  | .replyRingSpace t => Sys2Proof.Machine.execReplyRingSpace t s
  | .keyIrqTimer t => Sys2Proof.Machine.execKeyIrqTimer t s
  | .sysResetExec t => Sys2Proof.Machine.execSysResetExec t s
  | .w1cClear t addr v => Sys2Proof.Machine.execW1cClear t addr v s
  | .registerWrite t addr v be => Sys2Proof.Machine.execRegisterWrite t addr v be s
  | .rndClrMin t v => Sys2Proof.Machine.execRndClrMin t v s
  | .panClrMax t v => Sys2Proof.Machine.execPanClrMax t v s
  | .dispClrMax t v => Sys2Proof.Machine.execDispClrMax t v s
  | .intgClrTjmax t v => Sys2Proof.Machine.execIntgClrTjmax t v s
  | .ddrClrMax t v => Sys2Proof.Machine.execDdrClrMax t v s
  | .pwrClrMinmax t v => Sys2Proof.Machine.execPwrClrMinmax t v s
  | .tapKctlWrite t v => Sys2Proof.Machine.execTapKctlWrite t v s
  | .tapInjWrite t k v => Sys2Proof.Machine.execTapInjWrite t k v s
  | .tapTestEnWrite t v => Sys2Proof.Machine.execTapTestEnWrite t v s
  | .dbltRegWrite t off v => Sys2Proof.Machine.execDbltRegWrite t off v s
  | .imgWindowWrite t off data => Sys2Proof.Machine.execImgWindowWrite t off data s
  | .corWindowWrite t off data => Sys2Proof.Machine.execCorWindowWrite t off data s
  | .layoutWindowWrite t off data => Sys2Proof.Machine.execLayoutWindowWrite t off data s
  | .routeWindowWrite t off data => Sys2Proof.Machine.execRouteWindowWrite t off data s
  | .roWindowWrite t off data => Sys2Proof.Machine.execRoWindowWrite t off data s
  | .hostRxEnable t => Sys2Proof.Machine.execHostRxEnable t s
  | .hostTxEnable t => Sys2Proof.Machine.execHostTxEnable t s
  | .hostTxDisable t => Sys2Proof.Machine.execHostTxDisable t s
  | .hostRxPiWrite t v slots => Sys2Proof.Machine.execHostRxPiWrite t v slots s
  | .hostTxPiWrite t v slots frames => Sys2Proof.Machine.execHostTxPiWrite t v slots frames s
  | .wdogKick w => Sys2Proof.Machine.execWdogKick w s
  | .watchdogExpiry t => Sys2Proof.Machine.execWatchdogExpiry t s
  | .resetPin t => Sys2Proof.Machine.execResetPin t s
  | .perst t low outstanding => Sys2Proof.Machine.execPerst t low outstanding s
  | .drainRelease t m => Sys2Proof.Machine.execDrainRelease t m s
  | .wakePin t => Sys2Proof.Machine.execWakePin t s
  | .deepWakeTimer t => Sys2Proof.Machine.execDeepWakeTimer t s
  | .frameStbEdge t falling => Sys2Proof.Machine.execFrameStbEdge t falling s
  | .strobeSilent t => Sys2Proof.Machine.execStrobeSilent t s
  | .feedSwitchB t => Sys2Proof.Machine.execFeedSwitchB t s
  | .feedBFailReturn t => Sys2Proof.Machine.execFeedBFailReturn t s
  | .feedReturnA t => Sys2Proof.Machine.execFeedReturnA t s
  | .holdupCarry t => Sys2Proof.Machine.execHoldupCarry t s
  | .holdupEnd t aOk bOk => Sys2Proof.Machine.execHoldupEnd t aOk bOk s
  | .holdupExhausted t => Sys2Proof.Machine.execHoldupExhausted t s
  | .feedQualified t aOk bOk => Sys2Proof.Machine.execFeedQualified t aOk bOk s
  | .bringupStep t => Sys2Proof.Machine.execBringupStep t s
  | .railFault t rail => Sys2Proof.Machine.execRailFault t rail s
  | .railRetry t => Sys2Proof.Machine.execRailRetry t s
  | .powerMonitorSample t aMv aMa bMv bMa hMv => Sys2Proof.Machine.execPowerMonitorSample t aMv aMa bMv bMa hMv s
  | .feedExerciseEnd t => Sys2Proof.Machine.execFeedExerciseEnd t s
  | .xtalFail t => Sys2Proof.Machine.execXtalFail t s
  | .pllRefLoss t p => Sys2Proof.Machine.execPllRefLoss t p s
  | .pllRelock t p => Sys2Proof.Machine.execPllRelock t p s
  | .freqMonWindow t khz locked => Sys2Proof.Machine.execFreqMonWindow t khz locked s
  | .muxSwitch t p toXtal alive => Sys2Proof.Machine.execMuxSwitch t p toXtal alive s
  | .muxForcedSwitch t p toXtal => Sys2Proof.Machine.execMuxForcedSwitch t p toXtal s
  | .gateIdle t g => Sys2Proof.Machine.execGateIdle t g s
  | .gateCloseTimeout t g => Sys2Proof.Machine.execGateCloseTimeout t g s
  | .tempSample t tj => Sys2Proof.Machine.execTempSample t tj s
  | .linkChange t port up => Sys2Proof.Machine.execLinkChange t port up s
  | .st2110Packet u => Sys2Proof.Machine.execSt2110Packet u s
  | .sadmPacket u frames => Sys2Proof.Machine.execSadmPacket u frames s
  | .ptpSync m => Sys2Proof.Machine.execPtpSync m s
  | .ptpFollowUp m => Sys2Proof.Machine.execPtpFollowUp m s
  | .ptpDelayResp m => Sys2Proof.Machine.execPtpDelayResp m s
  | .ptpAnnounce m => Sys2Proof.Machine.execPtpAnnounce m s
  | .ptpDelayReqSend t port tx => Sys2Proof.Machine.execPtpDelayReqSend t port tx s
  | .announceTimeout t port => Sys2Proof.Machine.execAnnounceTimeout t port s
  | .syncTimeout t => Sys2Proof.Machine.execSyncTimeout t s
  | .ptpPortSwitch t => Sys2Proof.Machine.execPtpPortSwitch t s
  | .arpFrame t port vid request sip smac tip => Sys2Proof.Machine.execArpFrame t port vid request sip smac tip s
  | .arpRetry t port ip => Sys2Proof.Machine.execArpRetry t port ip s
  | .icmpEcho u => Sys2Proof.Machine.execIcmpEcho u s
  | .igmpQuery t port group src => Sys2Proof.Machine.execIgmpQuery t port group src s
  | .igmpRepeat t => Sys2Proof.Machine.execIgmpRepeat t s
  | .igmpLeave t => Sys2Proof.Machine.execIgmpLeave t s
  | .lldpFrame t port tw agreed => Sys2Proof.Machine.execLldpFrame t port tw agreed s
  | .pauseFrame t port quanta => Sys2Proof.Machine.execPauseFrame t port quanta s
  | .pauseQuantaEnd t port => Sys2Proof.Machine.execPauseQuantaEnd t port s
  | .droppedFrame t port d => Sys2Proof.Machine.execDroppedFrame t port d s
  | .hostRxFrame t tci frame => Sys2Proof.Machine.execHostRxFrame t tci frame s
  | .frameLaunch t port => Sys2Proof.Machine.execFrameLaunch t port s
  | .mediaPacketLaunch t entry => Sys2Proof.Machine.execMediaPacketLaunch t entry s
  | .sadmRelaySend t entry => Sys2Proof.Machine.execSadmRelaySend t entry s
  | .tumblerSend t path => Sys2Proof.Machine.execTumblerSend t path s
  | .tumblerRx t path m => Sys2Proof.Machine.execTumblerRx t path m s
  | .tumblerMiss t path => Sys2Proof.Machine.execTumblerMiss t path s
  | .mirrorRx t seq path m => Sys2Proof.Machine.execMirrorRx t seq path m s
  | .ackRx t seq path mseq => Sys2Proof.Machine.execAckRx t seq path mseq s
  | .mirrorRetx t => Sys2Proof.Machine.execMirrorRetx t s
  | .relayRx t seq path m => Sys2Proof.Machine.execRelayRx t seq path m s
  | .checkRx t seq path c => Sys2Proof.Machine.execCheckRx t seq path c s
  | .verdictRx t seq path n clean => Sys2Proof.Machine.execVerdictRx t seq path n clean s
  | .verdictTimeout t => Sys2Proof.Machine.execVerdictTimeout t s
  | .snapshotRx t seq snap => Sys2Proof.Machine.execSnapshotRx t seq snap s
  | .twinWaitExpiry t => Sys2Proof.Machine.execTwinWaitExpiry t s
  | .joinReqSend t => Sys2Proof.Machine.execJoinReqSend t s
  | .snapshotSend t => Sys2Proof.Machine.execSnapshotSend t s
  | .joinFailTimeout t => Sys2Proof.Machine.execJoinFailTimeout t s
  | .autoJoinRetry t => Sys2Proof.Machine.execAutoJoinRetry t s
  | .startBoundary => Sys2Proof.Machine.execStartBoundary s
  | .tickBoundary => Sys2Proof.Machine.execTickBoundary s
  | .objStale flow => Sys2Proof.Machine.execObjStale flow s
  | .corFadeEnd => Sys2Proof.Machine.execCorFadeEnd s
  | .routeHingeEnd => Sys2Proof.Machine.execRouteHingeEnd s
  | .dacSpanSwitch t => Sys2Proof.Machine.execDacSpanSwitch t s
  | .dacSpanFadeUp t => Sys2Proof.Machine.execDacSpanFadeUp t s
  | .dacSpanDone t => Sys2Proof.Machine.execDacSpanDone t s
  | .modulatorReset t ch => Sys2Proof.Machine.execModulatorReset t ch s
  | .ingressDeadline t => Sys2Proof.Machine.execIngressDeadline t s
  | .nominalDeadline t => Sys2Proof.Machine.execNominalDeadline t s
  | .shedWiden t => Sys2Proof.Machine.execShedWiden t s
  | .unitSubmit t core desc => Sys2Proof.Machine.execUnitSubmit t core desc s
  | .submitRetry t => Sys2Proof.Machine.execSubmitRetry t s
  | .unitDispatch t => Sys2Proof.Machine.execUnitDispatch t s
  | .unitCommit t u => Sys2Proof.Machine.execUnitCommit t u s
  | .unitEndNoCommit t engine => Sys2Proof.Machine.execUnitEndNoCommit t engine s
  | .geometryBankComplete g => Sys2Proof.Machine.execGeometryBankComplete g s
  | .unitFault t engine kind site => Sys2Proof.Machine.execUnitFault t engine kind site s
  | .budgetInterrupt t engine => Sys2Proof.Machine.execBudgetInterrupt t engine s
  | .haltRequest t engine => Sys2Proof.Machine.execHaltRequest t engine s
  | .haltRelease t engine => Sys2Proof.Machine.execHaltRelease t engine s
  | .egressReadout t => Sys2Proof.Machine.execEgressReadout t s
  | .dcWindowEnd t => Sys2Proof.Machine.execDcWindowEnd t s
  | .dbltParityCheck t c => Sys2Proof.Machine.execDbltParityCheck t c s
  | .yieldTakeEffect t => Sys2Proof.Machine.execYieldTakeEffect t s
  | .calDecisionRound => Sys2Proof.Machine.execCalDecisionRound s
  | .calAlignStart t f block => Sys2Proof.Machine.execCalAlignStart t f block s
  | .calBlockAbandon t f block => Sys2Proof.Machine.execCalBlockAbandon t f block s
  | .captureNotLive t ch => Sys2Proof.Machine.execCaptureNotLive t ch s
  | .sleepEntryStep t => Sys2Proof.Machine.execSleepEntryStep t s
  | .wakeStep t => Sys2Proof.Machine.execWakeStep t s
  | .deepEntryStep t => Sys2Proof.Machine.execDeepEntryStep t s
  | .pwrQueuedStart t => Sys2Proof.Machine.execPwrQueuedStart t s
  | .bootAwaitImage t => Sys2Proof.Machine.execBootAwaitImage t s
  | .imgVerifyDone t badLine => Sys2Proof.Machine.execImgVerifyDone t badLine s
  | .imgLoadDone t => Sys2Proof.Machine.execImgLoadDone t s
  | .engineSelftestDone t failed => Sys2Proof.Machine.execEngineSelftestDone t failed s
  | .firmwareReady t => Sys2Proof.Machine.execFirmwareReady t s
  | .dramTrainingStep t ch ok => Sys2Proof.Machine.execDramTrainingStep t ch ok s
  | .wckTrack t beyond => Sys2Proof.Machine.execWckTrack t beyond s
  | .mr4Read t rate => Sys2Proof.Machine.execMr4Read t rate s
  | .refreshDue t ch demand ahead => Sys2Proof.Machine.execRefreshDue t ch demand ahead s
  | .dramScrub t c => Sys2Proof.Machine.execDramScrub t c s
  | .requestPromote t n => Sys2Proof.Machine.execRequestPromote t n s
  | .fabricTimeout t e => Sys2Proof.Machine.execFabricTimeout t e s
  | .feedFail t b => Sys2Proof.Machine.execFeedFail t b s
  | .resetPinRelease t addrId sgmii => Sys2Proof.Machine.execResetPinRelease t addrId sgmii s
  | .dacClampOpen t => Sys2Proof.Machine.execDacClampOpen t s
  | .lowPowerIdle t e => Sys2Proof.Machine.execLowPowerIdle t e s
  | .rxFcsError t port => Sys2Proof.Machine.execRxFcsError t port s

end Sys2Proof.Machine
end

