-- ==== Sys2Proof/Safety.lean ====
section
/-! DEFINITION. The terms in which statements speak of the module: a command's packet as its transport reads it, the state that
has read it, the three replies it can get, and what a safe deadbolt is. -/

namespace Sys2Proof.Machine

/-! A command's packet. -/

/-- The packet stands where its transport reads it, whole and in form, while no gate holds a command (R351, R456): on the command ring at
KEY_CMD_CI (R334 to R337), or in a datagram from an allowed source that repeats no stored command (R346). -/
def delivered (op : Nat) (h : Hdr) (p : Bytes) (s : State) : Bool :=
  let s := s.at h.t
  match h.src with
  | .pcie => s.ringReady && s.ringFramed h.length && h.length == p.length
  | .mgmt ip port =>
    s.mgmtOpen && !s.midway && s.allowed ip && ((s.rxCount 2).repeated ip port (packetBytes op h p)).isNone && h.length == p.length
      && decide (p.length ≤ 1440)
  | _ => false

/-- The state that has read the packet: its slots are consumed, or the datagram is counted and kept, and it has its ASEQ. -/
def taken (op : Nat) (h : Hdr) (p : Bytes) (s : State) : State :=
  match h.src with
  | .pcie => ((s.at h.t).ringAdvance (slotsOf h.length)).giveAseq
  | .mgmt ip port => (((s.at h.t).rxCount 2).giveAseq).storeCmd ip port (packetBytes op h p)
  | _ => s.at h.t

/-- What the command's reply goes to: the ASEQ is the one that reading gave it. -/
def refOf (op : Nat) (h : Hdr) (p : Bytes) (s : State) : ReplyRef :=
  { src := h.src, opcode := op, tag := h.tag, aseq := (taken op h p s).key.aseq.toNat }

/-- The command as its own rules see it. -/
def inputOf (c : Cmd) (h : Hdr) (p : Bytes) (s : State) : CmdIn :=
  { op := c.op, body := p, form := h.flags % 4, when := h.when, ref := refOf c.op h p s, mirror := none }

/-- The packet passes checks 1 to 4 of R348 and the modes of R286 and R474, and the module decides the command itself (R316): what
follows are the command's own rules. -/
def accepted (c : Cmd) (h : Hdr) (p : Bytes) (s : State) : Bool :=
  let u := taken c.op h p s
  delivered c.op h p s && (u.imageRuns || c.boot) && c.len h.length p && h.flags / 4 == 0 && !(c.uses && h.flags % 4 == 3)
    && modeCheck u c && !(c.mirrored && u.rendering && u.follows)

/-! The rows that are keyway commands. -/

/-- The keyway command that a row is, with its header and its parameters (R356). -/
def keywayRow : Instr → Option (Cmd × Hdr × Bytes)
  | .sysInfo h p => some (sysInfoCmd, h, p)
  | .sysReset h p => some (sysResetCmd, h, p)
  | .nop h p => some (nopCmd, h, p)
  | .renderConfig h p => some (renderConfigCmd, h, p)
  | .pause h p => some (pauseCmd, h, p)
  | .resume h p => some (resumeCmd, h, p)
  | .dbltWrite h p => some (dbltWriteCmd, h, p)
  | .dbltRead h p => some (dbltReadCmd, h, p)
  | .imgBegin h p => some (imgBeginCmd, h, p)
  | .imgData h p => some (imgDataCmd, h, p)
  | .imgEnd h p => some (imgEndCmd, h, p)
  | .imgStatus h p => some (imgStatusCmd, h, p)
  | .stageCommit h p => some (stageCommitCmd, h, p)
  | .stageReturn h p => some (stageReturnCmd, h, p)
  | .objBind h p => some (objBindCmd, h, p)
  | .objSource h p => some (objSourceCmd, h, p)
  | .objMove h p => some (objMoveCmd, h, p)
  | .objGain h p => some (objGainCmd, h, p)
  | .objSpread h p => some (objSpreadCmd, h, p)
  | .objZones h p => some (objZonesCmd, h, p)
  | .objLayouts h p => some (objLayoutsCmd, h, p)
  | .objAtten h p => some (objAttenCmd, h, p)
  | .sceneXform h p => some (sceneXformCmd, h, p)
  | .metaPolicy h p => some (metaPolicyCmd, h, p)
  | .bedGain h p => some (bedGainCmd, h, p)
  | .bedBind h p => some (bedBindCmd, h, p)
  | .objQuery h p => some (objQueryCmd, h, p)
  | .layoutWrite h p => some (layoutWriteCmd, h, p)
  | .layoutLoad h p => some (layoutLoadCmd, h, p)
  | .layoutQuery h p => some (layoutQueryCmd, h, p)
  | .soundSpeed h p => some (soundSpeedCmd, h, p)
  | .pairQuery h p => some (pairQueryCmd, h, p)
  | .routeMode h p => some (routeModeCmd, h, p)
  | .xpMap h p => some (xpMapCmd, h, p)
  | .routeGain h p => some (routeGainCmd, h, p)
  | .routeWrite h p => some (routeWriteCmd, h, p)
  | .routeCommit h p => some (routeCommitCmd, h, p)
  | .bedAlign h p => some (bedAlignCmd, h, p)
  | .latQuery h p => some (latQueryCmd, h, p)
  | .corWrite h p => some (corWriteCmd, h, p)
  | .corHinge h p => some (corHingeCmd, h, p)
  | .corGain h p => some (corGainCmd, h, p)
  | .corLong h p => some (corLongCmd, h, p)
  | .corFold h p => some (corFoldCmd, h, p)
  | .corQuery h p => some (corQueryCmd, h, p)
  | .calCapture h p => some (calCaptureCmd, h, p)
  | .calEnroll h p => some (calEnrollCmd, h, p)
  | .calPolicy h p => some (calPolicyCmd, h, p)
  | .calStart h p => some (calStartCmd, h, p)
  | .calStop h p => some (calStopCmd, h, p)
  | .sweepStart h p => some (sweepStartCmd, h, p)
  | .sweepStop h p => some (sweepStopCmd, h, p)
  | .calBaseline h p => some (calBaselineCmd, h, p)
  | .calVeto h p => some (calVetoCmd, h, p)
  | .calReport h p => some (calReportCmd, h, p)
  | .calQuery h p => some (calQueryCmd, h, p)
  | .netAddr h p => some (netAddrCmd, h, p)
  | .vlanSet h p => some (vlanSetCmd, h, p)
  | .flowInSet h p => some (flowInSetCmd, h, p)
  | .flowOutSet h p => some (flowOutSetCmd, h, p)
  | .flowQuery h p => some (flowQueryCmd, h, p)
  | .ptpConfig h p => some (ptpConfigCmd, h, p)
  | .sceneTime h p => some (sceneTimeCmd, h, p)
  | .timeQuery h p => some (timeQueryCmd, h, p)
  | .timeConvert h p => some (timeConvertCmd, h, p)
  | .dacConfig h p => some (dacConfigCmd, h, p)
  | .dacMap h p => some (dacMapCmd, h, p)
  | .dacSpan h p => some (dacSpanCmd, h, p)
  | .dacQuery h p => some (dacQueryCmd, h, p)
  | .pwrQuery h p => some (pwrQueryCmd, h, p)
  | .pwrSleep h p => some (pwrSleepCmd, h, p)
  | .pwrDeep h p => some (pwrDeepCmd, h, p)
  | .pwrWake h p => some (pwrWakeCmd, h, p)
  | .feedExercise h p => some (feedExerciseCmd, h, p)
  | .clkQuery h p => some (clkQueryCmd, h, p)
  | .twinConfig h p => some (twinConfigCmd, h, p)
  | .twinJoin h p => some (twinJoinCmd, h, p)
  | .twinQuery h p => some (twinQueryCmd, h, p)
  | .logRead h p => some (logReadCmd, h, p)
  | .regRead h p => some (regReadCmd, h, p)
  | .regWrite h p => some (regWriteCmd, h, p)
  | _ => none

/-! Replies. -/

/-- A decider mirrors a mirrored command for its boundary (R315). -/
def shared (c : Cmd) (h : Hdr) (p : Bytes) (s v : State) (n : Nat) : State :=
  let u := taken c.op h p s
  if c.mirrored && u.rendering && u.mirrors then v.mirrorOut n (.cmd c.op p (refOf c.op h p s).aseq) p.length else v

/-- The command has had the effect `v`, for boundary `n`, and is answered OK with a payload (R350). -/
def answeredOk (c : Cmd) (h : Hdr) (p : Bytes) (s v : State) (payload : Bytes) (n : Nat) : State :=
  (shared c h p s v n).answer (refOf c.op h p s) .ok false false payload

/-- The command is refused with a status, and the refusal counted; nothing else has happened (R348). -/
def refusedWith (c : Cmd) (h : Hdr) (p : Bytes) (s : State) (st : Status) (payload : Bytes) : State :=
  (taken c.op h p s).countRefusal.answer (refOf c.op h p s) st false false payload

/-- The command has been accepted for later, with the effect `v` so far; its reply is due (R351). -/
def acceptedLater (c : Cmd) (h : Hdr) (p : Bytes) (s v : State) (n : Nat) : State :=
  let v := shared c h p s v n
  { v with key := { v.key with due := v.key.due ++ [refOf c.op h p s] } }

/-- Every accepted packet of the command that meets `pre` has the effect `eff` and an OK reply with its payload. -/
def Completes (c : Cmd) (mk : Hdr → Bytes → Instr) (pre : CmdIn → State → Prop) (eff : CmdIn → State → State × Bytes) : Prop :=
  ∀ h p s, accepted c h p s = true → pre (inputOf c h p s) (taken c.op h p s) →
    exec (mk h p) s = .next
      (answeredOk c h p s (eff (inputOf c h p s) (taken c.op h p s)).1 (eff (inputOf c h p s) (taken c.op h p s)).2
        ((taken c.op h p s).tick + 1))

/-- Every accepted packet of the command that meets `pre` for a boundary `n` has the effect `eff` and an OK reply. -/
def CompletesFor (c : Cmd) (mk : Hdr → Bytes → Instr) (pre : CmdIn → State → Nat → Prop) (eff : CmdIn → State → Nat → State) : Prop :=
  ∀ h p s n, accepted c h p s = true → pre (inputOf c h p s) (taken c.op h p s) n →
    exec (mk h p) s = .next (answeredOk c h p s (eff (inputOf c h p s) (taken c.op h p s) n) [] n)

/-- Every accepted packet of the command that meets `pre` for a boundary `n` has the effect `eff`, and its reply is due: fewer than
1,024 are (R351). -/
def Defers (c : Cmd) (mk : Hdr → Bytes → Instr) (pre : CmdIn → State → Nat → Prop) (eff : CmdIn → State → Nat → State) : Prop :=
  ∀ h p s n, accepted c h p s = true → pre (inputOf c h p s) (taken c.op h p s) n →
    (eff (inputOf c h p s) (taken c.op h p s) n).key.due.length < 1024 →
    exec (mk h p) s = .next (acceptedLater c h p s (eff (inputOf c h p s) (taken c.op h p s) n) n)

/-- Every accepted packet of the command that meets `pre` is refused with the status and nothing else. -/
def Refuses (c : Cmd) (mk : Hdr → Bytes → Instr) (pre : CmdIn → State → Prop) (st : Status) : Prop :=
  ∀ h p s, accepted c h p s = true → pre (inputOf c h p s) (taken c.op h p s) →
    exec (mk h p) s = .next (refusedWith c h p s st [])

/-- The command answers a next state that satisfies `post`. -/
def Leads (i : Instr) (s : State) (post : State → Prop) : Prop := ∃ u, exec i s = .next u ∧ post u

/-- A host write over PCIe reaches block `blk` at `a` and is answered OK (R498, R541). -/
def State.writable (s : State) (a blk : Nat) : Bool :=
  s.pcieUp && s.bar0Code a == some 0 && ((bar0Block a).map fun b => b.2.2.2.2) == some blk

/-- A BAR2 access at `off` is answered OK (R544). -/
def State.windowOpen (s : State) (off : Nat) : Bool := s.pcieUp && s.bar2Code off == some 0

/-- The registers from `a` on take the first `n` values of a REG_WRITE, in order (R358). -/
def State.writeRegs (s : State) (a : Nat) (b : Bytes) : Nat → State
  | 0 => s
  | k + 1 => match bar0Block (a + 4 * k) with
    | some (base, _, _, _, blk) => (s.writeRegs a b k).writeReg blk (a + 4 * k - base) (rd32 b (8 + 4 * k))
    | none => s.writeRegs a b k

/-! Commands that carry a metadata block (R65 to R71). -/

/-- The block of a command at boundary `n`: its number names an object of the rate in force or a bed input, its parameters
satisfy `ok`, and the object's source at `n` is the command where SRC guards it (R71). -/
def BlockAdmitted (bed src : Bool) (ok : Bytes → Prop) (i : CmdIn) (u : State) (n : Nat) : Prop :=
  rd16 i.body 0 < (if bed then 128 else objCount u.rnd.rate96) ∧ ok i.body ∧
    (src = true → (u.objCtx (rd16 i.body 0)).srcAt n = true)

/-- The command waits for boundary `n`: its context has applied nothing of that boundary or a later one, and fewer than eight
blocks wait there (R67, R69). -/
def BlockWaits (bed : Bool) (i : CmdIn) (u : State) (n : Nat) : Prop :=
  u.staged = false ∧ u.boundary i u.firstCut = .ok n ∧ ((u.pendOf bed (rd16 i.body 0)).2.all fun m => decide (m < n)) = true ∧
    (u.pendOf bed (rd16 i.body 0)).1.length < 8

/-- Every admitted command of the kind executes: at once in STAGED and LOCKING (R560), where its block meets the context at the
present boundary, and otherwise its block joins the pending ones of its context. -/
def BlockCompletes (c : Cmd) (mk : Hdr → Bytes → Instr) (bed src : Bool) (ok : Bytes → Prop) (blk : Bytes → Blk → Blk) : Prop :=
  Completes c mk (fun i u => BlockAdmitted bed src ok i u u.tick ∧ u.staged = true)
    (fun i u => ((u.blockNow bed (rd16 i.body 0) (blk i.body { Blk.empty u.tick u.ord 0 true with ofSource := src })).nextOrd, [])) ∧
  CompletesFor c mk (fun i u n => BlockAdmitted bed src ok i u n ∧ BlockWaits bed i u n)
    (fun i u n =>
      let b := blk i.body { Blk.empty n u.ord 0 true with ofSource := src }
      (if bed then u.pendBed (rd16 i.body 0) b else u.pendObj (rd16 i.body 0) b).nextOrd)

/-- Every calibration command of the kind whose conditions hold takes effect at once in STAGED and LOCKING, and is scheduled for its
boundary otherwise (R219, R560). -/
def CalCompletes (c : Cmd) (mk : Hdr → Bytes → Instr) (ok : CmdIn → State → Prop) (eff : CmdIn → State → State) : Prop :=
  Completes c mk (fun i u => ok i u ∧ u.staged = true) (fun i u => (eff i u, [])) ∧
  CompletesFor c mk (fun i u n => ok i u ∧ u.staged = false ∧ u.boundary i u.firstCut = .ok n) (fun i u n => u.schedule n i)

/-! A safe deadbolt. -/

/-- Every setting of the deadbolt stands in its range (R291, R549). -/
def State.DbltInRange (s : State) : Prop := ∀ off, (dbltDflt off).isSome → dbltInRange off (s.dbltGet off) = true

/-- The settings are listed once each, none at its reset value, and each stands in its range. -/
def State.DbltSafe (s : State) : Prop :=
  tabWf (fun off => wd ((dbltDflt off).getD 0)) s.dblt.settings = true ∧ s.DbltInRange

/-- A reset has just cleared the deadbolt: no setting, not locked (R11, R550). -/
def State.DbltCleared (s : State) : Prop := s.dblt.settings = [] ∧ s.dblt.locked = false

/-! Byte stores. -/

/-- Every byte store that reads as zero where it lists nothing is in canonical form. -/
def State.StoresOk (s : State) : Bool :=
  [s.boot.staging, s.boot.image, s.pan.staging, s.pan.image, s.rte.staging, s.rte.prog0, s.rte.prog1].all Memory.wf

end Sys2Proof.Machine
end

