-- ==== Sys2Proof/WellFormed.lean ====
section
/-! DEFINITION. What a well-formed command is: every field lies inside the width that its place gives it. The meanings are total,
and take an ill-formed command too; the checks say which terms stand for something that can happen. -/

namespace Sys2Proof

open Sys2Proof.Machine

/-- A number that fits in `w` bits. -/
def fits (w n : Nat) : Bool := decide (n < 2 ^ w)

/-- A number below a bound: a port, an engine, a feed, a channel. -/
def below (k n : Nat) : Bool := decide (n < k)

/-- A string of bytes of a fixed length. -/
def sized (k : Nat) (b : Bytes) : Bool := b.length == k

/-- A string of bytes that a 16-bit length can count. -/
def short (b : Bytes) : Bool := decide (b.length < 65536)

/-- The path of a command that arrives from outside: PCIe, or an IPv4 address and a UDP port of MGMT. -/
def srcWf : CmdSrc → Bool
  | .pcie => true
  | .mgmt ip port => fits 32 ip && fits 16 port
  | .relay _ => false
  | .none => false

/-- A keyway header (R330). -/
def Machine.Hdr.wf (h : Hdr) : Bool :=
  srcWf h.src && fits 64 h.t && fits 16 h.tag && fits 16 h.length && fits 16 h.flags && fits 64 h.when

/-- A received datagram. -/
def Machine.Udp.wf (u : Udp) : Bool :=
  fits 64 u.t && below 4 u.port && fits 12 u.vid && fits 32 u.src && fits 32 u.dst && fits 16 u.sport && fits 16 u.dport
    && short u.body

/-- A received PTP message. -/
def Machine.PtpMsg.wf (m : PtpMsg) : Bool := fits 64 m.t && below 2 m.port && fits 12 m.vid && fits 32 m.ip && fits 8 m.domain && fits 16 m.seq

/-- The byte stores that a snapshot carries are in canonical form. -/
def Machine.Snapshot.wf (x : Snapshot) : Bool :=
  [x.rte.staging, x.rte.prog0, x.rte.prog1, x.pan.staging, x.pan.image].all Memory.wf

/-- Every field of a command lies inside its width. -/
def Instr.wf : Instr → Bool
  | .sysInfo h p => h.wf && short p
  | .sysReset h p => h.wf && short p
  | .nop h p => h.wf && short p
  | .renderConfig h p => h.wf && short p
  | .pause h p => h.wf && short p
  | .resume h p => h.wf && short p
  | .dbltWrite h p => h.wf && short p
  | .dbltRead h p => h.wf && short p
  | .imgBegin h p => h.wf && short p
  | .imgData h p => h.wf && short p
  | .imgEnd h p => h.wf && short p
  | .imgStatus h p => h.wf && short p
  | .stageCommit h p => h.wf && short p
  | .stageReturn h p => h.wf && short p
  | .objBind h p => h.wf && short p
  | .objSource h p => h.wf && short p
  | .objMove h p => h.wf && short p
  | .objGain h p => h.wf && short p
  | .objSpread h p => h.wf && short p
  | .objZones h p => h.wf && short p
  | .objLayouts h p => h.wf && short p
  | .objAtten h p => h.wf && short p
  | .sceneXform h p => h.wf && short p
  | .metaPolicy h p => h.wf && short p
  | .bedGain h p => h.wf && short p
  | .bedBind h p => h.wf && short p
  | .objQuery h p => h.wf && short p
  | .layoutWrite h p => h.wf && short p
  | .layoutLoad h p => h.wf && short p
  | .layoutQuery h p => h.wf && short p
  | .soundSpeed h p => h.wf && short p
  | .pairQuery h p => h.wf && short p
  | .routeMode h p => h.wf && short p
  | .xpMap h p => h.wf && short p
  | .routeGain h p => h.wf && short p
  | .routeWrite h p => h.wf && short p
  | .routeCommit h p => h.wf && short p
  | .bedAlign h p => h.wf && short p
  | .latQuery h p => h.wf && short p
  | .corWrite h p => h.wf && short p
  | .corHinge h p => h.wf && short p
  | .corGain h p => h.wf && short p
  | .corLong h p => h.wf && short p
  | .corFold h p => h.wf && short p
  | .corQuery h p => h.wf && short p
  | .calCapture h p => h.wf && short p
  | .calEnroll h p => h.wf && short p
  | .calPolicy h p => h.wf && short p
  | .calStart h p => h.wf && short p
  | .calStop h p => h.wf && short p
  | .sweepStart h p => h.wf && short p
  | .sweepStop h p => h.wf && short p
  | .calBaseline h p => h.wf && short p
  | .calVeto h p => h.wf && short p
  | .calReport h p => h.wf && short p
  | .calQuery h p => h.wf && short p
  | .netAddr h p => h.wf && short p
  | .vlanSet h p => h.wf && short p
  | .flowInSet h p => h.wf && short p
  | .flowOutSet h p => h.wf && short p
  | .flowQuery h p => h.wf && short p
  | .ptpConfig h p => h.wf && short p
  | .sceneTime h p => h.wf && short p
  | .timeQuery h p => h.wf && short p
  | .timeConvert h p => h.wf && short p
  | .dacConfig h p => h.wf && short p
  | .dacMap h p => h.wf && short p
  | .dacSpan h p => h.wf && short p
  | .dacQuery h p => h.wf && short p
  | .pwrQuery h p => h.wf && short p
  | .pwrSleep h p => h.wf && short p
  | .pwrDeep h p => h.wf && short p
  | .pwrWake h p => h.wf && short p
  | .feedExercise h p => h.wf && short p
  | .clkQuery h p => h.wf && short p
  | .twinConfig h p => h.wf && short p
  | .twinJoin h p => h.wf && short p
  | .twinQuery h p => h.wf && short p
  | .logRead h p => h.wf && short p
  | .regRead h p => h.wf && short p
  | .regWrite h p => h.wf && short p
  | .unknownOpcode h op p => h.wf && fits 16 op && short p
  | .padSkip t tag => fits 64 t && fits 16 tag
  | .cmdFetchError t => fits 64 t
  | .mgmtShortDatagram t => fits 64 t
  | .mgmtDenied h op p => h.wf && fits 16 op && short p
  | .mgmtRepeat h op p => h.wf && fits 16 op && short p
  | .cmdRingEnable t => fits 64 t
  | .cmdRingDisable t => fits 64 t
  | .rplRingEnable t => fits 64 t
  | .rplRingDisable t => fits 64 t
  | .keyRingCfgWrite t off v => fits 64 t && fits 32 off && fits 32 v
  | .keyCmdPiWrite t v => fits 64 t && fits 32 v
  | .keyRplCiWrite t v => fits 64 t && fits 32 v
  | .replyRingSpace t => fits 64 t
  | .keyIrqTimer t => fits 64 t
  | .sysResetExec t => fits 64 t
  | .w1cClear t addr v => fits 64 t && fits 32 addr && fits 32 v
  | .registerWrite t addr v be => fits 64 t && fits 32 addr && fits 32 v && fits 4 be
  | .rndClrMin t v => fits 64 t && fits 32 v
  | .panClrMax t v => fits 64 t && fits 32 v
  | .dispClrMax t v => fits 64 t && fits 32 v
  | .intgClrTjmax t v => fits 64 t && fits 32 v
  | .ddrClrMax t v => fits 64 t && fits 32 v
  | .pwrClrMinmax t v => fits 64 t && fits 32 v
  | .tapKctlWrite t v => fits 64 t && fits 32 v
  | .tapInjWrite t k v => fits 64 t && below 34 k && fits 32 v
  | .tapTestEnWrite t v => fits 64 t && fits 32 v
  | .dbltRegWrite t off v => fits 64 t && fits 32 off && fits 32 v
  | .imgWindowWrite t off data => fits 64 t && fits 32 off && short data
  | .corWindowWrite t off data => fits 64 t && fits 32 off && short data
  | .layoutWindowWrite t off data => fits 64 t && fits 32 off && short data
  | .routeWindowWrite t off data => fits 64 t && fits 32 off && short data
  | .roWindowWrite t off data => fits 64 t && fits 32 off && short data
  | .hostRxEnable t => fits 64 t
  | .hostTxEnable t => fits 64 t
  | .hostTxDisable t => fits 64 t
  | .hostRxPiWrite t v slots => fits 64 t && fits 32 v && slots.all (sized 32)
  | .hostTxPiWrite t v slots frames => fits 64 t && fits 32 v && slots.all (sized 32) && frames.all short
  | .wdogKick w => fits 64 w.t && w.faults.all fun e => match e with
    | .fw a _ => fits 32 a
    | .calTable a => fits 32 a
    | .calState f a => below 768 f && fits 32 a
  | .watchdogExpiry t => fits 64 t
  | .resetPin t => fits 64 t
  | .perst t _ _ => fits 64 t
  | .drainRelease t m => fits 64 t && below 64 m
  | .wakePin t => fits 64 t
  | .deepWakeTimer t => fits 64 t
  | .frameStbEdge t _ => fits 64 t
  | .strobeSilent t => fits 64 t
  | .feedSwitchB t => fits 64 t
  | .feedBFailReturn t => fits 64 t
  | .feedReturnA t => fits 64 t
  | .holdupCarry t => fits 64 t
  | .holdupEnd t _ _ => fits 64 t
  | .holdupExhausted t => fits 64 t
  | .feedQualified t _ _ => fits 64 t
  | .bringupStep t => fits 64 t
  | .railFault t rail => fits 64 t && below 16 rail
  | .railRetry t => fits 64 t
  | .powerMonitorSample t aMv aMa bMv bMa hMv => fits 64 t && fits 16 aMv && fits 16 aMa && fits 16 bMv && fits 16 bMa && fits 16 hMv
  | .feedExerciseEnd t => fits 64 t
  | .xtalFail t => fits 64 t
  | .pllRefLoss t p => fits 64 t && below 9 p.pll
  | .pllRelock t p => fits 64 t && below 9 p
  | .freqMonWindow t _ _ => fits 64 t
  | .muxSwitch t p _ _ => fits 64 t && below 9 p
  | .muxForcedSwitch t p _ => fits 64 t && below 9 p
  | .gateIdle t g => fits 64 t && below 15 g
  | .gateCloseTimeout t g => fits 64 t && below 15 g
  | .tempSample t tj => fits 64 t && fits 16 tj
  | .linkChange t port _ => fits 64 t && below 4 port
  | .st2110Packet u => u.wf
  | .sadmPacket u _ => u.wf
  | .ptpSync m => m.wf
  | .ptpFollowUp m => m.wf
  | .ptpDelayResp m => m.wf
  | .ptpAnnounce m => m.wf
  | .ptpDelayReqSend t port _ => fits 64 t && below 4 port
  | .announceTimeout t port => fits 64 t && below 4 port
  | .syncTimeout t => fits 64 t
  | .ptpPortSwitch t => fits 64 t
  | .arpFrame t port vid _ sip smac tip => fits 64 t && below 4 port && fits 12 vid && fits 32 sip && fits 48 smac && fits 32 tip
  | .arpRetry t port ip => fits 64 t && below 4 port && fits 32 ip
  | .icmpEcho u => u.wf
  | .igmpQuery t port group src => fits 64 t && below 4 port && fits 32 group && fits 32 src
  | .igmpRepeat t => fits 64 t
  | .igmpLeave t => fits 64 t
  | .lldpFrame t port tw _ => fits 64 t && below 4 port && fits 16 tw
  | .pauseFrame t port quanta => fits 64 t && below 4 port && fits 16 quanta
  | .pauseQuantaEnd t port => fits 64 t && below 4 port
  | .droppedFrame t port d => fits 64 t && below 4 port && d.vid.all (fits 12)
  | .hostRxFrame t tci frame => fits 64 t && tci.all (fits 16) && short frame
  | .frameLaunch t port => fits 64 t && below 4 port
  | .mediaPacketLaunch t entry => fits 64 t && below 2048 entry
  | .sadmRelaySend t entry => fits 64 t && below 2048 entry
  | .tumblerSend t _ => fits 64 t
  | .tumblerRx t _ _ => fits 64 t
  | .tumblerMiss t _ => fits 64 t
  | .mirrorRx t seq _ _ => fits 64 t && fits 32 seq
  | .ackRx t seq _ mseq => fits 64 t && fits 32 seq && fits 32 mseq
  | .mirrorRetx t => fits 64 t
  | .relayRx t seq _ _ => fits 64 t && fits 32 seq
  | .checkRx t seq _ _ => fits 64 t && fits 32 seq
  | .verdictRx t seq _ _ _ => fits 64 t && fits 32 seq
  | .verdictTimeout t => fits 64 t
  | .snapshotRx t seq snap => fits 64 t && fits 32 seq && snap.wf
  | .twinWaitExpiry t => fits 64 t
  | .joinReqSend t => fits 64 t
  | .snapshotSend t => fits 64 t
  | .joinFailTimeout t => fits 64 t
  | .autoJoinRetry t => fits 64 t
  | .startBoundary => true
  | .tickBoundary => true
  | .objStale flow => below 2048 flow
  | .corFadeEnd => true
  | .routeHingeEnd => true
  | .dacSpanSwitch t => fits 64 t
  | .dacSpanFadeUp t => fits 64 t
  | .dacSpanDone t => fits 64 t
  | .modulatorReset t ch => fits 64 t && below 16 ch
  | .ingressDeadline t => fits 64 t
  | .nominalDeadline t => fits 64 t
  | .shedWiden t => fits 64 t
  | .unitSubmit t core desc => fits 64 t && below 8 core && sized 48 desc
  | .submitRetry t => fits 64 t
  | .unitDispatch t => fits 64 t
  | .unitCommit t u => fits 64 t && below 34 u.engine
  | .unitEndNoCommit t engine => fits 64 t && below 34 engine
  | .geometryBankComplete g => fits 64 g.t
  | .unitFault t engine kind site => fits 64 t && below 34 engine && fits 8 kind && fits 32 site.addr && below 32 site.lane
  | .budgetInterrupt t engine => fits 64 t && below 34 engine
  | .haltRequest t engine => fits 64 t && below 34 engine
  | .haltRelease t engine => fits 64 t && below 34 engine
  | .egressReadout t => fits 64 t
  | .dcWindowEnd t => fits 64 t
  | .dbltParityCheck t c => fits 64 t && c.feeds.all (below 768) && below 4096 c.words
  | .yieldTakeEffect t => fits 64 t
  | .calDecisionRound => true
  | .calAlignStart t f _ => fits 64 t && below 768 f
  | .calBlockAbandon t f _ => fits 64 t && below 768 f
  | .captureNotLive t ch => fits 64 t && below 64 ch
  | .sleepEntryStep t => fits 64 t
  | .wakeStep t => fits 64 t
  | .deepEntryStep t => fits 64 t
  | .pwrQueuedStart t => fits 64 t
  | .bootAwaitImage t => fits 64 t
  | .imgVerifyDone t _ => fits 64 t
  | .imgLoadDone t => fits 64 t
  | .engineSelftestDone t failed => fits 64 t && failed.all (below 34)
  | .firmwareReady t => fits 64 t
  | .dramTrainingStep t ch _ => fits 64 t && below 2 ch
  | .wckTrack t _ => fits 64 t
  | .mr4Read t rate => fits 64 t && fits 3 rate
  | .refreshDue t ch _ _ => fits 64 t && below 2 ch
  | .dramScrub t c => fits 64 t && c.bad.all fun e => below 2 e.ch && below 0xF0000000 e.addr
  | .requestPromote t n => fits 64 t && decide (1 ≤ n ∧ n ≤ 3)
  | .fabricTimeout t e => fits 64 t && fits 32 e.addr && fits 8 e.hi && below 15 e.master && below 64 e.id
  | .feedFail t _ => fits 64 t
  | .resetPinRelease t addrId _ => fits 64 t && below 16 addrId
  | .dacClampOpen t => fits 64 t
  | .lowPowerIdle t e => fits 64 t && below 4 e.port
  | .rxFcsError t port => fits 64 t && below 4 port

end Sys2Proof
end

