-- ==== Sys2Proof/Certificates/Slice0/Obligations.lean ====
section
/-! DEFINITION. The statements for the provers. A clause about an event speaks of `v`, the state at the event's time; the others of the
state that has read the command's packet. Each names the rules it formalises. -/

open Sys2Proof Sys2Proof.Machine

/-- The system commands execute and answer OK with their payloads. R357 to R359, R352: the commands of the keyway itself. REG_READ
reads COUNT registers, each of which answers OK, one without a register reads 0, and REG_WRITE writes COUNT of them. -/
def Obligations.SystemCommandsComplete : Prop :=
  Completes sysInfoCmd .sysInfo
      (fun _ _ => True)
      (fun _ u => (u, leB 4 0x7680 ++ leB 2 Config.hwRev.toNat ++ leB 2 Config.romVer.toNat ++ leB 1 u.sys.mode.num ++ leB 1 (b2n u.rnd.rate96)
        ++ leB 1 u.twn.state.num ++ zeros 1 ++ leB 4 u.sys.imageId ++ leB 4 u.sys.imageVer
        ++ leB 8 (if u.ptm.everLocked then u.time64 else 0) ++ zeros 4)) ∧
  Completes sysResetCmd .sysReset
      (fun _ _ => True)
      (fun _ u => (u.abortDue, [])) ∧
  Completes nopCmd .nop
      (fun i u => u.nopWaits i.ref = false)
      (fun _ u => (u, [])) ∧
  (∀ h p s u, u = taken 0x103 h p s → accepted nopCmd h p s = true → u.nopWaits (refOf 0x103 h p s) = true →
      exec (.nop h p) s = .next { u with key := { u.key with nops := u.key.nops ++ [refOf 0x103 h p s] } }) ∧
  Completes logReadCmd .logRead
      (fun i u => zeroAt i.body 6 2 = true ∧ 1 ≤ rd16 i.body 4 ∧ rd16 i.body 4 ≤ 63 ∧ u.intg.head ≤ rd32 i.body 0 + 65536)
      (fun i u => (u, leB 4 u.intg.head ++ ((List.range (min (rd16 i.body 4) (u.intg.head - rd32 i.body 0))).map fun k => u.logBytes (rd32 i.body 0 + k)).flatten)) ∧
  Completes regReadCmd .regRead
      (fun i u => zeroAt i.body 6 2 = true ∧ rd32 i.body 0 % 4 = 0 ∧ 1 ≤ rd16 i.body 4 ∧ rd16 i.body 4 ≤ 256 ∧
        ∀ k < rd16 i.body 4, u.bar0Code (rd32 i.body 0 + 4 * k) = some 0)
      (fun i u => (u, ((List.range (rd16 i.body 4)).map fun k => leB 4 (u.readReg (rd32 i.body 0 + 4 * k))).flatten)) ∧
  Completes regReadCmd .regRead
      (fun i u => zeroAt i.body 6 2 = true ∧ rd32 i.body 0 % 4 = 0 ∧ rd16 i.body 4 = 1 ∧ u.bar0Code (rd32 i.body 0) = some 2)
      (fun i u => (u.coreErr (rd32 i.body 0) 2 false, zeros 4)) ∧
  (∀ h p s u e, u = taken 0xB02 h p s → accepted regReadCmd h p s = true → zeroAt p 6 2 = true → rd32 p 0 % 4 = 0 → 1 ≤ rd16 p 4 → rd16 p 4 ≤ 256 →
      u.bar0Code (rd32 p 0) = some e → e = 3 ∨ e = 4 →
      exec (.regRead h p) s = .next ((u.coreErr (rd32 p 0) e false).countRefusal.answer (refOf 0xB02 h p s) .busError false false (leB 4 (rd32 p 0) ++ leB 4 e))) ∧
  Completes regWriteCmd .regWrite
      (fun i u => zeroAt i.body 6 2 = true ∧ rd32 i.body 0 % 4 = 0 ∧ 1 ≤ rd16 i.body 4 ∧ rd16 i.body 4 ≤ 64 ∧
        ∀ k < rd16 i.body 4, u.regWritable (rd32 i.body 0 + 4 * k) = true ∧
          badSetting (rd32 i.body 0 + 4 * k) (rd32 i.body (8 + 4 * k)) = false ∧
          (u.writeRegs (rd32 i.body 0) i.body k).bar0Code (rd32 i.body 0 + 4 * k) = some 0)
      (fun i u => (u.writeRegs (rd32 i.body 0) i.body (rd16 i.body 4), []))

/-- The deadbolt, boot, rate and stage commands execute. R47, R48, R294, R375 to R377, R380, R381: the commands that set the module
up, load its image and start it. -/
def Obligations.SetupCommandsComplete : Prop :=
  Completes renderConfigCmd .renderConfig
      (fun i u => u.sys.mode = .staged ∧ rd8 i.body 0 ≤ 1 ∧ zeroAt i.body 1 3 = true)
      (fun i u => (if (rd8 i.body 0 == 1) = u.rnd.rate96 then u
        else { u.rateReset with rnd := { u.rnd with rate96 := rd8 i.body 0 == 1 } }, [])) ∧
  Completes dbltWriteCmd .dbltWrite
      (fun i u => u.sys.mode = .staged ∧ u.dblt.locked = false ∧ dbltForm i.body = true ∧
        ∀ k < rd16 i.body 4 / 4, (dbltDflt (rd32 i.body 0 + 4 * k)).isSome = true ∧
          dbltInRange (rd32 i.body 0 + 4 * k) (rd32 i.body (8 + 4 * k)) = true)
      (fun i u => ((List.range (rd16 i.body 4 / 4)).foldl (fun v k => v.dbltSet (rd32 i.body 0 + 4 * k) (rd32 i.body (8 + 4 * k))) u, [])) ∧
  Completes dbltReadCmd .dbltRead
      (fun i u => dbltForm i.body = true ∧ (∀ k < rd16 i.body 4 / 4, (dbltView u (rd32 i.body 0 + 4 * k)).isSome = true) ∧
        (u.bar0Code (0x330000 + rd32 i.body 0) = some 0 ∨ u.bar0Code (0x330000 + rd32 i.body 0) = none))
      (fun i u => (u, ((List.range (rd16 i.body 4 / 4)).map fun k => leB 4 ((dbltView u (rd32 i.body 0 + 4 * k)).getD 0)).flatten)) ∧
  Completes imgBeginCmd .imgBegin
      (fun i u => u.sys.mode = .awaitImage ∧ zeroAt i.body 4 4 = true ∧ 0xA2764 ≤ rd32 i.body 0 ∧ rd32 i.body 0 ≤ 0x2000000 ∧
        u.boot.late = false ∧ u.dramOk = true)
      (fun i u => ({ u with boot := { u.boot with state := .receiving, result := 0, offset := 0, received := 0, size := rd32 i.body 0, badLine := none } }, [])) ∧
  Completes imgDataCmd .imgData
      (fun i u => u.sys.mode = .awaitImage ∧ u.boot.state = .receiving ∧ zeroAt i.body 6 2 = true ∧ 1 ≤ rd16 i.body 4 ∧
        rd16 i.body 4 ≤ 1424 ∧ rd32 i.body 0 + rd16 i.body 4 ≤ u.boot.size ∧ u.boot.late = false ∧ u.dramOk = true)
      (fun i u => ({ u with boot := { u.boot with
          staging := memFill u.boot.staging (rd32 i.body 0) (slice i.body 8 (rd16 i.body 4))
          received := (u.boot.received + rd16 i.body 4) % 2 ^ 32
          badLine := u.boot.badLine.filter fun l => !(decide (rd32 i.body 0 ≤ l) && decide (l + 64 ≤ rd32 i.body 0 + rd16 i.body 4)) } }, [])) ∧
  Completes imgEndCmd .imgEnd
      (fun _ u => u.sys.mode = .awaitImage ∧ u.boot.state = .receiving ∧ u.boot.badLine = none ∧ u.dramOk = true)
      (fun _ u => ({ u with boot := { u.boot with state := .verifying } }, [])) ∧
  Completes imgStatusCmd .imgStatus
      (fun _ _ => True)
      (fun _ u => (u, leB 1 u.boot.state.num ++ leB 1 u.boot.result ++ leB 1 u.boot.failedEng ++ zeros 1 ++ leB 4 u.boot.offset
        ++ leB 4 u.boot.received ++ leB 4 u.imgId)) ∧
  Completes stageCommitCmd .stageCommit
      (fun i u => u.sys.mode = .staged ∧ (rd32 i.body 0 = 0 ∨ rd32 i.body 0 = u.dblt.digest.toNat) ∧ u.cannotRender = false)
      (fun _ u => (State.enterLocking { u with
          twn := { u.twn with digest := u.twnDigest, stateDigest := u.twnStateDigest, frozen := true }
          pwr := { u.pwr with fromPaused := false } }, [])) ∧
  Completes stageReturnCmd .stageReturn
      (fun _ u => u.sys.mode = .locking)
      (fun _ u => (State.setMode { u with
          ptm := u.ptm.acquire, twn := { u.twn with ready := false, frozen := false }, rnd := { u.rnd with startAt := none } } .staged, []))

/-- PAUSE and RESUME are accepted for a boundary and take the place of a pending request. R44 to R46. The boundary is what WHEN
resolves to, `firstNext` being the first that is admitted. -/
def Obligations.PauseResumeAccepted : Prop :=
  Defers pauseCmd .pause
      (fun i u n => u.pausable = true ∧ u.boundary i u.firstNext = .ok n)
      (fun i u n => u.setPause { resume := false, tick := n, ref := i.ref }) ∧
  Refuses pauseCmd .pause
      (fun _ u => u.pausable = false) .badMode ∧
  Refuses pauseCmd .pause
      (fun i u => u.pausable = true ∧ u.boundary i u.firstNext = .late) .late ∧
  Defers resumeCmd .resume
      (fun i u n => u.pausable = true ∧ u.boundary i u.firstNext = .ok n)
      (fun i u n => u.setPause { resume := true, tick := n, ref := i.ref }) ∧
  Refuses resumeCmd .resume
      (fun _ u => u.pausable = false) .badMode ∧
  Refuses resumeCmd .resume
      (fun i u => u.pausable = true ∧ u.boundary i u.firstNext = .late) .late

/-- The object and bed commands change the context at once in STAGED and LOCKING, and otherwise at their boundary. R61, R65 to R71,
R75 to R88, R92, R560: OBJ_BIND, OBJ_SOURCE, OBJ_MOVE, OBJ_GAIN, OBJ_SPREAD, OBJ_ZONES, OBJ_LAYOUTS, OBJ_ATTEN, BED_GAIN and
BED_BIND. -/
def Obligations.ObjectBlockCommandsComplete : Prop :=
  BlockCompletes objBindCmd .objBind false false
      (fun b => zeroAt b 2 2 = true ∧ zeroAt b 8 4 = true)
      (fun b x => { x with acid := some (rd32 b 4) }) ∧
  BlockCompletes objSourceCmd .objSource false false
      (fun b => rd16 b 2 ≤ 1 ∧ zeroAt b 4 8 = true)
      (fun b x => { x with source := some (rd16 b 2 == 1) }) ∧
  BlockCompletes objMoveCmd .objMove false true
      (fun b => zeroAt b 2 2 = true ∧ venueOk (rdS32 b 4) = true ∧ venueOk (rdS32 b 8) = true ∧ venueOk (rdS32 b 12) = true ∧ rd32 b 16 ≤ 1048560)
      (fun b x => { x with pos := some { x := 256 * rdS32 b 4, y := 256 * rdS32 b 8, z := 256 * rdS32 b 12 }, len := max 1 (rd32 b 16 / 16) }) ∧
  BlockCompletes objGainCmd .objGain false true
      (fun b => rd8 b 2 < 3 ∧ rd8 b 3 = 0 ∧ rd32 b 8 ≤ 1048560)
      (fun b x => { x with
        mute := if rd8 b 2 = 1 then some true else if rd8 b 2 = 2 then some false else none
        gain := if rd8 b 2 = 0 then some (rdS32 b 4) else none
        ramp := max 1 (rd32 b 8 / 16) }) ∧
  BlockCompletes objSpreadCmd .objSpread false true
      (fun b => rd8 b 2 ≤ 1 ∧ rd8 b 3 = 0 ∧ rd32 b 4 ≤ (if rd8 b 2 = 1 then 32768 else 8388607) ∧ rd32 b 8 ≤ 1048560)
      (fun b x => { x with spread := some (rd8 b 2 == 1, rd32 b 4), ramp := max 1 (rd32 b 8 / 16) }) ∧
  BlockCompletes objZonesCmd .objZones false true
      (fun b => rd8 b 2 ≤ 4 ∧ rd8 b 3 = 0 ∧ ∀ k < rd8 b 2, (zoneAt b k).ok = true)
      (fun b x => { x with zones := some ((List.range (rd8 b 2)).map (zoneAt b)) }) ∧
  BlockCompletes objLayoutsCmd .objLayouts false false
      (fun b => zeroAt b 4 8 = true)
      (fun b x => { x with mask := some (rd16 b 2) }) ∧
  BlockCompletes objAttenCmd .objAtten false false
      (fun b => rd16 b 2 ≤ 3 ∧ 1 ≤ rd32 b 4 ∧ rd32 b 4 ≤ rd32 b 8)
      (fun b x => { x with atten := some (rd16 b 2, rd32 b 4, rd32 b 8) }) ∧
  BlockCompletes bedGainCmd .bedGain true false
      (fun b => rd8 b 2 < 3 ∧ rd8 b 3 = 0 ∧ rd32 b 8 ≤ 1048560)
      (fun b x => { x with
        mute := if rd8 b 2 = 1 then some true else if rd8 b 2 = 2 then some false else none
        gain := if rd8 b 2 = 0 then some (rdS32 b 4) else none
        ramp := 16 * max 1 (rd32 b 8 / 16) }) ∧
  BlockCompletes bedBindCmd .bedBind true false
      (fun b => zeroAt b 2 2 = true ∧ zeroAt b 8 4 = true)
      (fun b x => { x with acid := some (rd32 b 4) })

/-- The scene, policy, layout and query commands execute. R55, R62, R89, R92, R97, R102, R124, R126. SOUND_SPEED acts at once in
STAGED and LOCKING and is scheduled for its boundary otherwise. -/
def Obligations.SceneAndLayoutCommandsComplete : Prop :=
  Completes sceneXformCmd .sceneXform
      (fun i u => u.sys.mode = .staged ∧ (∀ k < 4, inRange 1 8388607 (rdS32 i.body (12 + 4 * k)) = true) ∧ zeroAt i.body 30 2 = true)
      (fun i u => ({ u with obj := { u.obj with xform :=
          { o := { x := rdS32 i.body 0, y := rdS32 i.body 4, z := rdS32 i.body 8 }
            h := { x := rdS32 i.body 12, y := rdS32 i.body 16, z := rdS32 i.body 20 }
            dp := rdS32 i.body 24, yaw := rd16 i.body 28 } } }, [])) ∧
  Completes metaPolicyCmd .metaPolicy
      (fun i _ => rd16 i.body 0 < 1024 ∧ rd8 i.body 2 ≤ 1 ∧ rd8 i.body 3 = 0 ∧ 40 ≤ rd32 i.body 4 ∧ rd32 i.body 4 ≤ 10000)
      (fun i u => ({ u with obj := { u.obj with
          pol := tabSet MetaPol.reset u.obj.pol (rd16 i.body 0) { fade := rd8 i.body 2 == 1, holdMs := rd32 i.body 4 } } }, [])) ∧
  Completes objQueryCmd .objQuery
      (fun i u => rd16 i.body 0 < objCount u.rnd.rate96 ∧ zeroAt i.body 2 2 = true)
      (fun i u => (u, if u.rendering then (tabGet ObjCtx.reset u.obj.seen (rd16 i.body 0)).record (rd16 i.body 0) u.obj.seenTick
        else (u.objCtx (rd16 i.body 0)).record (rd16 i.body 0) u.tick)) ∧
  Completes layoutWriteCmd .layoutWrite
      (fun i u => u.sys.mode = .staged ∧ 1 ≤ rd16 i.body 4 ∧ rd16 i.body 4 ≤ 1024 ∧ rd32 i.body 0 + rd16 i.body 4 ≤ layoutLen ∧
        zeroAt i.body 6 2 = true)
      (fun i u => ({ u with pan := { u.pan with staging := memFill u.pan.staging (rd32 i.body 0) (slice i.body 8 (rd16 i.body 4)) } }, [])) ∧
  Completes layoutLoadCmd .layoutLoad
      (fun _ u => u.sys.mode = .staged ∧ layoutCheck u.pan.staging (feedCount u.rnd.rate96) = none)
      (fun _ u => (u.layoutLoad, [])) ∧
  Completes layoutQueryCmd .layoutQuery
      (fun i _ => rd8 i.body 0 < 16 ∧ zeroAt i.body 1 3 = true)
      (fun i u => (u, memRead u.pan.image (0x40 + 64 * rd8 i.body 0) 64)) ∧
  Completes soundSpeedCmd .soundSpeed
      (fun i u => rd8 i.body 0 < 16 ∧ zeroAt i.body 1 3 = true ∧ 300000 ≤ rd32 i.body 4 ∧ rd32 i.body 4 ≤ 380000 ∧
        1 ≤ rd32 i.body 8 ∧ rd32 i.body 8 ≤ 65535 ∧ (layoutRec u.pan.image (rd8 i.body 0)).count ≠ 0 ∧
        (layoutRec u.pan.image (rd8 i.body 0)).method = 2 ∧ u.staged = true)
      (fun i u => ({ u with pan := { u.pan with sound := tabSet (Ramp.at 0) u.pan.sound (rd8 i.body 0) (Ramp.at (rd32 i.body 4)) } }, [])) ∧
  CompletesFor soundSpeedCmd .soundSpeed
      (fun i u n => rd8 i.body 0 < 16 ∧ zeroAt i.body 1 3 = true ∧ 300000 ≤ rd32 i.body 4 ∧ rd32 i.body 4 ≤ 380000 ∧
        1 ≤ rd32 i.body 8 ∧ rd32 i.body 8 ≤ 65535 ∧ (layoutRec u.pan.image (rd8 i.body 0)).count ≠ 0 ∧
        (layoutRec u.pan.image (rd8 i.body 0)).method = 2 ∧ u.staged = false ∧ u.boundary i u.firstCut = .ok n)
      (fun i u n => u.schedule n i) ∧
  Completes pairQueryCmd .pairQuery
      (fun i u => rd16 i.body 0 < objCount u.rnd.rate96 ∧ rd16 i.body 2 < feedCount u.rnd.rate96)
      (fun i u => (let e := u.pairSeen (rd16 i.body 0) (rd16 i.body 2)
        (u, leB 4 (64 * e.dS) ++ leB 4 (64 * e.dE) ++ leI 4 (gainExpand e.gS) ++ leI 4 (gainExpand e.gE))))

/-- The routing commands execute. R130, R133, R134, R147 to R152, R156. -/
def Obligations.RoutingCommandsComplete : Prop :=
  Completes routeModeCmd .routeMode
      (fun i u => u.sys.mode = .staged ∧ rd8 i.body 0 ≤ 1 ∧ zeroAt i.body 1 3 = true)
      (fun i u => (if (rd8 i.body 0 == 1) = u.rte.graph then u
        else { u with rte := { u.rte with
          graph := rd8 i.body 0 == 1, bank := 0, prog0 := [], prog1 := [], gains := [], scale := [], target := [], lines := [], nodeOut := [] } }, [])) ∧
  Completes xpMapCmd .xpMap
      (fun i u => u.sys.mode = .staged ∧ u.rte.graph = false ∧
        (∀ k < 128, rd16 i.body (2 * k) = 0xFFFF ∨ plainBus u.rnd.rate96 (rd16 i.body (2 * k)) = true) ∧
        (∀ k < 128, rd16 i.body (256 + 2 * k) = 0xFFFF ∨ rd16 i.body (256 + 2 * k) < feedCount u.rnd.rate96) ∧
        distinct (((List.range 128).map fun k => rd16 i.body (256 + 2 * k)).filter (· != 0xFFFF)) = true)
      (fun i u => ({ u with rte := { u.rte with
          xpSrc := tabFill 0xFFFF [] 0 ((List.range 128).map fun k => rd16 i.body (2 * k))
          xpDst := tabFill 0xFFFF [] 0 ((List.range 128).map fun k => rd16 i.body (256 + 2 * k)) } }, [])) ∧
  Completes routeGainCmd .routeGain
      (fun i u => 1 ≤ rd8 i.body 0 ∧ rd8 i.body 0 ≤ 64 ∧ zeroAt i.body 1 3 = true ∧
        (∀ k < rd8 i.body 0, rd16 i.body (4 + 8 * k) < 16384 ∧ zeroAt i.body (6 + 8 * k) 2 = true) ∧ u.staged = true)
      (fun i u => ((List.range (rd8 i.body 0)).foldl (fun v k => v.setGainSlot v.rte.bank (rd16 i.body (4 + 8 * k)) (Ramp.at (rdS32 i.body (8 + 8 * k)))) u, [])) ∧
  CompletesFor routeGainCmd .routeGain
      (fun i u n => 1 ≤ rd8 i.body 0 ∧ rd8 i.body 0 ≤ 64 ∧ zeroAt i.body 1 3 = true ∧
        (∀ k < rd8 i.body 0, rd16 i.body (4 + 8 * k) < 16384 ∧ zeroAt i.body (6 + 8 * k) 2 = true) ∧ u.staged = false ∧ u.boundary i u.firstCut = .ok n)
      (fun i u n => { u with
        ord := u.ord + 1
        rte := { u.rte with gainPend := u.rte.gainPend ++
          [(n, u.ord, (List.range (rd8 i.body 0)).map fun k => (rd16 i.body (4 + 8 * k), rdS32 i.body (8 + 8 * k)))] } }) ∧
  Completes routeWriteCmd .routeWrite
      (fun i u => u.rte.graph = true ∧ 1 ≤ rd16 i.body 4 ∧ rd16 i.body 4 ≤ 1024 ∧ rd32 i.body 0 + rd16 i.body 4 ≤ routeLen ∧
        zeroAt i.body 6 2 = true ∧ u.rte.frozen = false)
      (fun i u => ({ u with rte := { u.rte with staging := memFill u.rte.staging (rd32 i.body 0) (slice i.body 8 (rd16 i.body 4)) } }, [])) ∧
  Completes routeCommitCmd .routeCommit
      (fun _ u => u.sys.mode = .staged ∧ u.rte.graph = true ∧ routeCheck u.rnd.rate96 u.rte.staging = none ∧
        (routeScan u.rnd.rate96 u.rte.staging).cost ≤ routeBudget u.rnd.rate96)
      (fun _ u => (u.loadProg u.rte.bank, [])) ∧
  Defers routeCommitCmd .routeCommit
      (fun i u n => u.rendering = true ∧ u.sys.mode ≠ .sweep ∧ u.rte.graph = true ∧ routeCheck u.rnd.rate96 u.rte.staging = none ∧
        fadeOk (rd32 i.body 0) = true ∧ (routeScan u.rnd.rate96 u.rte.staging).maxDelay ≤ rd32 i.body 0 ∧
        u.boundary i u.firstCut = .ok n ∧
        u.costNext + (routeScan u.rnd.rate96 u.rte.staging).cost ≤ routeBudget u.rnd.rate96)
      (fun i u n => u.setRoutePend { tick := n, fade := rd32 i.body 0, ref := i.ref }) ∧
  Completes bedAlignCmd .bedAlign
      (fun i u => u.sys.mode = .staged ∧ rd16 i.body 0 < 128 ∧ rd16 i.body 2 ≤ 2047)
      (fun i u => ({ u with rte := { u.rte with align := tabSet 3 u.rte.align (rd16 i.body 0) (rd16 i.body 2) } }, [])) ∧
  Completes latQueryCmd .latQuery
      (fun i u => rd8 i.body 0 ≤ 2 ∧ rd16 i.body 2 < (if rd8 i.body 0 = 1 then 128 else objCount u.rnd.rate96) ∧ rd16 i.body 4 < feedCount u.rnd.rate96 ∧ rd8 i.body 1 = 1 ∧ rd16 i.body 6 = 0)
      (fun i u => (let bulk := 256 * corDelay u.cor.longMask u.cor.records (u.feedCor (rd16 i.body 4)).bank (rd16 i.body 4)
        let span := match u.latPaths (rd8 i.body 0) (rd16 i.body 2) (rd16 i.body 4) with
          | some (a, b, n) => (a + bulk, b + bulk, n)
          | none => (0xFFFFFFFF, 0xFFFFFFFF, 0)
        (u, leB 4 (u.fixedDac) ++ leB 4 (24 * b2n (u.asyncSource (rd8 i.body 0) (rd16 i.body 2))) ++ leB 4 span.1 ++ leB 4 span.2.1 ++ leB 4 span.2.2))) ∧
  Completes latQueryCmd .latQuery
      (fun i u => rd8 i.body 0 ≤ 2 ∧ rd16 i.body 2 < (if rd8 i.body 0 = 1 then 128 else objCount u.rnd.rate96) ∧ rd16 i.body 4 < feedCount u.rnd.rate96 ∧ rd8 i.body 1 = 0 ∧ rd16 i.body 6 < 1024 ∧ frOn (u.flowOut (rd16 i.body 6)) = true ∧
        frKind (u.flowOut (rd16 i.body 6)) = 0 ∧ (foFeeds (u.flowOut (rd16 i.body 6))).contains (rd16 i.body 4) = true)
      (fun i u => (let bulk := 256 * corDelay u.cor.longMask u.cor.records (u.feedCor (rd16 i.body 4)).bank (rd16 i.body 4)
        let span := match u.latPaths (rd8 i.body 0) (rd16 i.body 2) (rd16 i.body 4) with
          | some (a, b, n) => (a + bulk, b + bulk, n)
          | none => (0xFFFFFFFF, 0xFFFFFFFF, 0)
        (u, leB 4 (64 + u.ingress + frLen u.rnd.rate96 (u.flowOut (rd16 i.body 6))) ++ leB 4 (24 * b2n (u.asyncSource (rd8 i.body 0) (rd16 i.body 2))) ++ leB 4 span.1 ++ leB 4 span.2.1 ++ leB 4 span.2.2)))

/-- The feed-correction commands execute. R165 to R185. -/
def Obligations.CorrectionCommandsComplete : Prop :=
  Completes corWriteCmd .corWrite
      (fun i u => u.corFeedOk (rd16 i.body 0) = true ∧ zeroAt i.body 2 2 = true ∧ 1 ≤ rd16 i.body 8 ∧ rd16 i.body 8 ≤ 1024 ∧
        zeroAt i.body 10 2 = true ∧ rd32 i.body 4 + rd16 i.body 8 ≤ (if isLong u.cor.longMask (rd16 i.body 0) then 0x8100 else 0x4100) ∧
        u.corFrozen (rd16 i.body 0) = false)
      (fun i u => (let f := rd16 i.body 0
        let b := (u.feedCor f).incoming
        let k := min (rd16 i.body 8) (0x4100 - rd32 i.body 4)
        let v := if k = 0 then u else u.corStore (corAddr b f (rd32 i.body 4)) f (slice i.body 12 k)
        (if rd16 i.body 8 ≤ k then v
          else v.corStore (corAddr b (f + 1) (rd32 i.body 4 + k - 0x4000)) f (slice i.body (12 + k) (rd16 i.body 8 - k)), []))) ∧
  Completes corHingeCmd .corHinge
      (fun i u => u.sys.mode = .staged ∧ zeroAt i.body 4 4 = true ∧ maskFeeds (rdLE i.body 8 96) 768 ≠ [] ∧
        (∀ f ∈ maskFeeds (rdLE i.body 8 96) 768, u.corFeedOk f = true) ∧ u.hingeFail (maskFeeds (rdLE i.body 8 96) 768) = none)
      (fun i u => (u.corSwap (maskFeeds (rdLE i.body 8 96) 768), leB 8 (2 ^ 64 - 1) ++ leB 4 0)) ∧
  Defers corHingeCmd .corHinge
      (fun i u n => u.rendering = true ∧ u.sys.mode ≠ .staged ∧ fadeOk (rd32 i.body 0) = true ∧ zeroAt i.body 4 4 = true ∧ maskFeeds (rdLE i.body 8 96) 768 ≠ [] ∧
        (∀ f ∈ maskFeeds (rdLE i.body 8 96) 768, u.corFeedOk f = true) ∧ u.hingeFail (maskFeeds (rdLE i.body 8 96) 768) = none ∧
        u.boundary i u.firstHinge = .ok n ∧
        (∀ r ∈ u.cor.pend, r.meets (maskFeeds (rdLE i.body 8 96) 768) = true → r.inside (maskFeeds (rdLE i.body 8 96) 768) = true) ∧
        (u.cor.pend.filter fun r => !r.inside (maskFeeds (rdLE i.body 8 96) 768)).length < 64)
      (fun i u n => (((u.cor.pend.filter fun r => r.inside (maskFeeds (rdLE i.body 8 96) 768)).foldl State.corSupersede u).corRequest
        (maskFeeds (rdLE i.body 8 96) 768) n (rd32 i.body 0) none i.ref)) ∧
  Completes corGainCmd .corGain
      (fun i u => 1 ≤ rd8 i.body 0 ∧ rd8 i.body 0 ≤ 64 ∧ zeroAt i.body 1 3 = true ∧
        (∀ k < rd8 i.body 0, u.corFeedOk (rd16 i.body (4 + 8 * k)) = true ∧ zeroAt i.body (6 + 8 * k) 2 = true) ∧ u.staged = true)
      (fun i u => ((List.range (rd8 i.body 0)).foldl (fun v k => v.onFeedCor (rd16 i.body (4 + 8 * k)) fun c =>
          { c with gain := Ramp.at (rdS32 i.body (8 + 8 * k)), gainSeen := rdS32 i.body (8 + 8 * k) }) u, [])) ∧
  CompletesFor corGainCmd .corGain
      (fun i u n => 1 ≤ rd8 i.body 0 ∧ rd8 i.body 0 ≤ 64 ∧ zeroAt i.body 1 3 = true ∧
        (∀ k < rd8 i.body 0, u.corFeedOk (rd16 i.body (4 + 8 * k)) = true ∧ zeroAt i.body (6 + 8 * k) 2 = true) ∧ u.staged = false ∧ u.boundary i u.firstCut = .ok n)
      (fun i u n => { u with
        ord := u.ord + 1
        cor := { u.cor with gainPend := u.cor.gainPend ++
          [(n, u.ord, (List.range (rd8 i.body 0)).map fun k => (rd16 i.body (4 + 8 * k), rdS32 i.body (8 + 8 * k)))] } }) ∧
  Completes corLongCmd .corLong
      (fun i u => u.sys.mode = .staged ∧ (u.rnd.rate96 = true → rdLE i.body 0 48 < 2 ^ 192) ∧
        (∀ m < 384, bit (rdLE i.body 0 48) m ≠ bit u.cor.longMask m →
          foldOf u.cor.folds (2 * m) = none ∧ foldOf u.cor.folds (2 * m + 1) = none))
      (fun i u => (let v := ((List.range 384).filter fun m => bit (rdLE i.body 0 48) m != bit u.cor.longMask m).foldl (fun v m =>
          let w := { v with cor := { v.cor with records := corForget (corForget v.cor.records (2 * m)) (2 * m + 1) } }
          let clear (c : FeedCor) : FeedCor := (c.clearBiq 0).clearBiq 1
          (w.onFeedCor (2 * m) clear).onFeedCor (2 * m + 1) clear) u
        ({ v with cor := { v.cor with longMask := rdLE i.body 0 48 } }, []))) ∧
  Completes corFoldCmd .corFold
      (fun i u => u.sys.mode = .staged ∧ rd8 i.body 0 < 64 ∧ rd8 i.body 1 = 0)
      (fun i u => ({ u with cor := { u.cor with folds := tabSet none u.cor.folds (rd8 i.body 0) none } }, [])) ∧
  Completes corFoldCmd .corFold
      (fun i u => u.sys.mode = .staged ∧ rd8 i.body 0 < 64 ∧ 1 ≤ rd8 i.body 1 ∧ rd8 i.body 1 ≤ (if u.rnd.rate96 then 11 else 23) ∧
        (∀ f ∈ rd16 i.body 2 :: (List.range (rd8 i.body 1)).map (fun k => rd16 i.body (4 + 2 * k)), u.corFeedOk f = true ∧
          shardOfFeed u.rnd.rate96 f = shardOfFeed u.rnd.rate96 (rd16 i.body 2) ∧
          ((foldOf u.cor.folds f).all fun g => g.1 == rd8 i.body 0) = true) ∧
        distinct (rd16 i.body 2 :: (List.range (rd8 i.body 1)).map fun k => rd16 i.body (4 + 2 * k)) = true)
      (fun i u => ({ u with cor := { u.cor with
          folds := tabSet none u.cor.folds (rd8 i.body 0) (some { target := rd16 i.body 2, members := (List.range (rd8 i.body 1)).map fun k => rd16 i.body (4 + 2 * k) }) } }, [])) ∧
  Completes corQueryCmd .corQuery
      (fun i u => rd16 i.body 0 < feedCount u.rnd.rate96 ∧ zeroAt i.body 2 2 = true)
      (fun i u => (u, leB 4 (u.corStat (rd16 i.body 0)) ++ leI 4 (u.feedCor (rd16 i.body 0)).gainSeen ++
        leB 8 (match u.cor.pend.find? fun r => r.feeds.contains (rd16 i.body 0) with | some r => r.start | none => 2 ^ 64 - 1)))

/-- The calibration commands execute. R191, R199, R207, R214, R216, R219. What a scheduled one does at its boundary is
`State.calAt`, which `ScheduledCommandsTakeEffect` states. -/
def Obligations.CalibrationCommandsComplete : Prop :=
  CalCompletes calCaptureCmd .calCapture
      (fun i u => rd8 i.body 0 < 64 ∧ rd8 i.body 4 < 64 ∧ rd8 i.body 1 = 0 ∧ zeroAt i.body 5 3 = true ∧
        (rd16 i.body 2 = 0xFFFF ∨ rd16 i.body 2 < 1024 ∧
          (let r := tabGet [] (u.flowsAt (u.calBound i)) (rd16 i.body 2)
           frOn r = true ∧ frKind r = 0 ∧ fiAsync r = false ∧ rd8 i.body 4 < frNch r)))
      (fun i u => u.capBind i.body) ∧
  CalCompletes calEnrollCmd .calEnroll
      (fun i u => 1 ≤ rd8 i.body 0 ∧ rd8 i.body 0 ≤ 64 ∧ zeroAt i.body 1 3 = true ∧
        ∀ k < rd8 i.body 0, u.enrollOk (u.calBound i) (enrollAt i.body k) = true)
      (fun i u => (List.range (rd8 i.body 0)).foldl (fun v k => v.enrollOne u.tick (enrollAt i.body k)) u) ∧
  CalCompletes calPolicyCmd .calPolicy
      (fun i _ => inRange 1200 4000 (rdS16 i.body 0) = true ∧ inRange (-9000) (-5400) (rdS16 i.body 2) = true ∧
        inRange (-900) 0 (rdS16 i.body 4) = true ∧ inRange 0 600 (rdS16 i.body 6) = true ∧ inRange 10 600 (rdS16 i.body 8) = true ∧
        inRange 1 300 (rdS16 i.body 10) = true ∧ inRange 600 6000 (rdS16 i.body 12) = true ∧ inRange 0 3000 (rdS16 i.body 14) = true ∧
        inRange 300 3000 (rdS16 i.body 16) = true ∧ (1 ≤ rd8 i.body 18 ∧ rd8 i.body 18 ≤ 64) ∧ rd8 i.body 19 = 0 ∧
        (1 ≤ rd16 i.body 20 ∧ rd16 i.body 20 ≤ 600) ∧ (10 ≤ rd16 i.body 22 ∧ rd16 i.body 22 ≤ 3600) ∧
        (1000 ≤ rd16 i.body 24 ∧ rd16 i.body 24 ≤ 60000) ∧ fadeOk (rd16 i.body 26) = true ∧
        (10 ≤ rd16 i.body 28 ∧ rd16 i.body 28 ≤ 3600) ∧ (∀ b < 8, inRange 0 2000 (rdS16 i.body (32 + 2 * b)) = true))
      (fun i u => { u with cal := { u.cal with policy := policyOf i.body } }) ∧
  CalCompletes calBaselineCmd .calBaseline
      (fun i u => rd8 i.body 0 ≤ 2 ∧ rd8 i.body 1 = 0 ∧ (rd8 i.body 0 = 1 ∨ zeroAt i.body 4 16 = true) ∧
        (if rd16 i.body 2 = 0xFFFF then rd8 i.body 0 ≠ 1 else u.enrolledAt (rd16 i.body 2) (u.calBound i) = true))
      (fun i u => u.baselineAt u.tick i.body) ∧
  CalCompletes calVetoCmd .calVeto
      (fun i u => ∃ r, u.report (rd32 i.body 0) = some r ∧ (r.status = 0 ∨ u.revertible r = true))
      (fun i u => u.vetoAt u.tick (rd32 i.body 0)) ∧
  CompletesFor calStartCmd .calStart
      (fun i u n => u.sys.mode = .render ∧ u.boundary i u.firstCut = .ok n)
      (fun i u n => u.schedule n i) ∧
  CompletesFor calStopCmd .calStop
      (fun i u n => u.sys.mode = .liveProbe ∧ u.boundary i u.firstCut = .ok n)
      (fun i u n => u.schedule n i) ∧
  CompletesFor sweepStartCmd .sweepStart
      (fun i u n => u.sys.mode = .paused ∧ inRange (-9000) (-4500) (rdS16 i.body 0) = true ∧ zeroAt i.body 2 2 = true ∧ u.boundary i u.firstCut = .ok n)
      (fun i u n => u.schedule n i) ∧
  CompletesFor sweepStopCmd .sweepStop
      (fun i u n => u.sys.mode = .sweep ∧ u.boundary i u.firstCut = .ok n)
      (fun i u n => u.schedule n i) ∧
  Completes calReportCmd .calReport
      (fun i u => ∃ r, u.report (rd32 i.body 0) = some r)
      (fun i u => (u, (u.report (rd32 i.body 0)).elim [] CalReport.bytes)) ∧
  Completes calQueryCmd .calQuery
      (fun i u => rd16 i.body 0 < feedCount u.rnd.rate96 ∧ zeroAt i.body 2 2 = true)
      (fun i u => (u, u.calSeen (rd16 i.body 0)))

/-- The network and time commands execute. R390, R392, R399 to R402, R410, R417, R437, R440, R442. -/
def Obligations.NetworkAndTimeCommandsComplete : Prop :=
  Completes netAddrCmd .netAddr
      (fun i u => rd8 i.body 0 < 2 ∧ u.sys.mode = .staged ∧ inRange 8 30 (rd8 i.body 1) = true ∧ zeroAt i.body 2 2 = true)
      (fun i u => (u.onMac (rd8 i.body 0) fun m => { m with ip := rdBE i.body 4 4, prefixLen := rd8 i.body 1, gateway := rdBE i.body 8 4, ipNext := none }, [])) ∧
  Completes netAddrCmd .netAddr
      (fun i _ => rd8 i.body 0 = 2 ∧ i.ref.src = .pcie ∧ inRange 8 30 (rd8 i.body 1) = true ∧ zeroAt i.body 2 2 = true)
      (fun i u => (u.onMac 2 fun m => { m with ip := rdBE i.body 4 4, prefixLen := rd8 i.body 1, gateway := rdBE i.body 8 4, ipNext := none }, [])) ∧
  Completes netAddrCmd .netAddr
      (fun i _ => rd8 i.body 0 = 2 ∧ (∃ ip port, i.ref.src = .mgmt ip port) ∧ inRange 8 30 (rd8 i.body 1) = true ∧ zeroAt i.body 2 2 = true)
      (fun i u => (u.onMac 2 fun m => { m with ipNext := some (rdBE i.body 4 4, rd8 i.body 1, rdBE i.body 8 4) }, [])) ∧
  Completes vlanSetCmd .vlanSet
      (fun i u => u.sys.mode = .staged ∧ rd8 i.body 0 ≤ 63 ∧ rd8 i.body 1 ≤ 7 ∧ rd16 i.body 2 ≤ 4094)
      (fun i u => ({ u with net := { u.net with vlan := tabSet 0 u.net.vlan (rd8 i.body 0) (rd16 i.body 2 + 4096 * rd8 i.body 1) } }, [])) ∧
  Completes flowInSetCmd .flowInSet
      (fun i u => u.staged = true ∧ rd16 i.body 0 < 1024 ∧ zeroAt i.body 2 2 = true ∧ u.fiOk (rd16 i.body 0) u.tick (slice i.body 4 192) = true ∧
        u.fiFull (rd16 i.body 0) u.tick (slice i.body 4 192) = false)
      (fun i u => (u.setFlowIn (rd16 i.body 0) (slice i.body 4 192) false, [])) ∧
  CompletesFor flowInSetCmd .flowInSet
      (fun i u n => u.staged = false ∧ u.boundary i u.firstFlow = .ok n ∧ rd16 i.body 0 < 1024 ∧ zeroAt i.body 2 2 = true ∧
        u.fiOk (rd16 i.body 0) n (slice i.body 4 192) = true ∧ u.fiFull (rd16 i.body 0) n (slice i.body 4 192) = false ∧
        (frOn (slice i.body 4 192) = true → frKind (slice i.body 4 192) = 0 →
          ingressTerm u.rnd.rate96 (frPtime (slice i.body 4 192)) ≤ u.rte.ingress))
      (fun i u n => u.flowPend (rd16 i.body 0) n (slice i.body 4 192)) ∧
  Completes flowOutSetCmd .flowOutSet
      (fun i u => u.sys.mode = .staged ∧ rd16 i.body 0 < 1024 ∧ zeroAt i.body 2 2 = true ∧ u.foOk (rd16 i.body 0) (slice i.body 4 192) = true)
      (fun i u => ({ u with net := { u.net with flowOut := tabSet [] u.net.flowOut (rd16 i.body 0) (recKeep (slice i.body 4 192)) } }, [])) ∧
  Completes flowQueryCmd .flowQuery
      (fun i _ => rd8 i.body 0 = 0 ∧ rd8 i.body 1 = 0 ∧ rd16 i.body 2 < 1024)
      (fun i u => (u, slice (tabGet [] (if u.rendering then u.net.seenIn else u.net.flowIn) (rd16 i.body 2)) 0 192 ++
        (u.statIn (rd16 i.body 2)).bytes false)) ∧
  Completes flowQueryCmd .flowQuery
      (fun i _ => rd8 i.body 0 = 1 ∧ rd8 i.body 1 = 0 ∧ rd16 i.body 2 < 1024)
      (fun i u => (u, slice (tabGet [] (if u.rendering then u.net.seenOut else u.net.flowOut) (rd16 i.body 2)) 0 192 ++
        (u.statOut (rd16 i.body 2)).bytes true)) ∧
  Completes ptpConfigCmd .ptpConfig
      (fun i u => u.sys.mode = .staged ∧ rd8 i.body 0 ≤ 1 ∧ rd8 i.body 1 ≤ 127 ∧ rd8 i.body 2 ≤ 1 ∧ 1 ≤ rd8 i.body 3 ∧ rd8 i.body 3 ≤ 3 ∧
        rd8 i.body 20 ≤ 63 ∧ rd8 i.body 21 ≤ 63 ∧ inRange 1 200 (rd16 i.body 4) = true ∧ inRange 50 10000 (rd16 i.body 6) = true ∧
        inRange 10000 10000000 (rd32 i.body 8) = true ∧ zeroAt i.body 22 2 = true)
      (fun i u => ({ u with ptm := { u.ptm with cfg :=
          { profile := rd8 i.body 0, domain := rd8 i.body 1, delayMode := rd8 i.body 2, ports := rd8 i.body 3, slew := rd16 i.body 4
            lockWin := rd16 i.body 6, offsetLim := rd32 i.body 8, asymA := rdS32 i.body 12, asymB := rdS32 i.body 16
            vlanA := rd8 i.body 20, vlanB := rd8 i.body 21 } } }, [])) ∧
  Completes sceneTimeCmd .sceneTime
      (fun i u => u.sys.mode = .staged ∧ 1 ≤ rd32 i.body 0 ∧ rd32 i.body 0 ≤ 240000 ∧ 1 ≤ rd32 i.body 4 ∧ rd32 i.body 4 ≤ 1001 ∧
        rd32 i.body 4 ≤ rd32 i.body 0 ∧ rd32 i.body 0 ≤ 240 * rd32 i.body 4 ∧ 1 ≤ rd16 i.body 8 ∧ rd16 i.body 8 ≤ 4500 ∧
        rd8 i.body 10 ≤ 1 ∧ rd8 i.body 11 ≤ rd8 i.body 10)
      (fun i u => ({ u with ptm := { u.ptm with
          phi := 0, scene := some { num := rd32 i.body 0, den := rd32 i.body 4, lines := rd16 i.body 8, strobe := rd8 i.body 10 == 1, falling := rd8 i.body 11 == 1 } } }, [])) ∧
  Completes timeQueryCmd .timeQuery
      (fun _ _ => True)
      (fun _ u => (u, leB 8 u.time64 ++ leB 8 (if u.ptm.everLocked then u.sampleNow else 2 ^ 64 - 1) ++ leB 8 u.frameLine.1 ++ leB 2 u.frameLine.2
        ++ leB 1 u.ptm.lock ++ leB 1 (b2n u.ptm.activeB) ++ leI 4 u.ptm.offset ++ leI 4 u.ptm.freq ++ leI 2 u.ptm.utc ++ zeros 2
        ++ leB 8 (u.ptm.gm.getD 0))) ∧
  Completes timeConvertCmd .timeConvert
      (fun i u => rd8 i.body 0 ≤ 2 ∧ zeroAt i.body 1 7 = true ∧ rd64 i.body 8 ≠ 0 ∧ (u.whenSample (rd8 i.body 0) (rd64 i.body 8)).isSome = true)
      (fun i u => (let m := (u.whenSample (rd8 i.body 0) (rd64 i.body 8)).getD 0
        (u, leB 8 m ++ leB 8 (ceilDiv m 16) ++ leB 8 (16 * ceilDiv m 16 * 1000000000 / u.fs))))

/-- The monitor, clock and twin commands execute. R305, R324, R328, R457, R506, R511, R514 to R516, R521. -/
def Obligations.MonitorAndTwinCommandsComplete : Prop :=
  Completes dacConfigCmd .dacConfig
      (fun i u => u.sys.mode = .staged ∧ rd8 i.body 0 ≤ 1 ∧ rd8 i.body 1 ≤ 1 ∧ zeroAt i.body 2 2 = true ∧
        (rd8 i.body 0 = 1 ∨ rd8 i.body 1 = 1 → u.ptm.scene.isSome = true))
      (fun i u => ({ u with dac := { u.dac with frame0 := rd8 i.body 0 == 1, frame1 := rd8 i.body 1 == 1 } }, [])) ∧
  Completes dacMapCmd .dacMap
      (fun i u => 1 ≤ rd8 i.body 0 ∧ rd8 i.body 0 ≤ 16 ∧ zeroAt i.body 1 3 = true ∧
        (∀ k < rd8 i.body 0, rd8 i.body (4 + 4 * k) < 16 ∧ rd8 i.body (5 + 4 * k) = 0 ∧
          (rd16 i.body (6 + 4 * k) = 0xFFFF ∨ rd16 i.body (6 + 4 * k) < feedCount u.rnd.rate96)) ∧ u.staged = true)
      (fun i u => ((List.range (rd8 i.body 0)).foldl (fun v k => v.onDac (rd8 i.body (4 + 4 * k)) fun x =>
          { x with feed := if rd16 i.body (6 + 4 * k) = 0xFFFF then none else some (rd16 i.body (6 + 4 * k)), old := [] }) u, [])) ∧
  CompletesFor dacMapCmd .dacMap
      (fun i u n => 1 ≤ rd8 i.body 0 ∧ rd8 i.body 0 ≤ 16 ∧ zeroAt i.body 1 3 = true ∧
        (∀ k < rd8 i.body 0, rd8 i.body (4 + 4 * k) < 16 ∧ rd8 i.body (5 + 4 * k) = 0 ∧
          (rd16 i.body (6 + 4 * k) = 0xFFFF ∨ rd16 i.body (6 + 4 * k) < feedCount u.rnd.rate96)) ∧ u.staged = false ∧ u.boundary i u.firstCut = .ok n)
      (fun i u n => u.schedule n i) ∧
  Completes dacSpanCmd .dacSpan
      (fun i u => rd16 i.body 0 ≠ 0 ∧ rd8 i.body 2 ≤ 2 ∧ rd8 i.body 3 = 0 ∧ u.staged = true)
      (fun i u => (u.setSpan (rd16 i.body 0) (rd8 i.body 2), [])) ∧
  Defers dacSpanCmd .dacSpan
      (fun i u n => rd16 i.body 0 ≠ 0 ∧ rd8 i.body 2 ≤ 2 ∧ rd8 i.body 3 = 0 ∧ u.staged = false ∧ u.boundary i u.firstCut = .ok n ∧
        (∀ r ∈ u.dac.reqs, r.phase = 0 → masksMeet r.mask (rd16 i.body 0) = true → maskInside r.mask (rd16 i.body 0) = true))
      (fun i u n => (let v := ((u.dac.reqs.filter fun r => r.phase == 0).filter fun r => maskInside r.mask (rd16 i.body 0)).foldl State.spanSupersede u
        { v with dac := { v.dac with reqs := v.dac.reqs ++
          [{ mask := rd16 i.body 0, span := rd8 i.body 2, start := n, ref := i.ref, phase := 0, switched := false }] } })) ∧
  Completes dacQueryCmd .dacQuery
      (fun _ _ => True)
      (fun _ u => (u, leB 4 u.dacStat ++ leB 4 (u.dacGrp 0) ++ leB 4 (u.dacGrp 1) ++ ((List.range 16).map fun k => leB 4 (u.dacCh k)).flatten)) ∧
  Completes clkQueryCmd .clkQuery
      (fun _ _ => True)
      (fun _ u => (u, leB 4 u.clkStat ++ ((List.range 9).map fun k => leB 4 (u.pll k).word).flatten
        ++ ((List.range 9).map fun k => leB 4 (u.pll k).khz).flatten)) ∧
  Completes twinConfigCmd .twinConfig
      (fun i u => u.sys.mode = .staged ∧ rd8 i.body 0 ≤ 1 ∧ rd8 i.body 1 ≤ 1 ∧ rd8 i.body 2 ≤ 1 ∧ rd8 i.body 3 = 0 ∧ rd16 i.body 4 ≤ 60 ∧
        1024 ≤ rd16 i.body 6 ∧ 224 * 2 ^ 24 ≤ rdBE i.body 24 4 ∧ rdBE i.body 24 4 < 240 * 2 ^ 24 ∧ zeroAt i.body 28 4 = true)
      (fun i u => ({ u with twn := { (if rd8 i.body 0 = 1 then u.twn
            else { u.twn with haspUp := false, netaUp := false, netbUp := false, missHasp := 0, missA := 0, missB := 0 }) with
          id := rd8 i.body 1, autoJoin := rd8 i.body 2 == 1, wait := rd16 i.body 4, port := rd16 i.body 6, seed := rd64 i.body 8
          peerA := rdBE i.body 16 4, peerB := rdBE i.body 20 4, group := rdBE i.body 24 4
          state := if rd8 i.body 0 = 1 then .seeking else .off } }, [])) ∧
  Completes twinJoinCmd .twinJoin
      (fun _ u => u.twn.state = .seeking ∧ u.twn.haspUp = true ∧ u.rendering = true)
      (fun _ u => ({ u with twn := { u.twn with want := false, retryAt := none, state := .joining, joinReq := true } }, [])) ∧
  Completes twinJoinCmd .twinJoin
      (fun _ u => u.twn.state = .seeking ∧ u.twn.haspUp = true ∧ u.rendering = false)
      (fun _ u => (State.planStart { u with twn := { u.twn with want := true, retryAt := none } }, [])) ∧
  Completes twinQueryCmd .twinQuery
      (fun _ _ => True)
      (fun _ u => (u, leB 4 u.twnStat ++ leB 4 u.twnDigest.toNat ++ leB 4 ((u.twn.peer.map Tumbler.digest).getD 0).toNat ++ leB 4 u.twn.appliedHi))

/-- The power commands execute: they start their transition, or take the place of the queued one. R464 to R466, R472 to R475, R482.
MIN_B and MAX_I_B of an exercise that took no sample are free values (log entry 95). -/
def Obligations.PowerCommandsComplete : Prop :=
  Completes pwrQueryCmd .pwrQuery
      (fun _ _ => True)
      (fun _ u => (u, ([0, 0xC, 0x10, 0x14, 0x18, 0x20].map fun a => leB 4 (u.readReg (0x30000 + a))).flatten)) ∧
  Defers pwrSleepCmd .pwrSleep
      (fun _ u n => u.pwr.trans = 0 ∧ u.pwr.queued = none ∧ (u.sys.mode = .staged ∨ u.sys.mode = .paused) ∧ u.twn.state ≠ .joining ∧ u.twn.state ≠ .lockstep ∧
        (u.rnd.pend.any (·.resume)) = false ∧ u.rte.pend = none ∧ u.rte.hinge = none ∧ u.cor.pend = [] ∧ u.cor.running = [] ∧ n = u.tick + 1)
      (fun i u _ => u.pwrStart { op := 0x910, after := 0, ref := i.ref }) ∧
  Defers pwrDeepCmd .pwrDeep
      (fun i u n => u.pwr.trans = 0 ∧ u.pwr.queued = none ∧ (u.sys.mode = .staged ∨ u.sys.mode = .sleep) ∧ rd32 i.body 0 ≤ 864000 ∧ n = u.tick + 1)
      (fun i u _ => u.pwrStart { op := 0x911, after := rd32 i.body 0, ref := i.ref }) ∧
  Defers pwrWakeCmd .pwrWake
      (fun _ u n => u.pwr.trans = 0 ∧ u.pwr.queued = none ∧ u.sys.mode = .sleep ∧ n = u.tick + 1)
      (fun i u _ => u.pwrStart { op := 0x912, after := 0, ref := i.ref }) ∧
  Defers pwrSleepCmd .pwrSleep
      (fun _ u n => (u.pwr.trans ≠ 0 ∨ u.pwr.queued.isSome = true) ∧ n = u.tick + 1)
      (fun i u _ => (let v := match u.pwr.queued with
          | some q => (u.answer q.ref .superseded true false []).pwrEvt 6
          | none => u
        { v with pwr := { v.pwr with queued := some { op := 0x910, after := 0, ref := i.ref } } })) ∧
  Defers pwrDeepCmd .pwrDeep
      (fun i u n => (u.pwr.trans ≠ 0 ∨ u.pwr.queued.isSome = true) ∧ rd32 i.body 0 ≤ 864000 ∧ n = u.tick + 1)
      (fun i u _ => (let v := match u.pwr.queued with
          | some q => (u.answer q.ref .superseded true false []).pwrEvt 6
          | none => u
        { v with pwr := { v.pwr with queued := some { op := 0x911, after := rd32 i.body 0, ref := i.ref } } })) ∧
  Defers pwrWakeCmd .pwrWake
      (fun _ u n => (u.pwr.trans ≠ 0 ∨ u.pwr.queued.isSome = true) ∧ n = u.tick + 1)
      (fun i u _ => (let v := match u.pwr.queued with
          | some q => (u.answer q.ref .superseded true false []).pwrEvt 6
          | none => u
        { v with pwr := { v.pwr with queued := some { op := 0x912, after := 0, ref := i.ref } } })) ∧
  Defers feedExerciseCmd .feedExercise
      (fun _ u n => u.pwr.exercise = none ∧ u.pwr.trans = 0 ∧ u.pwr.queued = none ∧ u.pwr.source = 0 ∧ (u.pwr.bSince.any fun b => decide (b + 500000000 ≤ u.now)) = true ∧ n = u.tick + 1)
      (fun i u _ => { u with pwr := { u.pwr with
          exercise := some { ref := i.ref, start := u.now, minB := 0xFFFF, maxB := 0, maxI := 0, transferred := false, fell := false }
          exerciseCnt := u.pwr.exerciseCnt + 1, source := 1, lastSwitch := u.ts32, srcAt := u.now } }) ∧
  Completes feedExerciseCmd .feedExercise
      (fun _ u => u.pwr.exercise = none ∧ u.pwr.trans = 0 ∧ u.pwr.queued = none ∧ u.pwr.source = 1)
      (fun _ u => ((u.exerciseEmpty 4 0).2, (u.exerciseEmpty 4 0).1)) ∧
  Completes feedExerciseCmd .feedExercise
      (fun _ u => u.pwr.exercise = none ∧ u.pwr.trans = 0 ∧ u.pwr.queued = none ∧ (u.pwr.source = 2 ∨ u.pwr.source = 0 ∧ (u.pwr.bSince.any fun b => decide (b + 500000000 ≤ u.now)) = false))
      (fun _ u => ((u.exerciseEmpty 5 0).2, (u.exerciseEmpty 5 0).1))

/-- The events of the two command transports have the effects the rules give them. R334 to R348, R356, R359. -/
def Obligations.TransportEventsAct : Prop :=
  (∀ h op p s v, v = s.at h.t → h.src = .pcie → opcodes.contains op = false → op ≠ 0 → v.ringReady = true → exec (.unknownOpcode h op p) s = .next
      (let u := (v.ringAdvance (if v.ringFramed h.length then slotsOf h.length else 1)).giveAseq
       u.countRefusal.answer { src := .pcie, opcode := op, tag := h.tag, aseq := u.key.aseq.toNat }
         (if v.imageRuns then .badOpcode else .noImage) false false [])) ∧
  (∀ h op p s ip port v, v = s.at h.t → h.src = .mgmt ip port → opcodes.contains op = false → v.mgmtOpen = true → v.allowed ip = true → ((v.rxCount 2).repeated ip port (packetBytes op h p)) = none → v.midway = false → p.length ≤ 1440 → exec (.unknownOpcode h op p) s = .next
      (let u := ((v.rxCount 2).giveAseq).storeCmd ip port (packetBytes op h p)
       u.countRefusal.answer { src := .mgmt ip port, opcode := op, tag := h.tag, aseq := u.key.aseq.toNat }
         (if h.length ≠ p.length then .badLength else if v.imageRuns then .badOpcode else .noImage) false false [])) ∧
  (∀ t tag s v, v = s.at t → v.ringReady = true → v.key.cmdCi ≠ 0 → exec (.padSkip t tag) s = .next { v with key := { v.key with cmdCi := 0 } }) ∧
  (∀ t tag s v, v = s.at t → v.ringReady = true → v.key.cmdCi = 0 → exec (.padSkip t tag) s = .next
      (let u := (v.ringAdvance 1).giveAseq
       u.countRefusal.answer { src := .pcie, opcode := 0, tag, aseq := u.key.aseq.toNat } .badOpcode false false [])) ∧
  (∀ t s v, v = s.at t → v.ringReady = true → exec (.cmdFetchError t) s = .next (State.emit { v with key := { v.key with evt := v.key.evt ||| 2, fetchStopped := true } } .msix)) ∧
  (∀ t s v, v = s.at t → v.mgmtOpen = true → exec (.mgmtShortDatagram t) s = .next (v.onMac 2 fun m => { m with rxFrame := m.rxFrame + 1, rxDrop := m.rxDrop + 1 })) ∧
  (∀ h op p s ip port v, v = s.at h.t → h.src = .mgmt ip port → v.mgmtOpen = true → v.allowed ip = false → v.midway = false → p.length ≤ 1440 → exec (.mgmtDenied h op p) s = .next
      (let u := ((v.rxCount 2).giveAseq).countRefusal
       State.answer { u with key := { u.key with denyCnt := u.key.denyCnt + 1, evt := u.key.evt ||| 16 } }
         { src := .mgmt ip port, opcode := op, tag := h.tag, aseq := u.key.aseq.toNat } .denied false false [])) ∧
  (∀ h op p s ip port e v, v = s.at h.t → h.src = .mgmt ip port → v.mgmtOpen = true → v.allowed ip = true → v.repeated ip port (packetBytes op h p) = some e → v.midway = false → p.length ≤ 1440 → exec (.mgmtRepeat h op p) s = .next
      (let u := v.rxCount 2
       State.mgmtSend { u with key := { u.key with repeatCnt := u.key.repeatCnt + 1 } } e.ip e.port
         (match e.reply with
          | some r => { r with replay := true }
          | none => { tag := h.tag, status := .inProgress, opcode := op, deferred := false, relayed := false, replay := true,
                      payload := [], aseq := e.aseq }))) ∧
  (∀ t s r rest u v, v = s.at t → v.key.rplEn = true → v.key.waiting = r :: rest → v.ringPut r = some u → exec (.replyRingSpace t) s = exec (.replyRingSpace t) { u with key := { u.key with waiting := rest } }) ∧
  (∀ t s v, v = s.at t → v.key.waiting = [] ∨ (∃ r rest, v.key.rplEn = true ∧ v.key.waiting = r :: rest ∧ v.ringPut r = none) → exec (.replyRingSpace t) s = .next v.sendFreed) ∧
  (∀ t s t0 v, v = s.at t → v.key.irqFirst = some t0 → v.key.irqTimer ≠ 0 → t0 + 1000 * v.key.irqTimer ≤ v.now → exec (.keyIrqTimer t) s = .next (State.emit { v with key := { v.key with irqSince := 0, irqFirst := none } } .msix)) ∧
  (∀ t s r v, v = s.at t → v.key.resetAt = some r → r ≤ v.now → exec (.sysResetExec t) s = .next
      (let v := v.abortDue
       { State.reset with
        pending := v.pending, out := v.out, free := v.free, pwr := v.pwr.afterReset
        sys := { SysSt.reset with rstSource := 3, rstReason := v.intg.reason, addrId := v.sys.addrId, sgmii := v.sys.sgmii } }))

/-- The registers of the command and reply rings do what the rules say. R333 to R345, R546. A wrong index sets KEY_EVT.BAD_INDEX, a
broken condition KEY_EVT.BAD_CFG. -/
def Obligations.RingRegistersAct : Prop :=
  (∀ t s v, v = s.at t → v.writable 0x10000 1 = true → v.key.cmdEn = false → ringSizeOk v.key.cmdSize = true → exec (.cmdRingEnable t) s = .next { v with key := { v.key with cmdEn := true, cmdPi := 0, cmdCi := 0, fetchStopped := false } }) ∧
  (∀ t s v, v = s.at t → v.writable 0x10000 1 = true → v.key.cmdEn = false → ringSizeOk v.key.cmdSize = false → exec (.cmdRingEnable t) s = .next { v with key := { v.key with evt := v.key.evt ||| 4 } }) ∧
  (∀ t s v, v = s.at t → v.writable 0x10000 1 = true → exec (.cmdRingDisable t) s = .next { v with key := { v.key with cmdEn := false } }) ∧
  (∀ t s v, v = s.at t → v.writable 0x10000 1 = true → v.key.rplEn = false → ringSizeOk v.key.rplSize = true → exec (.rplRingEnable t) s = .next { v with key := { v.key with rplEn := true, rplPi := 0, rplCi := 0, phase := true } }) ∧
  (∀ t s v, v = s.at t → v.writable 0x10000 1 = true → v.key.rplEn = false → ringSizeOk v.key.rplSize = false → exec (.rplRingEnable t) s = .next { v with key := { v.key with evt := v.key.evt ||| 4 } }) ∧
  (∀ t s v, v = s.at t → v.writable 0x10000 1 = true → v.key.rplEn = true → exec (.rplRingDisable t) s = .next (State.dropWaiting { v with key := { v.key with rplEn := false } }).sendFreed) ∧
  (∀ t x s v, v = s.at t → v.writable 0x10010 1 = true → v.key.cmdEn = false → x % 4096 = 0 → exec (.keyRingCfgWrite t 0x10 x) s = .next { v with key := { v.key with cmdBaseLo := wd x } }) ∧
  (∀ t x s v, v = s.at t → v.writable 0x10014 1 = true → v.key.cmdEn = false → exec (.keyRingCfgWrite t 0x14 x) s = .next { v with key := { v.key with cmdBaseHi := wd x } }) ∧
  (∀ t x s v, v = s.at t → v.writable 0x10030 1 = true → v.key.rplEn = false → x % 4096 = 0 → exec (.keyRingCfgWrite t 0x30 x) s = .next { v with key := { v.key with rplBaseLo := wd x } }) ∧
  (∀ t x s v, v = s.at t → v.writable 0x10034 1 = true → v.key.rplEn = false → exec (.keyRingCfgWrite t 0x34 x) s = .next { v with key := { v.key with rplBaseHi := wd x } }) ∧
  (∀ t x s v, v = s.at t → v.writable 0x10018 1 = true → v.key.cmdEn = false → ringSizeOk x = true → exec (.keyRingCfgWrite t 0x18 x) s = .next { v with key := { v.key with cmdSize := x } }) ∧
  (∀ t x s v, v = s.at t → v.writable 0x10018 1 = true → (v.key.cmdEn = true ∨ ringSizeOk x = false) → exec (.keyRingCfgWrite t 0x18 x) s = .next { v with key := { v.key with evt := v.key.evt ||| 4 } }) ∧
  (∀ t x s v, v = s.at t → v.writable 0x10038 1 = true → v.key.rplEn = false → ringSizeOk x = true → exec (.keyRingCfgWrite t 0x38 x) s = .next { v with key := { v.key with rplSize := x } }) ∧
  (∀ t x s v, v = s.at t → v.writable 0x10038 1 = true → (v.key.rplEn = true ∨ ringSizeOk x = false) → exec (.keyRingCfgWrite t 0x38 x) s = .next { v with key := { v.key with evt := v.key.evt ||| 4 } }) ∧
  (∀ t x s v, v = s.at t → v.writable 0x10010 1 = true → x % 4096 ≠ 0 → exec (.keyRingCfgWrite t 0x10 x) s = .next { v with key := { v.key with evt := v.key.evt ||| 4 } }) ∧
  (∀ t x s v, v = s.at t → v.writable 0x10030 1 = true → x % 4096 ≠ 0 → exec (.keyRingCfgWrite t 0x30 x) s = .next { v with key := { v.key with evt := v.key.evt ||| 4 } }) ∧
  (∀ t x s v, v = s.at t → v.writable 0x10010 1 = true → v.key.cmdEn = true → exec (.keyRingCfgWrite t 0x10 x) s = .next { v with key := { v.key with evt := v.key.evt ||| 4 } }) ∧
  (∀ t x s v, v = s.at t → v.writable 0x10014 1 = true → v.key.cmdEn = true → exec (.keyRingCfgWrite t 0x14 x) s = .next { v with key := { v.key with evt := v.key.evt ||| 4 } }) ∧
  (∀ t x s v, v = s.at t → v.writable 0x10030 1 = true → v.key.rplEn = true → exec (.keyRingCfgWrite t 0x30 x) s = .next { v with key := { v.key with evt := v.key.evt ||| 4 } }) ∧
  (∀ t x s v, v = s.at t → v.writable 0x10034 1 = true → v.key.rplEn = true → exec (.keyRingCfgWrite t 0x34 x) s = .next { v with key := { v.key with evt := v.key.evt ||| 4 } }) ∧
  (∀ t x s v, v = s.at t → v.writable 0x1001C 1 = true → v.key.cmdEn = true → x < 65536 → x < v.key.cmdSize → exec (.keyCmdPiWrite t x) s = .next { v with key := { v.key with cmdPi := x } }) ∧
  (∀ t x s v, v = s.at t → v.writable 0x1001C 1 = true → v.key.cmdEn = true → x < 65536 → v.key.cmdSize ≤ x → exec (.keyCmdPiWrite t x) s = .next { v with key := { v.key with evt := v.key.evt ||| 1 } }) ∧
  (∀ t x s v, v = s.at t → v.writable 0x10040 1 = true → v.key.rplEn = true → x < 65536 → x < v.key.rplSize →
      (x + v.key.rplSize - v.key.rplCi) % v.key.rplSize ≤ (v.key.rplPi + v.key.rplSize - v.key.rplCi) % v.key.rplSize → exec (.keyRplCiWrite t x) s = .next { v with key := { v.key with rplCi := x } }) ∧
  (∀ t x s v, v = s.at t → v.writable 0x10040 1 = true → v.key.rplEn = true → x < 65536 →
      (v.key.rplSize ≤ x ∨ (v.key.rplPi + v.key.rplSize - v.key.rplCi) % v.key.rplSize < (x + v.key.rplSize - v.key.rplCi) % v.key.rplSize) → exec (.keyRplCiWrite t x) s = .next { v with key := { v.key with evt := v.key.evt ||| 1 } }) ∧
  (∀ v : State, v.dropWaiting.key.waiting = [] ∧ v.dropWaiting.key.rplDropCnt = v.key.rplDropCnt + wd v.key.waiting.length ∧
      (v.key.waiting ≠ [] → v.dropWaiting.key.evt = v.key.evt ||| 8))

/-- Writing ones to an event register clears those bits and changes nothing else. R15, R542: the clearing half; a bit that hardware
sets in the same cycle is a later event, which sets it again. -/
def Obligations.EventBitsClearByWritingOne : Prop :=
  (∀ t x s v, v = s.at t → v.writable 0xC 0 = true → exec (.w1cClear t 0xC x) s = .next { v with sys := { v.sys with evt := v.sys.evt &&& ~~~(BitVec.ofNat 32 x) } }) ∧
  (∀ t x s v, v = s.at t → v.writable 0x10004 1 = true → exec (.w1cClear t 0x10004 x) s = .next { v with key := { v.key with evt := v.key.evt &&& ~~~(BitVec.ofNat 32 x) } }) ∧
  (∀ t x s v, v = s.at t → v.writable 0x30004 3 = true → exec (.w1cClear t 0x30004 x) s = .next { v with pwr := { v.pwr with evt := v.pwr.evt &&& ~~~(BitVec.ofNat 32 x) } }) ∧
  (∀ t x s v, v = s.at t → v.writable 0x40004 4 = true → exec (.w1cClear t 0x40004 x) s = .next { v with clk := { v.clk with evt := v.clk.evt &&& ~~~(BitVec.ofNat 32 x) } }) ∧
  (∀ t x s v, v = s.at t → v.writable 0x50004 5 = true → exec (.w1cClear t 0x50004 x) s = .next { v with ptm := { v.ptm with evt := v.ptm.evt &&& ~~~(BitVec.ofNat 32 x) } }) ∧
  (∀ t x s v, v = s.at t → v.writable 0x60008 6 = true → exec (.w1cClear t 0x60008 x) s = .next { v with macA := { v.macA with evt := v.macA.evt &&& ~~~(BitVec.ofNat 32 x) } }) ∧
  (∀ t x s v, v = s.at t → v.writable 0x70008 7 = true → exec (.w1cClear t 0x70008 x) s = .next { v with macB := { v.macB with evt := v.macB.evt &&& ~~~(BitVec.ofNat 32 x) } }) ∧
  (∀ t x s v, v = s.at t → v.writable 0x80008 8 = true → exec (.w1cClear t 0x80008 x) s = .next { v with macM := { v.macM with evt := v.macM.evt &&& ~~~(BitVec.ofNat 32 x) } }) ∧
  (∀ t x s v, v = s.at t → v.writable 0x90008 9 = true → exec (.w1cClear t 0x90008 x) s = .next { v with hasp := { v.hasp with evt := v.hasp.evt &&& ~~~(BitVec.ofNat 32 x) } }) ∧
  (∀ t x s v, v = s.at t → v.writable 0xA0004 10 = true → exec (.w1cClear t 0xA0004 x) s = .next { v with disp := { v.disp with evt := v.disp.evt &&& ~~~(BitVec.ofNat 32 x) } }) ∧
  (∀ t x s v, v = s.at t → v.writable 0xB0004 11 = true → exec (.w1cClear t 0xB0004 x) s = .next { v with intg := { v.intg with evt := v.intg.evt &&& ~~~(BitVec.ofNat 32 x) } }) ∧
  (∀ t x s v, v = s.at t → v.writable 0xC0004 12 = true → exec (.w1cClear t 0xC0004 x) s = .next { v with twn := { v.twn with evt := v.twn.evt &&& ~~~(BitVec.ofNat 32 x) } }) ∧
  (∀ t x s v, v = s.at t → v.writable 0x100014 13 = true → exec (.w1cClear t 0x100014 x) s = .next { v with rnd := { v.rnd with evt := v.rnd.evt &&& ~~~(BitVec.ofNat 32 x) } }) ∧
  (∀ t x s v, v = s.at t → v.writable 0x110004 14 = true → exec (.w1cClear t 0x110004 x) s = .next { v with obj := { v.obj with evt := v.obj.evt &&& ~~~(BitVec.ofNat 32 x) } }) ∧
  (∀ t x s v, v = s.at t → v.writable 0x120008 15 = true → exec (.w1cClear t 0x120008 x) s = .next { v with pan := { v.pan with evt := v.pan.evt &&& ~~~(BitVec.ofNat 32 x) } }) ∧
  (∀ t x s v, v = s.at t → v.writable 0x130014 16 = true → exec (.w1cClear t 0x130014 x) s = .next { v with rte := { v.rte with evt := v.rte.evt &&& ~~~(BitVec.ofNat 32 x) } }) ∧
  (∀ t x s v, v = s.at t → v.writable 0x140004 17 = true → exec (.w1cClear t 0x140004 x) s = .next { v with cor := { v.cor with evt := v.cor.evt &&& ~~~(BitVec.ofNat 32 x) } }) ∧
  (∀ t x s v, v = s.at t → v.writable 0x150004 18 = true → exec (.w1cClear t 0x150004 x) s = .next { v with cal := { v.cal with evt := v.cal.evt &&& ~~~(BitVec.ofNat 32 x) } }) ∧
  (∀ t x s v, v = s.at t → v.writable 0x300004 20 = true → exec (.w1cClear t 0x300004 x) s = .next { v with ddr := { v.ddr with evt := v.ddr.evt &&& ~~~(BitVec.ofNat 32 x) } }) ∧
  (∀ t x s v, v = s.at t → v.writable 0x310004 21 = true → exec (.w1cClear t 0x310004 x) s = .next { v with fab := { v.fab with evt := v.fab.evt &&& ~~~(BitVec.ofNat 32 x) } }) ∧
  (∀ t x s v, v = s.at t → v.writable 0x320004 22 = true → exec (.w1cClear t 0x320004 x) s = .next { v with dac := { v.dac with evt := v.dac.evt &&& ~~~(BitVec.ofNat 32 x) } }) ∧
  (∀ t x s v, v = s.at t → v.writable 0x330004 23 = true → exec (.w1cClear t 0x330004 x) s = .next { v with dblt := { v.dblt with evt := v.dblt.evt &&& ~~~(BitVec.ofNat 32 x) } }) ∧
  (∀ t x k s v, v = s.at t → k < 34 → v.writable (0x200004 + 0x1000 * k) 19 = true → exec (.w1cClear t (0x200004 + 0x1000 * k) x) s = .next (v.onEngine k fun e => { e with evt := e.evt &&& ~~~(BitVec.ofNat 32 x) }))

/-- A host write changes the host-class fields of its register, or is discarded and counted. R53, R127, R252, R255, R256, R275,
R304, R483, R502, R540, R541. -/
def Obligations.HostRegisterWritesAct : Prop :=
  (∀ t a x be b blk g d len s v, v = s.at t → v.pcieUp = true → be % 16 = 15 → v.bar0Code a = some 0 → bar0Block a = some (b, len, d, g, blk) → (blk = 23 → dbltDflt (a - b) = none) → hostReg blk (a - b) = true → exec (.registerWrite t a x be) s = .next (hostWrite v blk (a - b) x)) ∧
  (∀ t a x be b blk g d len s v, v = s.at t → v.pcieUp = true → be % 16 = 15 → v.bar0Code a = some 0 → bar0Block a = some (b, len, d, g, blk) → (blk = 23 → dbltDflt (a - b) = none) → hostReg blk (a - b) = false → exec (.registerWrite t a x be) s = .next { v with sys := { v.sys with wdiscardCnt := v.sys.wdiscardCnt + 1, evt := v.sys.evt ||| 2 } }) ∧
  (∀ t a x be s v, v = s.at t → v.pcieUp = true → be % 16 ≠ 15 → exec (.registerWrite t a x be) s = .next { v with sys := { v.sys with wdiscardCnt := v.sys.wdiscardCnt + 1, evt := v.sys.evt ||| 2 } }) ∧
  (∀ t a x be c s v, v = s.at t → v.pcieUp = true → be % 16 = 15 → v.bar0Code a = some c → c ≠ 0 → exec (.registerWrite t a x be) s = .next (v.fabErr { addr := a, hi := 0xB0, master := 12, id := 0, write := true, code := c, ts := v.ts32 })) ∧
  (∀ t a x be b blk g d len s v, v = s.at t → v.pcieUp = true → be % 16 = 15 → v.bar0Code a = none → bar0Block a = some (b, len, d, g, blk) → exec (.registerWrite t a x be) s = .next { v with clk := { v.clk with held := v.clk.held ++ [{ gate := g, addr := a, val := x, data := none }] } }) ∧
  (∀ t x s v, v = s.at t → v.writable 0x24 0 = true → exec (.registerWrite t 0x24 x 15) s = .next { v with sys := { v.sys with scratch := BitVec.ofNat 32 x } }) ∧
  (∀ t x s v, v = s.at t → v.writable 0x100028 13 = true → bit x 0 = true → exec (.rndClrMin t x) s = .next { v with rnd := { v.rnd with minMargin := v.rnd.margin } }) ∧
  (∀ t x s v, v = s.at t → v.writable 0x120020 15 = true → bit x 0 = true → exec (.panClrMax t x) s = .next { v with pan := { v.pan with geomMax := v.pan.geomLast } }) ∧
  (∀ t x s v, v = s.at t → v.writable 0xA0008 10 = true → bit x 0 = true → exec (.dispClrMax t x) s = .next { v with
      disp := { v.disp with waitMax := v.disp.waitLast }
      tap := { v.tap with engines := v.tap.engines.map fun e => { e with loadMax := e.loadLast } } }) ∧
  (∀ t x s v, v = s.at t → v.writable 0xB0018 11 = true → bit x 0 = true → exec (.intgClrTjmax t x) s = .next { v with intg := { v.intg with tjMax := v.intg.tj } }) ∧
  (∀ t x s v, v = s.at t → v.writable 0x300008 20 = true → bit x 0 = true → exec (.ddrClrMax t x) s = .next { v with ddr := { v.ddr with latClr := v.now } }) ∧
  (∀ t x s v, v = s.at t → v.writable 0x30008 3 = true → bit x 0 = true → exec (.pwrClrMinmax t x) s = .next { v with pwr := { v.pwr with minA := v.pwr.aMv, minB := v.pwr.bMv, max := v.pwr.now } }) ∧
  (∀ t x s v, v = s.at t → v.writable 0x228004 19 = true → v.ticking = false → ((List.range 4).filter fun i => bit (x % 16) i).all (fun i => (getD' v.tap.kslots i { loaded := false, disabledOvr := false, budget := 0, overruns := 0 }).loaded) = true →
      sumN (((List.range 4).filter fun i => bit (x % 16) i).map fun i => (getD' v.tap.kslots i { loaded := false, disabledOvr := false, budget := 0, overruns := 0 }).budget) ≤ (if v.rnd.rate96 then 4096 else 8192) → exec (.tapKctlWrite t x) s = .next { v with tap := { v.tap with en := x % 16, enPend := none, refused := v.tap.refused && !bit x 8 } }) ∧
  (∀ t x s v, v = s.at t → v.writable 0x228004 19 = true → v.ticking = true → ((List.range 4).filter fun i => bit (x % 16) i).all (fun i => (getD' v.tap.kslots i { loaded := false, disabledOvr := false, budget := 0, overruns := 0 }).loaded) = true →
      sumN (((List.range 4).filter fun i => bit (x % 16) i).map fun i => (getD' v.tap.kslots i { loaded := false, disabledOvr := false, budget := 0, overruns := 0 }).budget) ≤ (if v.rnd.rate96 then 4096 else 8192) → exec (.tapKctlWrite t x) s = .next { v with tap := { v.tap with enPend := some (x % 16), refused := v.tap.refused && !bit x 8 } }) ∧
  (∀ t x i s v, v = s.at t → v.writable 0x228004 19 = true → i < 4 → bit (x % 16) i = true → (getD' v.tap.kslots i { loaded := false, disabledOvr := false, budget := 0, overruns := 0 }).loaded = false → exec (.tapKctlWrite t x) s = .next { v with tap := { v.tap with refused := true } }) ∧
  (∀ t k x s v, v = s.at t → k < 34 → v.writable (0x20001C + 0x1000 * k) 19 = true → exec (.tapInjWrite t k x) s = .next (v.onEngine k fun e => { e with inj := BitVec.ofNat 32 (x % 2 ^ (if v.tap.testEn then 11 else 10)) })) ∧
  (∀ t x s v, v = s.at t → v.writable 0x228000 19 = true → bit x 0 = true → v.sys.mode = .staged → exec (.tapTestEnWrite t x) s = .next { v with tap := { v.tap with testEn := true } }) ∧
  (∀ t x s v, v = s.at t → v.writable 0x228000 19 = true → v.sys.mode ≠ .staged → exec (.tapTestEnWrite t x) s = .next v)

/-- A PCIe write of a deadbolt setting is applied in STAGED and in range, or discarded and counted. R291, R292, R549. -/
def Obligations.DeadboltWritesStayInRange : Prop :=
  (∀ t off x s v, v = s.at t → (dbltDflt off).isSome = true → v.writable (0x330000 + off) 23 = true → v.sys.mode = .staged → v.dblt.locked = false → dbltInRange off x = true → ∃ u, exec (.dbltRegWrite t off x) s = .next u ∧ (v.DbltSafe → u.dbltGet off = x) ∧
      u = { v with dblt := { v.dblt with settings := u.dblt.settings, digest := u.dbltDigest } } ∧
      (v.DbltSafe → ∀ o, o ≠ off → u.dbltGet o = v.dbltGet o)) ∧
  (∀ t off x s v, v = s.at t → (dbltDflt off).isSome = true → v.writable (0x330000 + off) 23 = true → v.sys.mode = .staged → v.dblt.locked = false → dbltInRange off x = false → exec (.dbltRegWrite t off x) s = .next { v with dblt := { v.dblt with rangeCnt := v.dblt.rangeCnt + 1, evt := v.dblt.evt ||| 256 } }) ∧
  (∀ t off x s v, v = s.at t → (dbltDflt off).isSome = true → v.writable (0x330000 + off) 23 = true → (v.sys.mode ≠ .staged ∨ v.dblt.locked = true) → exec (.dbltRegWrite t off x) s = .next { v with dblt := { v.dblt with lockedWrCnt := v.dblt.lockedWrCnt + 1, evt := v.dblt.evt ||| 128 } })

/-- A write through a BAR2 window stores exactly its bytes, or is discarded and counted. R148, R178, R376, R544. The stored bytes
are read through `memGet`. -/
def Obligations.WindowWritesStoreTheirBytes : Prop :=
  (∀ t off data s v, v = s.at t → off < 0x2000000 → off + data.length ≤ 0x2000000 → v.windowOpen (off) = true → v.boot.state = .receiving → ∃ m : Memory, exec (.imgWindowWrite t off data) s = .next { v with boot := { v.boot with staging := m } } ∧
      (Memory.wf v.boot.staging = true → ∀ k < data.length, memGet m (off + k) = getD' data k 0) ∧
      (Memory.wf v.boot.staging = true → Memory.wf m = true ∧ ∀ a, ¬(off ≤ a ∧ a < off + data.length) → memGet m a = memGet v.boot.staging a)) ∧
  (∀ t off data s v, v = s.at t → off < 0x2000000 → off + data.length ≤ 0x2000000 → v.windowOpen off = true → v.boot.state ≠ .receiving → exec (.imgWindowWrite t off data) s = .next { v with boot := { v.boot with wdiscardCnt := v.boot.wdiscardCnt + 1 } }) ∧
  (∀ t off data s v, v = s.at t → off < 0x84440 → off + data.length ≤ 0x84440 → v.windowOpen (0x4800000 + off) = true → v.sys.mode = .staged → ∃ m : Memory, exec (.layoutWindowWrite t off data) s = .next { v with pan := { v.pan with staging := m } } ∧
      (Memory.wf v.pan.staging = true → ∀ k < data.length, memGet m (off + k) = getD' data k 0) ∧
      (Memory.wf v.pan.staging = true → Memory.wf m = true ∧ ∀ a, ¬(off ≤ a ∧ a < off + data.length) → memGet m a = memGet v.pan.staging a)) ∧
  (∀ t off data s v, v = s.at t → off < 0x84440 → off + data.length ≤ 0x84440 → v.windowOpen (0x4800000 + off) = true → v.sys.mode ≠ .staged → exec (.layoutWindowWrite t off data) s = .next { v with sys := { v.sys with wdiscardCnt := v.sys.wdiscardCnt + 1, evt := v.sys.evt ||| 2 } }) ∧
  (∀ t off data s v, v = s.at t → off < 0x30440 → off + data.length ≤ 0x30440 → v.windowOpen (0x4900000 + off) = true → v.rte.frozen = false → ∃ m : Memory, exec (.routeWindowWrite t off data) s = .next { v with rte := { v.rte with staging := m } } ∧
      (Memory.wf v.rte.staging = true → ∀ k < data.length, memGet m (off + k) = getD' data k 0) ∧
      (Memory.wf v.rte.staging = true → Memory.wf m = true ∧ ∀ a, ¬(off ≤ a ∧ a < off + data.length) → memGet m a = memGet v.rte.staging a)) ∧
  (∀ t off data s v, v = s.at t → off < 0x30440 → off + data.length ≤ 0x30440 → v.windowOpen (0x4900000 + off) = true → v.rte.frozen = true → exec (.routeWindowWrite t off data) s = .next { v with rte := { v.rte with wdiscardCnt := v.rte.wdiscardCnt + 1 } }) ∧
  (∀ t off data s v, v = s.at t → off + data.length ≤ 0x1860000 → v.windowOpen (0x2000000 + off) = true → data ≠ [] → off % 0xC30000 % 0x4100 + data.length ≤ 0x4100 → off % 0xC30000 / 0x4100 < feedCount v.rnd.rate96 → v.corWritable (off / 0xC30000) (off % 0xC30000 / 0x4100) = true → exec (.corWindowWrite t off data) s = .next (v.corStore off (off % 0xC30000 / 0x4100) data)) ∧
  (∀ t off data s v, v = s.at t → off + data.length ≤ 0x1860000 → v.windowOpen (0x2000000 + off) = true → data ≠ [] → off % 0xC30000 % 0x4100 + data.length ≤ 0x4100 → (feedCount v.rnd.rate96 ≤ off % 0xC30000 / 0x4100 ∨ v.corWritable (off / 0xC30000) (off % 0xC30000 / 0x4100) = false) → exec (.corWindowWrite t off data) s = .next { v with cor := { v.cor with wdiscardCnt := v.cor.wdiscardCnt + 1 } }) ∧
  (∀ t off data s v, v = s.at t → ((0x4000000 ≤ off ∧ off < 0x4800000) ∨ 0x4A00000 ≤ off) → v.windowOpen off = true → exec (.roWindowWrite t off data) s = .next { v with sys := { v.sys with wdiscardCnt := v.sys.wdiscardCnt + 1, evt := v.sys.evt ||| 2 } })

/-- The host frame rings of MGMT are enabled, fed and disabled as the rules say. R393, R394, R418. -/
def Obligations.HostFrameRingsAct : Prop :=
  (∀ t s v, v = s.at t → v.writable 0x80100 8 = true → v.net.hrx.en = false → ringSizeOk v.net.hrx.size = true → exec (.hostRxEnable t) s = .next { v with net := { v.net with hrx := { v.net.hrx with en := true, pi := 0, ci := 0, phase := true, slots := [] } } }) ∧
  (∀ t s v, v = s.at t → v.writable 0x80100 8 = true → v.net.hrx.en = false → ringSizeOk v.net.hrx.size = false → exec (.hostRxEnable t) s = .next { v with sys := { v.sys with wdiscardCnt := v.sys.wdiscardCnt + 1, evt := v.sys.evt ||| 2 } }) ∧
  (∀ t s v, v = s.at t → v.writable 0x80100 8 = true → v.net.htx.en = false → ringSizeOk v.net.htx.size = true → exec (.hostTxEnable t) s = .next { v with net := { v.net with htx := { v.net.htx with en := true, pi := 0, ci := 0, phase := true, slots := [] } } }) ∧
  (∀ t s v, v = s.at t → v.writable 0x80100 8 = true → v.net.htx.en = false → ringSizeOk v.net.htx.size = false → exec (.hostTxEnable t) s = .next { v with sys := { v.sys with wdiscardCnt := v.sys.wdiscardCnt + 1, evt := v.sys.evt ||| 2 } }) ∧
  (∀ t s v, v = s.at t → v.writable 0x80100 8 = true → v.net.htx.en = true → exec (.hostTxDisable t) s = .next
      (let u := (v.macM.queue.filter fun f => f.queue == 2).foldl (fun u f => u.txDone (f.slot.getD 0) 0 false true)
         (v.onMac 2 fun m => { m with queue := m.queue.filter fun f => f.queue != 2 })
       { u with net := { u.net with htx := { u.net.htx with en := false } } })) ∧
  (∀ t x slots s v, v = s.at t → v.writable 0x80110 8 = true → v.net.hrx.en = true → x < v.net.hrx.size → exec (.hostRxPiWrite t x slots) s = .next { v with net := { v.net with hrx := { v.net.hrx with
      pi := x, slots := v.net.hrx.slots ++ (List.range ((x + v.net.hrx.size - v.net.hrx.pi) % v.net.hrx.size)).map fun k => getD' slots k (zeros 32) } } }) ∧
  (∀ t x slots frames s v, v = s.at t → v.writable 0x80124 8 = true → v.net.htx.en = true → x < v.net.htx.size → exec (.hostTxPiWrite t x slots frames) s = .next
      (let n := (x + v.net.htx.size - v.net.htx.pi) % v.net.htx.size
       let posted := (List.range n).map fun k => getD' slots k (zeros 32)
       let fs := (List.range n).map fun k =>
         let sl := getD' slots k (zeros 32)
         { TxFrame.udp 2 0 0 0 ((getD' frames k []).take (rd16 sl 8)) with
           launch := rd64 sl 16, vlan := rd8 sl 10, ttl := 0, slot := some ((v.net.htx.pi + k) % v.net.htx.size) }
       State.onMac { v with net := { v.net with htx := { v.net.htx with pi := x, slots := v.net.htx.slots ++ posted } } } 2
         fun m => { m with queue := m.queue ++ fs }))

/-- A reset returns everything to its reset value but the OTP, the straps, the physical power path and SYS_RST_INFO. R11, R363,
R365, R480, R501, R533. `PwrSt.afterReset` keeps the feeds, the store and the pins. -/
def Obligations.ResetsReturnTheModuleToReset : Prop :=
  (∀ t s v, v = s.at t → v.domainOn 0 = true → v.pwr.bring = none → v.unpowered = false → exec (.resetPin t) s = .next
      { State.reset with
        pending := v.pending, out := v.out, free := v.free, pwr := { v.pwr.afterReset with resetLow := true }
        sys := { SysSt.reset with rstSource := 2, rstReason := v.intg.reason, addrId := v.sys.addrId, sgmii := v.sys.sgmii } }) ∧
  (∀ t s v, v = s.at t → v.domainOn 0 = true → v.pwr.bring = none → v.unpowered = true → exec (.resetPin t) s = .next { v with pwr := { v.pwr with
      resetLow := true, bring := some (3, 2), off := true, stuck := false, domains := 1, transAt := v.now } }) ∧
  (∀ t id sg s v, v = s.at t → v.pwr.resetLow = true → v.unpowered = false → exec (.resetPinRelease t id sg) s = .next { v with now := 0, pwr := { v.pwr with resetLow := false }, sys := { v.sys with addrId := id, sgmii := sg } }) ∧
  (∀ t l s v, v = s.at t → v.pwr.perst = false → v.domainOn 1 = true → exec (.perst t true l) s = .next
      (let u := (State.setCmdEn { v with pwr := { v.pwr with perst := true } } false).setRplEn false
       let u := l.foldl (fun u e => u.fabErr { e with master := 12, code := 6, ts := u.ts32 }) u
       { u with fab := { u.fab with drain := if bit u.fab.drain 12 then u.fab.drain else u.fab.drain + 2 ^ 12 } })) ∧
  (∀ t l s v, v = s.at t → v.pwr.perst = true → exec (.perst t false l) s = .next { v with pwr := { v.pwr with perst := false } }) ∧
  (∀ t m s v, v = s.at t → bit v.fab.drain m = true → exec (.drainRelease t m) s = .next { v with fab := { v.fab with drain := v.fab.drain - 2 ^ m, rst := v.fab.rst + 1, evt := v.fab.evt ||| 8 } })

/-- The boot path goes from COLD to AWAIT_IMAGE, through the image check, to STAGED. R360, R366, R368, R371, R373, R376, R378. -/
def Obligations.BootRunsToStaged : Prop :=
  (∀ t s v, v = s.at t → v.sys.mode = .cold → v.pwr.resetLow = false → v.pwr.off = false → v.trainEnded = true → Leads (.bootAwaitImage t) s fun u => u.sys.mode = .awaitImage ∧ u.macM.ip = 0xA9FE4C00 + v.sys.addrId + 1 ∧ u.macM.prefixLen = 16 ∧
      (∀ g ∈ romGates, g < v.clk.gates.length → (u.gate g).st = .opened ∧ (u.gate g).run = true) ∧ u.dblt = v.dblt ∧ u.boot = v.boot) ∧
  (∀ t off s v, v = s.at t → v.boot.state = .verifying → exec (.imgVerifyDone t (some off)) s = .next { v with boot := { v.boot with state := .failed, result := 6, offset := off, badLine := some off } }) ∧
  (∀ t s v, v = s.at t → v.boot.state = .verifying → (imgVerify v.boot.staging v.boot.size).1 ≠ 1 → exec (.imgVerifyDone t none) s = .next { v with boot := { v.boot with
      state := .failed, result := (imgVerify v.boot.staging v.boot.size).1, offset := (imgVerify v.boot.staging v.boot.size).2.1 } }) ∧
  (∀ t s v, v = s.at t → v.boot.state = .loading → exec (.imgLoadDone t) s = .next { v with
      boot := { v.boot with state := .selftest, image := tabDrop v.boot.staging v.boot.size (2 ^ 64), imageTotal := v.boot.size }
      pan := { v.pan with kernelId := memLE v.boot.staging (imgSect v.boot.staging 4) 2 }
      tap := { v.tap with kslots := (List.range 4).map fun k =>
        { loaded := imgBudget v.boot.staging k != 0, disabledOvr := false, budget := imgBudget v.boot.staging k, overruns := 0 } } }) ∧
  (∀ t failed s v, v = s.at t → v.boot.state = .selftest → exec (.engineSelftestDone t failed) s = .next
      (let bad := (List.range 34).filter failed.contains
       let u := (bad.foldl (fun u k => (u.assignSpare k).2) (bad.foldl State.declareFailed v)).applyMoves
       { u with boot := { u.boot with state := .starting, failedEng := bad.length } })) ∧
  (∀ t s v, v = s.at t → v.boot.state = .starting → v.sys.mode = .awaitImage → exec (.firmwareReady t) s = .next { v with
      boot := { v.boot with state := .done }
      sys := { v.sys with imageId := memLE v.boot.image 8 4, imageVer := memLE v.boot.image 0xC 4, mode := .staged, evt := v.sys.evt ||| 1 } })

/-- The feeds, the store and the rails move the load as the rules say. R459 to R470, R483. -/
def Obligations.PowerPathEventsAct : Prop :=
  (∀ t s v, v = s.at t → v.pwr.source = 0 → v.pwr.bOk = true → exec (.feedSwitchB t) s = .next { v with pwr := { v.pwr with
      aOk := false, switchCnt := v.pwr.switchCnt + 1, evt := setBit (setBit v.pwr.evt 3) 0, source := 1, lastSwitch := v.ts32, srcAt := v.now } }) ∧
  (∀ t s v, v = s.at t → v.pwr.source = 1 → v.pwr.aOk = true → v.pwr.exercise = none → exec (.feedBFailReturn t) s = .next { v with pwr := { v.pwr with
      bOk := false, bSince := none, evt := setBit (setBit v.pwr.evt 4) 1, source := 0, lastSwitch := v.ts32, srcAt := v.now } }) ∧
  (∀ t s e v, v = s.at t → v.pwr.source = 1 → v.pwr.aOk = true → v.pwr.exercise = some e → exec (.feedBFailReturn t) s = .next (State.exerciseDone { v with pwr := { v.pwr with
      bOk := false, bSince := none, evt := setBit (setBit v.pwr.evt 4) 1, source := 0, lastSwitch := v.ts32, srcAt := v.now } } 1)) ∧
  (∀ t s v, v = s.at t → v.pwr.source = 1 → v.pwr.exercise = none → exec (.feedReturnA t) s = .next { v with pwr := { v.pwr with
      aOk := true, returnCnt := v.pwr.returnCnt + 1, evt := setBit v.pwr.evt 1, source := 0, lastSwitch := v.ts32, srcAt := v.now } }) ∧
  (∀ t s v, v = s.at t → (v.pwr.source = 0 ∧ v.pwr.bOk = false ∨ v.pwr.source = 1 ∧ v.pwr.aOk = false) → exec (.holdupCarry t) s = .next ((((v.feedFailed (v.pwr.source == 1)).setSource 2).pwrEvt 2).exerciseDone 6)) ∧
  (∀ t a b s v, v = s.at t → v.pwr.source = 2 → v.domainOn 0 = true → (a || b) = true → exec (.holdupEnd t a b) s = .next { v with pwr := { v.pwr with
      aOk := a, bOk := b, holdupCnt := v.pwr.holdupCnt + 1, source := if a then 0 else 1, lastSwitch := v.ts32, srcAt := v.now } }) ∧
  (∀ t s v, v = s.at t → v.pwr.source = 2 → v.domainOn 0 = true → v.pwr.srcAt + 2000000 ≤ v.now → exec (.holdupExhausted t) s = .next { v with
      pwr := { v.pwr with off := true, bring := none, stuck := false, domains := 0, trans := 0, cur := none, queued := none
                          exercise := none, wakeAt := none, transAt := v.now, rail := 0, tries := 0, holdupReady := false }
      sys := { v.sys with mode := .cold }, dac := { v.dac with clamped := true } }) ∧
  (∀ t a b s v, v = s.at t → v.pwr.off = true → v.domainOn 0 = false → (a || b) = true → exec (.feedQualified t a b) s = .next
      (State.startBring ({ v with pwr := { v.pwr with aOk := a, bOk := b } }.setSource (if a then 0 else 1)) 0 1)) ∧
  (∀ t s v, v = s.at t → v.pwr.source ≠ 1 → v.domainOn 0 = true → exec (.feedFail t true) s = .next { v with pwr := { v.pwr with bOk := false, bSince := none, evt := setBit v.pwr.evt 4 } }) ∧
  (∀ t s v, v = s.at t → v.pwr.source ≠ 0 → v.domainOn 0 = true → exec (.feedFail t false) s = .next (State.exerciseDone { v with pwr := { v.pwr with aOk := false, evt := setBit v.pwr.evt 3 } } 6)) ∧
  (∀ t av ai bv bi hv s v, v = s.at t → v.domainOn 0 = true → v.pwr.samples.length + 1 < 10 → exec (.powerMonitorSample t av ai bv bi hv) s = .next { v with pwr := { v.pwr with
          aOk := v.pwr.aOk || feedIn av, bOk := v.pwr.bOk || feedIn bv
          bSince := if 10800 ≤ bv ∧ bv ≤ 13200 then some (v.pwr.bSince.getD v.now) else none
          holdupMv := min 0xFFFF hv, holdupReady := decide (28000 ≤ hv)
          samples := v.pwr.samples ++ [(av, ai, bv, bi)]
          exercise := v.pwr.exercise.map fun e => e.sample v.now ai bv bi } }) ∧
  (∀ t av ai bv bi hv s v, v = s.at t → v.domainOn 0 = true → 10 ≤ v.pwr.samples.length + 1 → exec (.powerMonitorSample t av ai bv bi hv) s = .next (State.powerMeans { v with pwr := { v.pwr with
          aOk := v.pwr.aOk || feedIn av, bOk := v.pwr.bOk || feedIn bv
          bSince := if 10800 ≤ bv ∧ bv ≤ 13200 then some (v.pwr.bSince.getD v.now) else none
          holdupMv := min 0xFFFF hv, holdupReady := decide (28000 ≤ hv)
          samples := v.pwr.samples ++ [(av, ai, bv, bi)]
          exercise := v.pwr.exercise.map fun e => e.sample v.now ai bv bi } } (v.pwr.samples ++ [(av, ai, bv, bi)]))) ∧
  (∀ t s e v, v = s.at t → v.pwr.exercise = some e → e.start + 200000000 ≤ v.now → 10800 ≤ e.minB → e.maxB ≤ 13200 → e.transferred = true → exec (.feedExerciseEnd t) s = .next ((v.setSource 0).exerciseDone 0)) ∧
  (∀ t s e v, v = s.at t → v.pwr.exercise = some e → e.start + 200000000 ≤ v.now → 10200 ≤ e.minB → e.minB < 10800 → exec (.feedExerciseEnd t) s = .next ((v.setSource 0).exerciseDone 2)) ∧
  (∀ t s e v, v = s.at t → v.pwr.exercise = some e → e.start + 200000000 ≤ v.now → (10800 ≤ e.minB ∨ e.minB < 10200) → e.transferred = false → e.fell = false → exec (.feedExerciseEnd t) s = .next ((v.setSource 0).exerciseDone 3)) ∧
  (∀ t s k src v, v = s.at t → v.pwr.bring = some (k, src) → v.pwr.transAt ≤ v.now → (k = 11 → v.pwr.holdupReady = true) → k ≠ 12 → exec (.bringupStep t) s = .next { v with pwr := { v.pwr with bring := some (k + 1, src), transAt := v.pwr.transAt + bringGap (k + 1) } }) ∧
  (∀ t s src v, v = s.at t → v.pwr.bring = some (12, src) → v.pwr.transAt ≤ v.now → exec (.bringupStep t) s = .next (v.resetTo src)) ∧
  (∀ t rail s v, v = s.at t → v.railOn rail = true → exec (.railFault t rail) s = .next
      (let tries := match v.pwr.bring with | some (_, 1) => min 3 (v.pwr.tries + 1) | some _ => 1 | none => 0
       let u := v.powerDown true (decide (3 ≤ tries))
       { u with pwr := { u.pwr with rail, tries } })) ∧
  (∀ t s v, v = s.at t → v.pwr.off = true → v.pwr.bring = none → v.pwr.stuck = false → v.domainOn 0 = true → v.pwr.rail ≠ 0 → v.pwr.transAt + 1000000000 ≤ v.now → exec (.railRetry t) s = .next (v.startBring 0 1)) ∧
  (∀ t s v, v = s.at t → v.deepAsleep = true → exec (.wakePin t) s = .next (v.startBring 3 4)) ∧
  (∀ t s w v, v = s.at t → v.deepAsleep = true → v.pwr.wakeAt = some w → w ≤ v.now → exec (.deepWakeTimer t) s = .next (v.startBring 3 4))

/-- SLEEP entry, the wake and DEEP_SLEEP entry run their timed steps. R473, R476, R478, R479. -/
def Obligations.PowerTransitionsStep : Prop :=
  (∀ t k s v, v = s.at t → (v.pwr.trans = 1 ∨ v.pwr.trans = 3) → v.gatesSettled = true → v.pwr.stepNo = k → 1 ≤ k → k < 10 → v.pwr.transAt + getD' sleepTimes k 0 ≤ v.now → exec (.sleepEntryStep t) s = .next (State.sleepStep { v with pwr := { v.pwr with stepNo := k + 1 } } k)) ∧
  (∀ t s v, v = s.at t → v.pwr.trans = 1 → v.gatesSettled = true → v.pwr.stepNo = 9 → v.pwr.transAt + 5000000 ≤ v.now → Leads (.sleepEntryStep t) s fun u => u.sys.mode = .sleep ∧ u.pwr.trans = 0 ∧ u.dblt = v.dblt ∧ u.boot = v.boot ∧ u.intg = v.intg) ∧
  (∀ t s v, v = s.at t → v.pwr.trans = 2 → v.pwr.stepNo = 0 → v.pwr.transAt + 0 ≤ v.now → exec (.wakeStep t) s = .next (State.onPll { v with pwr := { v.pwr with stepNo := 1 } } 2 fun x => { x with bypass := false })) ∧
  (∀ t s v, v = s.at t → v.pwr.trans = 2 → v.pwr.stepNo = 1 → v.pwr.transAt + 2000000 ≤ v.now → exec (.wakeStep t) s = .next (hostGates.foldl (fun u g => u.setGate g true)
      (((State.setDomain { v with pwr := { v.pwr with stepNo := 2 } } 5 true).setDomain 6 true).setDomain 7 true))) ∧
  (∀ t s v, v = s.at t → v.pwr.trans = 2 → v.pwr.stepNo = 2 → v.pwr.transAt + 4000000 ≤ v.now → exec (.wakeStep t) s = .next (State.setGate { v with pwr := { v.pwr with stepNo := 3 }, ddr := { v.ddr with selfRefresh := false } } 3 true)) ∧
  (∀ t s v, v = s.at t → v.pwr.trans = 2 → v.pwr.stepNo = 3 → v.pwr.transAt + 6000000 ≤ v.now → exec (.wakeStep t) s = .next ((State.setDomain { v with pwr := { v.pwr with stepNo := 4 }, dac := { v.dac with running := true } } 3 true).setDomain 8 true)) ∧
  (∀ t s v, v = s.at t → v.pwr.trans = 2 → v.pwr.stepNo = 4 → v.pwr.transAt + 38000000 ≤ v.now → exec (.wakeStep t) s = .next { v with
      pwr := { v.pwr with stepNo := 5 }, pan := { v.pan with pairs := [] }
      tap := { v.tap with engines := v.tap.engines.map fun e => { e with custom := [], cpu := TapCpu.start } } }) ∧
  (∀ t s v, v = s.at t → v.pwr.trans = 2 → v.pwr.stepNo = 5 → v.pwr.transAt + 40000000 ≤ v.now → Leads (.wakeStep t) s fun u => u.sys.mode = (if v.pwr.fromPaused then .locking else .staged) ∧ u.pwr.trans = 0 ∧ u.dblt = v.dblt ∧ u.boot = v.boot ∧
      (∀ g ∈ [0, 1, 2, 9, 11, 13], g < v.clk.gates.length → (u.gate g).st = .opened)) ∧
  (∀ t s r v, v = s.at t → v.pwr.trans = 3 → v.pwr.stepNo = 10 → v.pwr.transAt ≤ v.now → v.pwr.cur = some r → exec (.deepEntryStep t) s = .next (State.answer { v with pwr := { v.pwr with
      stepNo := 11, wakeAt := if r.after = 0 then none else some (v.now + r.after * 1000000000) } } r.ref .ok true false [])) ∧
  (∀ t s v, v = s.at t → v.pwr.trans = 3 → v.pwr.stepNo = 11 → v.pwr.transAt + 1000000 ≤ v.now → exec (.deepEntryStep t) s = .next (((State.setGate { v with pwr := { v.pwr with stepNo := 12 } } 8 false).setGate 6 false).onMac 2 fun m => { m with link := false })) ∧
  (∀ t s v, v = s.at t → v.pwr.trans = 3 → v.pwr.stepNo = 12 → v.pwr.transAt + 3000000 ≤ v.now → Leads (.deepEntryStep t) s fun u => u.sys.mode = .deepSleep ∧ u.pwr.trans = 0 ∧ u.pwr.domains = 1 ∧ u.dblt = v.dblt ∧ u.boot = v.boot) ∧
  (∀ t s r v, v = s.at t → v.pwr.trans = 0 → v.pwr.queued = some r → State.pwrRefusal { v with pwr := { v.pwr with queued := none } } r.op = none → exec (.pwrQueuedStart t) s = .next (State.pwrStart { v with pwr := { v.pwr with queued := none } } r)) ∧
  (∀ t s r st v, v = s.at t → v.pwr.trans = 0 → v.pwr.queued = some r → State.pwrRefusal { v with pwr := { v.pwr with queued := none } } r.op = some st → exec (.pwrQueuedStart t) s = .next ((State.countRefusal { v with pwr := { v.pwr with queued := none } }).answer r.ref st true false []))

/-- The watchdog, the temperature, the deadbolt parity and a yield act as the rules say. R284 to R289, R304, R537, R538. SOURCE and
DETAIL of these records are free values (log entry 60). -/
def Obligations.YieldAndTemperatureEventsAct : Prop :=
  (∀ w s v, v = s.at w.t → v.imageRuns = true → v.powered = true → exec (.wdogKick w) s = .next (w.faults.foldl State.sramFault { v with intg := { v.intg with kick := v.tick % 65536, kickAt := v.now } })) ∧
  (∀ (v : State) a, (v.sramFault (.fw a false)).intg.repairCnt = v.intg.repairCnt + 1 ∧
      (v.intg.yieldPend = none → v.sys.mode ≠ .yielded → (v.sramFault (.fw a true)).intg.yieldPend = some (v.tick + 1, 4))) ∧
  (∀ t s v, v = s.at t → v.ticking = true → v.intg.kickAt + 4000000 ≤ v.now → v.intg.yieldPend = none → Leads (.watchdogExpiry t) s fun u => u.intg.yieldPend = some (v.tick + 1, 3) ∧ u.intg.head = v.intg.head + 1 ∧ u.sys = v.sys ∧ u.dblt = v.dblt) ∧
  (∀ t tj s v, v = s.at t → v.pwr.off = false → tj < 400 → (v.intg.cool = false ∨ tj < 400) → exec (.tempSample t tj) s = .next { v with intg := { v.intg with
      tj, tjMax := max v.intg.tjMax tj, cool := v.intg.cool || decide (tj < 388), hot := 0 } }) ∧
  (∀ t tj s v, v = s.at t → v.pwr.off = false → 400 ≤ tj → tj < 460 → v.intg.cool = true → Leads (.tempSample t tj) s fun u => bit u.intg.evt.toNat 6 = true ∧ u.intg.tj = tj ∧ u.intg.cool = false ∧ u.intg.head = v.intg.head + 1 ∧ u.sys = v.sys ∧ u.dblt = v.dblt) ∧
  (∀ t tj s v, v = s.at t → v.pwr.off = false → v.imageRuns = true → v.powered = true → 460 ≤ tj → tj < 500 → v.intg.hot = 1 → v.intg.yieldPend = none → v.sys.mode ≠ .yielded → Leads (.tempSample t tj) s fun u => u.intg.yieldPend = some (v.tick + 1, 2) ∧ u.intg.tj = tj ∧ u.sys = v.sys ∧ u.dblt = v.dblt) ∧
  (∀ t tj s v, v = s.at t → v.pwr.off = false → 500 ≤ tj → Leads (.tempSample t tj) s fun u => u.pwr.off = true ∧ u.pwr.stuck = true ∧ u.pwr.domains = 1 ∧ u.dac.clamped = true ∧ u.sys.mode = .cold) ∧
  (∀ t s n r v, v = s.at t → v.powered = true → v.intg.yieldPend = some (n, r) → Leads (.yieldTakeEffect t) s fun u => u.sys.mode = .yielded ∧ u.intg.reason = r ∧ u.intg.yieldTick = n ∧ u.intg.yieldPend = none ∧
      bit u.intg.evt.toNat 7 = true ∧ u.key.due = [] ∧ u.rnd.open_ = [] ∧ u.dblt = v.dblt ∧ u.boot = v.boot)

/-- The clock muxes, references, monitors, the crystal and the gates act as the rules say. R448 to R456. -/
def Obligations.ClockAndGateEventsAct : Prop :=
  (∀ t p x s v, v = s.at t → p < 3 → (v.pll p).bypass ≠ x → v.pwr.off = false → exec (.muxSwitch t p x true) s = .next (v.onPll p fun q => { q with bypass := x, forced := false })) ∧
  (∀ t p x s v, v = s.at t → p < 3 → (v.pll p).bypass ≠ x → v.pwr.off = false → exec (.muxSwitch t p x false) s = .next { v with clk := { v.clk with evt := setBit v.clk.evt 2 } }) ∧
  (∀ t p s v, v = s.at t → p < 3 → (v.pll p).bypass = false → v.pwr.off = false → exec (.muxForcedSwitch t p true) s = .next
      (let u := v.onPll p fun q => { q with bypass := true, forced := true }
       { u with clk := { u.clk with evt := setBit u.clk.evt 1, forcedCnt := u.clk.forcedCnt + 1 } })) ∧
  (∀ t l s v, v = s.at t → l.pll < 8 → (v.pll l.pll).coast = false → v.powered = true → exec (.pllRefLoss t l) s = .next
      (let p := l.pll
       let u := v.onPll p fun q => { q with coast := true }
       let u := { u with clk := { u.clk with evt := setBit u.clk.evt 0 } }
       if p < 4 then
         let w := (u.logFault 17 u.selfOutcome 0x105 p).selfFault
         if p = 3 then { w with ddr := { w.ddr with setpoint := true, evt := setBit w.ddr.evt 4 } } else w
       else if p = 4 then (if u.imageRuns then u.decideYield 1 else u)
       else if p = 5 then (u.setLink 0 false).setLink 1 false
       else if p = 6 then (u.setLink 2 false).setLink 3 false
       else u.perstLow l.outstanding)) ∧
  (∀ t p s v, v = s.at t → 5 ≤ p → p ≤ 7 → (v.pll p).coast = true → v.powered = true → exec (.pllRelock t p) s = .next
      (let u := v.onPll p fun q => { q with coast := false }
       { u with clk := { u.clk with evt := setBit u.clk.evt 5 } })) ∧
  (∀ t khz locked s v, v = s.at t → v.powered = true → (∀ p < 9, v.freqBad p (getD' khz p 0 % 2 ^ 32) = false) → v.clk.plls.length = 9 → Leads (.freqMonWindow t khz locked) s fun u => u.clk.evt = v.clk.evt ∧ u.intg = v.intg ∧
      ∀ p < 9, (u.pll p).khz = getD' khz p 0 % 2 ^ 32 ∧ (u.pll p).lock = getD' locked p false ∧ (u.pll p).freqErr = false) ∧
  (∀ t s v, v = s.at t → v.clk.xtalOk = true → v.powered = true → v.intg.yieldPend = none → v.sys.mode ≠ .yielded → Leads (.xtalFail t) s fun u => u.clk.xtalOk = false ∧ u.intg.yieldPend = some (v.tick + 1, 1) ∧ u.intg.head = v.intg.head + 1 ∧ u.sys = v.sys ∧ u.dblt = v.dblt) ∧
  (∀ t g s v, v = s.at t → g < 15 → (v.gate g).st = .pending → exec (.gateIdle t g) s = .next ((v.setGate g false).settleGate g)) ∧
  (∀ t g s v, v = s.at t → g < 15 → (v.gate g).st = .pending → v.pwr.trans ≠ 1 → exec (.gateCloseTimeout t g) s = .next
      (let u := v.onGate g fun x => { x with st := .opened, timeout := true }
       State.settleGate { u with clk := { u.clk with evt := setBit u.clk.evt 3, timeoutCnt := u.clk.timeoutCnt + 1 } } g)) ∧
  (∀ t g s v, v = s.at t → g < 15 → (v.gate g).st = .pending → v.pwr.trans = 1 → exec (.gateCloseTimeout t g) s = .next
      (let u := v.onGate g fun x => { x with st := .opened, timeout := true }
       State.settleGate { u with
         clk := { u.clk with evt := setBit u.clk.evt 3, timeoutCnt := u.clk.timeoutCnt + 1 }
         pwr := { u.pwr with heldGates := u.pwr.heldGates ||| 2 ^ g, evt := setBit u.pwr.evt 7 } } g))

/-- The ports answer, learn, count and send as the rules say. R388 to R397, R401, R414 to R418. -/
def Obligations.PortEventsAct : Prop :=
  (∀ t port s v, v = s.at t → port < 4 → (v.mac port).link = true → exec (.linkChange t port false) s = .next (v.onMac port fun m => { m with evt := setBit m.evt 0, link := false, txLpi := false, rxLpi := false, pausedTo := none })) ∧
  (∀ t port s v, v = s.at t → port < 4 → (v.mac port).link = false → v.portOpen port = true → (v.pll (if port < 2 then 5 else 6)).coast = false → exec (.linkChange t port true) s = .next (v.onMac port fun m => { m with evt := setBit m.evt 0, link := true })) ∧
  (∀ t port vid b s v, v = s.at t → v.portOpen port = true → port ≠ 3 → v.vidKnown (vid % 4096) = false → exec (.droppedFrame t port { vid := some vid, nobuf := b }) s = .next (v.onMac port fun m => { m with rxFrame := m.rxFrame + 1, rxVlan := m.rxVlan + 1, evt := setBit m.evt 4 })) ∧
  (∀ t port d s v, v = s.at t → v.portOpen port = true → v.vidKnown (d.vid.getD 0 % 4096) = true → (port = 3 → d.vid.getD 0 % 4096 = 0) → d.nobuf = false → exec (.droppedFrame t port d) s = .next (v.onMac port fun m => { m with rxFrame := m.rxFrame + 1, rxDrop := m.rxDrop + 1 })) ∧
  (∀ t port d s v, v = s.at t → v.portOpen port = true → v.vidKnown (d.vid.getD 0 % 4096) = true → (port = 3 → d.vid.getD 0 % 4096 = 0) → d.nobuf = true → exec (.droppedFrame t port d) s = .next (v.onMac port fun m => { m with rxFrame := m.rxFrame + 1, rxNobuf := m.rxNobuf + 1, evt := setBit m.evt 1 })) ∧
  (∀ t vid b s v, v = s.at t → v.portOpen 3 = true → vid % 4096 ≠ 0 → exec (.droppedFrame t 3 { vid := some vid, nobuf := b }) s = .next (v.onMac 3 fun m => { m with rxFrame := m.rxFrame + 1, rxDrop := m.rxDrop + 1 })) ∧
  (∀ t port s v, v = s.at t → v.portOpen port = true → exec (.rxFcsError t port) s = .next (v.onMac port fun m => { m with rxFcs := m.rxFcs + 1, evt := setBit m.evt 5 })) ∧
  (∀ t port vid sip smac s v, v = s.at t → v.portServes port = true → v.vidKnown vid = true → (port = 3 → vid = 0) → v.portIp port ≠ 0 → exec (.arpFrame t port vid false sip smac (v.portIp port)) s = .next
      (v.onMac port fun m => { m with rxFrame := m.rxFrame + 1, arp := tabSet none m.arp sip (some smac), asked := tabSet none m.asked sip none })) ∧
  (∀ t port vid sip smac s v, v = s.at t → v.portServes port = true → v.vidKnown vid = true → (port = 3 → vid = 0) → v.portIp port ≠ 0 → exec (.arpFrame t port vid true sip smac (v.portIp port)) s = .next
      ((v.onMac port fun m => { m with rxFrame := m.rxFrame + 1, arp := tabSet none m.arp sip (some smac), asked := tabSet none m.asked sip none }).post
        port (.made 3 0 0 (.arp false sip)))) ∧
  (∀ t port ip s v, v = s.at t → v.portServes port = true → (tabGet none (v.mac port).asked ip).isSome = true → (tabGet none (v.mac port).arp ip) = none → exec (.arpRetry t port ip) s = .next (v.askArp port ip)) ∧
  (∀ u s v, v = s.at u.t → v.portServes u.port = true → u.port ≠ 3 → v.vidKnown u.vid = true → v.portIp u.port ≠ 0 → u.dst = v.portIp u.port →
      udpLen u.body.length (u.vid != 0) ≤ frameMax u.port → exec (.icmpEcho u) s = .next
      ((v.rxCount u.port).post u.port (.made 3 u.src 0 (.icmp u.body)))) ∧
  (∀ t port group src s v, v = s.at t → v.portServes port = true → port < 2 → v.vidKnown 0 = true → exec (.igmpQuery t port group src) s = .next ((v.net.members.filter fun g =>
        g.1 == port && (group == 0 || g.2.1 == group) && (src == 0 || g.2.2 == 0 || g.2.2 == src)).foldl
      (fun u g => u.sendIgmp port true g.2.1 g.2.2) (v.rxCount port))) ∧
  (∀ t s v, v = s.at t → v.mediaTx = true → exec (.igmpRepeat t) s = .next ((v.net.repeats.filter fun r => decide (r.2.2.2.2 ≤ v.now)).foldl
      (fun u r => if u.net.members.contains (r.1, r.2.1, r.2.2.1) = r.2.2.2.1 then u.sendIgmp r.1 r.2.2.2.1 r.2.1 r.2.2.1 else u)
      { v with net := { v.net with repeats := v.net.repeats.filter fun r => decide (v.now < r.2.2.2.2) } })) ∧
  (∀ t s v, v = s.at t → v.mediaTx = true → exec (.igmpLeave t) s = .next (State.leaveUnneeded
      { v with net := { v.net with leaves := v.net.leaves.filter fun l => decide (v.sampleNow < l.2.2.2) } }
      ((v.net.leaves.filter fun l => decide (l.2.2.2 ≤ v.sampleNow)).map fun (l : Nat × Nat × Nat × Nat) => (l.1, l.2.1, l.2.2.1)))) ∧
  (∀ t port tw agreed s v, v = s.at t → v.portServes port = true → port ≠ 3 → v.imageRuns = true → exec (.lldpFrame t port tw agreed) s = .next
      ((v.onMac port fun m => { m with rxFrame := m.rxFrame + 1, eeeAgreed := agreed, twUs := if agreed then tw % 65536 else m.twUs }).post
        port (.made 0 0 0 .lldp))) ∧
  (∀ t port q s v, v = s.at t → v.portOpen port = true → port ≠ 3 → exec (.pauseFrame t port q) s = .next (v.onMac port fun m =>
      { m with rxFrame := m.rxFrame + 1, rxPause := m.rxPause + 1, evt := setBit m.evt 2
               pausedTo := if m.pauseEn = false then m.pausedTo else if q % 65536 = 0 then none
                 else some (v.now + q % 65536 * 512 * 1000000000 / v.portRate port) })) ∧
  (∀ t q s v, v = s.at t → v.portOpen 3 = true → exec (.pauseFrame t 3 q) s = .next (v.onMac 3 fun m => { m with rxFrame := m.rxFrame + 1, rxDrop := m.rxDrop + 1 })) ∧
  (∀ t port s e v, v = s.at t → port < 4 → (v.mac port).pausedTo = some e → e ≤ v.now → exec (.pauseQuantaEnd t port) s = .next (v.onMac port fun m => { m with pausedTo := none })) ∧
  (∀ t port x s v, v = s.at t → v.portOpen port = true → (v.mac port).link = true → (v.mac port).eeeEn = true → exec (.lowPowerIdle t { port := port, partner := some x }) s = .next (v.onMac port fun m => { m with rxLpi := x })) ∧
  (∀ t port s v, v = s.at t → v.portOpen port = true → (v.mac port).link = true → v.inLpi port = false → v.lpiAllowed port = true → (∀ f ∈ (v.mac port).queue, v.media < f.launch) → exec (.lowPowerIdle t { port := port, partner := none }) s = .next (v.onMac port fun m => { m with txLpi := true, lpi := m.lpi + 1 })) ∧
  (∀ t frame s v, v = s.at t → v.portOpen 2 = true → v.imageRuns = true → v.net.hrx.en = true → etherType frame = 0x0800 → frame.length ≤ 1518 → frame.length ≤ sumN (v.net.hrx.slots.map fun sl => rd16 sl 8) → exec (.hostRxFrame t none frame) s = .next
      (State.rxFill true false 0 v.net.hrx.slots true frame (v.rxCount 2))) ∧
  (∀ t frame s v, v = s.at t → v.portOpen 2 = true → v.imageRuns = true → v.net.hrx.en = true → etherType frame = 0x0800 → frame.length ≤ 1518 → sumN (v.net.hrx.slots.map fun sl => rd16 sl 8) < frame.length → exec (.hostRxFrame t none frame) s = .next
      (State.rxFill false false 0 v.net.hrx.slots true frame (v.onMac 2 fun m => { m with rxFrame := m.rxFrame + 1, rxNobuf := m.rxNobuf + 1, evt := setBit m.evt 1 }))) ∧
  (∀ t frame s v, v = s.at t → v.portOpen 2 = true → (v.imageRuns = true → v.net.hrx.en = true → (etherType frame ≠ 0x0800 ∨ 1518 < frame.length)) → exec (.hostRxFrame t none frame) s = .next (v.onMac 2 fun m => { m with rxFrame := m.rxFrame + 1, rxDrop := m.rxDrop + 1 })) ∧
  (∀ t port s f v, v = s.at t → v.txReady port = true → v.nextFrame port = some f → exec (.frameLaunch t port) s = .next
      (let late := f.launch != 0 && (decide ((f.launch : Int) < v.media) || v.tooFar f)
       let u := v.onMac port fun m =>
         { m with queue := MacSt.pop f.queue m.queue, txLate := if late then m.txLate + 1 else m.txLate, evt := setBitIf late m.evt 3 }
       let r := u.startFrame port f
       let u := match f.flow with | some e => r.2.countOut port e r.1 | none => r.2
       let x := if f.slot.isSome then u.hostStamp else (0, u)
       (match f.slot with | some k => x.2.txDone k x.1 late false | none => x.2).takeAddr))

/-- PTP messages and timers drive the master choice, the delay measurement, the servo and the loss of the reference. R423 to R431,
R438, R443. What the servo does inside its bounds is a free value (log entry 44). -/
def Obligations.PtpEventsAct : Prop :=
  (∀ m s v, v = s.at m.t → m.port < 2 → v.portOpen m.port = true → v.vidKnown m.vid = true → v.ptpOn = true → m.domain = v.ptm.cfg.domain → bit v.ptm.cfg.ports m.port = true →
      tabGet 0 v.net.vlan (v.ptpVlan m.port) % 4096 = m.vid → m.ann.ok = true → exec (.ptpAnnounce m) s = .next
      (let w := v.onMac m.port fun x => { x with rxFrame := x.rxFrame + 1 }
       let u := w.setMasters m.port (hearMaster (v.ptpPort m.port).foreign { source := m.source, ip := m.ip, ann := m.ann, heardAt := v.now, known := false })
       { u with ptm := { u.ptm with utc := m.ann.utc } })) ∧
  (∀ m s v, v = s.at m.t → m.port < 2 → v.portOpen m.port = true → v.vidKnown m.vid = true → v.ptpOn = true → m.domain = v.ptm.cfg.domain → bit v.ptm.cfg.ports m.port = true →
      tabGet 0 v.net.vlan (v.ptpVlan m.port) % 4096 = m.vid → -7 ≤ m.logInterval → m.logInterval ≤ 1 → m.twoStep = true → exec (.ptpSync m) s = .next
      (let w := v.onMac m.port fun x => { x with rxFrame := x.rxFrame + 1 }
       w.onPtp m.port fun q => { q with
         syncInt := m.logInterval
         wait := some (m.seq, m.rx - ((Config.ptmLat (m.port == 1) (w.mac m.port).speed).toNat % 65536 * 4096 : Nat), m.corr) })) ∧
  (∀ m s v, v = s.at m.t → m.port < 2 → v.portOpen m.port = true → v.vidKnown m.vid = true → v.ptpOn = true → m.domain = v.ptm.cfg.domain → bit v.ptm.cfg.ports m.port = true →
      tabGet 0 v.net.vlan (v.ptpVlan m.port) % 4096 = m.vid → -7 ≤ m.logInterval → m.logInterval ≤ 1 → m.twoStep = false → exec (.ptpSync m) s = .next
      (let w := v.onMac m.port fun x => { x with rxFrame := x.rxFrame + 1 }
       (w.onPtp m.port fun q => { q with syncInt := m.logInterval }).sync m.port m.source (m.stamp + m.corr)
         (m.rx - ((Config.ptmLat (m.port == 1) (w.mac m.port).speed).toNat % 65536 * 4096 : Nat)))) ∧
  (∀ m rx corr s v, v = s.at m.t → m.port < 2 → v.portOpen m.port = true → v.vidKnown m.vid = true → v.ptpOn = true → m.domain = v.ptm.cfg.domain → bit v.ptm.cfg.ports m.port = true →
      tabGet 0 v.net.vlan (v.ptpVlan m.port) % 4096 = m.vid → (v.ptpPort m.port).wait = some (m.seq, rx, corr) → exec (.ptpFollowUp m) s = .next
      (let w := v.onMac m.port fun x => { x with rxFrame := x.rxFrame + 1 }
       (w.onPtp m.port fun q => { q with wait := none }).sync m.port m.source (m.stamp + corr + m.corr) rx)) ∧
  (∀ m t3 s v, v = s.at m.t → m.port < 2 → v.portOpen m.port = true → v.vidKnown m.vid = true → v.ptpOn = true → m.domain = v.ptm.cfg.domain → bit v.ptm.cfg.ports m.port = true →
      tabGet 0 v.net.vlan (v.ptpVlan m.port) % 4096 = m.vid → m.source = (v.ptpPort m.port).parent → ((v.ptpPort m.port).reqs.find? fun r => r.1 == m.seq) = some (m.seq, t3) → exec (.ptpDelayResp m) s = .next
      (let w := v.onMac m.port fun x => { x with rxFrame := x.rxFrame + 1 }
       w.onPtp m.port fun q => { q with
         resp := some (t3, m.stamp - m.corr, w.now), reqInt := max (-7) m.logInterval, reqs := q.reqs.filter fun r => r.1 != m.seq })) ∧
  (∀ t port tx s f v, v = s.at t → v.mayAsk port = true → f = { TxFrame.made 7 (v.delayDst port) 319 (.delayReq (v.ptpPort port).nextReq) with vlan := v.ptpVlan port } →
      (v.startFrame port f).1 = true → exec (.ptpDelayReqSend t port tx) s = .next 
      (let seq := (v.ptpPort port).nextReq
       let lat := (Config.ptmLat (port == 1) (v.mac port).speed).toNat / 65536 * 4096
       (v.startFrame port f).2.onPtp port fun q =>
         { q with reqs := ((seq, tx + lat) :: q.reqs).take 16, nextReq := (seq + 1) % 65536, reqAt := some v.now })) ∧
  (∀ t port tx s f v, v = s.at t → v.mayAsk port = true → f = { TxFrame.made 7 (v.delayDst port) 319 (.delayReq (v.ptpPort port).nextReq) with vlan := v.ptpVlan port } →
      (v.startFrame port f).1 = false → exec (.ptpDelayReqSend t port tx) s = .next (v.startFrame port f).2) ∧
  (∀ t port s v, v = s.at t → port < 2 → v.ptpOn = true → ((v.ptpPort port).foreign.any fun x => decide (x.heardAt + x.ann.timeout ≤ v.now)) = true → exec (.announceTimeout t port) s = .next
      (v.setMasters port ((v.ptpPort port).foreign.filter fun x => decide (v.now < x.heardAt + x.ann.timeout)))) ∧
  (∀ t port s v, v = s.at t → ((v.ptpPort port).foreign.any fun x => decide (x.heardAt + x.ann.timeout ≤ v.now)) = false → exec (.announceTimeout t port) s = .next v) ∧
  (∀ t s v, v = s.at t → v.ptm.a.silent v.now 1000000000 = true → v.ptm.b.silent v.now 1000000000 = true → v.rendering = true → v.ptm.lost = false → Leads (.syncTimeout t) s fun u => u.ptm.lost = true ∧ u.ptm.lock = 3 ∧ u.ptm.lossCnt = v.ptm.lossCnt + 1 ∧ bit u.ptm.evt.toNat 1 = true ∧ u.dblt.settings = v.dblt.settings) ∧
  (∀ t s c v, v = s.at t → v.ptpOn = true → v.seesGm (if v.ptm.activeB then v.ptm.a else v.ptm.b) = true → (c = if v.ptm.activeB then v.ptm.b else v.ptm.a) → c.silent v.now (4 * logNs c.syncInt) = true → exec (.ptpPortSwitch t) s = .next { v with ptm := { v.ptm with activeB := !v.ptm.activeB, evt := setBit v.ptm.evt 6 } }) ∧
  (∀ t s v, v = s.at t → v.imageRuns = true → v.powered = true → (v.gate 10).st = .opened → v.ptm.edgeRise = none → v.ptm.scene = none → exec (.frameStbEdge t false) s = .next { v with ptm := { v.ptm with edgeRise := some v.now, riseAt := some v.media.toNat } }) ∧
  (∀ t s sc v, v = s.at t → v.imageRuns = true → v.powered = true → (v.gate 10).st = .opened → v.ptm.edgeFall = none → v.ptm.scene = some sc → sc.falling = true → (sc.strobe && v.ticking) = false → exec (.frameStbEdge t true) s = .next { v with ptm := { v.ptm with edgeFall := some v.now, fallAt := some v.media.toNat, strobeLive := true } }) ∧
  (∀ t s sc v, v = s.at t → v.imageRuns = true → v.powered = true → (v.gate 10).st = .opened → v.ptm.edgeFall = none → v.ptm.scene = some sc → sc.falling = true → sc.strobe = true → v.ticking = true → exec (.frameStbEdge t true) s = .next
      (State.judgeEdge { v with ptm := { v.ptm with edgeFall := some v.now, fallAt := some v.media.toNat, strobeLive := true } } sc v.media.toNat)) ∧
  (∀ t s l v, v = s.at t → v.ptm.edgeRise = some l → v.now ≤ l + 1000 → exec (.frameStbEdge t false) s = .next v) ∧
  (∀ t s sc e v, v = s.at t → v.ptm.scene = some sc → v.ptm.strobeLive = true → v.lastEdge sc = some e → (e + sc.twoFrames : Int) ≤ v.media → exec (.strobeSilent t) s = .next { v with ptm := { v.ptm with strobeLive := false, evt := if sc.strobe then setBit v.ptm.evt 7 else v.ptm.evt } }) ∧
  (∀ t s v, v = s.at t → v.ptm.scene = none → exec (.strobeSilent t) s = .next v)

/-- Media and S-ADM packets reach every entry they match, and packets and relayed frames leave as the rules say. R398, R404 to R406,
R409, R411, R412. -/
def Obligations.MediaEventsAct : Prop :=
  (∀ u s v, v = s.at u.t → u.port < 2 → v.portOpen u.port = true → v.vidKnown u.vid = true → udpLen u.body.length (u.vid != 0) ≤ 1522 → v.ticking = true → exec (.st2110Packet u) s = .next
      (let w := v.onMac u.port fun x => { x with rxFrame := x.rxFrame + 1 }
       (v.rxEntries.filter fun e => v.fiMatch 0 e.2 u (rtpOf u.body)).foldl (fun w e => w.audioPacket e.1 u.port e.2 (rtpOf u.body)) w)) ∧
  (∀ u s v, v = s.at u.t → u.port < 2 → v.portOpen u.port = true → v.vidKnown u.vid = true → udpLen u.body.length (u.vid != 0) ≤ 1522 → v.ticking = false → exec (.st2110Packet u) s = .next (v.onMac u.port fun x => { x with rxFrame := x.rxFrame + 1 })) ∧
  (∀ u fs s v, v = s.at u.t → u.port < 2 → v.portOpen u.port = true → v.vidKnown u.vid = true → udpLen u.body.length (u.vid != 0) ≤ 1522 → v.ticking = true → exec (.sadmPacket u fs) s = .next
      (let w := v.onMac u.port fun x => { x with rxFrame := x.rxFrame + 1 }
       (v.flowsIn.filter fun e => v.fiMatch 1 e.2 u (rtpOf u.body)).foldl (fun w e => w.sadmPart e.1 u.port e.2 (rtpOf u.body) fs) w)) ∧
  (∀ t e i s v, v = s.at t → v.streams = true → frOn (v.flowOut e) = true → frKind (v.flowOut e) = 0 → i = v.stamp (v.flowOut e) (tabGet 0 v.rnd.pktNext e) → v.packetReady (v.flowOut e) i = true → (v.launchTime (v.flowOut e) i : Int) ≤ v.media → exec (.mediaPacketLaunch t e) s = .next
      (let r := v.flowOut e
       let body := rtpBytes (foPt r) ((i / frLen v.rnd.rate96 r + foSeq r) % 65536) (i % 2 ^ 32) (foSsrc r) false (v.packetBody r i)
       State.sendFlow { v with rnd := { v.rnd with pktNext := tabSet 0 v.rnd.pktNext e (tabGet 0 v.rnd.pktNext e + 1) } }
         e 6 r (v.launchTime r i) body)) ∧
  (∀ t e s f v, v = s.at t → (v.net.relayed.find? fun f => f.1 == e) = some f → (v.rendering = false ∨ frOn (v.flowOut e) = false ∨ frKind (v.flowOut e) ≠ 1) → exec (.sadmRelaySend t e) s = .next { v with net := { v.net with relayed := v.net.relayed.erase f } }) ∧
  (∀ t e b ts s v, v = s.at t → (v.net.relayed.find? fun f => f.1 == e) = some (e, [b], ts) → v.streams = true → frOn (v.flowOut e) = true → frKind (v.flowOut e) = 1 → exec (.sadmRelaySend t e) s = .next
      (let r := v.flowOut e
       let seq := tabGet 0 v.net.relaySeq e
       let up := (2 * v.fixed125 * 90000 + v.fs) / (2 * v.fs)
       State.sendFlow { v with net := { v.net with
           relayed := v.net.relayed.erase (e, [b], ts), relaySeq := tabSet 0 v.net.relaySeq e ((seq + 1) % 65536) } } e 5 r 0
         (rtpBytes (foPt r) ((seq + foSeq r) % 65536) ((ts + up) % 2 ^ 32) (foSsrc r) true b)))

/-- Twin messages and timers do what the twin rules say. R309 to R326, R385. A message whose number has come before is discarded. -/
def Obligations.TwinEventsAct : Prop :=
  (∀ t p s v, v = s.at t → v.twinOn = true → v.portServes p.port = true → exec (.tumblerSend t p) s = .next
      (v.post p.port (.made 4 (if p = .hasp then v.haspPeer else v.twn.group) v.twn.port (.twin p 0 24 (.tumbler v.tumbler.bytes))))) ∧
  (∀ m : Tumbler, m.bytes.length = 24) ∧
  (∀ t p m s v, v = s.at t → v.portServes p.port = true → v.twinOn = true → (p = .hasp → v.imageRuns = true) → exec (.tumblerRx t p m) s = .next
      (let w := v.onMac p.port fun x => { x with rxFrame := x.rxFrame + 1 }
       let w := if w.seesPeer then w else { w with twn := { w.twn with seenSeq := [] } }
       let w := if w.pathUp p then w else w.twnEvt 1
       let w := w.setPath p true
       let w := { w with twn := { w.twn with peer := some m } }
       ((((w.peerChecks m).peerYields m).peerReturns m).startJoin m).refChange.planStart)) ∧
  (∀ t m s v, v = s.at t → v.portOpen 3 = true → v.imageRuns = false → exec (.tumblerRx t .hasp m) s = .next
      (let w := v.onMac 3 fun x => { x with rxFrame := x.rxFrame + 1 }
       { w with twn := { w.twn with logged := (m :: w.twn.logged).take 64 } })) ∧
  (∀ t p s v, v = s.at t → v.twinOn = true → (v.pathUp p && (v.missOne p).missedOut p) = false → exec (.tumblerMiss t p) s = .next (v.missOne p)) ∧
  (∀ t p s v, v = s.at t → v.twinOn = true → v.pathUp p = true → (v.missOne p).missedOut p = true → exec (.tumblerMiss t p) s = .next
      (let w := ((v.missOne p).setPath p false).twnEvt 1
       let w := if p = .hasp then w.joinFail else w
       if w.seesPeer then w else w.losePeer)) ∧
  (∀ t q p m s v, v = s.at t → v.portServes p.port = true → v.twinOn = true → v.twn.decider = true → exec (.mirrorRx t q p m) s = .next (v.onMac p.port fun x => { x with rxFrame := x.rxFrame + 1 })) ∧
  (∀ t q p m s v, v = s.at t → v.portServes p.port = true → v.twinOn = true → v.twn.decider = false → v.twn.seenSeq.contains (2, q) = false → exec (.mirrorRx t q p m) s = .next
      (let w := v.onMac p.port fun x => { x with rxFrame := x.rxFrame + 1 }
       let w := w.sendTwin (.ack m.mseq) 8
       State.takeMirror { w with twn := { w.twn with seenSeq := ((2, q) :: w.twn.seenSeq).take 65536 } } m)) ∧
  (∀ t q p m s v, v = s.at t → v.portServes p.port = true → v.twinOn = true → v.twn.decider = false → v.twn.seenSeq.contains (2, q) = true → exec (.mirrorRx t q p m) s = .next ((v.onMac p.port fun x => { x with rxFrame := x.rxFrame + 1 }).sendTwin (.ack m.mseq) 8)) ∧
  (∀ t q p m s v, v = s.at t → v.portServes p.port = true → v.twinOn = true → v.twn.seenSeq.contains (3, q) = false → exec (.ackRx t q p m) s = .next
      (let w := v.onMac p.port fun x => { x with rxFrame := x.rxFrame + 1 }
       { w with twn := { w.twn with seenSeq := ((3, q) :: w.twn.seenSeq).take 65536, unacked := w.twn.unacked.filter fun x => x.2.mseq != m } })) ∧
  (∀ t s v, v = s.at t → v.twinOn = true → v.seesPeer = true → exec (.mirrorRetx t) s = .next (v.twn.unacked.foldl State.resend v)) ∧
  (∀ t s v, v = s.at t → (v.twinOn && v.seesPeer) = false → exec (.mirrorRetx t) s = .next v) ∧
  (∀ t q p n op body fl when s v, v = s.at t → v.portServes p.port = true → v.twinOn = true → v.twn.seenSeq.contains (6, q) = false → exec (.relayRx t q p (.relay n op body fl when)) s = .next
      (let w := v.onMac p.port fun x => { x with rxFrame := x.rxFrame + 1 }
       State.relayed { w with twn := { w.twn with seenSeq := ((6, q) :: w.twn.seenSeq).take 65536 } } n op body fl when)) ∧
  (∀ t q p n st pl d s v, v = s.at t → v.portServes p.port = true → v.twinOn = true → v.twn.seenSeq.contains (6, q) = false → exec (.relayRx t q p (.answer n st pl d)) s = .next
      (let w := v.onMac p.port fun x => { x with rxFrame := x.rxFrame + 1 }
       State.relayAnswer { w with twn := { w.twn with seenSeq := ((6, q) :: w.twn.seenSeq).take 65536 } } n st pl d)) ∧
  (∀ t q p c s v, v = s.at t → v.portServes p.port = true → v.twinOn = true → v.twn.seenSeq.contains (4, q) = false → (v.twn.checking || v.twn.join.isSome) = true → exec (.checkRx t q p c) s = .next
      (let w := v.onMac p.port fun x => { x with rxFrame := x.rxFrame + 1 }
       State.compareChecks { w with twn := { w.twn with seenSeq := ((4, q) :: w.twn.seenSeq).take 65536, theirs := w.twn.theirs ++ [c] } } c.tick)) ∧
  (∀ t q p n clean s v, v = s.at t → v.portServes p.port = true → v.twinOn = true → v.twn.seenSeq.contains (5, q) = false → v.twn.state = .lockstep → exec (.verdictRx t q p n clean) s = .next
      (let w := v.onMac p.port fun x => { x with rxFrame := x.rxFrame + 1 }
       State.actOnVerdict { w with twn := { w.twn with seenSeq := ((5, q) :: w.twn.seenSeq).take 65536, peerVerdict := some (n, clean) } } false)) ∧
  (∀ t s n clean t0 v, v = s.at t → v.twn.verdict = some (n, clean, t0) → v.twn.decider = true → t0 + 1000000 ≤ v.now → exec (.verdictTimeout t) s = .next (v.actOnVerdict true)) ∧
  (∀ t s x j v, v = s.at t → v.rnd.joinSnap = some x → v.twn.join = some j → v.twn.haspUp = true → x.tick < v.rnd.nextOut → x.tick ≤ v.rnd.lastTick + 1 → exec (.snapshotSend t) s = .next
      (State.sendSnapshot { v with rnd := { v.rnd with joinSnap := none }, twn := { v.twn with join := some { j with snap := true } } } x)) ∧
  (∀ t q x s j v, v = s.at t → v.portServes 3 = true → v.twinOn = true → v.twn.seenSeq.contains (7, q) = false → v.twn.join = some j → v.twn.state = .joining → v.rendering = true → j.snap = false → x.tick = j.k → v.tick + 1 = j.k → exec (.snapshotRx t q x) s = .next
      (let w := v.onMac 3 fun x => { x with rxFrame := x.rxFrame + 1 }
       State.loadSnap { w with twn := { w.twn with seenSeq := ((7, q) :: w.twn.seenSeq).take 65536 } } x j)) ∧
  (∀ t s v, v = s.at t → v.sys.mode = .locking → v.twn.state = .seeking → v.twn.ready = true → v.timeLocked = true → v.rnd.startAt = none → v.peerBars = false → v.peerWaits = true → v.twn.readyAt + v.twn.wait * 1000000000 ≤ v.now → exec (.twinWaitExpiry t) s = .next (v.planAt v.now .alone)) ∧
  (∀ t s v, v = s.at t → v.twn.state = .joining → v.rendering = true → v.twn.join = none → 16 * v.rnd.startS + v.fs / 5 ≤ v.sampleNow → exec (.joinReqSend t) s = .next { v with twn := { v.twn with joinReq := true } }) ∧
  (∀ t s j v, v = s.at t → v.twn.join = some j → j.matched = 0 → 16 * j.k + 10 * v.fs ≤ v.sampleNow → exec (.joinFailTimeout t) s = .next v.joinFail) ∧
  (∀ t s r v, v = s.at t → v.twn.retryAt = some r → r ≤ v.now → v.twn.state = .seeking → v.twn.autoJoin = true → v.rendering = true → exec (.autoJoinRetry t) s = .next { v with twn := { v.twn with state := .joining, joinReq := true, want := false, retryAt := none } }) ∧
  (∀ t s r v, v = s.at t → v.twn.retryAt = some r → r ≤ v.now → v.twn.state = .seeking → v.twn.autoJoin = true → v.rendering = false → exec (.autoJoinRetry t) s = .next (State.planStart { v with twn := { v.twn with retryAt := none } }))

/-- A tick boundary applies every action whose time it is, and the start boundary starts the tick. R43 to R51, R89, R149, R173 to
R175, R286, R313, R360, R382 to R385, R476. The order among actions of one boundary is the model's where no rule gives it (log
entry 52). -/
def Obligations.BoundariesApplyTheirActions : Prop :=
  (∀ s v, s.ticking = true → s.joinerWaits (s.tick + 1) = false → v = (s.at (s.nsOfSample (16 * (s.tick + 1)))).applyMoves → v.intg.yieldPend = none → v.rnd.stopAt = none → exec .tickBoundary s = .next (State.applyBoundary { v with tick := s.tick + 1 } (s.tick + 1))) ∧
  (∀ s v n r, s.ticking = true → s.joinerWaits (s.tick + 1) = false → v = (s.at (s.nsOfSample (16 * (s.tick + 1)))).applyMoves → v.intg.yieldPend = some (n, r) → n ≤ s.tick + 1 → exec .tickBoundary s = .next (State.takeYield { v with tick := s.tick + 1 })) ∧
  (∀ s v n, s.ticking = true → s.joinerWaits (s.tick + 1) = false → v = (s.at (s.nsOfSample (16 * (s.tick + 1)))).applyMoves → v.intg.yieldPend = none → v.rnd.stopAt = some n → n = s.tick + 1 → Leads .tickBoundary s fun u => u.tick = n ∧ u.pwr.stepNo = 1 ∧ u.pwr.transAt = v.now ∧ u.dac.clamped = true ∧ u.rnd.open_ = [] ∧
      u.sys = s.sys ∧ u.dblt = s.dblt) ∧
  (∀ s, s.ticking = true → s.joinerWaits (s.tick + 1) = true → exec .tickBoundary s = .next s) ∧
  (∀ s n v, s.rnd.startAt = some n → s.sys.mode = .locking → s.pwr.off = false → v = s.at (s.nsOfSample (16 * n)) → v.intg.yieldPend.isSome = true → exec .startBoundary s = .next v.takeYield) ∧
  (∀ s n v, s.rnd.startAt = some n → s.sys.mode = .locking → s.pwr.off = false → v = s.at (s.nsOfSample (16 * n)) → v.intg.yieldPend = none → (v.twn.state = .off ∨ v.peerBars = false) → Leads .startBoundary s fun u => u.sys.mode = (if s.pwr.fromPaused then .paused else .render) ∧ u.tick = n ∧ u.rnd.startS = n ∧
      u.rnd.startAt = none ∧ u.dblt.locked = true ∧ u.dblt.settings = s.dblt.settings ∧ u.dblt.digest = s.dblt.digest ∧ u.rnd.nextIn = n ∧
      u.rnd.nextOut = n ∧ u.rnd.level = (if s.pwr.fromPaused then 0 else 64)) ∧
  (∀ s n v, s.rnd.startAt = some n → s.sys.mode = .locking → s.pwr.off = false → v = s.at (s.nsOfSample (16 * n)) → v.intg.yieldPend = none → v.twn.state ≠ .off → v.peerBars = true → exec .startBoundary s = .next { v with rnd := { v.rnd with startAt := none } }) ∧
  (∀ s, s.ticking = true → exec .corFadeEnd s = .next ((s.cor.running.filter fun r => r.feeds.any fun f =>
      (s.feedCor f).hinge.any fun h => decide (fadeEnd h.start h.fade ≤ s.boundaryNow)).foldl State.corEnd s)) ∧
  (∀ s h, s.ticking = true → s.rte.hinge = some h → fadeEnd h.start h.fade ≤ s.boundaryNow → exec .routeHingeEnd s = .next { s with rte := { s.rte with
      bank := 1 - s.rte.bank, hinge := none, evt := setBit s.rte.evt 3, hingeCnt := s.rte.hingeCnt + 1 } }) ∧
  (∀ s h, s.ticking = true → s.rte.hinge = some h → s.boundaryNow < fadeEnd h.start h.fade → exec .routeHingeEnd s = .next s) ∧
  (∀ flow s, tabGet none s.obj.frameAt flow = none → exec (.objStale flow) s = .next s) ∧
  (∀ flow s f, s.ticking = true → frOn (s.flowIn flow) = true → frKind (s.flowIn flow) = 1 → tabGet none s.obj.frameAt flow = some f → f + s.holdSamples flow < 16 * s.tick → Leads (.objStale flow) s fun u => u.sys = s.sys ∧ u.dblt = s.dblt ∧ u.tick = s.tick ∧
      u.obj.objs = tabMap ObjCtx.reset (fun c => if (c.flow == some flow && c.stale == .no) then c.goStale (tabGet MetaPol.reset s.obj.pol flow).fade s.tick else c)
        s.obj.objs)

/-- Span changes, modulator resets and the clamps of the monitor outputs follow their instants. R509, R512, R514, R515, R517. -/
def Obligations.MonitorEventsAct : Prop :=
  (∀ t s r v, v = s.at t → v.dac.reqs = [r] → r.phase ≠ 0 → r.switched = false → v.atConnector (16 * r.start + 96) = true → exec (.dacSpanSwitch t) s = .next (State.setSpan { v with dac := { v.dac with reqs := [{ r with switched := true }] } } r.mask r.span)) ∧
  (∀ t s r v, v = s.at t → v.dac.reqs = [r] → r.phase = 1 → 16 * r.start + 64 + v.spanZ ≤ v.sampleNow → exec (.dacSpanFadeUp t) s = .next (State.answer { v with dac := { v.dac with reqs := [{ r with phase := 3 }] } } r.ref .ok true false (leB 8 r.start))) ∧
  (∀ t s r e v, v = s.at t → v.dac.reqs = [r] → r.phase = 3 → e = r.start + (128 + v.spanZ) / 16 → 16 * e ≤ v.sampleNow → exec (.dacSpanDone t) s = .next
      (let w := { v with dac := { v.dac with reqs := [], evt := setBit v.dac.evt 0 } }
       if e ≤ v.tick then w.spanStart e else w)) ∧
  (∀ t ch s v, v = s.at t → v.dac.running = true → ch < 16 → exec (.modulatorReset t ch) s = .next { v with dac := { v.dac with modrstCnt := v.dac.modrstCnt + 1, evt := setBit v.dac.evt 3 } }) ∧
  (∀ t s v, v = s.at t → v.rendering = true → v.dac.clamped = true → v.atConnector (16 * v.rnd.startS) = true → exec (.dacClampOpen t) s = .next { v with dac := { v.dac with clamped := false } })

/-- Render slots open, ticks run late, and work units are submitted, dispatched, committed and retried as the rules say. R30 to R38,
R242 to R254, R257 to R269. -/
def Obligations.SlotsAndDispatchAct : Prop :=
  (∀ t s x v, v = s.at t → v.openTick v.rnd.nextIn = some x → v.ticking = true → 16 * v.rnd.nextIn + 16 + v.rte.ingress ≤ v.sampleNow → exec (.ingressDeadline t) s = .next (v.slotOpens x)) ∧
  (∀ t s x v, v = s.at t → (v.rnd.open_.find? fun x => !x.late) = some x → v.ticking = true → v.deadline x.tick ≤ v.sampleNow → exec (.nominalDeadline t) s = .next
      (let w := v.onOpen x.tick fun y => { y with late := true }
       let w := if w.schedLate then w else w.becomeLate
       { w with rnd := { w.rnd with epRun := w.rnd.epRun + 1, lateCnt := w.rnd.lateCnt + 1, evt := setBit w.rnd.evt 0 } })) ∧
  (∀ t s x v, v = s.at t → (v.rnd.open_.find? fun x => x.late) = some x → v.schedLate = true → exec (.shedWiden t) s = .next
      (let g := max v.rnd.largest (v.lateness x.tick)
       let m := max v.rnd.shed (if 16 ≤ g then 15 else if 8 ≤ g then 7 else if 4 ≤ g then 3 else 1)
       { v with rnd := { v.rnd with largest := g, shed := m }, disp := { v.disp with shed := m } })) ∧
  (∀ t core d s v, v = s.at t → v.dispRuns = true → descOk d = false → exec (.unitSubmit t core d) s = .next ((((v.submitAt core).dispEvt 5).logOpen 16 6).decideYield 4)) ∧
  (∀ t core d s v, v = s.at t → v.dispRuns = true → descOk d = true → (parseDesc d).kind ≠ 3 → v.occupancy (kindClass (parseDesc d).kind) < classRoom (kindClass (parseDesc d).kind) → exec (.unitSubmit t core d) s = .next ((v.submitAt core).takeUnit (parseDesc d))) ∧
  (∀ t core d s v, v = s.at t → v.dispRuns = true → descOk d = true → (parseDesc d).kind ≠ 3 → classRoom (kindClass (parseDesc d).kind) ≤ v.occupancy (kindClass (parseDesc d).kind) → exec (.unitSubmit t core d) s = .next ((v.submitAt core).refuseUnit core d (kindClass (parseDesc d).kind == 0))) ∧
  (∀ t core d s v, v = s.at t → v.dispRuns = true → descOk d = true → (parseDesc d).kind = 3 → v.submitsKrn (parseDesc d) = true → v.occupancy 2 < classRoom 2 → exec (.unitSubmit t core d) s = .next (State.takeUnit (let w := v.submitAt core
       { w with disp := { w.disp with krnNext := tabSet 0 w.disp.krnNext (32 * (parseDesc d).slot + (parseDesc d).shard) ((parseDesc d).tick + 1) } }) (parseDesc d))) ∧
  (∀ t core d s v, v = s.at t → v.dispRuns = true → descOk d = true → (parseDesc d).kind = 3 → v.submitsKrn (parseDesc d) = false → exec (.unitSubmit t core d) s = .next v) ∧
  (∀ t s v, v = s.at t → v.dispRuns = true → exec (.submitRetry t) s = .next ((v.disp.refusedUnits.filter fun e => kindClass (rd8 e.2 4) == 0).foldl (fun w e => w.submit e.1 e.2)
      { v with disp := { v.disp with refusedUnits := v.disp.refusedUnits.filter fun e => !(kindClass (rd8 e.2 4) == 0) } })) ∧
  (∀ t s v, v = s.at t → v.dispRuns = true → exec (.unitDispatch t) s = .next ((List.range 34).foldl (fun w k => match w.choose k with
      | some u => w.dispatch k u
      | none => w) v.rouse)) ∧
  (∀ t e s u v, v = s.at t → v.unitOn e.engine = some u → v.dispRuns = true → (v.engine e.engine).st = .run → u.d.kind ≠ 3 → injFires (v.engine e.engine).inj.toNat u.d.kind = false → v.overLimit e.engine u = false → exec (.unitCommit t e) s = .next
      (let w := (v.freeStalls e.engine).unitEnds e.engine u true
       (if u.d.kind = 0 && !v.ringFired u.d.tick u.d.arg && w.ringFired u.d.tick u.d.arg then
         (e.ring.filter fun k => k == 1 || k == 2).foldl State.ringFault w else w))) ∧
  (∀ t k s u v, v = s.at t → v.unitOn k = some u → v.dispRuns = true → (v.engine k).st = .run → u.d.kind ≠ 3 → injFires (v.engine k).inj.toNat u.d.kind = false → v.overLimit k u = false → exec (.unitEndNoCommit t k) s = .next ((v.freeStalls k).unitEnds k u false)) ∧
  (∀ t k s u v, v = s.at t → v.unitOn k = some u → v.dispRuns = true → (v.engine k).st = .run → u.d.kind ≠ 3 → injFires (v.engine k).inj.toNat u.d.kind = true → exec (.unitEndNoCommit t k) s = .next (v.vendorFails k u (bits (v.engine k).inj.toNat 1 0))) ∧
  (∀ t k s u v, v = s.at t → v.unitOn k = some u → v.dispRuns = true → (v.engine k).st = .run → u.d.kind ≠ 3 → injFires (v.engine k).inj.toNat u.d.kind = false → v.overLimit k u = true → exec (.unitEndNoCommit t k) s = .next (v.vendorFails k u 4)) ∧
  (∀ t k l s u c commit v, v = s.at t → v.unitOn k = some u → v.dispRuns = true → (v.engine k).st = .run → u.d.kind = 3 → v.krnRun k u.d = .done c commit → exec (.unitCommit t { engine := k, ring := l }) s = .next ((v.krnEnds k u.d c commit).unitEnds k u commit)) ∧
  (∀ t k s u c commit v, v = s.at t → v.unitOn k = some u → v.dispRuns = true → (v.engine k).st = .run → u.d.kind = 3 → v.krnRun k u.d = .done c commit → exec (.unitEndNoCommit t k) s = .next ((v.krnEnds k u.d c commit).unitEnds k u commit)) ∧
  (∀ t k kind f s u v, v = s.at t → v.unitOn k = some u → v.dispRuns = true → (v.engine k).st = .run → u.d.kind ≠ 3 → 1 ≤ kind → kind ≤ 3 → exec (.unitFault t k kind f) s = .next ((v.freeStalls k).unitFails k u kind f.addr f.lane)) ∧
  (∀ t k f s u v, v = s.at t → v.unitOn k = some u → v.dispRuns = true → (v.engine k).st = .run → u.d.kind = 0 → exec (.unitFault t k 5 f) s = .next (v.pairParity k u f.addr)) ∧
  (∀ t k s u v, v = s.at t → v.unitOn k = some u → v.dispRuns = true → (v.engine k).st = .run → v.overLimit k u = true → u.d.kind ≠ 3 → exec (.budgetInterrupt t k) s = .next (v.vendorFails k u 4)) ∧
  (∀ t k s u c v, v = s.at t → v.unitOn k = some u → v.dispRuns = true → (v.engine k).st = .run → v.overLimit k u = true → u.d.kind = 3 → v.krnRun k u.d = .overrun c → exec (.budgetInterrupt t k) s = .next ((v.cpuStops k c).krnOverrun k u)) ∧
  (∀ t k s u v, v = s.at t → v.unitOn k = some u → v.dispRuns = true → (v.engine k).st = .run → v.overLimit k u = false → exec (.budgetInterrupt t k) s = .next v) ∧
  (∀ t k s v, v = s.at t → v.tap.testEn = true → (v.engine k).st = .run → exec (.haltRequest t k) s = .next (v.onEngine k fun e => { e with st := .halt, haltAt := v.now })) ∧
  (∀ t k s v, v = s.at t → v.tap.testEn = false → exec (.haltRequest t k) s = .next v) ∧
  (∀ t k s v, v = s.at t → (v.engine k).st = .halt → exec (.haltRelease t k) s = .next (v.onEngine k fun e => { e with st := .run, frozen := e.frozen + (v.now - e.haltAt) })) ∧
  (∀ g s n t0 v, v = s.at g.t → v.pan.building = some (n, t0) → v.dispRuns = true → exec (.geometryBankComplete g) s = .next
      (let b := v.buildGeom n
       let w := (g.faults.filter fun k => k == 1 || k == 2).foldl State.geomFault (v.geomEvents b)
       let d := min 0x3FFFF (v.now - t0)
       (State.geomKick { w with pan := { w.pan with
         pairs := b.pairs, norm := b.norm, first := false, ready := some n, building := none, geomLast := d, geomMax := max w.pan.geomMax d } }).rouse))

/-- Egress reads every feed through the deadbolt, judges the DC windows and holds feeds whose settings fail. R286, R295, R297, R302. -/
def Obligations.EgressAndDeadboltEventsAct : Prop :=
  (∀ t s v, v = s.at t → v.sys.mode = .yielded → exec (.egressReadout t) s = .next v.yieldOut) ∧
  (∀ t s v, v = s.at t → v.sys.mode ≠ .yielded → v.ticking = true → v.readoutDue = true → exec (.egressReadout t) s = .next
      (let w := v.dcJudge.snapFeeds
       let n := w.rnd.nextOut
       let w := ((List.range (feedCount w.rnd.rate96)).foldl (fun w f => w.readFeed f n) w).dacOut n
       { w with rnd := { w.rnd with nextOut := n + 1 } })) ∧
  (∀ t s v, v = s.at t → v.ticking = true → exec (.dcWindowEnd t) s = .next v.dcJudge) ∧
  (∀ t f s v, v = s.at t → v.domainOn 2 = true → v.unpowered = false → f < feedCount v.rnd.rate96 → (v.dbFeed f).held = false → exec (.dbltParityCheck t { feeds := [f], words := 0 }) s = .next
      (let w := ((v.setDbFeed f { v.dbFeed f with held := true }).dbltEvt 0).countCheck 1
       (w.logFault 15 w.selfOutcome 0x104 f).selfFault)) ∧
  (∀ t n s v, v = s.at t → v.domainOn 2 = true → v.unpowered = false → n ≠ 0 → exec (.dbltParityCheck t { feeds := [], words := n }) s = .next { v with intg := { v.intg with parityCnt := v.intg.parityCnt + wd n, evt := setBit v.intg.evt 0 } }) ∧
  (∀ t s v, v = s.at t → v.domainOn 2 = true → v.unpowered = false → exec (.dbltParityCheck t { feeds := [], words := 0 }) s = .next v)

/-- Blocks are aligned or abandoned, captures stop being live and rounds are held as the rules say. R202, R203, R208, R215, R218. -/
def Obligations.CalibrationEventsAct : Prop :=
  (∀ t f b s c v, v = s.at t → v.calFeed f = some c → v.ticking = true → v.dispatchable 1 = true → c.stopped = false → v.blockDue c b = true → v.cal.aligned.contains (f, b) = false →
      v.blockLost c b = false → v.blockIn c b = true → exec (.calAlignStart t f b) s = .next
      (let r := blockRange v.rnd.rate96 c b
       let xs := (List.range (r.2 - r.1)).map fun k => v.capSample c.cap (r.1 + k)
       let clip := xs.any fun x => x.any capClips
       let w := { v with cal := { v.cal with caps := tabSet CapChan.reset v.cal.caps c.cap { v.cap c.cap with clip } } }
       if clip || xs.any Option.isNone || v.blockFaded f b then State.endBlock { w with cal := { w.cal with rejectCnt := w.cal.rejectCnt + 1 } } f b
       else { w with cal := { w.cal with aligned := w.cal.aligned ++ [(f, b)] } })) ∧
  (∀ t f b s c v, v = s.at t → v.calFeed f = some c → v.blockDue c b = true → (blockRange v.rnd.rate96 c b).1 + v.capHist ≤ v.sampleNow → exec (.calBlockAbandon t f b) s = .next
      (State.calEvt (State.endBlock { v with cal := { v.cal with abandonCnt := v.cal.abandonCnt + 1 } } f b) 5)) ∧
  (∀ t ch s v, v = s.at t → (v.cap ch).live = true → ((v.cap ch).last.all fun l => decide (l + 100000000 ≤ v.now)) = true → exec (.captureNotLive t ch) s = .next { v with cal := { v.cal with
      caps := tabSet CapChan.reset v.cal.caps ch { v.cap ch with live := false }, evt := setBit v.cal.evt 4 } }) ∧
  (∀ s, s.sys.mode = .liveProbe → s.ticking = true → s.holdsRounds = true → s.cal.lastRound ≠ some s.tick → 16 * s.tick % (s.cal.policy.period * s.fs) = 0 → exec .calDecisionRound s = .next
      (let w := ((s.cal.feeds.filter fun e => e.2.isSome).map (·.1)).foldl (fun w f => w.roundFeed s.tick f)
         { s with cal := { s.cal with lastRound := some s.tick } }
       w.onOpen s.tick fun o => { o with cal := { o.cal with feeds := w.cal.feeds, lastSeq := w.cal.lastSeq } })) ∧
  (∀ s, (s.sys.mode ≠ .liveProbe ∨ s.holdsRounds = false ∨ s.cal.lastRound = some s.tick) → exec .calDecisionRound s = .next s)

/-- DRAM training, refresh, tracking, scrubbing and fabric timeouts are recorded as the rules say. R278, R284, R484 to R499. The
training time is a free value (log entry 78). -/
def Obligations.DramAndFabricEventsAct : Prop :=
  (∀ t s v, v = s.at t → v.sys.mode = .cold → v.pwr.off = false → v.pwr.resetLow = false → v.ddr.next0 < 9 → v.ddr.next1 ≠ 10 → exec (.dramTrainingStep t 0 true) s = .next { v with ddr := { v.ddr with
      next0 := v.ddr.next0 + 1, tries0 := if v.ddr.next0 = 0 then v.ddr.tries0 + 1 else v.ddr.tries0, trained0 := false } }) ∧
  (∀ t s v, v = s.at t → v.sys.mode = .cold → v.pwr.off = false → v.pwr.resetLow = false → v.ddr.next0 < 10 → v.ddr.next0 ≠ 0 → v.ddr.tries0 < 3 → v.ddr.next1 ≠ 10 → exec (.dramTrainingStep t 0 false) s = .next { v with ddr := { v.ddr with
      next0 := 0, step0 := if v.ddr.step0 = 0 then v.ddr.next0 + 1 else v.ddr.step0, trained0 := false } }) ∧
  (∀ t s v, v = s.at t → v.sys.mode = .cold → v.pwr.off = false → v.pwr.resetLow = false → v.ddr.next0 = 9 → Leads (.dramTrainingStep t 0 true) s fun u => u.ddr.next0 = 10 ∧ u.ddr.trained0 = true ∧ u.sys = v.sys ∧ u.dblt = v.dblt) ∧
  (∀ t s v, v = s.at t → v.sys.mode = .cold → v.pwr.off = false → v.pwr.resetLow = false → v.ddr.next0 < 10 → v.ddr.next0 ≠ 0 → v.ddr.tries0 = 3 → Leads (.dramTrainingStep t 0 false) s fun u => u.ddr.next0 = 10 ∧ u.ddr.trained0 = false ∧ u.ddr.step0 = (if v.ddr.step0 = 0 then v.ddr.next0 + 1 else v.ddr.step0) ∧ u.sys = v.sys) ∧
  (∀ t s v, v = s.at t → v.sys.mode = .cold → v.pwr.off = false → v.pwr.resetLow = false → v.ddr.next1 < 9 → v.ddr.next0 ≠ 10 → exec (.dramTrainingStep t 1 true) s = .next { v with ddr := { v.ddr with
      next1 := v.ddr.next1 + 1, tries1 := if v.ddr.next1 = 0 then v.ddr.tries1 + 1 else v.ddr.tries1, trained1 := false } }) ∧
  (∀ t s v, v = s.at t → v.sys.mode = .cold → v.pwr.off = false → v.pwr.resetLow = false → v.ddr.next1 < 10 → v.ddr.next1 ≠ 0 → v.ddr.tries1 < 3 → v.ddr.next0 ≠ 10 → exec (.dramTrainingStep t 1 false) s = .next { v with ddr := { v.ddr with
      next1 := 0, step1 := if v.ddr.step1 = 0 then v.ddr.next1 + 1 else v.ddr.step1, trained1 := false } }) ∧
  (∀ t s v, v = s.at t → v.sys.mode = .cold → v.pwr.off = false → v.pwr.resetLow = false → v.ddr.next1 = 9 → Leads (.dramTrainingStep t 1 true) s fun u => u.ddr.next1 = 10 ∧ u.ddr.trained1 = true ∧ u.sys = v.sys ∧ u.dblt = v.dblt) ∧
  (∀ t s v, v = s.at t → v.sys.mode = .cold → v.pwr.off = false → v.pwr.resetLow = false → v.ddr.next1 < 10 → v.ddr.next1 ≠ 0 → v.ddr.tries1 = 3 → Leads (.dramTrainingStep t 1 false) s fun u => u.ddr.next1 = 10 ∧ u.ddr.trained1 = false ∧ u.ddr.step1 = (if v.ddr.step1 = 0 then v.ddr.next1 + 1 else v.ddr.step1) ∧ u.sys = v.sys) ∧
  (∀ t beyond s v, v = s.at t → v.dramRuns = true → exec (.wckTrack t beyond) s = .next { v with ddr := { v.ddr with evt := if beyond then setBit v.ddr.evt 5 else v.ddr.evt } }) ∧
  (∀ t rate s v, v = s.at t → v.dramRuns = true → rate ≤ 4 → exec (.mr4Read t rate) s = .next { v with ddr := { v.ddr with rate } }) ∧
  (∀ t demand ahead s v, v = s.at t → v.dramRuns = true → v.ddr.debt0 ≠ 8 → exec (.refreshDue t 0 demand ahead) s = .next { v with ddr := { v.ddr with
      debt0 := if demand then v.ddr.debt0 + 1 else max (-8) (min (v.ddr.debt0 + 1) 0 - ahead) } }) ∧
  (∀ t demand ahead s v, v = s.at t → v.dramRuns = true → v.ddr.debt0 = 8 → exec (.refreshDue t 0 demand ahead) s = .next { v with ddr := { v.ddr with
      debt0 := if demand then 4 else max (-8) (-(ahead : Int)), forcedRef := v.ddr.forcedRef + 1, evt := setBit v.ddr.evt 2 } }) ∧
  (∀ t demand ahead s v, v = s.at t → v.dramRuns = true → v.ddr.debt1 ≠ 8 → exec (.refreshDue t 1 demand ahead) s = .next { v with ddr := { v.ddr with
      debt1 := if demand then v.ddr.debt1 + 1 else max (-8) (min (v.ddr.debt1 + 1) 0 - ahead) } }) ∧
  (∀ t demand ahead s v, v = s.at t → v.dramRuns = true → v.ddr.debt1 = 8 → exec (.refreshDue t 1 demand ahead) s = .next { v with ddr := { v.ddr with
      debt1 := if demand then 4 else max (-8) (-(ahead : Int)), forcedRef := v.ddr.forcedRef + 1, evt := setBit v.ddr.evt 2 } }) ∧
  (∀ t s v, v = s.at t → v.dramRuns = true → exec (.dramScrub t { pass := true, bad := [] }) s = .next { v with ddr := { v.ddr with scrub := v.ddr.scrub + 1, evt := setBit v.ddr.evt 6 } }) ∧
  (∀ t line s v, v = s.at t → v.dramRuns = true → duplicated (64 * line) = true → exec (.dramScrub t { pass := true, bad := [{ ch := 0, addr := 64 * line, merge := false, req := none }] }) s = .next
      (let w := State.logFault { v with
         ddr := { v.ddr with crc0 := v.ddr.crc0 + 1, evt := setBit v.ddr.evt 0 }
         intg := { v.intg with dramCrcCnt := v.intg.dramCrcCnt + 1, evt := setBit v.intg.evt 2 } } 5 1 0x102 (64 * line)
       { w with ddr := { w.ddr with scrub := w.ddr.scrub + 1, evt := setBit w.ddr.evt 6 } })) ∧
  (∀ t line s v, v = s.at t → v.dramRuns = true → duplicated (64 * line) = true → exec (.dramScrub t { pass := false, bad := [{ ch := 0, addr := 64 * line, merge := false, req := none }] }) s = .next (State.logFault { v with
         ddr := { v.ddr with crc0 := v.ddr.crc0 + 1, evt := setBit v.ddr.evt 0 }
         intg := { v.intg with dramCrcCnt := v.intg.dramCrcCnt + 1, evt := setBit v.intg.evt 2 } } 5 1 0x102 (64 * line))) ∧
  (∀ t line s v, v = s.at t → v.dramRuns = true → duplicated (64 * line) = false → Leads (.dramScrub t { pass := false, bad := [{ ch := 0, addr := 64 * line, merge := true, req := none }] }) s fun u => u.intg.dramCrcCnt = v.intg.dramCrcCnt + 1 ∧ u.ddr.poison = v.ddr.poison + 1 ∧
      u.intg.head = v.intg.head + 1 ∧ u.intg.selfCnt = v.intg.selfCnt ∧ u.ddr.scrub = v.ddr.scrub ∧ u.dblt = v.dblt) ∧
  (∀ t line s v, v = s.at t → v.dramRuns = true → duplicated (64 * line) = true → Leads (.dramScrub t { pass := true, bad := [{ ch := 0, addr := 64 * line, merge := false, req := none }, { ch := 1, addr := 64 * line, merge := false, req := none }] }) s fun u => u.intg.dramLostCnt = v.intg.dramLostCnt + 1 ∧ u.intg.selfCnt = v.intg.selfCnt + 1 ∧ u.intg.head = v.intg.head + 1 ∧
      u.ddr.crc0 = v.ddr.crc0 + 1 ∧ u.ddr.crc1 = v.ddr.crc1 + 1 ∧ u.ddr.scrub = v.ddr.scrub + 1 ∧ u.dblt = v.dblt) ∧
  (∀ t n s v, v = s.at t → v.dramRuns = true → 1 ≤ n → n ≤ 3 → exec (.requestPromote t n) s = .next { v with ddr := { v.ddr with promote := v.ddr.promote + 1, evt := setBit v.ddr.evt 3 } }) ∧
  (∀ t e s v, v = s.at t → v.unpowered = false → exec (.fabricTimeout t e) s = .next (v.fabErr { e with code := 5, ts := v.ts32 }))

/-- A step takes the command at the front of the queue and runs it with the queue's rest. The queue and the idle step are the
model's own (log entry 4): the queue's order is the order in which commands reach the module (R334, R347). -/
def Obligations.StepRunsTheFrontCommand : Prop :=
  (∀ (c : Instr) rest (s : State), s.pending = c :: rest → step s = exec c { s with pending := rest }) ∧
  (∀ s : State, s.pending = [] → step s = .next s)

/-- Every command answers a next state in every state. A refused command is answered with its status (R348, R350), and an event that
cannot occur changes nothing (log entry 5). -/
def Obligations.EveryCommandAnswersANextState : Prop :=
  ∀ c s, ∃ t, exec c s = .next t

/-- No command changes the queue of waiting commands. The queue is the model's own (log entry 4). -/
def Obligations.CommandsLeaveTheQueue : Prop :=
  ∀ c s t, exec c s = .next t → t.pending = s.pending

/-- Right after reset the registers read as the register tables state. R545 to R547, R291, R550; R532 for the pin. -/
def Obligations.ResetShowsTheStatedRegisterValues : Prop :=
  sysView State.reset 0 = some 0x7680 ∧ sysView State.reset 8 = some 0 ∧ sysView State.reset 0xC = some 0 ∧
  keyView State.reset 0 = some 0 ∧ keyView State.reset 8 = some 1 ∧ keyView State.reset 0xC = some 0x1E01 ∧ bootView State.reset 0 = some 0 ∧
  dbltView State.reset 0 = some 0 ∧ dbltView State.reset 0xC = some 17058068 ∧ dbltView State.reset 0x10 = some 0 ∧
  dbltView State.reset 0x14 = some 0 ∧ dbltView State.reset 0x18 = some 0 ∧
  (∀ f, f < 768 → State.reset.dbltGet (0x1000 + 4 * f) = 0x7FFFFFFF ∧ State.reset.dbltGet (0x2000 + 4 * f) = 0x7FFFFFFF ∧
    State.reset.dbltGet (0x3000 + 4 * f) = 0x0147AE14 ∧ State.reset.dbltGet (0x4000 + 4 * f) = 0) ∧
  (∀ i, i < 2048 → State.reset.dbltGet (0x8000 + 4 * i) = 0) ∧
  State.reset.dblt.digest = 0x6C492E5F ∧ State.reset.dbltDigest = 0x6C492E5F ∧ State.reset.modRunLow = false

/-- The state right after reset meets the invariants that every step keeps. R291, R292, R550, R360; the form of the byte stores is
the model's (log entry 6). -/
def Obligations.ResetMeetsTheInvariants : Prop :=
  State.reset.DbltSafe ∧ State.reset.StoresOk = true ∧ (State.reset.rendering = true → State.reset.dblt.locked = true)

/-- Every step keeps every deadbolt setting in its range. R291, R292, R549: whatever path a write takes, a value outside its range
is never stored. -/
def Obligations.DeadboltStaysSafe : Prop :=
  ∀ s t : State, s.DbltSafe → step s = .next t → t.DbltSafe

/-- Once the deadbolt is locked, its settings and its lock stay until a reset. R11, R292, R363. -/
def Obligations.LockedSettingsStayUntilReset : Prop :=
  ∀ (c : Instr) (s t : State), s.dblt.locked = true → exec c s = .next t →
    (t.dblt.locked = true ∧ t.dblt.settings = s.dblt.settings) ∨
      (((∃ n, c = .resetPin n) ∨ (∃ n, c = .sysResetExec n) ∨ ∃ n, c = .bringupStep n) ∧ t.DbltCleared)

/-- In every mode in which ticks run the deadbolt is locked. R11 (the settings lock on entry to RENDER), with the modes of R17 and
R360. -/
def Obligations.RenderingModesAreLocked : Prop :=
  ∀ s t : State, (s.rendering = true → s.dblt.locked = true) → step s = .next t → t.rendering = true → t.dblt.locked = true

/-- Every step keeps the byte stores in canonical form. R97, R148, R376; the form is the model's (log entry 6). -/
def Obligations.StoresStayCanonical : Prop :=
  ∀ s t : State, s.StoresOk = true → (s.pending.head?.all Instr.wf) = true → step s = .next t → t.StoresOk = true

/-- Every keyway command is checked in the order of R348, and a check that fails is the only effect but for the count. R348, with
the modes of R286 and R474. -/
def Obligations.HeadChecksComeInOrder : Prop :=
  ∀ i c h p s, keywayRow i = some (c, h, p) → delivered c.op h p s = true →
    let u := taken c.op h p s
    (u.imageRuns = false → c.boot = false → exec i s = .next (refusedWith c h p s .noImage [])) ∧
    ((u.imageRuns || c.boot) = true →
      (c.len h.length p = false → exec i s = .next (refusedWith c h p s .badLength [])) ∧
      (c.len h.length p = true →
        ((h.flags / 4 ≠ 0 ∨ (c.uses = true ∧ h.flags % 4 = 3)) → exec i s = .next (refusedWith c h p s .badParam [])) ∧
        (h.flags / 4 = 0 → (c.uses = true → h.flags % 4 ≠ 3) → (c.mirrored && u.rendering && u.follows) = false → modeCheck u c = false →
          exec i s = .next (refusedWith c h p s .badMode []))))

/-- A datagram from a source outside KEY_ALLOW is answered DENIED and is not executed. R346, R348. -/
def Obligations.DeniedSourcesAreAnsweredDenied : Prop :=
  ∀ i c h p s ip port, keywayRow i = some (c, h, p) → h.src = .mgmt ip port → (s.at h.t).mgmtOpen = true → (s.at h.t).midway = false → p.length ≤ 1440 →
    (s.at h.t).allowed ip = false →
    exec i s = .next (((s.at h.t).rxCount 2).deny c.op h ip port) ∧
    (let u := ((s.at h.t).rxCount 2).deny c.op h ip port
     s.key.parked = [] → s.key.nops = [] → s.behind h.src (s.key.aseq + 1).toNat = false →
     u.key = { s.key with aseq := s.key.aseq + 1, cmdCnt := s.key.cmdCnt + 1, refuseCnt := s.key.refuseCnt + 1, denyCnt := s.key.denyCnt + 1,
                          evt := setBit s.key.evt 4, stored := u.key.stored, due := u.key.due } ∧
     u.sys = s.sys ∧ u.boot = s.boot ∧ u.pwr = s.pwr ∧ u.ptm = s.ptm ∧ u.obj = s.obj ∧ u.pan = s.pan ∧ u.rte = s.rte ∧ u.rnd = s.rnd ∧
     u.cor = s.cor ∧ u.cal = s.cal ∧ u.dblt = s.dblt ∧ u.twn = s.twn ∧ u.dac = s.dac ∧ u.sched = s.sched ∧ u.out = s.out ∧
     u.macM.queue = s.macM.queue ++ [.udp 3 ip s.key.udpPort port ((ReplyRef.reply
       { src := .mgmt ip port, opcode := c.op, tag := h.tag, aseq := (s.key.aseq + 1).toNat } .denied false false []).bytes false)])

/-- A datagram that repeats a stored command is answered again and not executed. R346. -/
def Obligations.RepeatsAreNotExecutedAgain : Prop :=
  ∀ i c h p s ip port e, keywayRow i = some (c, h, p) → h.src = .mgmt ip port → (s.at h.t).mgmtOpen = true → (s.at h.t).midway = false → p.length ≤ 1440 →
    (s.at h.t).allowed ip = true → (s.at h.t).repeated ip port (packetBytes c.op h p) = some e →
    ∃ u, exec i s = .next u ∧ u.key = { s.key with repeatCnt := s.key.repeatCnt + 1 } ∧
      u.sys = s.sys ∧ u.boot = s.boot ∧ u.pwr = s.pwr ∧ u.ptm = s.ptm ∧ u.obj = s.obj ∧ u.pan = s.pan ∧ u.rte = s.rte ∧ u.rnd = s.rnd ∧
      u.cor = s.cor ∧ u.cal = s.cal ∧ u.dblt = s.dblt ∧ u.twn = s.twn ∧ u.dac = s.dac ∧ u.sched = s.sched ∧ u.out = s.out ∧
      u.macM.queue = s.macM.queue ++ [.udp 3 e.ip s.key.udpPort e.port (((match e.reply with
        | some r => { r with replay := true }
        | none => { (ReplyRef.reply { src := .mgmt ip port, opcode := c.op, tag := h.tag, aseq := e.aseq } .inProgress false false [])
                    with replay := true } : Reply)).bytes false)]

/-- A follower relays a mirrored command to the decider and neither checks nor executes it. R316. -/
def Obligations.FollowersRelayMirroredCommands : Prop :=
  ∀ i c h p s, keywayRow i = some (c, h, p) → delivered c.op h p s = true →
    (let u := taken c.op h p s
     (u.imageRuns || c.boot) = true → c.len h.length p = true → h.flags / 4 = 0 → (c.uses = true → h.flags % 4 ≠ 3) →
     c.mirrored = true → u.rendering = true → u.follows = true →
     exec i s = .next (u.relayOut c h.flags h.when p (refOf c.op h p s)))

/-- A query returns state and changes none. R558. REG_READ is left out: a read through a gate can be held, and an error response is
recorded (R456, R358). Replies that the query lets go may leave by the ports. -/
def Obligations.QueriesChangeNothing : Prop :=
  ∀ i c h p s t, keywayRow i = some (c, h, p) →
    c.op ∈ [0x101, 0x121, 0x133, 0x20D, 0x303, 0x305, 0x407, 0x506, 0x60A, 0x60B, 0x705, 0x803, 0x804, 0x813, 0x901, 0x940, 0xA03, 0xB01] →
    exec i s = .next t →
    t.tick = s.tick ∧ t.sys = s.sys ∧ t.boot = s.boot ∧ t.pwr = s.pwr ∧ t.clk = s.clk ∧ t.ptm = s.ptm ∧ t.obj = s.obj ∧ t.pan = s.pan ∧
    t.rte = s.rte ∧ t.rnd = s.rnd ∧ t.cor = s.cor ∧ t.cal = s.cal ∧ t.tap = s.tap ∧ t.disp = s.disp ∧ t.intg = s.intg ∧ t.dac = s.dac ∧
    t.ddr = s.ddr ∧ t.fab = s.fab ∧ t.sched = s.sched ∧ t.ord = s.ord

/-- A command outside the modes that its rules allow is refused BAD_MODE. R292, R348, R361, R376, R381, R97, R147, R216, R324, R472. -/
def Obligations.ModeRulesRefuseWithBadMode : Prop :=
  Refuses renderConfigCmd .renderConfig (fun _ u => u.sys.mode ≠ .staged) .badMode ∧
  Refuses dbltWriteCmd .dbltWrite (fun _ u => u.sys.mode ≠ .staged) .badMode ∧
  Refuses stageCommitCmd .stageCommit (fun _ u => u.sys.mode ≠ .staged) .badMode ∧
  Refuses sceneXformCmd .sceneXform (fun _ u => u.sys.mode ≠ .staged) .badMode ∧
  Refuses layoutWriteCmd .layoutWrite (fun _ u => u.sys.mode ≠ .staged) .badMode ∧
  Refuses layoutLoadCmd .layoutLoad (fun _ u => u.sys.mode ≠ .staged) .badMode ∧
  Refuses routeModeCmd .routeMode (fun _ u => u.sys.mode ≠ .staged) .badMode ∧
  Refuses xpMapCmd .xpMap (fun _ u => u.sys.mode ≠ .staged) .badMode ∧
  Refuses bedAlignCmd .bedAlign (fun _ u => u.sys.mode ≠ .staged) .badMode ∧
  Refuses corLongCmd .corLong (fun _ u => u.sys.mode ≠ .staged) .badMode ∧
  Refuses corFoldCmd .corFold (fun _ u => u.sys.mode ≠ .staged) .badMode ∧
  Refuses vlanSetCmd .vlanSet (fun _ u => u.sys.mode ≠ .staged) .badMode ∧
  Refuses flowOutSetCmd .flowOutSet (fun _ u => u.sys.mode ≠ .staged) .badMode ∧
  Refuses ptpConfigCmd .ptpConfig (fun _ u => u.sys.mode ≠ .staged) .badMode ∧
  Refuses sceneTimeCmd .sceneTime (fun _ u => u.sys.mode ≠ .staged) .badMode ∧
  Refuses dacConfigCmd .dacConfig (fun _ u => u.sys.mode ≠ .staged) .badMode ∧
  Refuses twinConfigCmd .twinConfig (fun _ u => u.sys.mode ≠ .staged) .badMode ∧
  Refuses stageReturnCmd .stageReturn (fun _ u => u.sys.mode ≠ .locking) .badMode ∧
  Refuses imgBeginCmd .imgBegin (fun _ u => u.sys.mode ≠ .awaitImage) .badMode ∧
  Refuses imgDataCmd .imgData (fun _ u => u.sys.mode ≠ .awaitImage) .badMode ∧
  Refuses imgEndCmd .imgEnd (fun _ u => u.sys.mode ≠ .awaitImage) .badMode ∧
  Refuses twinJoinCmd .twinJoin (fun _ u => u.twn.state ≠ .seeking) .badMode ∧
  Refuses calStartCmd .calStart (fun _ u => u.sys.mode ≠ .render) .badMode ∧
  Refuses calStopCmd .calStop (fun _ u => u.sys.mode ≠ .liveProbe) .badMode ∧
  Refuses sweepStartCmd .sweepStart (fun _ u => u.sys.mode ≠ .paused) .badMode ∧
  Refuses sweepStopCmd .sweepStop (fun _ u => u.sys.mode ≠ .sweep) .badMode ∧
  Refuses pwrWakeCmd .pwrWake (fun _ u => u.pwr.trans = 0 ∧ u.pwr.queued = none ∧ u.sys.mode ≠ .sleep) .badMode ∧
  Refuses routeWriteCmd .routeWrite (fun _ u => u.rte.graph = false) .badMode ∧
  Refuses xpMapCmd .xpMap (fun _ u => u.rte.graph = true) .badMode ∧
  Refuses dbltWriteCmd .dbltWrite (fun _ u => u.dblt.locked = true) .badMode

/-- A WHEN resolves to the boundary at or after its sample index, never before the first admissible one. R440, R66, R68; LATE and
BAD_PARAM are those of R348. -/
def Obligations.WhenResolvesToTheFirstBoundaryAtOrAfterIt : Prop :=
  ∀ (s : State) (c : CmdIn) (first : Nat), c.mirror = none →
    (∀ n, s.boundary c first = .ok n → first ≤ n ∧ (c.when = 0 → n = first) ∧
      (c.when ≠ 0 → ∃ m, s.whenSample c.form c.when = some m ∧ m ≤ 16 * n ∧ 16 * n < m + 16)) ∧
    (s.boundary c first = .late ↔ c.when ≠ 0 ∧ ∃ m, s.whenSample c.form c.when = some m ∧ m + 16 ≤ 16 * first) ∧
    (s.boundary c first = .bad ↔ c.when ≠ 0 ∧ s.whenSample c.form c.when = none) ∧
    (c.form = 0 → s.whenSample c.form c.when = some ((c.when * s.fs + 999999999) / 1000000000)) ∧
    (c.form = 1 → s.whenSample c.form c.when = some c.when)

/-- The extension of a 32-bit count is the congruent value nearest its reference. R421, the formula and the range of its result. -/
def Obligations.ExtensionIsTheNearestCongruentValue : Prop :=
  ∀ x r : Nat, (ext32 x r - x) % 2 ^ 32 = 0 ∧ (r : Int) - 2 ^ 31 ≤ ext32 x r ∧ ext32 x r < (r : Int) + 2 ^ 31

/-- A pair-store entry keeps both delays and both gain codes. R103. -/
def Obligations.PairEntriesRoundTrip : Prop :=
  (∀ e : PairEntry, e.dE < 2 ^ 26 → e.dS < 2 ^ 26 → e.gE < 2 ^ 14 → e.gS < 2 ^ 14 → PairEntry.dec e.enc = e ∧ e.enc < 2 ^ 80) ∧
  (∀ n, n < 2 ^ 80 → (PairEntry.dec n).enc = n)

/-- The module writes a reply only inside the ring, and only into slots that the host has consumed. R341, R342; a free slot lies
before KEY_RPL_CI with one slot kept empty. -/
def Obligations.ReplyWritesStayInFreeSlots : Prop :=
  ∀ (s : State) (r : Reply) (t : State), s.key.rplPi < s.key.rplSize → s.key.rplCi < s.key.rplSize → s.ringPut r = some t →
    t.key.rplPi < s.key.rplSize ∧ t.key.rplCi = s.key.rplCi ∧
    ∃ new, t.out = new ++ s.out ∧ ∀ a b, Out.host a b ∈ new →
      (let base := s.key.rplBaseLo.toNat + 2 ^ 32 * s.key.rplBaseHi.toNat
       base ≤ a ∧ a + b.length ≤ base + 64 * s.key.rplSize ∧
       ∀ k, k < s.key.rplSize → a < base + 64 * (k + 1) → base + 64 * k < a + b.length →
         (k + s.key.rplSize - s.key.rplPi) % s.key.rplSize < (s.key.rplCi + s.key.rplSize - s.key.rplPi - 1) % s.key.rplSize)

/-- A scheduled command takes effect at its boundary, and not before. R51, R216, R217, R219. -/
def Obligations.ScheduledCommandsTakeEffect : Prop :=
  (∀ (s : State) (n : Nat), (∀ e ∈ s.sched, n < e.tick) → s.runScheds n = s) ∧
  (∀ (s : State) (n : Nat) (e : Sched'), s.sched = [e] → e.tick ≤ n → s.runScheds n = { s with sched := [] }.runSched n e) ∧
  (∀ (s : State) (n : Nat) (e : Sched'), e.op = 0x304 → s.runSched n e = s.soundAt n e.body) ∧
  (∀ (s : State) (n : Nat) (e : Sched'), e.op = 0x811 → s.runSched n e = s.dacMapAt (some n) e.body) ∧
  (∀ (s : State) (n : Nat) (e : Sched'), e.op = 0x603 → s.runSched n e = s.calAt 0x603 n e.body) ∧
  (∀ (s : State) (n : Nat) (e : Sched'), e.op = 0x604 → s.sys.mode = .render → s.runSched n e = s.setMode .liveProbe) ∧
  (∀ (s : State) (n : Nat) (e : Sched'), e.op = 0x605 → s.sys.mode = .liveProbe → s.runSched n e = s.setMode .render) ∧
  (∀ (s : State) (n : Nat) (e : Sched'), e.op = 0x606 → s.sys.mode = .paused →
    s.runSched n e = State.setMode { s with cal := { s.cal with level := rdS16 e.body 0 } } .sweep) ∧
  (∀ (s : State) (n : Nat) (e : Sched'), e.op = 0x607 → s.sys.mode = .sweep → s.runSched n e = s.setMode .paused) ∧
  (∀ (s : State) (n : Nat) (e : Sched'), (e.op = 0x604 ∧ s.sys.mode ≠ .render ∨ e.op = 0x605 ∧ s.sys.mode ≠ .liveProbe ∨ e.op = 0x606 ∧ s.sys.mode ≠ .paused ∨
    e.op = 0x607 ∧ s.sys.mode ≠ .sweep) → s.runSched n e = s)

/-- The probe cap, the DC mute, the rise guard and the ceiling keep every sample within their bounds. R296 to R299, the bounds that
each stage guarantees. -/
def Obligations.DeadboltStagesKeepTheirBounds : Prop :=
  (∀ pcap blocked xs, (capLane pcap blocked xs).1.length = xs.length ∧ ∀ y ∈ (capLane pcap blocked xs).1, y.natAbs ≤ pcap) ∧
  (∀ falling rising m xs, m ≤ 64 → (muteLane falling rising m xs).2 ≤ 64 ∧ (muteLane falling rising m xs).1.length = xs.length ∧
    ∀ e ∈ xs.zip (muteLane falling rising m xs).1, e.2.natAbs ≤ e.1.natAbs) ∧
  (∀ ceil floor rise q xs, rise ≠ 0 → ∀ y ∈ (guardBlock ceil floor rise q xs).1, y.natAbs ≤ guardLevel ceil floor rise q) ∧
  (∀ ceil floor q xs, guardBlock ceil floor 0 q xs = (xs, false)) ∧
  (∀ ceil floor rise q xs, (∀ x ∈ xs, x.natAbs ≤ guardLevel ceil floor rise q) → guardBlock ceil floor rise q xs = (xs, false)) ∧
  (∀ c xs, (∀ y ∈ (ceilLane c xs).1, y.natAbs ≤ c) ∧ ((∀ x ∈ xs, x.natAbs ≤ c) → ceilLane c xs = (xs, 0)))

/-- The ceiling clamps every sample of a feed to [−CEIL, CEIL] and counts each clamped sample. R299. -/
def Obligations.CeilingClampsAndCounts : Prop :=
  ∀ (s : State) (f : Nat) (xs : List Int), (s.ceilFeed f xs).1 = xs.map (clampI (-(s.dbltGet (0x1000 + 4 * f) : Int)) (s.dbltGet (0x1000 + 4 * f))) ∧
    (∀ y ∈ (s.ceilFeed f xs).1, -(s.dbltGet (0x1000 + 4 * f) : Int) ≤ y ∧ y ≤ s.dbltGet (0x1000 + 4 * f)) ∧
    (let n := (xs.filter fun x => decide (x < -(s.dbltGet (0x1000 + 4 * f) : Int) ∨ (s.dbltGet (0x1000 + 4 * f) : Int) < x)).length
     (s.ceilFeed f xs).2.dblt.ceilCnt = s.dblt.ceilCnt + BitVec.ofNat 32 n ∧
     (s.ceilFeed f xs).2.dblt.evt = (if n = 0 then s.dblt.evt else setBit s.dblt.evt 4) ∧
     (s.ceilFeed f xs).2.dblt.settings = s.dblt.settings ∧ (s.ceilFeed f xs).2.dblt.feeds = s.dblt.feeds)

/-- Whatever the cushion holds, every sample that egress reads out lies within the ceiling of its feed. R42, R295, R299, R302. -/
def Obligations.ReadoutStaysUnderTheCeiling : Prop :=
  ∀ (t : Nat) (s u : State), tabWf (fun _ => DbFeed.reset) s.dblt.feeds = true → exec (.egressReadout t) s = .next u → (s.at t).sys.mode ≠ .yielded →
    (s.at t).ticking = true → (s.at t).readoutDue = true →
    u.dblt.settings = s.dblt.settings ∧
    ∀ f, f < feedCount s.rnd.rate96 → ∀ y ∈ (u.dbFeed f).out, y.natAbs ≤ u.dbltGet (0x1000 + 4 * f)

/-- Over any frames a media port sends no more than its bucket holds and its cap admits in the time that passes. R301. -/
def Obligations.PortCapBoundsThroughput : Prop :=
  ∀ (s : State) (port : Nat) (frames : List (Nat × Nat × Nat × Nat × Bool)), port < 2 → s.bwCap port ≠ 0 →
    let r := frames.foldl (fun (a : State × Nat) e =>
      let g := (a.1.at e.1).portGuard port e.2.1 e.2.2.1 e.2.2.2.1 e.2.2.2.2 false
      (g.2, if g.1 then a.2 + 8000 * e.2.2.2.1 else a.2)) (s, 0)
    r.2 ≤ s.tokens port + s.bwCap port * (r.1.now - s.now) ∧ r.1.tokens port ≤ 65536 * 8000

/-- With the whitelist enforced, a frame to a destination outside it does not leave a media port, and is counted. R300. -/
def Obligations.WhitelistDropsWhatItDoesNotList : Prop :=
  (∀ (s : State) dst dport len ptp, bit (s.dbltGet 0x18) 0 = true → s.whitelisted dst dport = false →
    s.portGuard 0 dst dport len false ptp = (false, { s with dblt := { s.dblt with evt := setBit s.dblt.evt 5, wlDropA := s.dblt.wlDropA + 1 } }) ∧
    s.portGuard 1 dst dport len false ptp = (false, { s with dblt := { s.dblt with evt := setBit s.dblt.evt 5, wlDropB := s.dblt.wlDropB + 1 } })) ∧
  (∀ (s : State) port (f : TxFrame), port < 2 → bit (s.dbltGet 0x18) 0 = true → s.whitelisted f.dst f.dport = false → f.exempt = false →
    (s.startFrame port f).1 = false ∧ ∀ p src tci g ts, Out.frame p src tci g ts ∈ (s.startFrame port f).2.out → Out.frame p src tci g ts ∈ s.out) ∧
  (∀ (s : State) port dst dport len exempt ptp, port < 2 → (bit (s.dbltGet 0x18) 0 = false ∨ s.whitelisted dst dport = true ∨ exempt = true) →
    s.bwCap port = 0 → s.portGuard port dst dport len exempt ptp = (true, s))

/-- The host can write the deadbolt settings only in STAGED; they lock on entry to RENDER and stay locked until reset. R11; what
each path answers is R549's. -/
def Obligations.HostWritesSettingsOnlyInStaged : Prop :=
  (∀ t a v be (s u : State), ((s.at t).sys.mode ≠ .staged ∨ s.dblt.locked = true) →
    (exec (.registerWrite t a v be) s = .next u ∨ exec (.dbltRegWrite t a v) s = .next u) → u.dblt.settings = s.dblt.settings) ∧
  Refuses dbltWriteCmd .dbltWrite (fun _ u => u.sys.mode ≠ .staged ∨ u.dblt.locked = true) .badMode ∧
  Refuses regWriteCmd .regWrite (fun i u => zeroAt i.body 6 2 = true ∧ rd32 i.body 0 % 4 = 0 ∧ 1 ≤ rd16 i.body 4 ∧ rd16 i.body 4 ≤ 64 ∧
    (∃ k off, k < rd16 i.body 4 ∧ rd32 i.body 0 + 4 * k = 0x330000 + off ∧ (dbltDflt off).isSome) ∧
    (u.sys.mode ≠ .staged ∨ u.dblt.locked = true ∧ ∀ k, k < rd16 i.body 4 → badSetting (rd32 i.body 0 + 4 * k) (rd32 i.body (8 + 4 * k)) = false)) .denied ∧
  (∀ s u : State, exec .startBoundary s = .next u → s.rendering = false → u.rendering = true → u.dblt.locked = true) ∧
  (∀ (c : Instr) (s t : State), s.dblt.locked = true → exec c s = .next t → t.dblt.locked = false →
    (∃ n, c = .resetPin n) ∨ (∃ n, c = .sysResetExec n) ∨ ∃ n, c = .bringupStep n)
end

