-- ==== Sys2Proof/Laws/Keyway.lean ====
section
/-! SUPPORT. What a keyway command accepted at the front door does: the four verdicts of a command, each as one
equation, so that a proof about one command need only show its verdict. -/

namespace Sys2Proof.Machine

theorem getD'_eq {α : Type} (l : List α) (i : Nat) (d : α) : getD' l i d = l[i]?.getD d := by
  induction l generalizing i <;> cases i <;> simp [getD', *]

theorem slice_self (p : Bytes) : slice p 0 p.length = p := by
  apply List.ext_getElem
  · simp [slice]
  · intro i h1 h2
    simp [slice, getD'_eq, h2]

theorem handle_run (c : Cmd) (h : Hdr) (p : Bytes) (u : State)
    (him : (u.imageRuns || c.boot) = true) (hlen : c.len h.length p = true) (hfl : (h.flags / 4 == 0) = true)
    (huse : (c.uses && h.flags % 4 == 3) = false) (hmir : (c.mirrored && u.rendering && u.follows) = false) :
    handle (some c) c.op true h p u =
      runCmd c { op := c.op, body := p, form := h.flags % 4, when := h.when,
                 ref := { src := h.src, opcode := c.op, tag := h.tag, aseq := u.key.aseq.toNat }, mirror := none } u := by
  have hf : h.flags / 4 = 0 := by simpa using hfl
  have hc : headCheck u (some c) true h.length h.flags p = none := by
    have : (u.imageRuns = true ∨ c.boot = true) := by simpa using him
    rcases this with h1 | h1 <;> simp [headCheck, firstSome, h1, hlen, hf, huse]
  unfold handle
  simp only [hc, hmir]
  rfl

/-- A row that is a keyway command runs that command. -/
theorem exec_keyway {i : Instr} {c : Cmd} {h : Hdr} {p : Bytes} (hk : keywayRow i = some (c, h, p)) (s : State) :
    exec i s = keyway c h p s := by
  cases i <;> first
    | (simp only [keywayRow, Option.some.injEq, Prod.mk.injEq] at hk; obtain ⟨rfl, rfl, rfl⟩ := hk; rfl)
    | (simp [keywayRow] at hk)

/-- A command's datagram fits a frame of MGMT (R387). -/
theorem udpLen_fits (n : Nat) (h : n ≤ 1440) : ¬ 1522 < udpLen (16 + n) false := by
  simp only [udpLen, b2n, Bool.false_eq_true, if_false]
  omega

/-- A packet that has been read is handled in the state that has read it. -/
theorem keyway_handle (c : Cmd) (h : Hdr) (p : Bytes) (s : State) (hd : delivered c.op h p s = true) :
    keyway c h p s = .next (handle (some c) c.op true h p (taken c.op h p s)) := by
  unfold keyway keywayOp
  congr 1
  unfold delivered at hd
  unfold taken
  cases hs : h.src with
  | pcie =>
    simp only [hs] at hd ⊢
    simp only [Bool.and_eq_true, beq_iff_eq] at hd
    obtain ⟨⟨h1, h2⟩, h3⟩ := hd
    have hp : slice p 0 h.length = p := by rw [h3]; exact slice_self p
    simp only [pciePacket, h1, h2, hp, Bool.not_true, Bool.false_eq_true, if_false, if_true]
  | mgmt ip port =>
    simp only [hs] at hd ⊢
    simp only [Bool.and_eq_true, beq_iff_eq, decide_eq_true_eq, Option.isNone_iff_eq_none] at hd
    obtain ⟨⟨⟨⟨⟨h1, h0⟩, h2⟩, h3⟩, h4⟩, h5⟩ := hd
    have h6 : ((s.at h.t).rxCount 2).allowed ip = true := h2
    have h7 : ((s.at h.t).rxCount 2).midway = false := by
      rw [show ((s.at h.t).rxCount 2).midway = (s.at h.t).midway from rfl]; simpa using h0
    simp only [mgmtPacket, mgmtTake, udpLen_fits _ h5, h7, h1, h6, h3, h4, h5, Bool.not_true, Bool.false_eq_true, if_false,
      bne_self_eq_false, decide_true]
  | relay n => simp [hs] at hd
  | none => simp [hs] at hd

theorem keyway_run (c : Cmd) (h : Hdr) (p : Bytes) (s : State) (ha : accepted c h p s = true) :
    keyway c h p s = .next (runCmd c (inputOf c h p s) (taken c.op h p s)) := by
  simp only [accepted, Bool.and_eq_true, Bool.not_eq_true'] at ha
  obtain ⟨⟨⟨⟨⟨⟨hd, him⟩, hlen⟩, hfl⟩, huse⟩, -⟩, hmir⟩ := ha
  unfold keyway keywayOp
  congr 1
  unfold delivered at hd
  unfold taken inputOf refOf at *
  cases hs : h.src with
  | pcie =>
    simp only [hs] at hd him hmir hlen ⊢
    simp only [Bool.and_eq_true, beq_iff_eq] at hd
    obtain ⟨⟨h1, h2⟩, h3⟩ := hd
    have hp : slice p 0 h.length = p := by rw [h3]; exact slice_self p
    unfold pciePacket
    simp only [h1, h2, hp, Bool.not_true, Bool.false_eq_true, if_false, if_true]
    rw [handle_run c h p _ him hlen hfl huse hmir, taken]
    simp only [hs]
  | mgmt ip port =>
    simp only [hs] at hd him hmir hlen ⊢
    simp only [Bool.and_eq_true, beq_iff_eq, decide_eq_true_eq, Option.isNone_iff_eq_none] at hd
    obtain ⟨⟨⟨⟨⟨h1, h0⟩, h2⟩, h3⟩, h4⟩, h5⟩ := hd
    have h6 : ((s.at h.t).rxCount 2).allowed ip = true := h2
    have h7 : ((s.at h.t).rxCount 2).midway = false := by
      rw [show ((s.at h.t).rxCount 2).midway = (s.at h.t).midway from rfl]; simpa using h0
    simp only [mgmtPacket, mgmtTake, udpLen_fits _ h5, h7, h1, h6, h3, h4, h5, Bool.not_true, Bool.false_eq_true, if_false,
      bne_self_eq_false, decide_true]
    have := handle_run c h p _ him hlen hfl huse hmir
    rw [this, taken]
    simp only [hs]
  | relay n => simp [hs] at hd
  | none => simp [hs] at hd

theorem keyway_done (c : Cmd) (h : Hdr) (p : Bytes) (s v : State) (pl : Bytes) (n : Nat) (ha : accepted c h p s = true)
    (hv : c.run (inputOf c h p s) (taken c.op h p s) = .done v pl n) :
    keyway c h p s = .next (answeredOk c h p s v pl n) := by
  rw [keyway_run c h p s ha]
  have hm : modeCheck (taken c.op h p s) c = true := by
    simp only [accepted, Bool.and_eq_true] at ha; exact ha.1.2
  simp only [runCmd, hm, if_true, hv]
  rfl

theorem keyway_refuse (c : Cmd) (h : Hdr) (p : Bytes) (s : State) (st : Status) (pl : Bytes) (ha : accepted c h p s = true)
    (hv : c.run (inputOf c h p s) (taken c.op h p s) = .refuse st pl) :
    keyway c h p s = .next (refusedWith c h p s st pl) := by
  rw [keyway_run c h p s ha]
  have hm : modeCheck (taken c.op h p s) c = true := by
    simp only [accepted, Bool.and_eq_true] at ha; exact ha.1.2
  simp only [runCmd, hm, if_true, hv]
  rfl

theorem keyway_defer (c : Cmd) (h : Hdr) (p : Bytes) (s v : State) (n : Nat) (ha : accepted c h p s = true)
    (hv : c.run (inputOf c h p s) (taken c.op h p s) = .defer v n) (hd : v.key.due.length < 1024) :
    keyway c h p s = .next (acceptedLater c h p s v n) := by
  rw [keyway_run c h p s ha]
  have hm : modeCheck (taken c.op h p s) c = true := by
    simp only [accepted, Bool.and_eq_true] at ha; exact ha.1.2
  have hd' : ¬ (1024 ≤ v.key.due.length) := by omega
  simp only [runCmd, hm, if_true, hv, hd', if_false]
  rfl

theorem keyway_held (c : Cmd) (h : Hdr) (p : Bytes) (s v : State) (ha : accepted c h p s = true)
    (hv : c.run (inputOf c h p s) (taken c.op h p s) = .held v) : keyway c h p s = .next v := by
  rw [keyway_run c h p s ha]
  have hm : modeCheck (taken c.op h p s) c = true := by
    simp only [accepted, Bool.and_eq_true] at ha; exact ha.1.2
  simp only [runCmd, hm, if_true, hv]

end Sys2Proof.Machine
end

