-- ==== Sys2Proof/Laws/Commands.lean ====
section
/-! SUPPORT. What the commands of one shape share: the boundary that a WHEN resolves to, the metadata blocks, the calibration commands, and a host write
to an open register. -/

namespace Sys2Proof.Machine

/-- A command that resolves to a boundary is judged against it. -/
theorem judged_of_boundary (u : State) (i : CmdIn) (f n : Nat) (h : u.boundary i f = .ok n) : u.judged i f = some n := by
  unfold State.boundary at h
  unfold State.judged
  cases hm : i.mirror <;> simp only [hm] at h ⊢
  · by_cases h0 : i.when = 0 <;> simp only [h0, if_true, if_false] at h ⊢
    · simp_all
    · cases hw : u.whenSample i.form i.when <;> simp only [hw] at h ⊢
      · simp at h
      · split_ifs at h; simp_all
  · simp_all

/-- A block that acts at once leaves the tick. -/
theorem blockNow_tick (u : State) (bed : Bool) (k : Nat) (b : Blk) : (u.blockNow bed k b).nextOrd.tick = u.tick := by
  unfold State.blockNow State.nextOrd
  split <;> rfl

/-- Every command that carries a metadata block completes as its form says. -/
theorem block_completes (op : Nat) (len : Nat → Bytes → Bool) (f : BlockForm) (mk : Hdr → Bytes → Instr) (ok : Bytes → Prop) (blk : Bytes → Blk → Blk)
    (hx : ∀ h p s, exec (mk h p) s = keyway (blockCmd op len f) h p s)
    (hok : ∀ b, ok b → f.ok b = true) (hb : ∀ b x, f.blk b x = blk b x) :
    BlockCompletes (blockCmd op len f) mk f.bed f.ofSource ok blk := by
  refine ⟨?_, ?_⟩
  · intro h p s ha hp
    rw [hx]
    refine keyway_done _ h p s _ _ _ ha ?_
    have hmir : (inputOf (blockCmd op len f) h p s).mirror = none := rfl
    generalize inputOf (blockCmd op len f) h p s = i at *
    generalize taken (blockCmd op len f).op h p s = u at *
    obtain ⟨⟨h1, h2, h3⟩, h4⟩ := hp
    show blockRun f i u = _
    unfold blockRun
    simp only [h4, if_true, hok _ h2, hb, h1, hmir]
    cases hs : f.ofSource
    · simp [Verdict.ok, blockNow_tick]
    · simp [h3 hs, Verdict.ok, blockNow_tick]
  · intro h p s n ha hp
    rw [hx]
    refine keyway_done _ h p s _ _ _ ha ?_
    have hmir : (inputOf (blockCmd op len f) h p s).mirror = none := rfl
    generalize inputOf (blockCmd op len f) h p s = i at *
    generalize taken (blockCmd op len f).op h p s = u at *
    obtain ⟨⟨h1, h2, h3⟩, h4, h5, h6, h7⟩ := hp
    show blockRun f i u = _
    unfold blockRun
    have hl : ¬ ((u.pendOf f.bed (rd16 i.body 0)).2.any (fun m => decide (n ≤ m)) = true) := by
      cases hh : (u.pendOf f.bed (rd16 i.body 0)).2 <;> simp_all
    have h7' : ¬ 8 ≤ (u.pendOf f.bed (rd16 i.body 0)).1.length := by omega
    simp only [h4, hok _ h2, hb, h1, hmir, judged_of_boundary _ _ _ _ h5, h5]
    cases hs : f.ofSource
    · simp [hl, h7']
      split <;> simp_all
    · simp [h3 hs, hl, h7']
      split <;> simp_all

/-- Every calibration command that takes effect at a boundary completes as `scheduled` says. -/
theorem cal_completes (c : Cmd) (op : Nat) (len : Nat → Bytes → Bool) (run : CmdIn → State → Verdict) (hc : c = calCmd op len run) (mk : Hdr → Bytes → Instr)
    (ok : CmdIn → State → Prop) (eff : CmdIn → State → State) (hx : ∀ h p s, exec (mk h p) s = keyway c h p s)
    (hr : ∀ i s, i.mirror = none → ok i s → run i s = scheduled i s (s.calAt i.op s.tick i.body) (fun n => s.schedule n i))
    (he : ∀ i s, i.op = op → ok i s → s.calAt i.op s.tick i.body = eff i s ∧ (eff i s).tick = s.tick) :
    CalCompletes c mk ok eff := by
  refine ⟨?_, ?_⟩
  · intro h p s ha hp
    rw [hx]
    refine keyway_done _ h p s _ _ _ ha ?_
    have hmir : (inputOf c h p s).mirror = none := rfl
    have hop : (inputOf c h p s).op = op := by rw [hc]; rfl
    generalize inputOf c h p s = i at *
    generalize taken c.op h p s = u at *
    subst hc
    show run i u = _
    rw [hr i u hmir hp.1]
    simp [scheduled, hp.2, Verdict.ok, (he i u hop hp.1)]
  · intro h p s n ha hp
    rw [hx]
    refine keyway_done _ h p s _ _ _ ha ?_
    have hmir : (inputOf c h p s).mirror = none := rfl
    generalize inputOf c h p s = i at *
    generalize taken c.op h p s = u at *
    subst hc
    show run i u = _
    rw [hr i u hmir hp.1]
    simp [scheduled, hp.2.1, hp.2.2]

/-- A whole write that reaches an open register is the write of that register. -/
theorem pcieWrite_writable (v : State) (a blk x b : Nat) (h : v.writable a blk = true) (hb : (bar0Block a).map (·.1) = some b) :
    v.pcieWrite a x 15 = v.writeReg blk (a - b) x := by
  unfold State.writable at h
  simp only [Bool.and_eq_true, beq_iff_eq] at h
  obtain ⟨⟨h1, h2⟩, h3⟩ := h
  unfold State.pcieWrite
  rw [h1, h2]
  cases hh : bar0Block a with
  | none => simp [hh] at hb
  | some q =>
    obtain ⟨b', l, d, g, k⟩ := q
    simp only [hh, Option.map_some, Option.some.injEq] at hb h3
    subst hb; subst h3; rfl

end Sys2Proof.Machine
end

