-- ==== Sys2Proof/Laws/Tables.lean ====
section
/-! SUPPORT. The laws of the sparse tables and byte stores: every operation keeps the canonical form, a read after a write gives
the value written, a write leaves every other key alone, and equal reads are equal tables. -/

namespace Sys2Proof.Machine

variable {α : Type} [DecidableEq α]

/-! The canonical form. -/

theorem tabWfFrom_cons {d : Nat → α} {lo k : Nat} {v : α} {r : Tab α} :
    tabWfFrom d lo ((k, v) :: r) = true ↔ lo ≤ k ∧ v ≠ d k ∧ tabWfFrom d (k + 1) r = true := by
  simp [tabWfFrom, and_assoc]

theorem tabWfFrom_mono {d : Nat → α} {lo lo' : Nat} {t : Tab α} (h : tabWfFrom d lo t = true) (hl : lo' ≤ lo) :
    tabWfFrom d lo' t = true := by
  cases t with
  | nil => rfl
  | cons e r =>
    obtain ⟨h1, h2, h3⟩ := tabWfFrom_cons.1 h
    exact tabWfFrom_cons.2 ⟨by omega, h2, h3⟩

theorem tabSet_wfFrom {d : Nat → α} {k : Nat} (v : α) {lo : Nat} {t : Tab α} (h : tabWfFrom d lo t = true) (hk : lo ≤ k) :
    tabWfFrom d lo (tabSet (d k) t k v) = true := by
  induction t generalizing lo with
  | nil =>
    unfold tabSet
    split
    · rfl
    · exact tabWfFrom_cons.2 ⟨hk, by assumption, rfl⟩
  | cons e r ih =>
    obtain ⟨k', v'⟩ := e
    obtain ⟨h1, h2, h3⟩ := tabWfFrom_cons.1 h
    unfold tabSet
    split
    · split
      · exact h
      · exact tabWfFrom_cons.2 ⟨hk, by assumption, tabWfFrom_cons.2 ⟨by omega, h2, h3⟩⟩
    · split
      · subst k
        split
        · exact tabWfFrom_mono h3 (by omega)
        · exact tabWfFrom_cons.2 ⟨hk, by assumption, h3⟩
      · exact tabWfFrom_cons.2 ⟨h1, h2, ih h3 (by omega)⟩

/-- A write keeps the canonical form. -/
theorem tabSet_wf {d : Nat → α} (k : Nat) (v : α) {t : Tab α} (h : tabWf d t = true) : tabWf d (tabSet (d k) t k v) = true :=
  tabSet_wfFrom v h (Nat.zero_le k)

theorem tabFilter_wfFrom {d : Nat → α} {lo : Nat} {t : Tab α} (p : Nat × α → Bool) (h : tabWfFrom d lo t = true) :
    tabWfFrom d lo (t.filter p) = true := by
  induction t generalizing lo with
  | nil => rfl
  | cons e r ih =>
    obtain ⟨h1, h2, h3⟩ := tabWfFrom_cons.1 h
    rw [List.filter_cons]
    split
    · exact tabWfFrom_cons.2 ⟨h1, h2, ih h3⟩
    · exact tabWfFrom_mono (ih h3) (by omega)

/-- Removing a run of keys keeps the canonical form. -/
theorem tabDrop_wf {d : Nat → α} {t : Tab α} (lo hi : Nat) (h : tabWf d t = true) : tabWf d (tabDrop t lo hi) = true :=
  tabFilter_wfFrom _ h

theorem tabFill_wf {d : α} {t : Tab α} (k : Nat) (vs : List α) (h : tabWf (fun _ => d) t = true) :
    tabWf (fun _ => d) (tabFill d t k vs) = true := by
  induction vs generalizing t k with
  | nil => exact h
  | cons v vs ih => exact ih _ (tabSet_wf (d := fun _ => d) k v h)

theorem tabMapK_wfFrom {d : α} {lo : Nat} {t : Tab α} (f : Nat → α → α) (h : tabWfFrom (fun _ => d) lo t = true) :
    tabWfFrom (fun _ => d) lo (tabMapK d f t) = true := by
  induction t generalizing lo with
  | nil => rfl
  | cons e r ih =>
    obtain ⟨h1, h2, h3⟩ := tabWfFrom_cons.1 h
    rw [tabMapK, List.map_cons, List.filter_cons]
    split
    · rename_i hv
      exact tabWfFrom_cons.2 ⟨h1, of_decide_eq_true hv, ih h3⟩
    · exact tabWfFrom_mono (ih h3) (by omega)

/-- Changing every listed entry keeps the canonical form. -/
theorem tabMapK_wf {d : α} {t : Tab α} (f : Nat → α → α) (h : tabWf (fun _ => d) t = true) :
    tabWf (fun _ => d) (tabMapK d f t) = true := tabMapK_wfFrom f h

/-- Changing every listed entry keeps the canonical form. -/
theorem tabMap_wf {d : α} {t : Tab α} (f : α → α) (h : tabWf (fun _ => d) t = true) : tabWf (fun _ => d) (tabMap d f t) = true :=
  tabMapK_wfFrom (fun _ => f) h

/-! Reads after writes. -/

theorem tabGet_below {d : Nat → α} {lo k : Nat} {t : Tab α} (h : tabWfFrom d lo t = true) (hk : k < lo) (x : α) : tabGet x t k = x := by
  induction t generalizing lo with
  | nil => rfl
  | cons e r ih =>
    obtain ⟨h1, h2, h3⟩ := tabWfFrom_cons.1 h
    rw [tabGet, if_neg (by omega)]
    exact ih h3 (by omega)

theorem tabGet_tabSetFrom {d : Nat → α} {lo k : Nat} {t : Tab α} (h : tabWfFrom d lo t = true) (v : α) (j : Nat) :
    tabGet (d j) (tabSet (d k) t k v) j = if j = k then v else tabGet (d j) t j := by
  induction t generalizing lo with
  | nil =>
    unfold tabSet
    split
    · split
      · subst j; simp [tabGet, *]
      · rfl
    · rfl
  | cons e r ih =>
    obtain ⟨k', v'⟩ := e
    obtain ⟨h1, h2, h3⟩ := tabWfFrom_cons.1 h
    unfold tabSet
    split
    · split
      · split
        · subst j
          rw [tabGet, if_neg (by omega), tabGet_below h3 (by omega)]
          exact (by assumption : v = d k).symm
        · rfl
      · rfl
    · split
      · subst k
        split
        · split
          · subst j
            rw [tabGet_below h3 (by omega)]
            exact (by assumption : v = _).symm
          · rw [tabGet, if_neg (by assumption)]
        · simp only [tabGet]
          split <;> rfl
      · rw [tabGet]
        split
        · rename_i hj
          rw [if_neg (by omega), tabGet, if_pos hj]
        · rename_i hj
          rw [ih h3, tabGet, if_neg hj]

/-- A read after a write: the value written at its key, and at every other key what was there. -/
theorem tabGet_tabSet {d : Nat → α} {t : Tab α} (h : tabWf d t = true) (k : Nat) (v : α) (j : Nat) :
    tabGet (d j) (tabSet (d k) t k v) j = if j = k then v else tabGet (d j) t j := tabGet_tabSetFrom h v j

/-- A read after a write of a table whose unlisted keys all read as `d`. -/
theorem tabGet_tabSet' {d : α} {t : Tab α} (h : tabWf (fun _ => d) t = true) (k : Nat) (v : α) (j : Nat) :
    tabGet d (tabSet d t k v) j = if j = k then v else tabGet d t j := tabGet_tabSet (d := fun _ => d) h k v j

/-- A read after a run of writes. -/
theorem tabGet_tabFill {d : α} {t : Tab α} (h : tabWf (fun _ => d) t = true) (k : Nat) (vs : List α) (j : Nat) :
    tabGet d (tabFill d t k vs) j = if k ≤ j ∧ j < k + vs.length then getD' vs (j - k) d else tabGet d t j := by
  induction vs generalizing t k with
  | nil => simp only [tabFill, List.length_nil]; rw [if_neg (by omega)]
  | cons v vs ih =>
    rw [tabFill, ih (tabSet_wf (d := fun _ => d) k v h), tabGet_tabSet' h]
    by_cases hj : j = k
    · subst j
      rw [if_neg (by omega), if_pos rfl, if_pos (by simp), Nat.sub_self, getD']
    · by_cases hk : k + 1 ≤ j ∧ j < k + 1 + vs.length
      · rw [if_pos hk, if_pos (by simp; omega), show j - k = (j - (k + 1)) + 1 by omega, getD']
      · rw [if_neg hk, if_neg hj, if_neg (by simp; omega)]

/-! Equal reads. -/

theorem tabEqFrom {d : Nat → α} {lo : Nat} {t u : Tab α} (ht : tabWfFrom d lo t = true) (hu : tabWfFrom d lo u = true)
    (h : ∀ k, tabGet (d k) t k = tabGet (d k) u k) : t = u := by
  induction t generalizing lo u with
  | nil =>
    cases u with
    | nil => rfl
    | cons e r =>
      obtain ⟨h1, h2, h3⟩ := tabWfFrom_cons.1 hu
      have := h e.1
      simp [tabGet] at this
      exact absurd this.symm h2
  | cons e r ih =>
    obtain ⟨k, v⟩ := e
    obtain ⟨h1, h2, h3⟩ := tabWfFrom_cons.1 ht
    cases u with
    | nil =>
      have := h k
      simp [tabGet] at this
      exact absurd this h2
    | cons e' r' =>
      obtain ⟨k', v'⟩ := e'
      obtain ⟨h1', h2', h3'⟩ := tabWfFrom_cons.1 hu
      have hk : k = k' := by
        rcases Nat.lt_trichotomy k k' with hl | he | hg
        · have := h k
          rw [tabGet, if_pos rfl, tabGet, if_neg (by omega), tabGet_below h3' (by omega)] at this
          exact absurd this h2
        · exact he
        · have := h k'
          rw [tabGet, if_neg (by omega), tabGet_below h3 (by omega), tabGet, if_pos rfl] at this
          exact absurd this.symm h2'
      subst k'
      have hv := h k
      rw [tabGet, if_pos rfl, tabGet, if_pos rfl] at hv
      subst v'
      rw [ih h3 h3' fun j => ?_]
      by_cases hj : j = k
      · subst j; rw [tabGet_below h3 (by omega), tabGet_below h3' (by omega)]
      · have := h j
        rwa [tabGet, if_neg hj, tabGet, if_neg hj] at this

/-- Two tables in canonical form that read alike are the same data. -/
theorem tab_ext {d : Nat → α} {t u : Tab α} (ht : tabWf d t = true) (hu : tabWf d u = true)
    (h : ∀ k, tabGet (d k) t k = tabGet (d k) u k) : t = u := tabEqFrom ht hu h

/-! Byte stores. -/

theorem memSet_wf {m : Memory} (a : Nat) (b : Byte) (h : Memory.wf m = true) : Memory.wf (memSet m a b) = true :=
  tabSet_wf (d := fun _ => (0 : Byte)) a b h

theorem memFill_wf {m : Memory} (a : Nat) (bs : Bytes) (h : Memory.wf m = true) : Memory.wf (memFill m a bs) = true := tabFill_wf a bs h

/-- A byte after a write of one byte. -/
theorem memGet_memSet {m : Memory} (h : Memory.wf m = true) (a : Nat) (b : Byte) (x : Nat) :
    memGet (memSet m a b) x = if x = a then b else memGet m x := tabGet_tabSet' h a b x

/-- A byte after a write of a run of bytes: the byte written inside the run, and outside it what was there. -/
theorem memGet_memFill {m : Memory} (h : Memory.wf m = true) (a : Nat) (bs : Bytes) (x : Nat) :
    memGet (memFill m a bs) x = if a ≤ x ∧ x < a + bs.length then getD' bs (x - a) 0 else memGet m x := tabGet_tabFill h a bs x

end Sys2Proof.Machine
end

