-- ==== Sys2Proof/Laws/Kept.lean ====
section
/-! SUPPORT. What no operation but a reset changes, one lemma an operation: the queue, the settings of a locked deadbolt, their ranges, and the
canonical form of the byte stores. Here the relation itself, and the shared operations up to the keyway. -/

set_option Elab.async false

namespace Sys2Proof.Machine

/-- What every operation but a reset keeps: the queue; the settings of a locked deadbolt; their ranges; the canonical form of the
byte stores; and that a rendering mode comes from one, or with the lock. -/
def Kept (s t : State) : Prop :=
  t.pending = s.pending ∧ (s.dblt.locked = true → t.dblt.locked = true ∧ t.dblt.settings = s.dblt.settings) ∧
    (s.DbltSafe → t.DbltSafe) ∧ (s.StoresOk = true → t.StoresOk = true) ∧
    (t.dblt.locked = true ∨ (t.rendering = true → s.rendering = true))

theorem Kept.refl (s : State) : Kept s s := ⟨rfl, fun h => ⟨h, rfl⟩, id, id, .inr id⟩

theorem Kept.trans {a b c : State} (h : Kept a b) (k : Kept b c) : Kept a c := by
  obtain ⟨h1, h2, h3, h4, h5⟩ := h
  obtain ⟨k1, k2, k3, k4, k5⟩ := k
  refine ⟨k1.trans h1, fun l => ⟨(k2 (h2 l).1).1, (k2 (h2 l).1).2.trans (h2 l).2⟩, k3 ∘ h3, k4 ∘ h4, ?_⟩
  rcases h5 with h5 | h5
  · exact .inl (k2 h5).1
  · exact k5.imp_right fun k r => h5 (k r)

/-- The byte stores of a boot controller, a layout and a routing. -/
def storesOf (b : BootSt) (p : PanSt) (r : RteSt) : List Memory :=
  [b.staging, b.image, p.staging, p.image, r.staging, r.prog0, r.prog1]

theorem Kept.of {s t : State} (hp : t.pending = s.pending) (hs : t.dblt.settings = s.dblt.settings) (hl : t.dblt.locked = s.dblt.locked)
    (hm : s.StoresOk = true → t.StoresOk = true) (hr : t.rendering = true → s.rendering = true) : Kept s t := by
  refine ⟨hp, fun l => ⟨hl.trans l, hs⟩, fun h => ?_, hm, .inr hr⟩
  unfold State.DbltSafe State.DbltInRange State.dbltGet at *
  rw [hs]; exact h

/-- An update that leaves the queue, the deadbolt's settings and lock, the mode and the byte stores as they are. -/
theorem Kept.upd {s t : State} (h : Kept s t) {pd nw tk sy ke bo pw cl pt ma mb mm ha ne ob pa rt rn co ca ta di it db tw da dd fa sc od ou fr}
    (hp : pd = t.pending)
    (hs : (DbltSt.settings db, DbltSt.locked db, SysSt.mode sy) = (t.dblt.settings, t.dblt.locked, t.sys.mode) := by
      first | (dsimp only; done) | rfl | (split <;> rfl))
    (hm : storesOf bo pa rt = storesOf t.boot t.pan t.rte := by first | (dsimp only [storesOf]; done) | rfl | (split <;> rfl)) :
    Kept s (State.mk pd nw tk sy ke bo pw cl pt ma mb mm ha ne ob pa rt rn co ca ta di it db tw da dd fa sc od ou fr) := by
  obtain ⟨h1, h2⟩ := Prod.mk.inj hs
  obtain ⟨h2, h3⟩ := Prod.mk.inj h2
  refine h.trans (Kept.of hp h1 h2 (fun k => ?_) fun r => ?_)
  · have e := congrArg (fun l => l.all Memory.wf) hm
    exact e.trans k
  · unfold State.rendering at *
    rw [← h3]; exact r

theorem storesOk_iff {s : State} : s.StoresOk = true ↔ Memory.wf s.boot.staging = true ∧ Memory.wf s.boot.image = true ∧
    Memory.wf s.pan.staging = true ∧ Memory.wf s.pan.image = true ∧ Memory.wf s.rte.staging = true ∧ Memory.wf s.rte.prog0 = true ∧
    Memory.wf s.rte.prog1 = true := by
  simp [State.StoresOk]

/-- An update that writes byte stores, and keeps their canonical form. -/
theorem Kept.mem {s t : State} (h : Kept s t) {pd nw tk sy ke bo pw cl pt ma mb mm ha ne ob pa rt rn co ca ta di it db tw da dd fa sc od ou fr}
    (hp : pd = t.pending) (hs : (DbltSt.settings db, DbltSt.locked db, SysSt.mode sy) = (t.dblt.settings, t.dblt.locked, t.sys.mode))
    (hm : t.StoresOk = true →
      State.StoresOk (State.mk pd nw tk sy ke bo pw cl pt ma mb mm ha ne ob pa rt rn co ca ta di it db tw da dd fa sc od ou fr) = true) :
    Kept s (State.mk pd nw tk sy ke bo pw cl pt ma mb mm ha ne ob pa rt rn co ca ta di it db tw da dd fa sc od ou fr) := by
  obtain ⟨h1, h2⟩ := Prod.mk.inj hs
  obtain ⟨h2, h3⟩ := Prod.mk.inj h2
  refine h.trans (Kept.of hp h1 h2 hm fun r => ?_)
  unfold State.rendering at *
  rw [← h3]; exact r

theorem Kept.ite {s t u : State} {c : Prop} [Decidable c] (ht : Kept s t) (hu : Kept s u) : Kept s (if c then t else u) := by
  split <;> assumption

theorem Kept.fold {β : Type} {s t : State} {f : State → β → State} {l : List β} (ht : Kept s t)
    (h : ∀ t x, Kept s t → Kept s (f t x)) : Kept s (l.foldl f t) := by
  induction l generalizing t with
  | nil => exact ht
  | cons x l ih => exact ih (h _ x ht)

theorem Kept.fold2 {β γ : Type} {s : State} {t : γ × State} {f : γ × State → β → γ × State} {l : List β} (ht : Kept s t.2)
    (h : ∀ t x, Kept s t.2 → Kept s (f t x).2) : Kept s (l.foldl f t).2 := by
  induction l generalizing t with
  | nil => exact ht
  | cons x l ih => exact ih (h _ x ht)

theorem Kept.fold1 {β γ : Type} {s : State} {t : State × γ} {f : State × γ → β → State × γ} {l : List β} (ht : Kept s t.1)
    (h : ∀ t x, Kept s t.1 → Kept s (f t x).1) : Kept s (l.foldl f t).1 := by
  induction l generalizing t with
  | nil => exact ht
  | cons x l ih => exact ih (h _ x ht)

theorem Kept.snd {α : Type} {s t : State} {x : α} {e : α × State} (he : e = (x, t)) (h : Kept s e.2) : Kept s t := by
  subst he; exact h

theorem Kept.fst {α : Type} {s t : State} {x : α} {e : State × α} (he : e = (t, x)) (h : Kept s e.1) : Kept s t := by
  subst he; exact h

/-- What a verdict leaves keeps the queue and the deadbolt. -/
def Verdict.Kept (s : State) : Verdict → Prop
  | .refuse _ _ => True
  | .done t _ _ => Machine.Kept s t
  | .defer t _ => Machine.Kept s t
  | .fail t _ _ => Machine.Kept s t
  | .held t => Machine.Kept s t

theorem Verdict.kdone {s t : State} {p : Bytes} {n : Nat} (h : Machine.Kept s t) : Verdict.Kept s (.done t p n) := h
theorem Verdict.kdefer {s t : State} {n : Nat} (h : Machine.Kept s t) : Verdict.Kept s (.defer t n) := h
theorem Verdict.kfail {s t : State} {st : Status} {p : Bytes} (h : Machine.Kept s t) : Verdict.Kept s (.fail t st p) := h
theorem Verdict.kheld {s t : State} (h : Machine.Kept s t) : Verdict.Kept s (.held t) := h
theorem Verdict.kite {s : State} {t u : Verdict} {c : Prop} [Decidable c] (ht : Verdict.Kept s t) (hu : Verdict.Kept s u) : Verdict.Kept s (if c then t else u) := by
  split <;> assumption

theorem Kept.some {s t : State} {e : Option State} (he : e = Option.some t) (h : ∀ u, e = Option.some u → Kept s u) : Kept s t := h t he

theorem State.at_kept {z : State} (s : State) (t : Nat) (hz : Kept z s) : Kept z (State.at s t) := by
  unfold State.at
  refine Kept.upd ?_ rfl; assumption

theorem State.freeBelow_kept {z : State} (s : State) (n : Nat) (hz : Kept z s) : Kept z (State.freeBelow s n).2 := by
  unfold State.freeBelow
  dsimp only; refine Kept.upd ?_ rfl; assumption

theorem State.freeRange_kept {z : State} (s : State) (lo hi : Int) (hz : Kept z s) : Kept z (State.freeRange s lo hi).2 := by
  unfold State.freeRange
  dsimp only; refine Kept.upd ?_ rfl; assumption

theorem State.emit_kept {z : State} (s : State) (o : Out) (hz : Kept z s) : Kept z (State.emit s o) := by
  unfold State.emit
  refine Kept.upd ?_ rfl; assumption

theorem State.setMac_kept {z : State} (s : State) (port : Nat) (m : MacSt) (hz : Kept z s) : Kept z (State.setMac s port m) := by
  unfold State.setMac
  refine Kept.ite ?_ ?_; refine Kept.upd ?_ rfl; assumption; refine Kept.ite ?_ ?_; refine Kept.upd ?_ rfl; assumption
  refine Kept.ite ?_ ?_; refine Kept.upd ?_ rfl; assumption; refine Kept.upd ?_ rfl; assumption

theorem State.onMac_kept {z : State} (s : State) (port : Nat) (f : MacSt → MacSt) (hz : Kept z s) : Kept z (State.onMac s port f) := by
  unfold State.onMac
  apply State.setMac_kept; assumption

theorem State.queueFrame_kept {z : State} (s : State) (port : Nat) (f : TxFrame) (hz : Kept z s) : Kept z (State.queueFrame s port f) := by
  unfold State.queueFrame
  apply State.onMac_kept; assumption

theorem State.setMode_of {s : State} {m : Mode} (h : m.renders = true → s.rendering = true) : Kept s (s.setMode m) := by
  unfold State.setMode
  split
  · exact Kept.refl s
  · exact Kept.of rfl rfl rfl id h

theorem State.setMode_kept {z : State} (s : State) (m : Mode) (h : m.renders = false) (hz : Kept z s) : Kept z (s.setMode m) :=
  hz.trans (State.setMode_of fun k => absurd k (by simp [h]))

/-- A change of mode of a module that renders. -/
theorem State.setMode_kept' {z : State} (s : State) (m : Mode) (hr : z.rendering = true) (hz : Kept z s) : Kept z (s.setMode m) := by
  obtain ⟨h1, h2, h3, h4, _⟩ := hz
  unfold State.setMode
  split
  · exact ⟨h1, h2, h3, h4, .inr fun _ => hr⟩
  · exact ⟨h1, h2, h3, h4, .inr fun _ => hr⟩

theorem State.enterLocking_kept {z : State} (s : State) (hz : Kept z s) : Kept z (State.enterLocking s) := by
  unfold State.enterLocking
  apply State.setMode_kept; rfl; refine Kept.upd ?_ rfl; assumption

theorem State.rebase_kept {z : State} (s : State) (hz : Kept z s) : Kept z (State.rebase s) := by
  unfold State.rebase
  refine Kept.upd ?_ rfl; assumption

theorem State.onGate_kept {z : State} (s : State) (g : Nat) (f : Gate → Gate) (hz : Kept z s) : Kept z (State.onGate s g f) := by
  unfold State.onGate
  refine Kept.upd ?_ rfl; assumption

theorem State.setGate_kept {z : State} (s : State) (g : Nat) (opened : Bool) (hz : Kept z s) : Kept z (State.setGate s g opened) := by
  unfold State.setGate
  apply State.onGate_kept; refine Kept.ite ?_ ?_; apply State.rebase_kept; assumption; assumption

theorem State.setRun_kept {z : State} (s : State) (g : Nat) (on : Bool) (hz : Kept z s) : Kept z (State.setRun s g on) := by
  unfold State.setRun
  apply State.onGate_kept; assumption

theorem State.setDomain_kept {z : State} (s : State) (d : Nat) (on : Bool) (hz : Kept z s) : Kept z (State.setDomain s d on) := by
  unfold State.setDomain
  dsimp only; refine Kept.upd ?_ rfl; assumption

theorem State.intgEvt_kept {z : State} (s : State) (i : Nat) (hz : Kept z s) : Kept z (State.intgEvt s i) := by
  unfold State.intgEvt
  refine Kept.upd ?_ rfl; assumption

theorem State.countCheck_kept {z : State} (s : State) (kind : Nat) (hz : Kept z s) : Kept z (State.countCheck s kind) := by
  unfold State.countCheck
  refine Kept.ite ?_ ?_; refine Kept.upd ?_ rfl; assumption; refine Kept.ite ?_ ?_; refine Kept.upd ?_ rfl; assumption
  assumption

theorem State.logFault_kept {z : State} (s : State) (kind outcome source detail : Nat) (hz : Kept z s) : Kept z (State.logFault s kind outcome source detail) := by
  unfold State.logFault
  dsimp only; refine Kept.upd ?_ rfl; assumption

theorem State.decideYield_kept {z : State} (s : State) (reason : Nat) (hz : Kept z s) : Kept z (State.decideYield s reason) := by
  unfold State.decideYield
  refine Kept.ite ?_ ?_; assumption; refine Kept.upd ?_ rfl; assumption

theorem State.selfFault_kept {z : State} (s : State) (hz : Kept z s) : Kept z (State.selfFault s) := by
  unfold State.selfFault
  dsimp only; refine Kept.ite ?_ ?_; apply State.decideYield_kept; refine Kept.upd ?_ rfl; assumption; refine Kept.upd ?_ rfl
  assumption

theorem State.fabErr_kept {z : State} (s : State) (e : FabErr) (hz : Kept z s) : Kept z (State.fabErr s e) := by
  unfold State.fabErr
  dsimp only; refine Kept.upd ?_ rfl; assumption

theorem State.setObj_kept {z : State} (s : State) (o : Nat) (c : ObjCtx) (hz : Kept z s) : Kept z (State.setObj s o c) := by
  unfold State.setObj
  refine Kept.upd ?_ rfl; assumption

theorem State.setBed_kept {z : State} (s : State) (b : Nat) (c : BedCtx) (hz : Kept z s) : Kept z (State.setBed s b c) := by
  unfold State.setBed
  refine Kept.upd ?_ rfl; assumption

theorem State.objEvt_kept {z : State} (s : State) (i : Nat) (hz : Kept z s) : Kept z (State.objEvt s i) := by
  unfold State.objEvt
  refine Kept.upd ?_ rfl; assumption

theorem State.onEngine_kept {z : State} (s : State) (k : Nat) (f : Engine → Engine) (hz : Kept z s) : Kept z (State.onEngine s k f) := by
  unfold State.onEngine
  refine Kept.upd ?_ rfl; assumption

theorem State.hostRead_kept {z : State} (s : State) (a id : Nat) (hz : Kept z s) : Kept z (State.hostRead s a id).2 := by
  unfold State.hostRead
  split; dsimp only; assumption; dsimp only; apply State.fabErr_kept; assumption; dsimp only; assumption

theorem State.setTokens_kept {z : State} (s : State) (port tok : Nat) (hz : Kept z s) : Kept z (State.setTokens s port tok) := by
  unfold State.setTokens
  refine Kept.upd ?_ rfl; assumption

theorem State.wlDrop_kept {z : State} (s : State) (port : Nat) (hz : Kept z s) : Kept z (State.wlDrop s port) := by
  unfold State.wlDrop
  dsimp only; refine Kept.upd ?_ rfl; assumption

theorem State.capDrop_kept {z : State} (s : State) (port : Nat) (hz : Kept z s) : Kept z (State.capDrop s port) := by
  unfold State.capDrop
  dsimp only; refine Kept.upd ?_ rfl; assumption

theorem State.portGuard_kept {z : State} (s : State) (port dst dport len : Nat) (exempt ptp : Bool) (hz : Kept z s) : Kept z (State.portGuard s port dst dport len exempt ptp).2 := by
  unfold State.portGuard
  split; dsimp only; assumption; split; dsimp only; apply State.wlDrop_kept; assumption; split; dsimp only; assumption
  dsimp only; split; dsimp only; apply State.setTokens_kept; assumption; split; dsimp only; apply State.capDrop_kept
  apply State.setTokens_kept; assumption; dsimp only; apply State.setTokens_kept; assumption

theorem State.post_kept {z : State} (s : State) (port : Nat) (f : TxFrame) (hz : Kept z s) : Kept z (State.post s port f) := by
  unfold State.post
  refine Kept.ite ?_ ?_; apply State.queueFrame_kept; assumption; assumption

theorem State.rxCount_kept {z : State} (s : State) (port : Nat) (hz : Kept z s) : Kept z (State.rxCount s port) := by
  unfold State.rxCount
  apply State.onMac_kept; assumption

theorem State.rxDropped_kept {z : State} (s : State) (port : Nat) (hz : Kept z s) : Kept z (State.rxDropped s port) := by
  unfold State.rxDropped
  apply State.onMac_kept; assumption

theorem State.askArp_kept {z : State} (s : State) (port ip : Nat) (hz : Kept z s) : Kept z (State.askArp s port ip) := by
  unfold State.askArp
  dsimp only; split; refine Kept.ite ?_ ?_; assumption; apply State.post_kept; apply State.onMac_kept; assumption
  apply State.post_kept; apply State.onMac_kept; assumption

theorem State.noArp_kept {z : State} (s : State) (port dst : Nat) (hz : Kept z s) : Kept z (State.noArp s port dst) := by
  unfold State.noArp
  apply State.askArp_kept; apply State.onMac_kept; assumption

theorem State.startFrame_kept {z : State} (s : State) (port : Nat) (f : TxFrame) (hz : Kept z s) : Kept z (State.startFrame s port f).2 := by
  unfold State.startFrame
  split; dsimp only; apply State.emit_kept; apply State.noArp_kept; assumption; split; dsimp only; apply State.emit_kept
  assumption; split; split; dsimp only; apply State.emit_kept; apply State.onMac_kept; refine Kept.snd (by assumption) ?_
  apply State.portGuard_kept; assumption; dsimp only; apply State.emit_kept; refine Kept.snd (by assumption) ?_
  apply State.portGuard_kept; assumption

theorem State.postOn_kept {z : State} (s : State) (path : TwinPath) (seq : Nat) (m : TwinMsg) (n : Nat) (hz : Kept z s) : Kept z (State.postOn s path seq m n) := by
  unfold State.postOn
  dsimp only; split; refine Kept.ite ?_ ?_; assumption; apply State.post_kept; assumption; refine Kept.ite ?_ ?_; assumption
  apply State.post_kept; assumption; refine Kept.ite ?_ ?_; assumption; apply State.post_kept; assumption

theorem State.postTwin_kept {z : State} (s : State) (seq : Nat) (m : TwinMsg) (n : Nat) (hz : Kept z s) : Kept z (State.postTwin s seq m n) := by
  unfold State.postTwin
  refine Kept.ite ?_ ?_; apply State.postOn_kept; assumption; apply State.postOn_kept; apply State.postOn_kept; assumption

theorem State.nextTwinSeq_kept {z : State} (s : State) (ty : Nat) (hz : Kept z s) : Kept z (State.nextTwinSeq s ty).2 := by
  unfold State.nextTwinSeq
  dsimp only; refine Kept.upd ?_ rfl; assumption

theorem State.sendTwin_kept {z : State} (s : State) (m : TwinMsg) (n : Nat) (hz : Kept z s) : Kept z (State.sendTwin s m n) := by
  unfold State.sendTwin
  split; apply State.postTwin_kept; refine Kept.snd (by assumption) ?_; apply State.nextTwinSeq_kept; assumption

theorem State.sendIgmp_kept {z : State} (s : State) (port : Nat) (join : Bool) (group src : Nat) (hz : Kept z s) : Kept z (State.sendIgmp s port join group src) := by
  unfold State.sendIgmp
  apply State.post_kept; assumption

theorem Verdict.ok_kept {s t : State} (h : Machine.Kept s t) : Verdict.Kept s (Verdict.ok t) := h

theorem State.irq_kept {z : State} (s : State) (hz : Kept z s) : Kept z (State.irq s) := by
  unfold State.irq
  dsimp only; refine Kept.ite ?_ ?_; apply State.emit_kept; refine Kept.upd ?_ rfl; assumption; refine Kept.upd ?_ rfl
  assumption

theorem State.putEntry_kept {z : State} (s : State) (a : Nat) (b : Bytes) (hz : Kept z s) : Kept z (State.putEntry s a b) := by
  unfold State.putEntry
  refine Kept.fold ?_ (fun _ _ _ => ?_); assumption; refine Kept.ite ?_ ?_; assumption; apply State.emit_kept; assumption

theorem State.replied_kept {z : State} (s : State) (r : Reply) (hz : Kept z s) : Kept z (State.replied s r) := by
  unfold State.replied
  refine Kept.ite ?_ ?_; refine Kept.upd ?_ rfl; assumption; assumption

theorem State.ringPut_kept {z : State} (s : State) (r : Reply) (hz : Kept z s) : ∀ u, s.ringPut r = some u → Kept z u := by
  intro u h
  unfold State.ringPut at h
  dsimp only at h
  repeat' split at h
  all_goals first
    | (injection h with h; subst h
       refine State.replied_kept _ _ (State.irq_kept _ (Kept.upd ?_ rfl))
       first | exact State.putEntry_kept _ _ _ (State.putEntry_kept _ _ _ hz) | exact State.putEntry_kept _ _ _ hz)
    | cases h

theorem State.flushReplies_kept {z : State} (n : Nat) (s : State) (hz : Kept z s) : Kept z (State.flushReplies n s) := by
  induction n generalizing s with
  | zero => exact hz
  | succ n ih =>
    unfold State.flushReplies
    split
    · exact hz
    · split
      · exact hz
      · exact ih _ (Kept.upd (State.ringPut_kept _ _ hz _ (by assumption)) rfl)

theorem State.dropReply_kept {z : State} (s : State) (r : Reply) (hz : Kept z s) : Kept z (State.dropReply s r) := by
  unfold State.dropReply
  apply State.replied_kept; refine Kept.upd ?_ rfl; assumption

theorem State.ringReply_kept {z : State} (s : State) (r : Reply) (hz : Kept z s) : Kept z (s.ringReply r) := by
  unfold State.ringReply
  refine Kept.ite ?_ (Kept.ite ?_ ?_)
  · exact State.dropReply_kept _ _ hz
  · exact Kept.upd hz rfl
  · split
    · exact State.ringPut_kept _ _ hz _ (by assumption)
    · exact Kept.upd hz rfl

theorem State.mgmtSend_kept {z : State} (s : State) (ip port : Nat) (r : Reply) (hz : Kept z s) : Kept z (State.mgmtSend s ip port r) := by
  unfold State.mgmtSend
  apply State.queueFrame_kept; assumption

theorem State.storeReply_kept {z : State} (s : State) (ip port : Nat) (r : Reply) (hz : Kept z s) : Kept z (State.storeReply s ip port r) := by
  unfold State.storeReply
  refine Kept.upd ?_ rfl; assumption

theorem State.sendReply_kept {z : State} (s : State) (src : CmdSrc) (r : Reply) (hz : Kept z s) : Kept z (State.sendReply s src r) := by
  unfold State.sendReply
  split; assumption; apply State.sendTwin_kept; assumption; apply State.ringReply_kept; assumption; apply State.replied_kept
  apply State.mgmtSend_kept; apply State.storeReply_kept; assumption

theorem State.settleReplies_kept {z : State} (n : Nat) (s : State) (hz : Kept z s) : Kept z (State.settleReplies n s) := by
  induction n generalizing s with
  | zero => exact hz
  | succ n ih =>
    unfold State.settleReplies
    split
    · exact ih _ (State.sendReply_kept _ _ _ (Kept.upd hz rfl))
    · split
      · exact ih _ (State.sendReply_kept _ _ _ (Kept.upd hz rfl))
      · exact hz

theorem State.sendFreed_kept {z : State} (s : State) (hz : Kept z s) : Kept z (State.sendFreed s) := by
  unfold State.sendFreed
  apply State.settleReplies_kept; assumption

theorem State.answer_kept {z : State} (s : State) (ref : ReplyRef) (st : Status) (deferred relayed : Bool) (payload : Bytes) (hz : Kept z s) : Kept z (State.answer s ref st deferred relayed payload) := by
  unfold State.answer
  refine Kept.ite ?_ ?_; assumption; dsimp only; refine Kept.ite ?_ ?_; refine Kept.upd ?_ rfl; assumption
  apply State.sendFreed_kept; apply State.sendReply_kept; refine Kept.upd ?_ rfl; assumption

theorem State.abortDue_kept {z : State} (s : State) (hz : Kept z s) : Kept z (State.abortDue s) := by
  unfold State.abortDue
  dsimp only; refine Kept.fold ?_ (fun _ _ _ => ?_); refine Kept.upd ?_ rfl; refine Kept.fold ?_ (fun _ _ _ => ?_); assumption
  apply State.answer_kept; assumption; apply State.answer_kept; assumption

theorem State.countRefusal_kept {z : State} (s : State) (hz : Kept z s) : Kept z (State.countRefusal s) := by
  unfold State.countRefusal
  refine Kept.upd ?_ rfl; assumption

theorem State.giveAseq_kept {z : State} (s : State) (hz : Kept z s) : Kept z (State.giveAseq s) := by
  unfold State.giveAseq
  refine Kept.upd ?_ rfl; assumption

theorem State.mirrorOut_kept {z : State} (s : State) (n : Nat) (a : MirAct) (len : Nat) (hz : Kept z s) : Kept z (State.mirrorOut s n a len) := by
  unfold State.mirrorOut
  dsimp only; apply State.postTwin_kept; refine Kept.upd ?_ rfl; apply State.nextTwinSeq_kept; refine Kept.upd ?_ rfl
  assumption

/-- The command's own rules keep the queue and the deadbolt. -/
def Cmd.Kept (c : Cmd) : Prop := ∀ i s, Verdict.Kept s (c.run i s)

theorem runCmd_kept {z : State} (c : Cmd) (i : CmdIn) (s : State) (hc : c.Kept) (hz : Machine.Kept z s) : Machine.Kept z (runCmd c i s) := by
  have hv : Verdict.Kept s (if modeCheck s c then c.run i s else .no .badMode) := by
    split
    · exact hc i s
    · exact trivial
  have hm (t : State) (n : Nat) (ht : Machine.Kept z t) : Machine.Kept z (if c.mirrored && s.rendering && s.mirrors then t.mirrorOut n (.cmd i.op i.body i.ref.aseq) i.body.length else t) := by
    split
    · exact State.mirrorOut_kept _ _ _ _ ht
    · exact ht
  unfold runCmd
  dsimp only
  generalize (if modeCheck s c then c.run i s else .no .badMode) = v at hv
  cases v with
  | refuse st pl => exact State.answer_kept _ _ _ _ _ _ (State.countRefusal_kept _ hz)
  | done t pl n => exact State.answer_kept _ _ _ _ _ _ (hm _ _ (hz.trans hv))
  | defer t n =>
    dsimp only
    split
    · exact State.answer_kept _ _ _ _ _ _ (State.countRefusal_kept _ hz)
    · exact Kept.upd (hm _ _ (hz.trans hv)) rfl
  | fail t st pl => exact State.answer_kept _ _ _ _ _ _ (State.countRefusal_kept _ (hz.trans hv))
  | held t => exact hz.trans hv

theorem State.relayOut_kept {z : State} (s : State) (c : Cmd) (flags when : Nat) (p : Bytes) (ref : ReplyRef) (hz : Kept z s) : Kept z (State.relayOut s c flags when p ref) := by
  unfold State.relayOut
  split; dsimp only; apply State.postTwin_kept; refine Kept.upd ?_ rfl; refine Kept.snd (by assumption) ?_
  apply State.nextTwinSeq_kept; assumption

theorem handle_kept {z : State} (c : Option Cmd) (op : Nat) (framed : Bool) (h : Hdr) (p : Bytes) (s : State) (hc : ∀ k, c = some k → k.Kept)
    (hz : Kept z s) : Kept z (handle c op framed h p s) := by
  unfold handle
  dsimp only
  split
  · exact State.answer_kept _ _ _ _ _ _ (State.countRefusal_kept _ hz)
  · cases c with
    | none => exact hz
    | some c =>
      dsimp only
      split
      · exact State.relayOut_kept _ _ _ _ _ _ hz
      · exact runCmd_kept _ _ _ (hc c rfl) hz

theorem State.ringAdvance_kept {z : State} (s : State) (n : Nat) (hz : Kept z s) : Kept z (State.ringAdvance s n) := by
  unfold State.ringAdvance
  refine Kept.upd ?_ rfl; assumption

theorem pciePacket_kept {z : State} (c : Option Cmd) (op : Nat) (h : Hdr) (p : Bytes) (s : State) (hc : ∀ k, c = some k → k.Kept)
    (hz : Kept z s) : Kept z (pciePacket c op h p s) := by
  unfold pciePacket
  split
  · exact hz
  · exact handle_kept _ _ _ _ _ _ hc (State.giveAseq_kept _ (State.ringAdvance_kept _ _ hz))

theorem State.storeCmd_kept {z : State} (s : State) (ip port : Nat) (b : Bytes) (hz : Kept z s) : Kept z (State.storeCmd s ip port b) := by
  unfold State.storeCmd
  dsimp only; refine Kept.upd ?_ rfl; assumption

theorem State.deny_kept {z : State} (s : State) (op : Nat) (h : Hdr) (ip port : Nat) (hz : Kept z s) : Kept z (State.deny s op h ip port) := by
  unfold State.deny
  dsimp only; apply State.answer_kept; refine Kept.upd ?_ rfl; apply State.countRefusal_kept; apply State.giveAseq_kept
  assumption

theorem State.replay_kept {z : State} (s : State) (op : Nat) (h : Hdr) (e : Stored) (hz : Kept z s) : Kept z (State.replay s op h e) := by
  unfold State.replay
  dsimp only; split; apply State.mgmtSend_kept; refine Kept.upd ?_ rfl; assumption; apply State.mgmtSend_kept
  refine Kept.upd ?_ rfl; assumption

theorem mgmtTake_kept {z : State} (c : Option Cmd) (op : Nat) (h : Hdr) (ip port : Nat) (p : Bytes) (s : State) (hc : ∀ k, c = some k → k.Kept)
    (hz : Kept z s) : Kept z (mgmtTake c op h ip port p s) := by
  unfold mgmtTake
  refine Kept.ite (State.deny_kept _ _ _ _ _ hz) ?_
  split
  · exact State.replay_kept _ _ _ _ hz
  · have h1 := State.storeCmd_kept s.giveAseq ip port (packetBytes op h p) (State.giveAseq_kept _ hz)
    exact Kept.ite (State.answer_kept _ _ _ _ _ _ (State.countRefusal_kept _ h1)) (handle_kept _ _ _ _ _ _ hc h1)

theorem mgmtPacket_kept {z : State} (c : Option Cmd) (op : Nat) (h : Hdr) (ip port : Nat) (p : Bytes) (s : State) (hc : ∀ k, c = some k → k.Kept)
    (hz : Kept z s) : Kept z (mgmtPacket c op h ip port p s) := by
  unfold mgmtPacket
  have hr := State.rxCount_kept s 2 hz
  exact Kept.ite hz (Kept.ite (State.rxDropped_kept _ _ hr) (Kept.ite (Kept.upd hr rfl) (mgmtTake_kept _ _ _ _ _ _ _ hc hr)))

theorem keywayOp_kept {z : State} (c : Option Cmd) (op : Nat) (h : Hdr) (p : Bytes) (s : State) (hc : ∀ k, c = some k → k.Kept)
    (hz : Kept z s) : Kept z (keywayOp c op h p s) := by
  unfold keywayOp
  have ha := State.at_kept s h.t hz
  dsimp only
  split
  · exact pciePacket_kept _ _ _ _ _ hc ha
  · exact mgmtPacket_kept _ _ _ _ _ _ _ hc ha
  · exact ha

end Sys2Proof.Machine
end

