-- ==== Sys2Proof/Laws/KeptCommands.lean ====
section
/-! SUPPORT. What the operations of the commands and of the events of the first chapters keep (see Laws/Kept.lean). -/

set_option Elab.async false

namespace Sys2Proof.Machine


theorem dblt_wf_inRange (s : State) : s.DbltSafe ↔
    tabWf (fun off => wd ((dbltDflt off).getD 0)) s.dblt.settings = true ∧
    ∀ off, (dbltDflt off).isSome → dbltInRange off (tabGet (wd ((dbltDflt off).getD 0)) s.dblt.settings off).toNat = true := Iff.rfl

/-- An admitted setting keeps an unlocked deadbolt safe. -/
theorem State.dbltSet_kept {z : State} (s : State) (off v : Nat) (hl : s.dblt.locked = false)
    (hd : dbltInRange off v = true) (hv : v < 2 ^ 32) (hz : Kept z s) : Kept z (s.dbltSet off v) := by
  refine hz.trans ⟨rfl, fun l => absurd l (by simp [hl]), fun h => ?_, id, .inr id⟩
  rw [dblt_wf_inRange] at *
  refine ⟨tabSet_wf off (wd v) h.1, fun o ho => ?_⟩
  have e := tabGet_tabSet h.1 off (wd v) o
  have g : (s.dbltSet off v).dblt.settings = tabSet (wd ((dbltDflt off).getD 0)) s.dblt.settings off (wd v) := rfl
  rw [g, e]
  split
  · subst o
    rwa [show (wd v).toNat = v from Nat.mod_eq_of_lt hv]
  · exact h.2 o ho

theorem dbltInRange_lt {off v : Nat} (h : dbltInRange off v = true) : v < 2 ^ 32 := by
  unfold dbltInRange at h
  split at h
  · have := of_decide_eq_true h; omega
  split at h
  · have := of_decide_eq_true h; omega
  split at h
  · have := of_decide_eq_true h; omega
  split at h
  · have := of_decide_eq_true h; omega
  split at h
  · have := of_decide_eq_true h; omega
  split at h
  · exact of_decide_eq_true h
  · have := of_decide_eq_true h; omega

theorem State.dbltPcie_kept {z : State} (s : State) (off v : Nat) (hz : Kept z s) : Kept z (s.dbltPcie off v) := by
  unfold State.dbltPcie
  split
  · rename_i h
    split
    · rename_i hr
      exact State.dbltSet_kept s off v (by simp at h; exact h.2) hr (dbltInRange_lt hr) hz
    · exact Kept.upd hz rfl
  · exact Kept.upd hz rfl

theorem State.wdiscard_kept {z : State} (s : State) (hz : Kept z s) : Kept z (State.wdiscard s) := by
  unfold State.wdiscard
  refine Kept.upd ?_ rfl; assumption

theorem State.badCfg_kept {z : State} (s : State) (hz : Kept z s) : Kept z (State.badCfg s) := by
  unfold State.badCfg
  refine Kept.upd ?_ rfl; assumption

theorem State.badIndex_kept {z : State} (s : State) (hz : Kept z s) : Kept z (State.badIndex s) := by
  unfold State.badIndex
  refine Kept.upd ?_ rfl; assumption

theorem State.setCmdEn_kept {z : State} (s : State) (on : Bool) (hz : Kept z s) : Kept z (State.setCmdEn s on) := by
  unfold State.setCmdEn
  refine Kept.ite ?_ ?_; assumption; refine Kept.ite ?_ ?_; refine Kept.upd ?_ rfl; assumption; refine Kept.ite ?_ ?_
  apply State.badCfg_kept; assumption; refine Kept.upd ?_ rfl; assumption

theorem State.dropWaiting_kept {z : State} (s : State) (hz : Kept z s) : Kept z (State.dropWaiting s) := by
  unfold State.dropWaiting
  refine Kept.fold ?_ (fun _ _ _ => ?_); refine Kept.upd ?_ rfl; assumption; apply State.dropReply_kept; assumption

theorem State.setRplEn_kept {z : State} (s : State) (on : Bool) (hz : Kept z s) : Kept z (State.setRplEn s on) := by
  unfold State.setRplEn
  refine Kept.ite ?_ ?_; assumption; refine Kept.ite ?_ ?_; apply State.sendFreed_kept; apply State.dropWaiting_kept
  refine Kept.upd ?_ rfl; assumption; refine Kept.ite ?_ ?_; apply State.badCfg_kept; assumption; refine Kept.upd ?_ rfl
  assumption

theorem State.writeCmdPi_kept {z : State} (s : State) (v : Nat) (hz : Kept z s) : Kept z (State.writeCmdPi s v) := by
  unfold State.writeCmdPi
  refine Kept.ite ?_ ?_; apply State.badCfg_kept; assumption; refine Kept.ite ?_ ?_; apply State.badIndex_kept; assumption
  refine Kept.upd ?_ rfl; assumption

theorem State.writeRplCi_kept {z : State} (s : State) (v : Nat) (hz : Kept z s) : Kept z (State.writeRplCi s v) := by
  unfold State.writeRplCi
  dsimp only; refine Kept.ite ?_ ?_; apply State.badCfg_kept; assumption; refine Kept.ite ?_ ?_; apply State.badIndex_kept
  assumption; refine Kept.upd ?_ rfl; assumption

theorem keyWrite_kept {z : State} (s : State) (off v : Nat) (hz : Kept z s) : Kept z (keyWrite s off v) := by
  unfold keyWrite
  dsimp only; refine Kept.ite ?_ ?_; refine Kept.ite ?_ ?_; apply State.badCfg_kept; assumption; apply State.setRplEn_kept
  apply State.setCmdEn_kept; assumption; refine Kept.ite ?_ ?_; refine Kept.upd ?_ rfl; assumption; refine Kept.ite ?_ ?_
  refine Kept.upd ?_ rfl; assumption; refine Kept.ite ?_ ?_; refine Kept.ite ?_ ?_; refine Kept.upd ?_ rfl; assumption
  apply State.badCfg_kept; assumption; refine Kept.ite ?_ ?_; refine Kept.ite ?_ ?_; apply State.badCfg_kept; assumption
  refine Kept.upd ?_ rfl; assumption; refine Kept.ite ?_ ?_; refine Kept.ite ?_ ?_; apply State.badCfg_kept; assumption
  refine Kept.upd ?_ rfl; assumption; refine Kept.ite ?_ ?_; refine Kept.ite ?_ ?_; apply State.badCfg_kept; assumption
  refine Kept.upd ?_ rfl; assumption; refine Kept.ite ?_ ?_; apply State.writeCmdPi_kept; assumption; refine Kept.ite ?_ ?_
  refine Kept.ite ?_ ?_; apply State.badCfg_kept; assumption; refine Kept.upd ?_ rfl; assumption; refine Kept.ite ?_ ?_
  refine Kept.ite ?_ ?_; apply State.badCfg_kept; assumption; refine Kept.upd ?_ rfl; assumption; refine Kept.ite ?_ ?_
  refine Kept.ite ?_ ?_; apply State.badCfg_kept; assumption; refine Kept.upd ?_ rfl; assumption; refine Kept.ite ?_ ?_
  apply State.writeRplCi_kept; assumption; refine Kept.ite ?_ ?_; refine Kept.ite ?_ ?_; refine Kept.upd ?_ rfl; assumption
  refine Kept.ite ?_ ?_; apply State.badCfg_kept; assumption; refine Kept.upd ?_ rfl; assumption; assumption

theorem State.txDone_kept {z : State} (s : State) (slot ts : Nat) (late aborted : Bool) (hz : Kept z s) : Kept z (State.txDone s slot ts late aborted) := by
  unfold State.txDone
  dsimp only; refine Kept.upd ?_ rfl; apply State.emit_kept; assumption

theorem State.abortTx_kept {z : State} (s : State) (hz : Kept z s) : Kept z (State.abortTx s) := by
  unfold State.abortTx
  dsimp only; refine Kept.fold ?_ (fun _ _ _ => ?_); apply State.onMac_kept; assumption; apply State.txDone_kept; assumption

theorem State.setRxEn_kept {z : State} (s : State) (on : Bool) (hz : Kept z s) : Kept z (State.setRxEn s on) := by
  unfold State.setRxEn
  dsimp only; refine Kept.ite ?_ ?_; assumption; refine Kept.ite ?_ ?_; refine Kept.upd ?_ rfl; assumption
  refine Kept.ite ?_ ?_; apply State.wdiscard_kept; assumption; refine Kept.upd ?_ rfl; assumption

theorem State.setTxEn_kept {z : State} (s : State) (on : Bool) (hz : Kept z s) : Kept z (State.setTxEn s on) := by
  unfold State.setTxEn
  dsimp only; refine Kept.ite ?_ ?_; assumption; refine Kept.ite ?_ ?_; refine Kept.upd ?_ rfl; apply State.abortTx_kept
  assumption; refine Kept.ite ?_ ?_; apply State.wdiscard_kept; assumption; refine Kept.upd ?_ rfl; assumption

theorem State.postRx_kept {z : State} (s : State) (v : Nat) (slots : List Bytes) (hz : Kept z s) : Kept z (State.postRx s v slots) := by
  unfold State.postRx
  dsimp only; refine Kept.ite ?_ ?_; assumption; refine Kept.upd ?_ rfl; assumption

theorem State.postTx_kept {z : State} (s : State) (v : Nat) (slots frames : List Bytes) (hz : Kept z s) : Kept z (State.postTx s v slots frames) := by
  unfold State.postTx
  dsimp only; refine Kept.ite ?_ ?_; assumption; apply State.onMac_kept; refine Kept.upd ?_ rfl; assumption

theorem macWrite_kept {z : State} (s : State) (port off v : Nat) (hz : Kept z s) : Kept z (macWrite s port off v) := by
  unfold macWrite
  refine Kept.ite ?_ ?_; dsimp only; apply State.onMac_kept; assumption; refine Kept.ite ?_ ?_; apply State.onMac_kept
  assumption; refine Kept.ite ?_ ?_; assumption; refine Kept.ite ?_ ?_; refine Kept.ite ?_ ?_; apply State.wdiscard_kept
  assumption; apply State.setTxEn_kept; apply State.setRxEn_kept; assumption; refine Kept.ite ?_ ?_; split
  refine Kept.upd ?_ rfl; assumption; apply State.wdiscard_kept; assumption; refine Kept.ite ?_ ?_; apply State.postRx_kept
  assumption; refine Kept.ite ?_ ?_; split; refine Kept.upd ?_ rfl; assumption; apply State.wdiscard_kept; assumption
  refine Kept.ite ?_ ?_; apply State.postTx_kept; assumption; assumption

theorem State.writeKctl_kept {z : State} (s : State) (v : Nat) (hz : Kept z s) : Kept z (State.writeKctl s v) := by
  unfold State.writeKctl
  dsimp only; refine Kept.ite ?_ ?_; refine Kept.upd ?_ rfl; assumption; refine Kept.ite ?_ ?_; refine Kept.upd ?_ rfl
  assumption; refine Kept.upd ?_ rfl; assumption

theorem State.writeInj_kept {z : State} (s : State) (k v : Nat) (hz : Kept z s) : Kept z (State.writeInj s k v) := by
  unfold State.writeInj
  dsimp only; apply State.onEngine_kept; assumption

theorem State.writeTestEn_kept {z : State} (s : State) (v : Nat) (hz : Kept z s) : Kept z (State.writeTestEn s v) := by
  unfold State.writeTestEn
  refine Kept.ite ?_ ?_; refine Kept.upd ?_ rfl; assumption; assumption

theorem tapWrite_kept {z : State} (s : State) (off v : Nat) (hz : Kept z s) : Kept z (tapWrite s off v) := by
  unfold tapWrite
  refine Kept.ite ?_ ?_; apply State.writeTestEn_kept; assumption; refine Kept.ite ?_ ?_; apply State.writeKctl_kept
  assumption; refine Kept.ite ?_ ?_; apply State.onEngine_kept; assumption; refine Kept.ite ?_ ?_; apply State.writeInj_kept
  assumption; assumption

theorem State.clrDispMax_kept {z : State} (s : State) (hz : Kept z s) : Kept z (State.clrDispMax s) := by
  unfold State.clrDispMax
  refine Kept.upd ?_ rfl; assumption

theorem hostWrite_kept {z : State} (s : State) (blk off v : Nat) (hz : Kept z s) : Kept z (hostWrite s blk off v) := by
  unfold hostWrite
  dsimp only; refine Kept.ite ?_ ?_; refine Kept.ite ?_ ?_; refine Kept.upd ?_ rfl; assumption; refine Kept.upd ?_ rfl
  assumption; refine Kept.ite ?_ ?_; apply keyWrite_kept; assumption; refine Kept.ite ?_ ?_; refine Kept.ite ?_ ?_
  refine Kept.upd ?_ rfl; assumption; refine Kept.ite ?_ ?_; refine Kept.upd ?_ rfl; assumption; assumption
  refine Kept.ite ?_ ?_; refine Kept.ite ?_ ?_; refine Kept.upd ?_ rfl; assumption; apply State.onGate_kept; assumption
  refine Kept.ite ?_ ?_; refine Kept.ite ?_ ?_; refine Kept.upd ?_ rfl; assumption; refine Kept.upd ?_ rfl; assumption
  refine Kept.ite ?_ ?_; apply macWrite_kept; assumption; refine Kept.ite ?_ ?_; refine Kept.ite ?_ ?_; refine Kept.upd ?_ rfl
  assumption; refine Kept.ite ?_ ?_; apply State.clrDispMax_kept; assumption; assumption; refine Kept.ite ?_ ?_
  refine Kept.ite ?_ ?_; refine Kept.upd ?_ rfl; assumption; refine Kept.ite ?_ ?_; refine Kept.upd ?_ rfl; assumption
  assumption; refine Kept.ite ?_ ?_; refine Kept.upd ?_ rfl; assumption; refine Kept.ite ?_ ?_; refine Kept.ite ?_ ?_
  refine Kept.upd ?_ rfl; assumption; refine Kept.ite ?_ ?_; refine Kept.upd ?_ rfl; assumption; assumption
  refine Kept.ite ?_ ?_; refine Kept.upd ?_ rfl; assumption; refine Kept.ite ?_ ?_; refine Kept.ite ?_ ?_
  refine Kept.upd ?_ rfl; assumption; refine Kept.ite ?_ ?_; refine Kept.upd ?_ rfl; assumption; assumption
  refine Kept.ite ?_ ?_; refine Kept.upd ?_ rfl; assumption; refine Kept.ite ?_ ?_; refine Kept.upd ?_ rfl; assumption
  refine Kept.ite ?_ ?_; refine Kept.upd ?_ rfl; assumption; refine Kept.ite ?_ ?_; apply tapWrite_kept; assumption
  refine Kept.ite ?_ ?_; refine Kept.ite ?_ ?_; refine Kept.upd ?_ rfl; assumption; refine Kept.ite ?_ ?_
  refine Kept.upd ?_ rfl; assumption; assumption; refine Kept.ite ?_ ?_; refine Kept.upd ?_ rfl; assumption
  refine Kept.ite ?_ ?_; refine Kept.upd ?_ rfl; assumption; refine Kept.upd ?_ rfl; assumption

theorem State.writeReg_kept {z : State} (s : State) (blk off v : Nat) (hz : Kept z s) : Kept z (State.writeReg s blk off v) := by
  unfold State.writeReg
  refine Kept.ite ?_ ?_; apply State.dbltPcie_kept; assumption; refine Kept.ite ?_ ?_; apply hostWrite_kept; assumption
  apply State.wdiscard_kept; assumption

theorem State.pcieWrite_kept {z : State} (s : State) (a v be : Nat) (hz : Kept z s) : Kept z (State.pcieWrite s a v be) := by
  unfold State.pcieWrite
  refine Kept.ite ?_ ?_; assumption; refine Kept.ite ?_ ?_; apply State.wdiscard_kept; assumption; split
  apply State.writeReg_kept; assumption; refine Kept.upd ?_ rfl; assumption; apply State.fabErr_kept; assumption; assumption

theorem hostRegWrite_kept {z : State} (t a v : Nat) (s : State) (hz : Kept z s) : Kept z (hostRegWrite t a v s) := by
  unfold hostRegWrite
  apply State.pcieWrite_kept; apply State.at_kept; assumption

theorem State.corStore_kept {z : State} (s : State) (a f : Nat) (d : Bytes) (hz : Kept z s) : Kept z (State.corStore s a f d) := by
  unfold State.corStore
  dsimp only; refine Kept.upd ?_ rfl; assumption

theorem corWindow_kept {z : State} (n a : Nat) (d : Bytes) (s : State) (hz : Kept z s) : Kept z (corWindow n a d s) := by
  induction n generalizing a d s with
  | zero => exact hz
  | succ n ih =>
    unfold corWindow
    refine Kept.ite hz (ih _ _ _ (Kept.ite (State.corStore_kept _ _ _ _ hz) (Kept.upd hz rfl)))

theorem State.imgStore_kept {z : State} (s : State) (off : Nat) (d : Bytes) (hz : Kept z s) : Kept z (State.imgStore s off d) := by
  unfold State.imgStore
  refine Kept.ite (Kept.mem hz rfl rfl fun h => ?_) (Kept.upd hz rfl)
  rw [storesOk_iff] at *
  exact ⟨memFill_wf _ _ h.1, h.2⟩

theorem State.layoutStore_kept {z : State} (s : State) (off : Nat) (d : Bytes) (hz : Kept z s) : Kept z (State.layoutStore s off d) := by
  unfold State.layoutStore
  refine Kept.ite (Kept.mem hz rfl rfl fun h => ?_) (State.wdiscard_kept _ hz)
  rw [storesOk_iff] at *
  exact ⟨h.1, h.2.1, memFill_wf _ _ h.2.2.1, h.2.2.2⟩

theorem State.routeStore_kept {z : State} (s : State) (off : Nat) (d : Bytes) (hz : Kept z s) : Kept z (State.routeStore s off d) := by
  unfold State.routeStore
  refine Kept.ite (Kept.upd hz rfl) (Kept.mem hz rfl rfl fun h => ?_)
  rw [storesOk_iff] at *
  exact ⟨h.1, h.2.1, h.2.2.1, h.2.2.2.1, memFill_wf _ _ h.2.2.2.2.1, h.2.2.2.2.2⟩

theorem State.bar2Store_kept {z : State} (s : State) (off : Nat) (d : Bytes) (hz : Kept z s) : Kept z (State.bar2Store s off d) := by
  unfold State.bar2Store
  refine Kept.ite ?_ ?_; apply State.imgStore_kept; assumption; refine Kept.ite ?_ ?_; apply corWindow_kept; assumption
  refine Kept.ite ?_ ?_; apply State.layoutStore_kept; assumption; refine Kept.ite ?_ ?_; apply State.routeStore_kept
  assumption; apply State.wdiscard_kept; assumption

theorem State.bar2Write_kept {z : State} (s : State) (off : Nat) (d : Bytes) (hz : Kept z s) : Kept z (State.bar2Write s off d) := by
  unfold State.bar2Write
  refine Kept.ite ?_ ?_; assumption; split; apply State.bar2Store_kept; assumption; refine Kept.upd ?_ rfl; assumption
  apply State.fabErr_kept; assumption; assumption

theorem State.startBring_kept {z : State} (s : State) (step source : Nat) (hz : Kept z s) : Kept z (State.startBring s step source) := by
  unfold State.startBring
  refine Kept.upd ?_ rfl; assumption

theorem State.perstLow_kept {z : State} (s : State) (outstanding : List FabErr) (hz : Kept z s) : Kept z (State.perstLow s outstanding) := by
  unfold State.perstLow
  dsimp only; refine Kept.upd ?_ rfl; refine Kept.fold ?_ (fun _ _ _ => ?_); apply State.setRplEn_kept
  apply State.setCmdEn_kept; assumption; apply State.fabErr_kept; assumption

theorem imgBeginRun_kept (i : CmdIn) (s : State) : Verdict.Kept s (imgBeginRun i s) := by
  unfold imgBeginRun
  dsimp only; refine Verdict.kite ?_ ?_; exact trivial; refine Verdict.kite ?_ ?_; exact trivial; refine Verdict.kite ?_ ?_
  exact trivial; refine Verdict.kite ?_ ?_; exact trivial; apply Verdict.ok_kept; refine Kept.upd ?_ rfl; exact Kept.refl _

theorem imgBeginCmd_kept : imgBeginCmd.Kept := by
  intro i s
  exact imgBeginRun_kept i s

theorem imgDataRun_kept (i : CmdIn) (s : State) : Verdict.Kept s (imgDataRun i s) := by
  unfold imgDataRun
  dsimp only
  repeat' split
  all_goals first
    | exact trivial
    | (refine Verdict.ok_kept (Kept.mem (Kept.refl s) rfl rfl fun h => ?_)
       rw [storesOk_iff] at *
       exact ⟨memFill_wf _ _ h.1, h.2⟩)

theorem imgDataCmd_kept : imgDataCmd.Kept := by
  intro i s
  exact imgDataRun_kept i s

theorem imgEndRun_kept (_i : CmdIn) (s : State) : Verdict.Kept s (imgEndRun _i s) := by
  unfold imgEndRun
  refine Verdict.kite ?_ ?_; exact trivial; refine Verdict.kite ?_ ?_; exact trivial; refine Verdict.kite ?_ ?_; exact trivial
  refine Verdict.kite ?_ ?_; exact trivial; refine Verdict.kite ?_ ?_; exact trivial; apply Verdict.ok_kept
  refine Kept.upd ?_ rfl; exact Kept.refl _

theorem imgEndCmd_kept : imgEndCmd.Kept := by
  intro i s
  exact imgEndRun_kept i s

theorem imgStatusCmd_kept : imgStatusCmd.Kept := by
  intro i s
  unfold imgStatusCmd
  dsimp only
  apply Verdict.kdone; exact Kept.refl _

theorem State.declareFailed_kept {z : State} (s : State) (k : Nat) (hz : Kept z s) : Kept z (State.declareFailed s k) := by
  unfold State.declareFailed
  dsimp only; refine Kept.upd ?_ rfl; apply State.onEngine_kept; assumption

theorem State.moveTo_kept {z : State} (s : State) (sh sp : Nat) (hz : Kept z s) : Kept z (State.moveTo s sh sp) := by
  unfold State.moveTo
  dsimp only; refine Kept.upd ?_ rfl; apply State.onEngine_kept; refine Kept.upd ?_ rfl; assumption

theorem State.assignSpare_kept {z : State} (s : State) (k : Nat) (hz : Kept z s) : Kept z (State.assignSpare s k).2 := by
  unfold State.assignSpare
  dsimp only; split; dsimp only; refine Kept.upd ?_ rfl; assumption; split; dsimp only; refine Kept.upd ?_ rfl; assumption
  dsimp only; refine Kept.upd ?_ rfl; assumption

theorem State.applyMoves_kept {z : State} (s : State) (hz : Kept z s) : Kept z (State.applyMoves s) := by
  unfold State.applyMoves
  dsimp only; refine Kept.fold ?_ (fun _ _ _ => ?_); refine Kept.upd ?_ rfl; assumption; apply State.onEngine_kept
  apply State.moveTo_kept; assumption

theorem State.objAccepted_kept {z : State} (s : State) (hz : Kept z s) : Kept z (State.objAccepted s) := by
  unfold State.objAccepted
  refine Kept.upd ?_ rfl; assumption

theorem State.objStaleBlock_kept {z : State} (s : State) (hz : Kept z s) : Kept z (State.objStaleBlock s) := by
  unfold State.objStaleBlock
  refine Kept.upd ?_ rfl; assumption

theorem State.pendObjAt_kept {z : State} (s : State) (w o : Nat) (b : Blk) (hz : Kept z s) : Kept z (State.pendObjAt s w o b) := by
  unfold State.pendObjAt
  split; apply State.objAccepted_kept; apply State.setObj_kept; assumption

theorem State.pendObj_kept {z : State} (s : State) (o : Nat) (b : Blk) (hz : Kept z s) : Kept z (State.pendObj s o b) := by
  unfold State.pendObj
  apply State.pendObjAt_kept; assumption

theorem State.pendBed_kept {z : State} (s : State) (k : Nat) (b : Blk) (hz : Kept z s) : Kept z (State.pendBed s k b) := by
  unfold State.pendBed
  dsimp only; apply State.objAccepted_kept; apply State.setBed_kept; assumption

theorem State.blockNow_kept {z : State} (s : State) (bed : Bool) (k : Nat) (b : Blk) (hz : Kept z s) : Kept z (State.blockNow s bed k b) := by
  unfold State.blockNow
  refine Kept.ite ?_ ?_; apply State.objAccepted_kept; apply State.setBed_kept; assumption; split
  apply State.objAccepted_kept; apply State.setObj_kept; assumption

theorem State.nextOrd_kept {z : State} (s : State) (hz : Kept z s) : Kept z (State.nextOrd s) := by
  unfold State.nextOrd
  refine Kept.upd ?_ rfl; assumption

theorem blockRun_kept (f : BlockForm) (i : CmdIn) (s : State) : Verdict.Kept s (blockRun f i s) := by
  unfold blockRun
  dsimp only; refine Verdict.kite ?_ ?_; exact trivial; refine Verdict.kite ?_ ?_; exact trivial; refine Verdict.kite ?_ ?_
  apply Verdict.ok_kept; apply State.nextOrd_kept; apply State.blockNow_kept; exact Kept.refl _; split; exact trivial
  exact trivial; refine Verdict.kite ?_ ?_; apply Verdict.kdone; apply State.objStaleBlock_kept; exact Kept.refl _
  refine Verdict.kite ?_ ?_; exact trivial; apply Verdict.kdone; refine Kept.ite ?_ ?_; apply State.nextOrd_kept
  apply State.pendBed_kept; exact Kept.refl _; apply State.nextOrd_kept; apply State.pendObj_kept; exact Kept.refl _

theorem objBindCmd_kept : objBindCmd.Kept := by
  intro i s
  exact blockRun_kept _ i s

theorem objSourceCmd_kept : objSourceCmd.Kept := by
  intro i s
  exact blockRun_kept _ i s

theorem objMoveCmd_kept : objMoveCmd.Kept := by
  intro i s
  exact blockRun_kept _ i s

theorem objGainCmd_kept : objGainCmd.Kept := by
  intro i s
  exact blockRun_kept _ i s

theorem objSpreadCmd_kept : objSpreadCmd.Kept := by
  intro i s
  exact blockRun_kept _ i s

theorem objZonesCmd_kept : objZonesCmd.Kept := by
  intro i s
  exact blockRun_kept _ i s

theorem objLayoutsCmd_kept : objLayoutsCmd.Kept := by
  intro i s
  exact blockRun_kept _ i s

theorem objAttenCmd_kept : objAttenCmd.Kept := by
  intro i s
  exact blockRun_kept _ i s

theorem bedGainCmd_kept : bedGainCmd.Kept := by
  intro i s
  exact blockRun_kept _ i s

theorem bedBindCmd_kept : bedBindCmd.Kept := by
  intro i s
  exact blockRun_kept _ i s

theorem sceneXformRun_kept (i : CmdIn) (s : State) : Verdict.Kept s (sceneXformRun i s) := by
  unfold sceneXformRun
  dsimp only; refine Verdict.kite ?_ ?_; exact trivial; refine Verdict.kite ?_ ?_; exact trivial; apply Verdict.ok_kept
  refine Kept.upd ?_ rfl; exact Kept.refl _

theorem sceneXformCmd_kept : sceneXformCmd.Kept := by
  intro i s
  exact sceneXformRun_kept i s

theorem metaPolicyRun_kept (i : CmdIn) (s : State) : Verdict.Kept s (metaPolicyRun i s) := by
  unfold metaPolicyRun
  dsimp only; refine Verdict.kite ?_ ?_; exact trivial; apply Verdict.ok_kept; refine Kept.upd ?_ rfl; exact Kept.refl _

theorem metaPolicyCmd_kept : metaPolicyCmd.Kept := by
  intro i s
  exact metaPolicyRun_kept i s

theorem objQueryRun_kept (i : CmdIn) (s : State) : Verdict.Kept s (objQueryRun i s) := by
  unfold objQueryRun
  refine Verdict.kite ?_ ?_; exact trivial; apply Verdict.kdone; exact Kept.refl _

theorem objQueryCmd_kept : objQueryCmd.Kept := by
  intro i s
  exact objQueryRun_kept i s

theorem State.schedule_kept {z : State} (s : State) (n : Nat) (i : CmdIn) (hz : Kept z s) : Kept z (State.schedule s n i) := by
  unfold State.schedule
  dsimp only; refine Kept.upd ?_ rfl; assumption

theorem scheduled_kept {z : State} (i : CmdIn) (s now : State) (later : Nat → State) (hn : Machine.Kept z now)
    (hl : ∀ n, Machine.Kept z (later n)) : Verdict.Kept z (scheduled i s now later) := by
  unfold scheduled
  refine Verdict.kite (Verdict.ok_kept hn) ?_
  split
  · exact trivial
  · exact trivial
  · exact Verdict.kdone (hl _)

theorem layoutWriteRun_kept (i : CmdIn) (s : State) : Verdict.Kept s (layoutWriteRun i s) := by
  unfold layoutWriteRun
  repeat' split
  all_goals first
    | exact trivial
    | (refine Verdict.ok_kept (Kept.mem (Kept.refl s) rfl rfl fun h => ?_)
       rw [storesOk_iff] at *
       exact ⟨h.1, h.2.1, memFill_wf _ _ h.2.2.1, h.2.2.2⟩)

theorem layoutWriteCmd_kept : layoutWriteCmd.Kept := by
  intro i s
  exact layoutWriteRun_kept i s

theorem State.idlePairs_kept {z : State} (s : State) (hz : Kept z s) : Kept z (State.idlePairs s) := by
  unfold State.idlePairs
  dsimp only; refine Kept.upd ?_ rfl; assumption

theorem State.layoutLoad_kept {z : State} (s : State) (hz : Kept z s) : Kept z s.layoutLoad := by
  unfold State.layoutLoad
  dsimp only
  apply State.idlePairs_kept
  refine Kept.mem hz rfl rfl fun h => ?_
  rw [storesOk_iff] at *
  exact ⟨h.1, h.2.1, h.2.2.1, h.2.2.1, h.2.2.2.2⟩

theorem layoutLoadRun_kept (_i : CmdIn) (s : State) : Verdict.Kept s (layoutLoadRun _i s) := by
  unfold layoutLoadRun
  refine Verdict.kite ?_ ?_; exact trivial; split; exact trivial; apply Verdict.ok_kept; apply State.layoutLoad_kept
  exact Kept.refl _

theorem layoutLoadCmd_kept : layoutLoadCmd.Kept := by
  intro i s
  exact layoutLoadRun_kept i s

theorem layoutQueryRun_kept (i : CmdIn) (s : State) : Verdict.Kept s (layoutQueryRun i s) := by
  unfold layoutQueryRun
  refine Verdict.kite ?_ ?_; exact trivial; apply Verdict.kdone; exact Kept.refl _

theorem layoutQueryCmd_kept : layoutQueryCmd.Kept := by
  intro i s
  exact layoutQueryRun_kept i s

theorem State.soundAt_kept {z : State} (s : State) (n : Nat) (p : Bytes) (hz : Kept z s) : Kept z (State.soundAt s n p) := by
  unfold State.soundAt
  dsimp only; refine Kept.upd ?_ rfl; assumption

theorem State.soundNow_kept {z : State} (s : State) (l c : Nat) (hz : Kept z s) : Kept z (State.soundNow s l c) := by
  unfold State.soundNow
  dsimp only; refine Kept.upd ?_ rfl; assumption

theorem soundSpeedRun_kept (i : CmdIn) (s : State) : Verdict.Kept s (soundSpeedRun i s) := by
  unfold soundSpeedRun
  dsimp only; refine Verdict.kite ?_ ?_; exact trivial; apply scheduled_kept; apply State.soundNow_kept; exact Kept.refl _
  intro _; apply State.schedule_kept; exact Kept.refl _

theorem soundSpeedCmd_kept : soundSpeedCmd.Kept := by
  intro i s
  exact soundSpeedRun_kept i s

theorem pairQueryRun_kept (i : CmdIn) (s : State) : Verdict.Kept s (pairQueryRun i s) := by
  unfold pairQueryRun
  dsimp only; refine Verdict.kite ?_ ?_; exact trivial; apply Verdict.kdone; exact Kept.refl _

theorem pairQueryCmd_kept : pairQueryCmd.Kept := by
  intro i s
  exact pairQueryRun_kept i s

theorem State.onDac_kept {z : State} (s : State) (n : Nat) (f : DacCh → DacCh) (hz : Kept z s) : Kept z (State.onDac s n f) := by
  unfold State.onDac
  refine Kept.upd ?_ rfl; assumption

theorem State.dacEvt_kept {z : State} (s : State) (i : Nat) (hz : Kept z s) : Kept z (State.dacEvt s i) := by
  unfold State.dacEvt
  refine Kept.upd ?_ rfl; assumption

theorem dacConfigRun_kept (i : CmdIn) (s : State) : Verdict.Kept s (dacConfigRun i s) := by
  unfold dacConfigRun
  dsimp only; refine Verdict.kite ?_ ?_; exact trivial; refine Verdict.kite ?_ ?_; exact trivial; apply Verdict.ok_kept
  refine Kept.upd ?_ rfl; exact Kept.refl _

theorem dacConfigCmd_kept : dacConfigCmd.Kept := by
  intro i s
  exact dacConfigRun_kept i s

theorem State.dacMapAt_kept {z : State} (s : State) (n : Option Nat) (p : Bytes) (hz : Kept z s) : Kept z (State.dacMapAt s n p) := by
  unfold State.dacMapAt
  refine Kept.fold ?_ (fun _ _ _ => ?_); assumption; split; apply State.onDac_kept; assumption

theorem dacMapRun_kept (i : CmdIn) (s : State) : Verdict.Kept s (dacMapRun i s) := by
  unfold dacMapRun
  dsimp only; refine Verdict.kite ?_ ?_; exact trivial; apply scheduled_kept; apply State.dacMapAt_kept; exact Kept.refl _
  intro _; apply State.schedule_kept; exact Kept.refl _

theorem dacMapCmd_kept : dacMapCmd.Kept := by
  intro i s
  exact dacMapRun_kept i s

theorem State.setSpan_kept {z : State} (s : State) (mask span : Nat) (hz : Kept z s) : Kept z (State.setSpan s mask span) := by
  unfold State.setSpan
  dsimp only; refine Kept.upd ?_ rfl; refine Kept.fold ?_ (fun _ _ _ => ?_); assumption; apply State.onDac_kept; assumption

theorem State.spanSupersede_kept {z : State} (s : State) (r : SpanReq) (hz : Kept z s) : Kept z (State.spanSupersede s r) := by
  unfold State.spanSupersede
  apply State.answer_kept; apply State.dacEvt_kept; refine Kept.upd ?_ rfl; assumption

theorem dacSpanRun_kept (i : CmdIn) (s : State) : Verdict.Kept s (dacSpanRun i s) := by
  unfold dacSpanRun
  dsimp only; refine Verdict.kite ?_ ?_; exact trivial; refine Verdict.kite ?_ ?_; apply Verdict.ok_kept
  apply State.setSpan_kept; exact Kept.refl _; split; exact trivial; exact trivial; refine Verdict.kite ?_ ?_; exact trivial
  apply Verdict.kdefer; refine Kept.upd ?_ rfl; refine Kept.fold ?_ (fun _ _ _ => ?_); exact Kept.refl _
  apply State.spanSupersede_kept; assumption

theorem dacSpanCmd_kept : dacSpanCmd.Kept := by
  intro i s
  exact dacSpanRun_kept i s

theorem dacQueryCmd_kept : dacQueryCmd.Kept := by
  intro i s
  unfold dacQueryCmd
  dsimp only
  apply Verdict.kdone; exact Kept.refl _

theorem State.spanStart_kept {z : State} (s : State) (n : Nat) (hz : Kept z s) : Kept z (State.spanStart s n) := by
  unfold State.spanStart
  refine Kept.fold ?_ (fun _ _ _ => ?_); assumption; refine Kept.ite ?_ ?_; dsimp only; refine Kept.upd ?_ rfl; assumption
  assumption

theorem State.joinGroup_kept {z : State} (s : State) (g : Nat × Nat × Nat) (hz : Kept z s) : Kept z (State.joinGroup s g) := by
  unfold State.joinGroup
  refine Kept.ite ?_ ?_; assumption; dsimp only; apply State.sendIgmp_kept; refine Kept.upd ?_ rfl; assumption

theorem State.leaveGroup_kept {z : State} (s : State) (g : Nat × Nat × Nat) (hz : Kept z s) : Kept z (State.leaveGroup s g) := by
  unfold State.leaveGroup
  refine Kept.ite ?_ ?_; assumption; dsimp only; apply State.sendIgmp_kept; refine Kept.upd ?_ rfl; assumption

theorem State.leaveUnneeded_kept {z : State} (s : State) (gs : List (Nat × Nat × Nat)) (hz : Kept z s) : Kept z (State.leaveUnneeded s gs) := by
  unfold State.leaveUnneeded
  refine Kept.fold ?_ (fun _ _ _ => ?_); assumption; refine Kept.ite ?_ ?_; assumption; apply State.leaveGroup_kept
  assumption

theorem State.setAddr_kept {z : State} (s : State) (port : Nat) (a : Nat × Nat × Nat) (hz : Kept z s) : Kept z (State.setAddr s port a) := by
  unfold State.setAddr
  apply State.onMac_kept; assumption

theorem netAddrRun_kept (i : CmdIn) (s : State) : Verdict.Kept s (netAddrRun i s) := by
  unfold netAddrRun
  dsimp only; refine Verdict.kite ?_ ?_; exact trivial; refine Verdict.kite ?_ ?_; exact trivial; refine Verdict.kite ?_ ?_
  exact trivial; split; apply Verdict.ok_kept; refine Kept.ite ?_ ?_; apply State.onMac_kept; exact Kept.refl _
  apply State.setAddr_kept; exact Kept.refl _; apply Verdict.ok_kept; apply State.setAddr_kept; exact Kept.refl _

theorem netAddrCmd_kept : netAddrCmd.Kept := by
  intro i s
  exact netAddrRun_kept i s

theorem vlanSetRun_kept (i : CmdIn) (s : State) : Verdict.Kept s (vlanSetRun i s) := by
  unfold vlanSetRun
  dsimp only; refine Verdict.kite ?_ ?_; exact trivial; refine Verdict.kite ?_ ?_; exact trivial; apply Verdict.ok_kept
  refine Kept.upd ?_ rfl; exact Kept.refl _

theorem vlanSetCmd_kept : vlanSetCmd.Kept := by
  intro i s
  exact vlanSetRun_kept i s

theorem State.onStatIn_kept {z : State} (s : State) (i : Nat) (f : FlowStats → FlowStats) (hz : Kept z s) : Kept z (State.onStatIn s i f) := by
  unfold State.onStatIn
  refine Kept.upd ?_ rfl; assumption

theorem State.onStatOut_kept {z : State} (s : State) (i : Nat) (f : FlowStats → FlowStats) (hz : Kept z s) : Kept z (State.onStatOut s i f) := by
  unfold State.onStatOut
  refine Kept.upd ?_ rfl; assumption

theorem State.onFlowRx_kept {z : State} (s : State) (i : Nat) (f : FlowRx → FlowRx) (hz : Kept z s) : Kept z (State.onFlowRx s i f) := by
  unfold State.onFlowRx
  refine Kept.upd ?_ rfl; assumption

theorem State.dropRaw_kept {z : State} (s : State) (i : Nat) (hz : Kept z s) : Kept z (State.dropRaw s i) := by
  unfold State.dropRaw
  refine Kept.upd ?_ rfl; assumption

theorem State.setFlowIn_kept {z : State} (s : State) (i : Nat) (r : Bytes) (running : Bool) (hz : Kept z s) : Kept z (State.setFlowIn s i r running) := by
  unfold State.setFlowIn
  dsimp only; apply State.onStatIn_kept; apply State.onFlowRx_kept; apply State.dropRaw_kept; refine Kept.upd ?_ rfl
  assumption

theorem State.flowPend_kept {z : State} (s : State) (i n : Nat) (r : Bytes) (hz : Kept z s) : Kept z (State.flowPend s i n r) := by
  unfold State.flowPend
  dsimp only; apply State.leaveUnneeded_kept; refine Kept.fold ?_ (fun _ _ _ => ?_); refine Kept.upd ?_ rfl; assumption
  apply State.joinGroup_kept; assumption

theorem flowInSetRun_kept (i : CmdIn) (s : State) : Verdict.Kept s (flowInSetRun i s) := by
  unfold flowInSetRun
  dsimp only; refine Verdict.kite ?_ ?_; exact trivial; refine Verdict.kite ?_ ?_; exact trivial; refine Verdict.kite ?_ ?_
  refine Verdict.kite ?_ ?_; exact trivial; apply Verdict.ok_kept; apply State.setFlowIn_kept; exact Kept.refl _; split
  exact trivial; exact trivial; refine Verdict.kite ?_ ?_; exact trivial; apply Verdict.kdone; apply State.flowPend_kept
  exact Kept.refl _

theorem flowInSetCmd_kept : flowInSetCmd.Kept := by
  intro i s
  exact flowInSetRun_kept i s

theorem flowOutSetRun_kept (i : CmdIn) (s : State) : Verdict.Kept s (flowOutSetRun i s) := by
  unfold flowOutSetRun
  dsimp only; refine Verdict.kite ?_ ?_; exact trivial; refine Verdict.kite ?_ ?_; exact trivial; apply Verdict.ok_kept
  refine Kept.upd ?_ rfl; exact Kept.refl _

theorem flowOutSetCmd_kept : flowOutSetCmd.Kept := by
  intro i s
  exact flowOutSetRun_kept i s

theorem flowQueryRun_kept (i : CmdIn) (s : State) : Verdict.Kept s (flowQueryRun i s) := by
  unfold flowQueryRun
  dsimp only; refine Verdict.kite ?_ ?_; exact trivial; apply Verdict.kdone; exact Kept.refl _

theorem flowQueryCmd_kept : flowQueryCmd.Kept := by
  intro i s
  exact flowQueryRun_kept i s

theorem sysInfoCmd_kept : sysInfoCmd.Kept := by
  intro i s
  unfold sysInfoCmd
  dsimp only
  apply Verdict.kdone; exact Kept.refl _

theorem sysResetCmd_kept : sysResetCmd.Kept := by
  intro i s
  unfold sysResetCmd
  dsimp only
  apply Verdict.ok_kept; apply State.abortDue_kept; exact Kept.refl _

theorem nopCmd_kept : nopCmd.Kept := by
  intro i s
  unfold nopCmd
  dsimp only
  refine Verdict.kite ?_ ?_; apply Verdict.kheld; refine Kept.upd ?_ rfl; exact Kept.refl _; apply Verdict.ok_kept
  exact Kept.refl _

theorem logReadRun_kept (i : CmdIn) (s : State) : Verdict.Kept s (logReadRun i s) := by
  unfold logReadRun
  dsimp only; refine Verdict.kite ?_ ?_; exact trivial; apply Verdict.kdone; exact Kept.refl _

theorem logReadCmd_kept : logReadCmd.Kept := by
  intro i s
  exact logReadRun_kept i s

theorem State.coreErr_kept {z : State} (s : State) (a code : Nat) (write : Bool) (hz : Kept z s) : Kept z (State.coreErr s a code write) := by
  unfold State.coreErr
  split; split; apply State.fabErr_kept; refine Kept.snd (by assumption) ?_; apply State.freeBelow_kept
  refine Kept.snd (by assumption) ?_; apply State.freeBelow_kept; assumption

theorem regReadGo_kept {z : State} (ref : ReplyRef) (n a : Nat) (acc : Bytes) (s : State) (hz : Kept z s) :
    Verdict.Kept z (regReadGo ref n a acc s) := by
  induction n generalizing a acc s with
  | zero => exact hz
  | succ n ih =>
    unfold regReadGo
    split
    · exact ih _ _ _ hz
    · exact ih _ _ _ (State.coreErr_kept _ _ _ _ hz)
    · exact Verdict.kfail (State.coreErr_kept _ _ _ _ hz)
    · exact Verdict.kheld (Kept.upd hz rfl)

theorem regWriteGo_kept {z : State} (ref : ReplyRef) (n a : Nat) (vs : Bytes) (s : State) (hz : Kept z s) :
    Verdict.Kept z (regWriteGo ref n a vs s) := by
  induction n generalizing a vs s with
  | zero => exact hz
  | succ n ih =>
    unfold regWriteGo
    split
    · exact ih _ _ _ (State.writeReg_kept _ _ _ _ hz)
    · exact Verdict.kfail (State.coreErr_kept _ _ _ _ hz)
    · exact Verdict.kheld (Kept.upd hz rfl)

theorem regReadRun_kept (i : CmdIn) (s : State) : Verdict.Kept s (regReadRun i s) := by
  unfold regReadRun
  dsimp only; refine Verdict.kite ?_ ?_; exact trivial; apply regReadGo_kept; exact Kept.refl _

theorem regReadCmd_kept : regReadCmd.Kept := by
  intro i s
  exact regReadRun_kept i s

theorem regWriteRun_kept (i : CmdIn) (s : State) : Verdict.Kept s (regWriteRun i s) := by
  unfold regWriteRun
  dsimp only; refine Verdict.kite ?_ ?_; exact trivial; refine Verdict.kite ?_ ?_; exact trivial; refine Verdict.kite ?_ ?_
  exact trivial; apply regWriteGo_kept; exact Kept.refl _

theorem regWriteCmd_kept : regWriteCmd.Kept := by
  intro i s
  exact regWriteRun_kept i s

theorem State.resumeCmd_kept {z : State} (s : State) (c : HeldCmd) (hz : Kept z s) : Kept z (s.resumeCmd c) := by
  unfold State.resumeCmd
  have hv : Verdict.Kept z (if c.write then regWriteGo c.ref c.left c.addr c.data s else regReadGo c.ref c.left c.addr c.data s) := by
    split
    · exact regWriteGo_kept _ _ _ _ _ hz
    · exact regReadGo_kept _ _ _ _ _ hz
  generalize (if c.write then regWriteGo c.ref c.left c.addr c.data s else regReadGo c.ref c.left c.addr c.data s) = v at hv
  cases v with
  | refuse st pl => exact hz
  | done t pl n => exact State.answer_kept _ _ _ _ _ _ hv
  | defer t n => exact hz
  | fail t st pl => exact State.answer_kept _ _ _ _ _ _ (State.countRefusal_kept _ hv)
  | held t => exact hv

theorem State.releaseHeld_kept {z : State} (s : State) (g : Nat) (hz : Kept z s) : Kept z (State.releaseHeld s g) := by
  unfold State.releaseHeld
  dsimp only; refine Kept.fold ?_ (fun _ _ _ => ?_); refine Kept.fold ?_ (fun _ _ _ => ?_); refine Kept.upd ?_ rfl; assumption
  split; apply State.bar2Write_kept; assumption; apply State.pcieWrite_kept; assumption; apply State.resumeCmd_kept
  assumption

theorem State.pwrEvt_kept {z : State} (s : State) (i : Nat) (hz : Kept z s) : Kept z (State.pwrEvt s i) := by
  unfold State.pwrEvt
  refine Kept.upd ?_ rfl; assumption

theorem pwrQueryCmd_kept : pwrQueryCmd.Kept := by
  intro i s
  unfold pwrQueryCmd
  dsimp only
  apply Verdict.kdone; exact Kept.refl _

theorem clkQueryCmd_kept : clkQueryCmd.Kept := by
  intro i s
  unfold clkQueryCmd
  dsimp only
  apply Verdict.kdone; exact Kept.refl _

theorem State.exerciseEmpty_kept {z : State} (s : State) (result onB : Nat) (hz : Kept z s) : Kept z (State.exerciseEmpty s result onB).2 := by
  unfold State.exerciseEmpty
  split; split; dsimp only; refine Kept.snd (by assumption) ?_; apply State.freeBelow_kept; refine Kept.snd (by assumption) ?_
  apply State.freeBelow_kept; assumption

theorem State.exerciseDone_kept {z : State} (s : State) (result : Nat) (hz : Kept z s) : Kept z (State.exerciseDone s result) := by
  unfold State.exerciseDone
  split; assumption; dsimp only; apply State.answer_kept; split; apply State.exerciseEmpty_kept; refine Kept.ite ?_ ?_
  apply State.pwrEvt_kept; refine Kept.upd ?_ rfl; assumption; refine Kept.upd ?_ rfl; assumption; dsimp only
  refine Kept.ite ?_ ?_; apply State.pwrEvt_kept; refine Kept.upd ?_ rfl; assumption; refine Kept.upd ?_ rfl; assumption

theorem State.setSource_kept {z : State} (s : State) (src : Nat) (hz : Kept z s) : Kept z (State.setSource s src) := by
  unfold State.setSource
  refine Kept.ite ?_ ?_; assumption; refine Kept.upd ?_ rfl; assumption

theorem feedExerciseRun_kept (i : CmdIn) (s : State) : Verdict.Kept s (feedExerciseRun i s) := by
  unfold feedExerciseRun
  dsimp only; refine Verdict.kite ?_ ?_; exact trivial; refine Verdict.kite ?_ ?_; apply Verdict.kdone
  apply State.exerciseEmpty_kept; exact Kept.refl _; refine Verdict.kite ?_ ?_; apply Verdict.kdone
  apply State.exerciseEmpty_kept; exact Kept.refl _; apply Verdict.kdefer; apply State.setSource_kept; refine Kept.upd ?_ rfl
  exact Kept.refl _

theorem feedExerciseCmd_kept : feedExerciseCmd.Kept := by
  intro i s
  exact feedExerciseRun_kept i s

theorem State.rampsDone_kept {z : State} (s : State) (hz : Kept z s) : Kept z (State.rampsDone s) := by
  unfold State.rampsDone
  refine Kept.upd ?_ rfl; assumption

theorem State.discardScheduled_kept {z : State} (s : State) (hz : Kept z s) : Kept z (State.discardScheduled s) := by
  unfold State.discardScheduled
  dsimp only; apply State.leaveUnneeded_kept; refine Kept.fold ?_ (fun _ _ _ => ?_); refine Kept.upd ?_ rfl; assumption
  apply State.answer_kept; assumption

theorem State.pwrStart_kept {z : State} (s : State) (r : PwrReq) (hz : Kept z s) : Kept z (State.pwrStart s r) := by
  unfold State.pwrStart
  dsimp only; refine Kept.ite ?_ ?_; refine Kept.upd ?_ rfl; refine Kept.ite ?_ ?_; apply State.exerciseDone_kept
  apply State.setSource_kept; assumption; apply State.exerciseDone_kept; assumption; refine Kept.ite ?_ ?_
  refine Kept.ite ?_ ?_; refine Kept.upd ?_ rfl; refine Kept.ite ?_ ?_; apply State.exerciseDone_kept
  apply State.setSource_kept; assumption; apply State.exerciseDone_kept; assumption; refine Kept.upd ?_ rfl
  apply State.rampsDone_kept; apply State.discardScheduled_kept; refine Kept.upd ?_ rfl; refine Kept.ite ?_ ?_
  apply State.exerciseDone_kept; apply State.setSource_kept; assumption; apply State.exerciseDone_kept; assumption
  refine Kept.ite ?_ ?_; refine Kept.upd ?_ rfl; apply State.rampsDone_kept; apply State.discardScheduled_kept
  refine Kept.upd ?_ rfl; refine Kept.ite ?_ ?_; apply State.exerciseDone_kept; apply State.setSource_kept; assumption
  apply State.exerciseDone_kept; assumption; refine Kept.upd ?_ rfl; apply State.rampsDone_kept
  apply State.discardScheduled_kept; refine Kept.upd ?_ rfl; refine Kept.ite ?_ ?_; apply State.exerciseDone_kept
  apply State.setSource_kept; assumption; apply State.exerciseDone_kept; assumption

theorem pwrRun_kept (ok : Bytes → Bool) (i : CmdIn) (s : State) : Verdict.Kept s (pwrRun ok i s) := by
  unfold pwrRun
  dsimp only; refine Verdict.kite ?_ ?_; split; exact trivial; refine Verdict.kite ?_ ?_; exact trivial; split; exact trivial
  apply Verdict.kdefer; apply State.pwrStart_kept; exact Kept.refl _; refine Verdict.kite ?_ ?_; exact trivial
  apply Verdict.kdefer; refine Kept.upd ?_ rfl; split; apply State.pwrEvt_kept; apply State.answer_kept; exact Kept.refl _
  exact Kept.refl _

theorem pwrSleepCmd_kept : pwrSleepCmd.Kept := fun i s => pwrRun_kept (fun _ => true) i s

theorem pwrDeepCmd_kept : pwrDeepCmd.Kept := fun i s => pwrRun_kept (fun p => decide (rd32 p 0 ≤ 864000)) i s

theorem pwrWakeCmd_kept : pwrWakeCmd.Kept := fun i s => pwrRun_kept (fun _ => true) i s

theorem State.feedFailed_kept {z : State} (s : State) (b : Bool) (hz : Kept z s) : Kept z (State.feedFailed s b) := by
  unfold State.feedFailed
  refine Kept.ite ?_ ?_; apply State.pwrEvt_kept; refine Kept.upd ?_ rfl; assumption; apply State.pwrEvt_kept
  refine Kept.upd ?_ rfl; assumption

theorem State.toFeedB_kept {z : State} (s : State) (hz : Kept z s) : Kept z (State.toFeedB s) := by
  unfold State.toFeedB
  apply State.pwrEvt_kept; apply State.setSource_kept; refine Kept.upd ?_ rfl; assumption

theorem State.clampDac_kept {z : State} (s : State) (hz : Kept z s) : Kept z (State.clampDac s) := by
  unfold State.clampDac
  refine Kept.upd ?_ rfl; assumption

theorem State.powerDown_kept {z : State} (s : State) (vaon stuck : Bool) (hz : Kept z s) : Kept z (s.powerDown vaon stuck) :=
  hz.trans (Kept.of rfl rfl rfl id fun h => Bool.noConfusion (h : false = true))

theorem State.powerMeans_kept {z : State} (s : State) (l : List (Nat × Nat × Nat × Nat)) (hz : Kept z s) : Kept z (State.powerMeans s l) := by
  unfold State.powerMeans
  dsimp only; refine Kept.upd ?_ rfl; assumption

theorem State.exerciseResult_kept {z : State} (s : State) (e : Exercise) (hz : Kept z s) : Kept z (State.exerciseResult s e).2 := by
  unfold State.exerciseResult
  split; dsimp only; assumption; split; dsimp only; assumption; split; dsimp only; assumption; apply State.freeBelow_kept
  assumption

theorem State.closeGate_kept {z : State} (s : State) (g : Nat) (hz : Kept z s) : Kept z (State.closeGate s g) := by
  unfold State.closeGate
  apply State.onGate_kept; assumption

theorem State.domainOff_kept {z : State} (s : State) (d : Nat) (gates : List Nat) (hz : Kept z s) : Kept z (State.domainOff s d gates) := by
  unfold State.domainOff
  refine Kept.ite ?_ ?_; apply State.setDomain_kept; assumption; assumption

theorem State.dropLinks_kept {z : State} (s : State) (hz : Kept z s) : Kept z (State.dropLinks s) := by
  unfold State.dropLinks
  refine Kept.fold ?_ (fun _ _ _ => ?_); assumption; split; refine Kept.ite ?_ ?_; assumption; apply State.onMac_kept
  assumption

theorem State.sleepLeaves_kept {z : State} (s : State) (hz : Kept z s) : Kept z (State.sleepLeaves s) := by
  unfold State.sleepLeaves
  refine Kept.fold ?_ (fun _ _ _ => ?_); assumption; refine Kept.ite ?_ ?_; assumption; apply State.leaveGroup_kept
  assumption

theorem State.onPll_kept {z : State} (s : State) (p : Nat) (f : Pll → Pll) (hz : Kept z s) : Kept z (State.onPll s p f) := by
  unfold State.onPll
  refine Kept.upd ?_ rfl; assumption

theorem State.transEnd_kept {z : State} (s : State) (payload : Bytes) (hz : Kept z s) : Kept z (State.transEnd s payload) := by
  unfold State.transEnd
  dsimp only; split; apply State.answer_kept; refine Kept.upd ?_ rfl; assumption; refine Kept.upd ?_ rfl; assumption

theorem State.sleepStep_kept {z : State} (s : State) (k : Nat) (hz : Kept z s) : Kept z (State.sleepStep s k) := by
  unfold State.sleepStep
  refine Kept.ite ?_ ?_; apply State.sleepLeaves_kept; assumption; refine Kept.ite ?_ ?_
  refine Kept.fold ?_ (fun _ _ _ => ?_); assumption; apply State.closeGate_kept; assumption; refine Kept.ite ?_ ?_; dsimp only
  refine Kept.ite ?_ ?_; apply State.domainOff_kept; apply State.domainOff_kept; assumption; refine Kept.upd ?_ rfl
  apply State.domainOff_kept; apply State.domainOff_kept; assumption; refine Kept.ite ?_ ?_; apply State.closeGate_kept
  assumption; refine Kept.ite ?_ ?_; apply State.closeGate_kept; refine Kept.upd ?_ rfl; assumption; refine Kept.ite ?_ ?_
  refine Kept.fold ?_ (fun _ _ _ => ?_); assumption; refine Kept.ite ?_ ?_; assumption; apply State.closeGate_kept; assumption
  refine Kept.ite ?_ ?_; apply State.dropLinks_kept; apply State.domainOff_kept; apply State.domainOff_kept
  apply State.domainOff_kept; assumption; refine Kept.ite ?_ ?_; apply State.closeGate_kept; assumption; dsimp only
  refine Kept.ite ?_ ?_; apply State.transEnd_kept; apply State.setMode_kept; rfl; apply State.onPll_kept
  apply State.onPll_kept; apply State.onPll_kept; assumption; refine Kept.upd ?_ rfl; apply State.setMode_kept; rfl
  apply State.onPll_kept; apply State.onPll_kept; apply State.onPll_kept; assumption

theorem State.wakeStep_kept {z : State} (s : State) (k : Nat) (hz : Kept z s) : Kept z (State.wakeStep s k) := by
  unfold State.wakeStep
  refine Kept.ite ?_ ?_; apply State.onPll_kept; assumption; refine Kept.ite ?_ ?_; refine Kept.fold ?_ (fun _ _ _ => ?_)
  apply State.setDomain_kept; apply State.setDomain_kept; apply State.setDomain_kept; assumption; apply State.setGate_kept
  assumption; refine Kept.ite ?_ ?_; apply State.setGate_kept; refine Kept.upd ?_ rfl; assumption; refine Kept.ite ?_ ?_
  dsimp only; refine Kept.upd ?_ rfl; apply State.setDomain_kept; apply State.setDomain_kept; assumption
  refine Kept.ite ?_ ?_; refine Kept.upd ?_ rfl; assumption; dsimp only; apply State.transEnd_kept; refine Kept.ite ?_ ?_
  apply State.enterLocking_kept; refine Kept.fold ?_ (fun _ _ _ => ?_); assumption; apply State.setGate_kept; assumption
  apply State.setMode_kept; rfl; refine Kept.fold ?_ (fun _ _ _ => ?_); assumption; apply State.setGate_kept; assumption

theorem State.deepStep_kept {z : State} (s : State) (k : Nat) (hz : Kept z s) : Kept z (State.deepStep s k) := by
  unfold State.deepStep
  refine Kept.ite ?_ ?_; split; dsimp only; apply State.answer_kept; refine Kept.upd ?_ rfl; assumption; assumption
  refine Kept.ite ?_ ?_; apply State.onMac_kept; apply State.setGate_kept; apply State.setGate_kept; assumption; dsimp only
  apply State.setMode_kept; rfl; apply State.dropLinks_kept; refine Kept.upd ?_ rfl; refine Kept.fold ?_ (fun _ _ _ => ?_)
  assumption; apply State.setGate_kept; assumption

theorem routeModeRun_kept (i : CmdIn) (s : State) : Verdict.Kept s (routeModeRun i s) := by
  unfold routeModeRun
  dsimp only
  repeat' split
  all_goals first
    | exact trivial
    | exact Verdict.ok_kept (Kept.refl s)
    | (refine Verdict.ok_kept (Kept.mem (Kept.refl s) rfl rfl fun h => ?_)
       rw [storesOk_iff] at *
       exact ⟨h.1, h.2.1, h.2.2.1, h.2.2.2.1, h.2.2.2.2.1, rfl, rfl⟩)

theorem routeModeCmd_kept : routeModeCmd.Kept := by
  intro i s
  exact routeModeRun_kept i s

theorem xpMapRun_kept (i : CmdIn) (s : State) : Verdict.Kept s (xpMapRun i s) := by
  unfold xpMapRun
  dsimp only; refine Verdict.kite ?_ ?_; exact trivial; refine Verdict.kite ?_ ?_; exact trivial; apply Verdict.ok_kept
  refine Kept.upd ?_ rfl; exact Kept.refl _

theorem xpMapCmd_kept : xpMapCmd.Kept := by
  intro i s
  exact xpMapRun_kept i s

theorem State.setGainSlot_kept {z : State} (s : State) (bank slot : Nat) (r : Ramp) (hz : Kept z s) : Kept z (State.setGainSlot s bank slot r) := by
  unfold State.setGainSlot
  refine Kept.upd ?_ rfl; assumption

theorem State.gainsAt_kept {z : State} (s : State) (n : Nat) (l : List (Nat × Int)) (hz : Kept z s) : Kept z (State.gainsAt s n l) := by
  unfold State.gainsAt
  dsimp only; refine Kept.fold ?_ (fun _ _ _ => ?_); assumption; apply State.setGainSlot_kept; assumption

theorem routeGainRun_kept (i : CmdIn) (s : State) : Verdict.Kept s (routeGainRun i s) := by
  unfold routeGainRun
  dsimp only; refine Verdict.kite ?_ ?_; exact trivial; apply scheduled_kept; refine Kept.fold ?_ (fun _ _ _ => ?_)
  exact Kept.refl _; apply State.setGainSlot_kept; assumption; intro _; refine Kept.upd ?_ rfl; exact Kept.refl _

theorem routeGainCmd_kept : routeGainCmd.Kept := by
  intro i s
  exact routeGainRun_kept i s

theorem routeWriteRun_kept (i : CmdIn) (s : State) : Verdict.Kept s (routeWriteRun i s) := by
  unfold routeWriteRun
  repeat' split
  all_goals first
    | exact trivial
    | (refine Verdict.ok_kept (Kept.mem (Kept.refl s) rfl rfl fun h => ?_)
       rw [storesOk_iff] at *
       exact ⟨h.1, h.2.1, h.2.2.1, h.2.2.2.1, memFill_wf _ _ h.2.2.2.2.1, h.2.2.2.2.2⟩)

theorem routeWriteCmd_kept : routeWriteCmd.Kept := by
  intro i s
  exact routeWriteRun_kept i s

theorem State.loadProg_kept {z : State} (s : State) (b : Nat) (hz : Kept z s) : Kept z (s.loadProg b) := by
  refine hz.trans (Kept.of rfl rfl rfl (fun h => ?_) id)
  rw [storesOk_iff] at *
  unfold State.loadProg
  dsimp only
  split
  · exact ⟨h.1, h.2.1, h.2.2.1, h.2.2.2.1, h.2.2.2.2.1, h.2.2.2.2.1, h.2.2.2.2.2.2⟩
  · exact ⟨h.1, h.2.1, h.2.2.1, h.2.2.2.1, h.2.2.2.2.1, h.2.2.2.2.2.1, h.2.2.2.2.1⟩

theorem State.routeOver_kept {z : State} (s : State) (hz : Kept z s) : Kept z (State.routeOver s) := by
  unfold State.routeOver
  refine Kept.upd ?_ rfl; assumption

theorem State.setRoutePend_kept {z : State} (s : State) (p : RtePend) (hz : Kept z s) : Kept z (State.setRoutePend s p) := by
  unfold State.setRoutePend
  dsimp only; refine Kept.upd ?_ rfl; split; apply State.answer_kept; assumption; assumption

theorem routeCommitRun_kept (i : CmdIn) (s : State) : Verdict.Kept s (routeCommitRun i s) := by
  unfold routeCommitRun
  dsimp only
  split
  · exact trivial
  split
  · exact trivial
  split
  · split
    · exact Verdict.kfail (State.routeOver_kept _ (Kept.refl s))
    · exact Verdict.ok_kept (State.loadProg_kept _ _ (Kept.refl s))
  split
  · exact trivial
  split
  · exact trivial
  · exact trivial
  split
  · exact Verdict.kfail (State.routeOver_kept _ (Kept.refl s))
  · exact Verdict.kdefer (State.setRoutePend_kept _ _ (Kept.refl s))

theorem routeCommitCmd_kept : routeCommitCmd.Kept := by
  intro i s
  exact routeCommitRun_kept i s

theorem bedAlignRun_kept (i : CmdIn) (s : State) : Verdict.Kept s (bedAlignRun i s) := by
  unfold bedAlignRun
  refine Verdict.kite ?_ ?_; exact trivial; refine Verdict.kite ?_ ?_; exact trivial; apply Verdict.ok_kept
  refine Kept.upd ?_ rfl; exact Kept.refl _

theorem bedAlignCmd_kept : bedAlignCmd.Kept := by
  intro i s
  exact bedAlignRun_kept i s

theorem latQueryRun_kept (i : CmdIn) (s : State) : Verdict.Kept s (latQueryRun i s) := by
  unfold latQueryRun
  dsimp only; refine Verdict.kite ?_ ?_; exact trivial; apply Verdict.kdone; exact Kept.refl _

theorem latQueryCmd_kept : latQueryCmd.Kept := by
  intro i s
  exact latQueryRun_kept i s

theorem State.setCalFeed_kept {z : State} (s : State) (f : Nat) (x : Option CalFeed) (hz : Kept z s) : Kept z (State.setCalFeed s f x) := by
  unfold State.setCalFeed
  refine Kept.upd ?_ rfl; assumption

theorem State.calEvt_kept {z : State} (s : State) (i : Nat) (hz : Kept z s) : Kept z (State.calEvt s i) := by
  unfold State.calEvt
  refine Kept.upd ?_ rfl; assumption

theorem State.onReports_kept {z : State} (s : State) (test : CalReport → Bool) (f : CalReport → CalReport) (hz : Kept z s) : Kept z (State.onReports s test f) := by
  unfold State.onReports
  refine Kept.upd ?_ rfl; assumption

theorem State.calStatus_kept {z : State} (s : State) (req st : Nat) (hz : Kept z s) : Kept z (State.calStatus s req st) := by
  unfold State.calStatus
  apply State.onReports_kept; assumption

theorem State.calGains_kept {z : State} (s : State) (f n : Nat) (g : List Int) (hz : Kept z s) : Kept z (State.calGains s f n g) := by
  unfold State.calGains
  split; assumption; apply State.setCalFeed_kept; assumption

theorem State.corWithdraw_kept {z : State} (s : State) (id : Nat) (hz : Kept z s) : Kept z (State.corWithdraw s id) := by
  unfold State.corWithdraw
  refine Kept.upd ?_ rfl; assumption

theorem State.dropBlocks_kept {z : State} (s : State) (f : Nat) (hz : Kept z s) : Kept z (State.dropBlocks s f) := by
  unfold State.dropBlocks
  refine Kept.upd ?_ rfl; assumption

theorem State.dropEstimates_kept {z : State} (s : State) (f : Nat) (hz : Kept z s) : Kept z (State.dropEstimates s f) := by
  unfold State.dropEstimates
  split; assumption; apply State.setCalFeed_kept; apply State.dropBlocks_kept; assumption

theorem State.unenroll_kept {z : State} (s : State) (f : Nat) (hz : Kept z s) : Kept z (State.unenroll s f) := by
  unfold State.unenroll
  split; assumption; dsimp only; apply State.setCalFeed_kept; apply State.dropBlocks_kept
  refine Kept.fold ?_ (fun _ _ _ => ?_); assumption; apply State.calStatus_kept; apply State.corWithdraw_kept; assumption

theorem State.onFeedCor_kept {z : State} (s : State) (f : Nat) (g : FeedCor → FeedCor) (hz : Kept z s) : Kept z (State.onFeedCor s f g) := by
  unfold State.onFeedCor
  refine Kept.upd ?_ rfl; assumption

theorem State.corEvt_kept {z : State} (s : State) (i : Nat) (hz : Kept z s) : Kept z (State.corEvt s i) := by
  unfold State.corEvt
  refine Kept.upd ?_ rfl; assumption

theorem State.hostHinge_kept {z : State} (s : State) (f b n : Nat) (hz : Kept z s) : Kept z (State.hostHinge s f b n) := by
  unfold State.hostHinge
  split; assumption; split; apply State.calGains_kept; assumption; apply State.calEvt_kept; apply State.unenroll_kept
  assumption

theorem State.calHinge_kept {z : State} (s : State) (h : CalHinge) (id f n : Nat) (hz : Kept z s) : Kept z (State.calHinge s h id f n) := by
  unfold State.calHinge
  split; dsimp only; split; apply State.setCalFeed_kept; apply State.calGains_kept; apply State.onReports_kept
  apply State.calStatus_kept; assumption; apply State.calGains_kept; apply State.onReports_kept; apply State.calStatus_kept
  assumption; apply State.calGains_kept; assumption

theorem State.corStart_kept {z : State} (s : State) (r : CorReq) (n : Nat) (hz : Kept z s) : Kept z (State.corStart s r n) := by
  unfold State.corStart
  dsimp only; apply State.answer_kept; refine Kept.ite ?_ ?_; apply State.corEvt_kept; refine Kept.ite ?_ ?_
  apply State.corEvt_kept; refine Kept.fold ?_ (fun _ _ _ => ?_); refine Kept.upd ?_ rfl; assumption; split
  apply State.calHinge_kept; apply State.onFeedCor_kept; assumption; apply State.hostHinge_kept; apply State.onFeedCor_kept
  assumption; refine Kept.fold ?_ (fun _ _ _ => ?_); refine Kept.upd ?_ rfl; assumption; split; apply State.calHinge_kept
  apply State.onFeedCor_kept; assumption; apply State.hostHinge_kept; apply State.onFeedCor_kept; assumption
  refine Kept.ite ?_ ?_; apply State.corEvt_kept; refine Kept.fold ?_ (fun _ _ _ => ?_); refine Kept.upd ?_ rfl; assumption
  split; apply State.calHinge_kept; apply State.onFeedCor_kept; assumption; apply State.hostHinge_kept
  apply State.onFeedCor_kept; assumption; refine Kept.fold ?_ (fun _ _ _ => ?_); refine Kept.upd ?_ rfl; assumption; split
  apply State.calHinge_kept; apply State.onFeedCor_kept; assumption; apply State.hostHinge_kept; apply State.onFeedCor_kept
  assumption

theorem State.corEnd_kept {z : State} (s : State) (r : CorReq) (hz : Kept z s) : Kept z (State.corEnd s r) := by
  unfold State.corEnd
  dsimp only; split; refine Kept.upd ?_ rfl; apply State.calEvt_kept; apply State.onReports_kept; apply State.corEvt_kept
  refine Kept.upd ?_ rfl; refine Kept.fold ?_ (fun _ _ _ => ?_); assumption; apply State.onFeedCor_kept; assumption
  apply State.corEvt_kept; refine Kept.upd ?_ rfl; refine Kept.fold ?_ (fun _ _ _ => ?_); assumption
  apply State.onFeedCor_kept; assumption

theorem State.corSwap_kept {z : State} (s : State) (feeds : List Nat) (hz : Kept z s) : Kept z (State.corSwap s feeds) := by
  unfold State.corSwap
  refine Kept.fold ?_ (fun _ _ _ => ?_); assumption; dsimp only; apply State.hostHinge_kept; apply State.onFeedCor_kept
  assumption

theorem State.corSupersede_kept {z : State} (s : State) (r : CorReq) (hz : Kept z s) : Kept z (State.corSupersede s r) := by
  unfold State.corSupersede
  dsimp only; refine Kept.ite ?_ ?_; apply State.calEvt_kept; apply State.onReports_kept; refine Kept.upd ?_ rfl
  apply State.corEvt_kept; apply State.corWithdraw_kept; assumption; apply State.answer_kept; refine Kept.upd ?_ rfl
  apply State.corEvt_kept; apply State.corWithdraw_kept; assumption

theorem State.corRequest_kept {z : State} (s : State) (feeds : List Nat) (start fade : Nat) (cal : Option CalHinge) (ref : ReplyRef) (hz : Kept z s) : Kept z (State.corRequest s feeds start fade cal ref) := by
  unfold State.corRequest
  dsimp only; refine Kept.upd ?_ rfl; assumption

theorem State.logOpen_kept {z : State} (s : State) (kind outcome : Nat) (hz : Kept z s) : Kept z (State.logOpen s kind outcome) := by
  unfold State.logOpen
  split; split; apply State.logFault_kept; refine Kept.snd (by assumption) ?_; apply State.freeBelow_kept
  refine Kept.snd (by assumption) ?_; apply State.freeBelow_kept; assumption

theorem State.logClock_kept {z : State} (s : State) (kind outcome : Nat) (hz : Kept z s) : Kept z (State.logClock s kind outcome) := by
  unfold State.logClock
  split; apply State.logFault_kept; refine Kept.snd (by assumption) ?_; apply State.freeBelow_kept; assumption

theorem State.yieldFault_kept {z : State} (s : State) (reason kind : Nat) (hz : Kept z s) : Kept z (State.yieldFault s reason kind) := by
  unfold State.yieldFault
  apply State.decideYield_kept; apply State.logClock_kept; assumption

theorem State.stopEngines_kept {z : State} (s : State) (hz : Kept z s) : Kept z (State.stopEngines s) := by
  unfold State.stopEngines
  refine Kept.upd ?_ rfl; assumption

theorem State.takeYield_kept {z : State} (s : State) (hz : Kept z s) : Kept z (State.takeYield s) := by
  unfold State.takeYield
  split; assumption; dsimp only; apply State.setMode_kept; rfl; apply State.closeGate_kept; apply State.closeGate_kept
  apply State.stopEngines_kept; refine Kept.upd ?_ rfl; apply State.abortDue_kept; assumption

theorem State.sramFault_kept {z : State} (s : State) (e : SramFault) (hz : Kept z s) : Kept z (State.sramFault s e) := by
  unfold State.sramFault
  dsimp only; split; refine Kept.ite ?_ ?_; apply State.decideYield_kept; apply State.logFault_kept
  apply State.countCheck_kept; assumption; apply State.logFault_kept; refine Kept.upd ?_ rfl; apply State.countCheck_kept
  assumption; apply State.logOpen_kept; apply State.countCheck_kept; assumption; apply State.logOpen_kept
  apply State.dropEstimates_kept; apply State.countCheck_kept; assumption

theorem State.clkEvt_kept {z : State} (s : State) (i : Nat) (hz : Kept z s) : Kept z (State.clkEvt s i) := by
  unfold State.clkEvt
  refine Kept.upd ?_ rfl; assumption

theorem State.setLink_kept {z : State} (s : State) (port : Nat) (up : Bool) (hz : Kept z s) : Kept z (State.setLink s port up) := by
  unfold State.setLink
  refine Kept.ite ?_ ?_; assumption; apply State.onMac_kept; assumption

theorem State.coastEffect_kept {z : State} (s : State) (p : Nat) (outstanding : List FabErr) (hz : Kept z s) : Kept z (State.coastEffect s p outstanding) := by
  unfold State.coastEffect
  refine Kept.ite ?_ ?_; dsimp only; refine Kept.ite ?_ ?_; refine Kept.upd ?_ rfl; apply State.selfFault_kept
  apply State.logFault_kept; assumption; apply State.selfFault_kept; apply State.logFault_kept; assumption
  refine Kept.ite ?_ ?_; refine Kept.ite ?_ ?_; apply State.decideYield_kept; assumption; assumption; refine Kept.ite ?_ ?_
  apply State.setLink_kept; apply State.setLink_kept; assumption; refine Kept.ite ?_ ?_; apply State.setLink_kept
  apply State.setLink_kept; assumption; apply State.perstLow_kept; assumption

theorem State.vidDrop_kept {z : State} (s : State) (port : Nat) (hz : Kept z s) : Kept z (State.vidDrop s port) := by
  unfold State.vidDrop
  apply State.onMac_kept; assumption

theorem State.receive_kept {z : State} (s : State) (port vid : Nat) (serves : Bool) (f : State → State) (h_f : ∀ t, Kept z t → Kept z (f t)) (hz : Kept z s) : Kept z (State.receive s port vid serves f) := by
  unfold State.receive
  refine Kept.ite ?_ ?_; assumption; dsimp only; refine Kept.ite ?_ ?_; apply State.rxDropped_kept; apply State.rxCount_kept
  assumption; refine Kept.ite ?_ ?_; apply State.vidDrop_kept; apply State.rxCount_kept; assumption; refine Kept.ite ?_ ?_
  apply h_f; apply State.rxCount_kept; assumption; refine Kept.ite ?_ ?_; apply State.rxDropped_kept; apply State.rxCount_kept
  assumption; apply State.rxCount_kept; assumption

theorem State.receiveUdp_kept {z : State} (s : State) (u : Udp) (serves : Bool) (f : State → State) (h_f : ∀ t, Kept z t → Kept z (f t)) (hz : Kept z s) : Kept z (State.receiveUdp s u serves f) := by
  unfold State.receiveUdp
  apply State.receive_kept; intro _; intro _; refine Kept.ite ?_ ?_; apply State.rxDropped_kept; assumption
  refine Kept.ite ?_ ?_; apply h_f; assumption; refine Kept.ite ?_ ?_; apply State.rxDropped_kept; assumption; assumption
  assumption

theorem State.rxNobuf_kept {z : State} (s : State) (port : Nat) (hz : Kept z s) : Kept z (State.rxNobuf s port) := by
  unfold State.rxNobuf
  apply State.onMac_kept; assumption

theorem State.hostStamp_kept {z : State} (s : State) (hz : Kept z s) : Kept z (State.hostStamp s).2 := by
  unfold State.hostStamp
  split; dsimp only; assumption; split; dsimp only; refine Kept.snd (by assumption) ?_; apply State.freeRange_kept; assumption

theorem State.rxDone_kept {z : State} (s : State) (len : Nat) (sof eof cont tagged : Bool) (tci : Nat) (hz : Kept z s) : Kept z (State.rxDone s len sof eof cont tagged tci) := by
  unfold State.rxDone
  dsimp only; refine Kept.upd ?_ rfl; apply State.emit_kept; apply State.hostStamp_kept; assumption

theorem State.rxFill_kept {z : State} (fits tagged : Bool) (tci : Nat) (l : List Bytes) (first : Bool) (left : Bytes) (s : State)
    (hz : Kept z s) : Kept z (State.rxFill fits tagged tci l first left s) := by
  induction l generalizing first left s with
  | nil => exact hz
  | cons sl rest ih =>
    unfold State.rxFill
    have h := State.rxDone_kept (z := z) (s.emit (.host (rd64 sl 0) (left.take (min (rd16 sl 8) left.length))))
    exact Kept.ite (h _ _ _ _ _ _ (State.emit_kept _ _ hz)) (ih _ _ _ (h _ _ _ _ _ _ (State.emit_kept _ _ hz)))

theorem State.takeAddr_kept {z : State} (s : State) (hz : Kept z s) : Kept z (State.takeAddr s) := by
  unfold State.takeAddr
  split; refine Kept.ite ?_ ?_; apply State.setAddr_kept; assumption; assumption; assumption

theorem State.countOut_kept {z : State} (s : State) (port entry : Nat) (pass : Bool) (hz : Kept z s) : Kept z (State.countOut s port entry pass) := by
  unfold State.countOut
  apply State.onStatOut_kept; assumption

theorem State.launch_kept {z : State} (s : State) (port : Nat) (f : TxFrame) (hz : Kept z s) : Kept z (State.launch s port f) := by
  unfold State.launch
  dsimp only; apply State.takeAddr_kept; split; apply State.txDone_kept; split; apply State.hostStamp_kept; split
  apply State.countOut_kept; apply State.startFrame_kept; apply State.onMac_kept; assumption; apply State.startFrame_kept
  apply State.onMac_kept; assumption; dsimp only; split; apply State.countOut_kept; apply State.startFrame_kept
  apply State.onMac_kept; assumption; apply State.startFrame_kept; apply State.onMac_kept; assumption; split
  apply State.hostStamp_kept; split; apply State.countOut_kept; apply State.startFrame_kept; apply State.onMac_kept
  assumption; apply State.startFrame_kept; apply State.onMac_kept; assumption; dsimp only; split; apply State.countOut_kept
  apply State.startFrame_kept; apply State.onMac_kept; assumption; apply State.startFrame_kept; apply State.onMac_kept
  assumption

theorem stageCommitRun_kept (i : CmdIn) (s : State) : Verdict.Kept s (stageCommitRun i s) := by
  unfold stageCommitRun
  dsimp only; refine Verdict.kite ?_ ?_; exact trivial; refine Verdict.kite ?_ ?_; exact trivial; refine Verdict.kite ?_ ?_
  exact trivial; apply Verdict.ok_kept; apply State.enterLocking_kept; refine Kept.upd ?_ rfl; exact Kept.refl _

theorem stageCommitCmd_kept : stageCommitCmd.Kept := by
  intro i s
  exact stageCommitRun_kept i s

theorem stageReturnRun_kept (_i : CmdIn) (s : State) : Verdict.Kept s (stageReturnRun _i s) := by
  unfold stageReturnRun
  refine Verdict.kite ?_ ?_; exact trivial; apply Verdict.ok_kept; apply State.setMode_kept; rfl; refine Kept.upd ?_ rfl
  exact Kept.refl _

theorem stageReturnCmd_kept : stageReturnCmd.Kept := by
  intro i s
  exact stageReturnRun_kept i s

theorem State.twnEvt_kept {z : State} (s : State) (i : Nat) (hz : Kept z s) : Kept z (State.twnEvt s i) := by
  unfold State.twnEvt
  refine Kept.upd ?_ rfl; assumption

theorem State.planAt_kept {z : State} (s : State) (t0 : Nat) (as : TwnState) (hz : Kept z s) : Kept z (State.planAt s t0 as) := by
  unfold State.planAt
  dsimp only; refine Kept.upd ?_ rfl; assumption

theorem State.planTwin_kept {z : State} (s : State) (m : Tumbler) (hz : Kept z s) : Kept z (State.planTwin s m) := by
  unfold State.planTwin
  refine Kept.ite ?_ ?_; refine Kept.ite ?_ ?_; apply State.planAt_kept; assumption; assumption; refine Kept.ite ?_ ?_
  assumption; refine Kept.ite ?_ ?_; refine Kept.ite ?_ ?_; apply State.planAt_kept; apply State.twnEvt_kept; assumption
  apply State.twnEvt_kept; refine Kept.upd ?_ rfl; assumption; refine Kept.ite ?_ ?_; assumption; dsimp only
  apply State.mirrorOut_kept; refine Kept.upd ?_ rfl; apply State.planAt_kept; assumption

theorem State.planStart_kept {z : State} (s : State) (hz : Kept z s) : Kept z (State.planStart s) := by
  unfold State.planStart
  refine Kept.ite ?_ ?_; assumption; refine Kept.ite ?_ ?_; apply State.planAt_kept; assumption; dsimp only
  refine Kept.ite ?_ ?_; refine Kept.ite ?_ ?_; assumption; refine Kept.upd ?_ rfl; assumption; split
  apply State.planTwin_kept; refine Kept.ite ?_ ?_; assumption; refine Kept.upd ?_ rfl; assumption; refine Kept.ite ?_ ?_
  assumption; refine Kept.upd ?_ rfl; assumption

theorem State.enrollOne_kept {z : State} (s : State) (n : Nat) (e : Nat × Nat × Nat × Nat) (hz : Kept z s) : Kept z (State.enrollOne s n e) := by
  unfold State.enrollOne
  split; refine Kept.ite ?_ ?_; apply State.unenroll_kept; assumption; split; refine Kept.ite ?_ ?_
  apply State.setCalFeed_kept; assumption; apply State.setCalFeed_kept; apply State.dropBlocks_kept; assumption; split
  apply State.setCalFeed_kept; assumption; apply State.calEvt_kept; assumption

theorem State.capBind_kept {z : State} (s : State) (p : Bytes) (hz : Kept z s) : Kept z (State.capBind s p) := by
  unfold State.capBind
  dsimp only; refine Kept.ite ?_ ?_; assumption; refine Kept.upd ?_ rfl; assumption

theorem State.baselineAt_kept {z : State} (s : State) (n : Nat) (p : Bytes) (hz : Kept z s) : Kept z (State.baselineAt s n p) := by
  unfold State.baselineAt
  refine Kept.fold ?_ (fun _ _ _ => ?_); assumption; split; assumption; apply State.setCalFeed_kept; assumption

theorem State.vetoAt_kept {z : State} (s : State) (n seq : Nat) (hz : Kept z s) : Kept z (State.vetoAt s n seq) := by
  unfold State.vetoAt
  split; assumption; dsimp only; refine Kept.ite ?_ ?_; apply State.calEvt_kept; refine Kept.upd ?_ rfl; split
  apply State.setCalFeed_kept; apply State.onReports_kept; apply State.corWithdraw_kept; assumption
  apply State.onReports_kept; apply State.corWithdraw_kept; assumption; refine Kept.ite ?_ ?_; apply State.calEvt_kept
  refine Kept.upd ?_ rfl; split; apply State.setCalFeed_kept; apply State.onReports_kept; apply State.corRequest_kept
  assumption; apply State.onReports_kept; apply State.corRequest_kept; assumption; assumption

theorem State.calModeAt_kept {z : State} (s : State) (op : Nat) (p : Bytes) (hz : Kept z s) : Kept z (s.calModeAt op p) := by
  have hm (m : Mode) (h : s.rendering = true) : Kept z (s.setMode m) := hz.trans (State.setMode_of fun _ => h)
  have hr {m : Mode} (h : s.sys.mode = m) (k : m.renders = true) : s.rendering = true := by
    unfold State.rendering
    rw [h]; exact k
  unfold State.calModeAt
  dsimp only
  split
  · split
    · rename_i h; exact hm _ (hr h rfl)
    · exact hz
  split
  · split
    · rename_i h; exact hm _ (hr h rfl)
    · exact hz
  split
  · split
    · rename_i h
      exact (Kept.upd hz rfl).trans (State.setMode_of fun _ => hr h rfl)
    · exact hz
  split
  · rename_i h; exact hm _ (hr h rfl)
  · exact hz

theorem State.calAt_kept {z : State} (s : State) (op n : Nat) (p : Bytes) (hz : Kept z s) : Kept z (State.calAt s op n p) := by
  unfold State.calAt
  refine Kept.ite ?_ ?_; apply State.capBind_kept; assumption; refine Kept.ite ?_ ?_; refine Kept.fold ?_ (fun _ _ _ => ?_)
  assumption; apply State.enrollOne_kept; assumption; refine Kept.ite ?_ ?_; refine Kept.upd ?_ rfl; assumption
  refine Kept.ite ?_ ?_; apply State.baselineAt_kept; assumption; refine Kept.ite ?_ ?_; apply State.vetoAt_kept; assumption
  apply State.calModeAt_kept; assumption

theorem calRun_kept (ok : CmdIn → State → Bool) (i : CmdIn) (s : State) : Verdict.Kept s (calRun ok i s) := by
  unfold calRun
  refine Verdict.kite ?_ ?_; exact trivial; apply scheduled_kept; apply State.calAt_kept; exact Kept.refl _; intro _
  apply State.schedule_kept; exact Kept.refl _

theorem calCaptureCmd_kept : calCaptureCmd.Kept := by
  intro i s
  exact calRun_kept _ i s

theorem calEnrollCmd_kept : calEnrollCmd.Kept := by
  intro i s
  exact calRun_kept _ i s

theorem calPolicyCmd_kept : calPolicyCmd.Kept := fun i s => calRun_kept (fun i _ => policyOk i.body) i s

theorem calModeRun_kept (m : Mode) (ok : CmdIn → State → Bool) (i : CmdIn) (s : State) : Verdict.Kept s (calModeRun m ok i s) := by
  unfold calModeRun
  refine Verdict.kite ?_ ?_; exact trivial; apply calRun_kept

theorem calStartCmd_kept : calStartCmd.Kept := by
  intro i s
  exact calModeRun_kept _ _ i s

theorem calStopCmd_kept : calStopCmd.Kept := by
  intro i s
  exact calModeRun_kept _ _ i s

theorem sweepStartCmd_kept : sweepStartCmd.Kept := by
  intro i s
  exact calModeRun_kept _ _ i s

theorem sweepStopCmd_kept : sweepStopCmd.Kept := by
  intro i s
  exact calModeRun_kept _ _ i s

theorem calBaselineCmd_kept : calBaselineCmd.Kept := by
  intro i s
  exact calRun_kept _ i s

theorem calVetoRun_kept (i : CmdIn) (s : State) : Verdict.Kept s (calVetoRun i s) := by
  unfold calVetoRun
  split; refine Verdict.kite ?_ ?_; apply calRun_kept; exact trivial; refine Verdict.kite ?_ ?_; apply calRun_kept
  refine Verdict.kite ?_ ?_; exact trivial; apply calRun_kept

theorem calVetoCmd_kept : calVetoCmd.Kept := by
  intro i s
  exact calVetoRun_kept i s

theorem calReportCmd_kept : calReportCmd.Kept := by
  intro i s
  unfold calReportCmd
  dsimp only
  split; apply Verdict.kdone; exact Kept.refl _; exact trivial

theorem calQueryRun_kept (i : CmdIn) (s : State) : Verdict.Kept s (calQueryRun i s) := by
  unfold calQueryRun
  dsimp only; refine Verdict.kite ?_ ?_; exact trivial; apply Verdict.kdone; exact Kept.refl _

theorem calQueryCmd_kept : calQueryCmd.Kept := by
  intro i s
  exact calQueryRun_kept i s

end Sys2Proof.Machine
end

