-- ==== Sys2Proof/Laws/KeptEvents.lean ====
section
/-! SUPPORT. What the operations of media, twins, units, boundaries and egress keep (see Laws/Kept.lean). -/

set_option Elab.async false

namespace Sys2Proof.Machine


theorem State.settleOne_kept {z : State} (s : State) (e : Nat) (r : Bytes) (p : RxPkt) (hz : Kept z s) : Kept z (State.settleOne s e r p) := by
  unfold State.settleOne
  dsimp only; apply State.onStatIn_kept; apply State.onFlowRx_kept; assumption

theorem State.settle_kept {z : State} (s : State) (e : Nat) (r : Bytes) (hz : Kept z s) : Kept z (State.settle s e r) := by
  unfold State.settle
  dsimp only; refine Kept.fold ?_ (fun _ _ _ => ?_); assumption; apply State.settleOne_kept; assumption

theorem State.mergeCopy_kept {z : State} (s : State) (e port seq ts : Nat) (hz : Kept z s) : Kept z (State.mergeCopy s e port seq ts).2 := by
  unfold State.mergeCopy
  dsimp only; split; split; dsimp only; assumption; dsimp only; apply State.onFlowRx_kept; assumption; split; dsimp only
  apply State.onStatIn_kept; apply State.onFlowRx_kept; assumption; dsimp only; apply State.onFlowRx_kept; assumption

theorem State.countPkt_kept {z : State} (s : State) (e port : Nat) (hz : Kept z s) : Kept z (State.countPkt s e port) := by
  unfold State.countPkt
  apply State.onStatIn_kept; assumption

theorem State.capture_kept {z : State} (s : State) (e : Nat) (r body : Bytes) (first len : Nat) (hz : Kept z s) : Kept z (State.capture s e r body first len) := by
  unfold State.capture
  refine Kept.fold ?_ (fun _ _ _ => ?_); assumption; dsimp only; refine Kept.ite ?_ ?_; assumption; refine Kept.upd ?_ rfl
  assumption

theorem State.storeRaw_kept {z : State} (s : State) (e : Nat) (r body : Bytes) (first len : Nat) (hz : Kept z s) : Kept z (State.storeRaw s e r body first len) := by
  unfold State.storeRaw
  dsimp only; refine Kept.upd ?_ rfl; assumption

theorem State.audioPacket_kept {z : State} (s : State) (e port : Nat) (r : Bytes) (p : Rtp) (hz : Kept z s) : Kept z (State.audioPacket s e port r p) := by
  unfold State.audioPacket
  dsimp only; refine Kept.ite ?_ ?_; apply State.onStatIn_kept; apply State.countPkt_kept; assumption; refine Kept.ite ?_ ?_
  refine Kept.ite ?_ ?_; apply State.onFlowRx_kept; apply State.mergeCopy_kept; apply State.onFlowRx_kept
  apply State.settle_kept; apply State.countPkt_kept; assumption; apply State.mergeCopy_kept; apply State.onFlowRx_kept
  apply State.settle_kept; apply State.countPkt_kept; assumption; refine Kept.ite ?_ ?_; apply State.onStatIn_kept
  apply State.countPkt_kept; assumption; refine Kept.ite ?_ ?_; apply State.capture_kept; apply State.mergeCopy_kept
  apply State.settle_kept; apply State.countPkt_kept; assumption; refine Kept.ite ?_ ?_; apply State.onStatIn_kept
  apply State.capture_kept; apply State.mergeCopy_kept; apply State.settle_kept; apply State.countPkt_kept; assumption
  refine Kept.ite ?_ ?_; apply State.storeRaw_kept; apply State.capture_kept; apply State.mergeCopy_kept
  apply State.settle_kept; apply State.countPkt_kept; assumption; apply State.capture_kept; apply State.mergeCopy_kept
  apply State.settle_kept; apply State.countPkt_kept; assumption

theorem State.entryIn_kept {z : State} (s : State) (n e : Nat) (r : Bytes) (hz : Kept z s) : Kept z (State.entryIn s n e r).2 := by
  unfold State.entryIn
  dsimp only; split; dsimp only; apply State.settle_kept; assumption; dsimp only; apply State.settle_kept
  refine Kept.ite ?_ ?_; refine Kept.ite ?_ ?_; apply State.onFlowRx_kept; refine Kept.upd ?_ rfl; assumption
  apply State.onStatIn_kept; apply State.onFlowRx_kept; refine Kept.upd ?_ rfl; assumption; refine Kept.upd ?_ rfl
  refine Kept.ite ?_ ?_; apply State.onFlowRx_kept; refine Kept.upd ?_ rfl; assumption; apply State.onStatIn_kept
  apply State.onFlowRx_kept; refine Kept.upd ?_ rfl; assumption

theorem State.ingest_kept {z : State} (s : State) (n : Nat) (hz : Kept z s) : Kept z (State.ingest s n) := by
  unfold State.ingest
  split; dsimp only; refine Kept.fold ?_ (fun _ _ _ => ?_); refine Kept.upd ?_ rfl; refine Kept.snd (by assumption) ?_
  refine Kept.fold2 ?_ (fun _ _ _ => ?_); dsimp only; assumption; split; assumption; split; dsimp only
  refine Kept.snd (by assumption) ?_; apply State.entryIn_kept; assumption; apply State.onFlowRx_kept
  apply State.dropRaw_kept; refine Kept.upd ?_ rfl; assumption

theorem State.unsup_kept {z : State} (s : State) (k : Nat) (hz : Kept z s) : Kept z (State.unsup s k) := by
  unfold State.unsup
  refine Kept.ite ?_ ?_; assumption; apply State.objEvt_kept; refine Kept.upd ?_ rfl; assumption

theorem State.admBlock_kept {z : State} (s : State) (bed : Bool) (k flow : Nat) (b : Blk) (hz : Kept z s) : Kept z (State.admBlock s bed k flow b).1 := by
  unfold State.admBlock
  split; split; dsimp only; apply State.objStaleBlock_kept; assumption; split; dsimp only; apply State.objEvt_kept
  refine Kept.upd ?_ rfl; assumption; dsimp only; refine Kept.ite ?_ ?_; apply State.pendBed_kept; refine Kept.ite ?_ ?_
  apply State.objEvt_kept; refine Kept.upd ?_ rfl; assumption; assumption; apply State.setObj_kept; apply State.pendObj_kept
  refine Kept.ite ?_ ?_; apply State.objEvt_kept; refine Kept.upd ?_ rfl; assumption; assumption

theorem State.admChannel_kept {z : State} (s : State) (flow start : Nat) (c : AdmChannel) (acc : List (Bool × Nat × Nat × Blk)) (hz : Kept z s) : Kept z (State.admChannel s flow start c acc).1 := by
  unfold State.admChannel
  refine Kept.fold1 ?_ (fun _ _ _ => ?_); dsimp only; assumption; split; dsimp only; split; assumption; split; assumption
  refine Kept.fold1 ?_ (fun _ _ _ => ?_); dsimp only; refine Kept.ite ?_ ?_; apply State.objEvt_kept; refine Kept.ite ?_ ?_
  apply State.objEvt_kept; assumption; assumption; refine Kept.ite ?_ ?_; apply State.objEvt_kept; assumption; assumption
  dsimp only; apply State.admBlock_kept; assumption

theorem State.relayFrame_kept {z : State} (s : State) (e : Nat) (bodies : List Bytes) (ts : Nat) (hz : Kept z s) : Kept z (State.relayFrame s e bodies ts) := by
  unfold State.relayFrame
  refine Kept.upd ?_ rfl; assumption

theorem State.acceptFrame_kept {z : State} (s : State) (e ts : Nat) (bodies : List Bytes) (f : AdmFrame) (hz : Kept z s) : Kept z (State.acceptFrame s e ts bodies f) := by
  unfold State.acceptFrame
  dsimp only; apply State.relayFrame_kept; refine Kept.ite ?_ ?_; apply State.mirrorOut_kept; refine Kept.upd ?_ rfl
  refine Kept.fold1 ?_ (fun _ _ _ => ?_); dsimp only; refine Kept.upd ?_ rfl; assumption; apply State.admChannel_kept
  assumption; refine Kept.upd ?_ rfl; refine Kept.fold1 ?_ (fun _ _ _ => ?_); dsimp only; refine Kept.upd ?_ rfl; assumption
  apply State.admChannel_kept; assumption

theorem State.parseFrame_kept {z : State} (s : State) (e ts : Nat) (bodies : List Bytes) (f : Option AdmFrame) (hz : Kept z s) : Kept z (State.parseFrame s e ts bodies f) := by
  unfold State.parseFrame
  dsimp only; split; apply State.unsup_kept; apply State.onStatIn_kept; assumption; refine Kept.ite ?_ ?_
  apply State.unsup_kept; apply State.onStatIn_kept; assumption; refine Kept.ite ?_ ?_; refine Kept.ite ?_ ?_
  apply State.unsup_kept; apply State.onStatIn_kept; assumption; refine Kept.upd ?_ rfl; apply State.unsup_kept
  apply State.onStatIn_kept; assumption; apply State.acceptFrame_kept; apply State.unsup_kept; apply State.onStatIn_kept
  assumption

theorem State.takeFrames_kept {z : State} (n e : Nat) (fs : List AdmFrame) (s : State) (hz : Kept z s) :
    Kept z (State.takeFrames n e fs s) := by
  induction n generalizing s fs with
  | zero => exact hz
  | succ n ih =>
    unfold State.takeFrames
    dsimp only
    split
    · exact hz
    · have hd (t : State) (m : Nat) (ps : List SadmPart) (ht : Kept z t) : Kept z (t.onFlowRx e fun x =>
          { x with frame := some m, parts := x.parts.filter fun p => !ps.contains p }) := State.onFlowRx_kept _ _ _ ht
      split
      · refine ih _ _ (Kept.ite (State.onStatIn_kept _ _ _ (hd _ _ _ hz)) (Kept.ite (State.unsup_kept _ _ (hd _ _ _ hz)) ?_))
        exact State.parseFrame_kept _ _ _ _ _ (hd _ _ _ hz)
      · split
        · exact hz
        · exact Kept.ite hz (ih _ _ (State.onStatIn_kept _ _ _ (hd _ _ _ hz)))

theorem State.sadmPart_kept {z : State} (s : State) (e port : Nat) (r : Bytes) (p : Rtp) (fs : List AdmFrame) (hz : Kept z s) : Kept z (State.sadmPart s e port r p fs) := by
  unfold State.sadmPart
  split; refine Kept.ite ?_ ?_; refine Kept.snd (by assumption) ?_; apply State.mergeCopy_kept; apply State.settle_kept
  apply State.countPkt_kept; assumption; dsimp only; apply State.takeFrames_kept; apply State.onFlowRx_kept
  refine Kept.snd (by assumption) ?_; apply State.mergeCopy_kept; apply State.settle_kept; apply State.countPkt_kept
  assumption

theorem State.sendFlow_kept {z : State} (s : State) (entry queue : Nat) (r : Bytes) (launch : Nat) (body : Bytes) (hz : Kept z s) : Kept z (State.sendFlow s entry queue r launch body) := by
  unfold State.sendFlow
  refine Kept.fold ?_ (fun _ _ _ => ?_); assumption; refine Kept.ite ?_ ?_; assumption; dsimp only; refine Kept.ite ?_ ?_
  apply State.launch_kept; apply State.queueFrame_kept; assumption; apply State.queueFrame_kept; assumption

theorem State.runPair_kept {z : State} (s : State) (o : OpenTick) (k g : Nat) (hz : Kept z s) : Kept z (State.runPair s o k g) := by
  unfold State.runPair
  dsimp only; refine Kept.upd ?_ rfl; assumption

theorem State.runRing_kept {z : State} (s : State) (t g : Nat) (hz : Kept z s) : Kept z (State.runRing s t g) := by
  unfold State.runRing
  dsimp only; refine Kept.upd ?_ rfl; assumption

theorem State.runBeds_kept {z : State} (s : State) (o : OpenTick) (hz : Kept z s) : Kept z (State.runBeds s o) := by
  unfold State.runBeds
  dsimp only; refine Kept.upd ?_ rfl; assumption

theorem State.onOpen_kept {z : State} (s : State) (n : Nat) (f : OpenTick → OpenTick) (hz : Kept z s) : Kept z (State.onOpen s n f) := by
  unfold State.onOpen
  refine Kept.upd ?_ rfl; assumption

theorem State.putRoute_kept {z : State} (s : State) (t : Nat) (r : RouteRun) (hz : Kept z s) : Kept z (State.putRoute s t r) := by
  unfold State.putRoute
  dsimp only; refine Kept.upd ?_ rfl; refine Kept.ite ?_ ?_; apply State.onOpen_kept; assumption; assumption

theorem State.runXp_kept {z : State} (s : State) (o : OpenTick) (k : Nat) (hz : Kept z s) : Kept z (State.runXp s o k) := by
  unfold State.runXp
  dsimp only; apply State.putRoute_kept; refine Kept.upd ?_ rfl; assumption

theorem State.runSeg_kept {z : State} (s : State) (o : OpenTick) (bank g : Nat) (hz : Kept z s) : Kept z (State.runSeg s o bank g) := by
  unfold State.runSeg
  dsimp only; apply State.putRoute_kept; refine Kept.upd ?_ rfl; assumption

theorem State.feedInput_kept {z : State} (s : State) (o : OpenTick) (f : Nat) (hz : Kept z s) : Kept z (State.feedInput s o f).2 := by
  unfold State.feedInput
  split; split; dsimp only; refine Kept.ite ?_ ?_; apply State.putRoute_kept; assumption; assumption

theorem State.runProbe_kept {z : State} (s : State) (o : OpenTick) (f : Nat) (prog : List Int) (hz : Kept z s) : Kept z (State.runProbe s o f prog).2 := by
  unfold State.runProbe
  dsimp only; split; dsimp only; assumption; dsimp only; split; apply State.setCalFeed_kept; refine Kept.upd ?_ rfl
  assumption; refine Kept.upd ?_ rfl; assumption

theorem State.finishFeed_kept {z : State} (s : State) (o : OpenTick) (f : Nat) (prog : List Int) (hz : Kept z s) : Kept z (State.finishFeed s o f prog) := by
  unfold State.finishFeed
  split; dsimp only; refine Kept.upd ?_ rfl; refine Kept.snd (by assumption) ?_; apply State.runProbe_kept; assumption

theorem State.corSat_kept {z : State} (s : State) (t : Nat) (sat : Bool) (hz : Kept z s) : Kept z (State.corSat s t sat) := by
  unfold State.corSat
  refine Kept.ite ?_ ?_; assumption; dsimp only; refine Kept.upd ?_ rfl; apply State.onOpen_kept; assumption

theorem State.gainFeed_kept {z : State} (s : State) (o : OpenTick) (f : Nat) (ys : List Int) (hz : Kept z s) : Kept z (State.gainFeed s o f ys) := by
  unfold State.gainFeed
  dsimp only; apply State.finishFeed_kept; apply State.corSat_kept; assumption

theorem State.runChain_kept {z : State} (s : State) (o : OpenTick) (shadow : Bool) (f : Nat) (hz : Kept z s) : Kept z (State.runChain s o shadow f) := by
  unfold State.runChain
  split; dsimp only; apply State.corSat_kept; apply State.onFeedCor_kept; refine Kept.upd ?_ rfl
  refine Kept.snd (by assumption) ?_; apply State.feedInput_kept; assumption

theorem State.runCor_kept {z : State} (s : State) (o : OpenTick) (shadow : Bool) (f : Nat) (done : Nat → Bool) (hz : Kept z s) : Kept z (State.runCor s o shadow f done) := by
  unfold State.runCor
  dsimp only; refine Kept.ite ?_ ?_; apply State.finishFeed_kept; assumption; split; apply State.gainFeed_kept
  refine Kept.ite ?_ ?_; apply State.finishFeed_kept; apply State.runChain_kept; assumption; apply State.runChain_kept
  assumption; refine Kept.ite ?_ ?_; refine Kept.ite ?_ ?_; refine Kept.ite ?_ ?_; apply State.finishFeed_kept
  apply State.runChain_kept; assumption; apply State.runChain_kept; assumption; apply State.finishFeed_kept
  refine Kept.ite ?_ ?_; apply State.finishFeed_kept; apply State.runChain_kept; assumption; apply State.runChain_kept
  assumption; apply State.gainFeed_kept; apply State.corSat_kept; refine Kept.ite ?_ ?_; refine Kept.ite ?_ ?_
  apply State.finishFeed_kept; apply State.runChain_kept; assumption; apply State.runChain_kept; assumption
  apply State.finishFeed_kept; refine Kept.ite ?_ ?_; apply State.finishFeed_kept; apply State.runChain_kept; assumption
  apply State.runChain_kept; assumption

theorem State.endBlock_kept {z : State} (s : State) (f block : Nat) (hz : Kept z s) : Kept z (State.endBlock s f block) := by
  unfold State.endBlock
  dsimp only; split; apply State.setCalFeed_kept; refine Kept.upd ?_ rfl; assumption; refine Kept.upd ?_ rfl; assumption

theorem State.abandonBlock_kept {z : State} (s : State) (f block : Nat) (hz : Kept z s) : Kept z (State.abandonBlock s f block) := by
  unfold State.abandonBlock
  apply State.calEvt_kept; apply State.endBlock_kept; refine Kept.upd ?_ rfl; assumption

theorem State.near2_kept {z : State} (s : State) (x : Int) (hz : Kept z s) : Kept z (State.near2 s x).2 := by
  unfold State.near2
  apply State.freeRange_kept; assumption

theorem State.baseFromWindow_kept {z : State} (s : State) (f n : Nat) (hz : Kept z s) : Kept z (State.baseFromWindow s f n) := by
  unfold State.baseFromWindow
  split; assumption; dsimp only; apply State.setCalFeed_kept; assumption

theorem State.runBases_kept {z : State} (s : State) (n : Nat) (hz : Kept z s) : Kept z (State.runBases s n) := by
  unfold State.runBases
  refine Kept.fold ?_ (fun _ _ _ => ?_); assumption; apply State.baseFromWindow_kept; assumption

theorem State.runEst_kept {z : State} (s : State) (f block : Nat) (hz : Kept z s) : Kept z (State.runEst s f block) := by
  unfold State.runEst
  split; assumption; refine Kept.ite ?_ ?_; assumption; refine Kept.ite ?_ ?_; apply State.abandonBlock_kept; assumption
  split; dsimp only; apply State.setCalFeed_kept; refine Kept.fold2 ?_ (fun _ _ _ => ?_); dsimp only
  apply State.endBlock_kept; refine Kept.upd ?_ rfl; assumption; split; dsimp only; assumption; dsimp only; split
  apply State.near2_kept; apply State.near2_kept; assumption; apply State.freeRange_kept; apply State.near2_kept; assumption

theorem State.appliedUp_kept {z : State} (s : State) (n : Nat) (hz : Kept z s) : Kept z (State.appliedUp s n) := by
  unfold State.appliedUp
  dsimp only; refine Kept.upd ?_ rfl; assumption

theorem State.keepTick_kept {z : State} (s : State) (o : OpenTick) (hz : Kept z s) : Kept z (State.keepTick s o) := by
  unfold State.keepTick
  refine Kept.ite ?_ ?_; assumption; dsimp only; refine Kept.upd ?_ rfl; assumption

theorem State.keepCheck_kept {z : State} (s : State) (c : Check) (hz : Kept z s) : Kept z (State.keepCheck s c) := by
  unfold State.keepCheck
  refine Kept.upd ?_ rfl; assumption

theorem State.endChecks_kept {z : State} (s : State) (hz : Kept z s) : Kept z (State.endChecks s) := by
  unfold State.endChecks
  refine Kept.upd ?_ rfl; assumption

theorem State.joinFail_kept {z : State} (s : State) (hz : Kept z s) : Kept z (State.joinFail s) := by
  unfold State.joinFail
  refine Kept.ite ?_ ?_; assumption; dsimp only; refine Kept.ite ?_ ?_; refine Kept.upd ?_ rfl; apply State.endChecks_kept
  apply State.twnEvt_kept; assumption; refine Kept.upd ?_ rfl; apply State.endChecks_kept; apply State.twnEvt_kept; assumption

theorem State.judged'_kept {z : State} (s : State) (hz : Kept z s) : Kept z (State.judged' s) := by
  unfold State.judged'
  refine Kept.upd ?_ rfl; assumption

theorem State.diverged_kept {z : State} (s : State) (yields : Bool) (hz : Kept z s) : Kept z (State.diverged s yields) := by
  unfold State.diverged
  dsimp only; refine Kept.ite ?_ ?_; apply State.decideYield_kept; apply State.twnEvt_kept; assumption
  apply State.twnEvt_kept; assumption

theorem State.actOnVerdict_kept {z : State} (s : State) (force : Bool) (hz : Kept z s) : Kept z (State.actOnVerdict s force) := by
  unfold State.actOnVerdict
  split; assumption; dsimp only; refine Kept.ite ?_ ?_; refine Kept.ite ?_ ?_; apply State.judged'_kept
  apply State.decideYield_kept; assumption; split; apply State.judged'_kept; refine Kept.ite ?_ ?_; apply State.diverged_kept
  assumption; assumption; assumption; split; apply State.judged'_kept; refine Kept.ite ?_ ?_; refine Kept.ite ?_ ?_
  apply State.diverged_kept; assumption; assumption; refine Kept.ite ?_ ?_; apply State.decideYield_kept; assumption
  assumption; refine Kept.ite ?_ ?_; assumption; apply State.judged'_kept; refine Kept.ite ?_ ?_; assumption
  apply State.decideYield_kept; assumption

theorem State.countRemade_kept {z : State} (s : State) (fs : List Nat) (hz : Kept z s) : Kept z (State.countRemade s fs) := by
  unfold State.countRemade
  refine Kept.ite ?_ ?_; assumption; refine Kept.upd ?_ rfl; assumption

theorem State.findVerdict_kept {z : State} (s : State) (a b : Check) (hz : Kept z s) : Kept z (State.findVerdict s a b) := by
  unfold State.findVerdict
  dsimp only; apply State.actOnVerdict_kept; refine Kept.upd ?_ rfl; apply State.sendTwin_kept; refine Kept.ite ?_ ?_
  apply State.countRemade_kept; assumption; refine Kept.upd ?_ rfl; apply State.countRemade_kept; assumption

theorem State.checkDiffers_kept {z : State} (s : State) (a b : Check) (hz : Kept z s) : Kept z (State.checkDiffers s a b) := by
  unfold State.checkDiffers
  dsimp only; refine Kept.ite ?_ ?_; apply State.joinFail_kept; apply State.twnEvt_kept; refine Kept.upd ?_ rfl; assumption
  refine Kept.ite ?_ ?_; apply State.twnEvt_kept; refine Kept.upd ?_ rfl; assumption; refine Kept.ite ?_ ?_
  apply State.diverged_kept; apply State.twnEvt_kept; refine Kept.upd ?_ rfl; assumption; apply State.findVerdict_kept
  apply State.twnEvt_kept; refine Kept.upd ?_ rfl; assumption

theorem State.checkAgrees_kept {z : State} (s : State) (hz : Kept z s) : Kept z (State.checkAgrees s) := by
  unfold State.checkAgrees
  split; assumption; dsimp only; refine Kept.ite ?_ ?_; refine Kept.upd ?_ rfl; apply State.mirrorOut_kept
  refine Kept.upd ?_ rfl; assumption; refine Kept.upd ?_ rfl; assumption

theorem State.compareChecks_kept {z : State} (s : State) (n : Nat) (hz : Kept z s) : Kept z (State.compareChecks s n) := by
  unfold State.compareChecks
  split; dsimp only; refine Kept.ite ?_ ?_; apply State.checkAgrees_kept; refine Kept.upd ?_ rfl; assumption
  apply State.checkDiffers_kept; refine Kept.upd ?_ rfl; assumption; assumption

theorem State.checkTick_kept {z : State} (s : State) (n : Nat) (onTime : Bool) (hz : Kept z s) : Kept z (State.checkTick s n onTime) := by
  unfold State.checkTick
  dsimp only; refine Kept.ite ?_ ?_; apply State.appliedUp_kept; assumption; refine Kept.ite ?_ ?_; apply State.keepCheck_kept
  apply State.appliedUp_kept; assumption; apply State.compareChecks_kept; apply State.sendTwin_kept; refine Kept.upd ?_ rfl
  apply State.keepCheck_kept; apply State.appliedUp_kept; assumption

theorem State.batch_kept {z : State} (s : State) (hz : Kept z s) : Kept z (State.batch s) := by
  unfold State.batch
  refine Kept.ite ?_ ?_; assumption; refine Kept.upd ?_ rfl; assumption

theorem State.rouse_kept {z : State} (s : State) (hz : Kept z s) : Kept z (State.rouse s) := by
  unfold State.rouse
  dsimp only; refine Kept.ite ?_ ?_; assumption; refine Kept.upd ?_ rfl; apply State.batch_kept; assumption

theorem State.dispEvt_kept {z : State} (s : State) (i : Nat) (hz : Kept z s) : Kept z (State.dispEvt s i) := by
  unfold State.dispEvt
  refine Kept.upd ?_ rfl; assumption

theorem State.takeUnit_kept {z : State} (s : State) (d : Desc) (hz : Kept z s) : Kept z (State.takeUnit s d) := by
  unfold State.takeUnit
  dsimp only; apply State.rouse_kept; refine Kept.upd ?_ rfl; assumption

theorem State.refuseUnit_kept {z : State} (s : State) (core : Nat) (b : Bytes) (out : Bool) (hz : Kept z s) : Kept z (State.refuseUnit s core b out) := by
  unfold State.refuseUnit
  dsimp only; refine Kept.upd ?_ rfl; assumption

theorem State.submit_kept {z : State} (s : State) (core : Nat) (b : Bytes) (hz : Kept z s) : Kept z (State.submit s core b) := by
  unfold State.submit
  refine Kept.ite ?_ ?_; apply State.decideYield_kept; apply State.logOpen_kept; apply State.dispEvt_kept; assumption
  dsimp only; refine Kept.ite ?_ ?_; apply State.refuseUnit_kept; assumption; apply State.takeUnit_kept; assumption

theorem State.submitAt_kept {z : State} (s : State) (core : Nat) (hz : Kept z s) : Kept z (State.submitAt s core) := by
  unfold State.submitAt
  dsimp only; refine Kept.upd ?_ rfl; refine Kept.ite ?_ ?_; apply State.at_kept; assumption; assumption

theorem State.resubmit_kept {z : State} (s : State) (which : Bytes → Bool) (hz : Kept z s) : Kept z (State.resubmit s which) := by
  unfold State.resubmit
  dsimp only; refine Kept.fold ?_ (fun _ _ _ => ?_); refine Kept.upd ?_ rfl; assumption; apply State.submit_kept; assumption

theorem State.onUnit_kept {z : State} (s : State) (seq : Nat) (f : QUnit → QUnit) (hz : Kept z s) : Kept z (State.onUnit s seq f) := by
  unfold State.onUnit
  refine Kept.upd ?_ rfl; assumption

theorem State.dispatch_kept {z : State} (s : State) (k : Nat) (u : QUnit) (hz : Kept z s) : Kept z (State.dispatch s k u) := by
  unfold State.dispatch
  dsimp only; apply State.onEngine_kept; apply State.onUnit_kept; refine Kept.ite ?_ ?_; refine Kept.upd ?_ rfl; assumption
  refine Kept.upd ?_ rfl; assumption

theorem State.raiseUnits_kept {z : State} (s : State) (hz : Kept z s) : Kept z (State.raiseUnits s) := by
  unfold State.raiseUnits
  dsimp only; refine Kept.upd ?_ rfl; refine Kept.fold ?_ (fun _ _ _ => ?_); assumption; apply State.onUnit_kept; assumption

theorem State.setShed_kept {z : State} (s : State) (m : Nat) (hz : Kept z s) : Kept z (State.setShed s m) := by
  unfold State.setShed
  refine Kept.upd ?_ rfl; assumption

theorem State.becomeLate_kept {z : State} (s : State) (hz : Kept z s) : Kept z (State.becomeLate s) := by
  unfold State.becomeLate
  dsimp only; apply State.setShed_kept; apply State.dispEvt_kept; refine Kept.upd ?_ rfl; apply State.raiseUnits_kept
  refine Kept.upd ?_ rfl; assumption

theorem State.lowerLevels_kept {z : State} (s : State) (hz : Kept z s) : Kept z (State.lowerLevels s) := by
  unfold State.lowerLevels
  dsimp only; apply State.setShed_kept; refine Kept.upd ?_ rfl; assumption

theorem State.geomKick_kept {z : State} (s : State) (hz : Kept z s) : Kept z (State.geomKick s) := by
  unfold State.geomKick
  split; refine Kept.ite ?_ ?_; refine Kept.upd ?_ rfl; assumption; assumption; assumption

theorem State.geomEvents_kept {z : State} (s : State) (b : Build) (hz : Kept z s) : Kept z (State.geomEvents s b) := by
  unfold State.geomEvents
  dsimp only; refine Kept.ite ?_ ?_; apply State.objEvt_kept; refine Kept.upd ?_ rfl; assumption; refine Kept.upd ?_ rfl
  assumption

theorem State.geomFault_kept {z : State} (s : State) (kind : Nat) (hz : Kept z s) : Kept z (State.geomFault s kind) := by
  unfold State.geomFault
  split; apply State.logFault_kept; refine Kept.snd (by assumption) ?_; apply State.freeBelow_kept
  apply State.countCheck_kept; assumption

theorem State.seeTick_kept {z : State} (s : State) (o : OpenTick) (hz : Kept z s) : Kept z (State.seeTick s o) := by
  unfold State.seeTick
  dsimp only; refine Kept.upd ?_ rfl; assumption

theorem State.judgeTick_kept {z : State} (s : State) (late : Nat) (hz : Kept z s) : Kept z (State.judgeTick s late) := by
  unfold State.judgeTick
  dsimp only; refine Kept.ite ?_ ?_; refine Kept.upd ?_ rfl; refine Kept.ite ?_ ?_; refine Kept.upd ?_ rfl; assumption
  refine Kept.upd ?_ rfl; assumption; refine Kept.ite ?_ ?_; apply State.setShed_kept; refine Kept.upd ?_ rfl; assumption
  refine Kept.upd ?_ rfl; assumption

theorem State.snapSignal_kept {z : State} (s : State) (n : Nat) (hz : Kept z s) : Kept z (State.snapSignal s n) := by
  unfold State.snapSignal
  split; assumption; refine Kept.ite ?_ ?_; assumption; dsimp only; refine Kept.upd ?_ rfl; assumption

theorem State.completeTick_kept {z : State} (s : State) (o : OpenTick) (hz : Kept z s) : Kept z (State.completeTick s o) := by
  unfold State.completeTick
  dsimp only; apply State.checkTick_kept; apply State.keepTick_kept; apply State.snapSignal_kept; apply State.seeTick_kept
  apply State.judgeTick_kept; refine Kept.upd ?_ rfl; assumption

theorem State.outputEffect_kept {z : State} (s : State) (o : OpenTick) (d : Desc) (shadow : Bool) (i : Nat) (hz : Kept z s) : Kept z (State.outputEffect s o d shadow i) := by
  unfold State.outputEffect
  refine Kept.ite ?_ ?_; apply State.runPair_kept; assumption; refine Kept.ite ?_ ?_; refine Kept.ite ?_ ?_
  apply State.runSeg_kept; assumption; apply State.runXp_kept; assumption; apply State.runCor_kept; assumption

theorem State.outputEnds_kept {z : State} (s : State) (o : OpenTick) (d : Desc) (i : Nat) (hz : Kept z s) : Kept z (State.outputEnds s o d i) := by
  unfold State.outputEnds
  dsimp only; split; refine Kept.ite ?_ ?_; apply State.geomKick_kept; apply State.completeTick_kept; refine Kept.ite ?_ ?_
  apply State.geomKick_kept; apply State.onOpen_kept; refine Kept.ite ?_ ?_; apply State.runRing_kept; refine Kept.upd ?_ rfl
  assumption; refine Kept.upd ?_ rfl; assumption; refine Kept.ite ?_ ?_; apply State.runRing_kept; refine Kept.upd ?_ rfl
  assumption; refine Kept.upd ?_ rfl; assumption; refine Kept.ite ?_ ?_; apply State.geomKick_kept; apply State.onOpen_kept
  refine Kept.ite ?_ ?_; apply State.runRing_kept; refine Kept.upd ?_ rfl; assumption; refine Kept.upd ?_ rfl; assumption
  refine Kept.ite ?_ ?_; apply State.runRing_kept; refine Kept.upd ?_ rfl; assumption; refine Kept.upd ?_ rfl; assumption
  refine Kept.ite ?_ ?_; apply State.geomKick_kept; apply State.onOpen_kept; refine Kept.ite ?_ ?_; apply State.runRing_kept
  refine Kept.upd ?_ rfl; assumption; refine Kept.upd ?_ rfl; assumption; refine Kept.ite ?_ ?_; apply State.runRing_kept
  refine Kept.upd ?_ rfl; assumption; refine Kept.upd ?_ rfl; assumption

theorem State.prepEnds_kept {z : State} (s : State) (f : Nat) (hz : Kept z s) : Kept z (State.prepEnds s f) := by
  unfold State.prepEnds
  dsimp only; split; refine Kept.upd ?_ rfl; assumption; assumption

theorem State.cpuStops_kept {z : State} (s : State) (k : Nat) (c : TapCpu) (hz : Kept z s) : Kept z (State.cpuStops s k c) := by
  unfold State.cpuStops
  apply State.onEngine_kept; assumption

theorem State.krnEnds_kept {z : State} (s : State) (k : Nat) (d : Desc) (c : TapCpu) (commit : Bool) (hz : Kept z s) : Kept z (State.krnEnds s k d c commit) := by
  unfold State.krnEnds
  dsimp only; apply State.onEngine_kept; apply State.cpuStops_kept; refine Kept.upd ?_ rfl; assumption

theorem State.freeEngine_kept {z : State} (s : State) (k : Nat) (hz : Kept z s) : Kept z (State.freeEngine s k) := by
  unfold State.freeEngine
  dsimp only; apply State.onEngine_kept; assumption

theorem State.unitLeaves_kept {z : State} (s : State) (k : Nat) (u : QUnit) (hz : Kept z s) : Kept z (State.unitLeaves s k u) := by
  unfold State.unitLeaves
  apply State.freeEngine_kept; refine Kept.upd ?_ rfl; assumption

theorem State.freeStalls_kept {z : State} (s : State) (k : Nat) (hz : Kept z s) : Kept z (State.freeStalls s k) := by
  unfold State.freeStalls
  split; apply State.onEngine_kept; refine Kept.snd (by assumption) ?_; apply State.freeBelow_kept; assumption

theorem State.shadowCopy_kept {z : State} (s : State) (sh : Nat) (load : Bool) (hz : Kept z s) : Kept z (State.shadowCopy s sh load) := by
  unfold State.shadowCopy
  dsimp only; refine Kept.fold ?_ (fun _ _ _ => ?_); assumption; refine Kept.ite ?_ ?_; apply State.onFeedCor_kept; assumption
  refine Kept.upd ?_ rfl; assumption

theorem State.unitEnds_kept {z : State} (s : State) (k : Nat) (u : QUnit) (commit : Bool) (hz : Kept z s) : Kept z (State.unitEnds s k u commit) := by
  unfold State.unitEnds
  dsimp only; refine Kept.ite ?_ ?_; split; apply State.rouse_kept; apply State.unitLeaves_kept; refine Kept.ite ?_ ?_
  refine Kept.upd ?_ rfl; apply State.onEngine_kept; assumption; apply State.onEngine_kept; assumption; split
  apply State.rouse_kept; apply State.unitLeaves_kept; refine Kept.ite ?_ ?_; refine Kept.upd ?_ rfl
  apply State.onEngine_kept; assumption; apply State.onEngine_kept; assumption; refine Kept.ite ?_ ?_; apply State.rouse_kept
  apply State.unitLeaves_kept; refine Kept.ite ?_ ?_; refine Kept.upd ?_ rfl; apply State.onEngine_kept; assumption
  apply State.onEngine_kept; assumption; apply State.rouse_kept; apply State.outputEnds_kept; apply State.unitLeaves_kept
  refine Kept.ite ?_ ?_; apply State.outputEffect_kept; refine Kept.ite ?_ ?_; refine Kept.upd ?_ rfl
  apply State.onEngine_kept; assumption; apply State.onEngine_kept; assumption; refine Kept.ite ?_ ?_; refine Kept.upd ?_ rfl
  apply State.onEngine_kept; assumption; apply State.onEngine_kept; assumption; apply State.rouse_kept
  apply State.unitLeaves_kept; refine Kept.ite ?_ ?_; apply State.prepEnds_kept; refine Kept.ite ?_ ?_; refine Kept.upd ?_ rfl
  apply State.onEngine_kept; assumption; apply State.onEngine_kept; assumption; refine Kept.ite ?_ ?_; refine Kept.ite ?_ ?_
  refine Kept.upd ?_ rfl; apply State.onEngine_kept; assumption; apply State.onEngine_kept; assumption; refine Kept.ite ?_ ?_
  apply State.shadowCopy_kept; refine Kept.ite ?_ ?_; refine Kept.upd ?_ rfl; apply State.onEngine_kept; assumption
  apply State.onEngine_kept; assumption; refine Kept.ite ?_ ?_; apply State.runEst_kept; refine Kept.ite ?_ ?_
  refine Kept.upd ?_ rfl; apply State.onEngine_kept; assumption; apply State.onEngine_kept; assumption; refine Kept.ite ?_ ?_
  refine Kept.upd ?_ rfl; apply State.onEngine_kept; assumption; apply State.onEngine_kept; assumption

theorem State.toTail_kept {z : State} (s : State) (test : QUnit → Bool) (hz : Kept z s) : Kept z (State.toTail s test) := by
  unfold State.toTail
  dsimp only; refine Kept.upd ?_ rfl; assumption

theorem State.reassign_kept {z : State} (s : State) (sh : Nat) (n : Option Nat) (spare : Option Nat) (hz : Kept z s) : Kept z (State.reassign s sh n spare) := by
  unfold State.reassign
  dsimp only; split; refine Kept.ite ?_ ?_; apply State.onEngine_kept; apply State.toTail_kept; refine Kept.upd ?_ rfl
  assumption; apply State.takeUnit_kept; apply State.onEngine_kept; apply State.toTail_kept; refine Kept.upd ?_ rfl
  assumption; apply State.toTail_kept; refine Kept.upd ?_ rfl; assumption

theorem State.hardFail_kept {z : State} (s : State) (k : Nat) (hz : Kept z s) : Kept z (State.hardFail s k) := by
  unfold State.hardFail
  split; split; refine Kept.snd (by assumption) ?_; apply State.assignSpare_kept; apply State.declareFailed_kept; assumption
  dsimp only; refine Kept.ite ?_ ?_; apply State.decideYield_kept; refine Kept.ite ?_ ?_; apply State.reassign_kept
  refine Kept.snd (by assumption) ?_; apply State.assignSpare_kept; apply State.declareFailed_kept; assumption
  apply State.applyMoves_kept; apply State.reassign_kept; refine Kept.snd (by assumption) ?_; apply State.assignSpare_kept
  apply State.declareFailed_kept; assumption; refine Kept.ite ?_ ?_; apply State.reassign_kept
  refine Kept.snd (by assumption) ?_; apply State.assignSpare_kept; apply State.declareFailed_kept; assumption
  apply State.applyMoves_kept; apply State.reassign_kept; refine Kept.snd (by assumption) ?_; apply State.assignSpare_kept
  apply State.declareFailed_kept; assumption

theorem State.noteFault_kept {z : State} (s : State) (k kind addr lane : Nat) (hz : Kept z s) : Kept z (State.noteFault s k kind addr lane) := by
  unfold State.noteFault
  dsimp only; apply State.countCheck_kept; apply State.onEngine_kept; assumption

theorem State.requeue_kept {z : State} (s : State) (k : Nat) (u : QUnit) (hz : Kept z s) : Kept z (State.requeue s k u) := by
  unfold State.requeue
  dsimp only; apply State.freeEngine_kept; refine Kept.upd ?_ rfl; apply State.onUnit_kept; assumption

theorem State.unitOutcome_kept {z : State} (s : State) (stops alone hard : Bool) (hz : Kept z s) : Kept z (State.unitOutcome s stops alone hard).2 := by
  unfold State.unitOutcome
  split; dsimp only; assumption; split; dsimp only; assumption; split; split; dsimp only; refine Kept.snd (by assumption) ?_
  apply State.freeBelow_kept; assumption; dsimp only; assumption

theorem State.unitFails_kept {z : State} (s : State) (k : Nat) (u : QUnit) (kind addr lane : Nat) (hz : Kept z s) : Kept z (State.unitFails s k u kind addr lane) := by
  unfold State.unitFails
  dsimp only; apply State.rouse_kept; refine Kept.ite ?_ ?_; apply State.hardFail_kept; refine Kept.ite ?_ ?_
  apply State.decideYield_kept; apply State.requeue_kept; apply State.logFault_kept; apply State.unitOutcome_kept
  apply State.noteFault_kept; assumption; apply State.requeue_kept; apply State.logFault_kept; apply State.unitOutcome_kept
  apply State.noteFault_kept; assumption; refine Kept.ite ?_ ?_; apply State.decideYield_kept; apply State.requeue_kept
  apply State.logFault_kept; apply State.unitOutcome_kept; apply State.noteFault_kept; assumption; apply State.requeue_kept
  apply State.logFault_kept; apply State.unitOutcome_kept; apply State.noteFault_kept; assumption

theorem State.krnOverrun_kept {z : State} (s : State) (k : Nat) (u : QUnit) (hz : Kept z s) : Kept z (State.krnOverrun s k u) := by
  unfold State.krnOverrun
  dsimp only; apply State.rouse_kept; apply State.unitLeaves_kept; refine Kept.upd ?_ rfl; apply State.onEngine_kept
  assumption

theorem State.krnStops_kept {z : State} (s : State) (k : Nat) (u : QUnit) (hz : Kept z s) : Kept z (State.krnStops s k u) := by
  unfold State.krnStops
  split; apply State.unitEnds_kept; apply State.krnEnds_kept; assumption; apply State.unitFails_kept
  apply State.cpuStops_kept; assumption; apply State.krnOverrun_kept; apply State.cpuStops_kept; assumption; assumption

theorem State.vendorFails_kept {z : State} (s : State) (k : Nat) (u : QUnit) (kind : Nat) (hz : Kept z s) : Kept z (State.vendorFails s k u kind) := by
  unfold State.vendorFails
  dsimp only; apply State.unitFails_kept; apply State.freeBelow_kept; apply State.freeStalls_kept; assumption

theorem State.vendorEnds_kept {z : State} (s : State) (k : Nat) (u : QUnit) (commit : Bool) (hz : Kept z s) : Kept z (State.vendorEnds s k u commit) := by
  unfold State.vendorEnds
  dsimp only; refine Kept.ite ?_ ?_; apply State.vendorFails_kept; assumption; refine Kept.ite ?_ ?_
  apply State.vendorFails_kept; assumption; apply State.unitEnds_kept; apply State.freeStalls_kept; assumption

theorem State.onRunning_kept {z : State} (s : State) (k : Nat) (f : QUnit → State → State) (hf : ∀ u t, Kept z t → Kept z (f u t))
    (hz : Kept z s) : Kept z (State.onRunning s k f) := by
  unfold State.onRunning
  split
  · exact hz
  · exact Kept.ite (hf _ _ hz) hz

theorem State.endOn_kept {z : State} (s : State) (k : Nat) (commit : Bool) (hz : Kept z s) : Kept z (State.endOn s k commit) := by
  unfold State.endOn
  exact State.onRunning_kept _ _ _ (fun u t ht => Kept.ite (State.krnStops_kept _ _ _ ht) (State.vendorEnds_kept _ _ _ _ ht)) hz

theorem State.ringFault_kept {z : State} (s : State) (kind : Nat) (hz : Kept z s) : Kept z (State.ringFault s kind) := by
  unfold State.ringFault
  split; apply State.logFault_kept; refine Kept.snd (by assumption) ?_; apply State.freeBelow_kept
  apply State.countCheck_kept; assumption

theorem State.pairParity_kept {z : State} (s : State) (k : Nat) (u : QUnit) (addr : Nat) (hz : Kept z s) : Kept z (State.pairParity s k u addr) := by
  unfold State.pairParity
  dsimp only; apply State.rouse_kept; apply State.onUnit_kept; apply State.requeue_kept; apply State.logFault_kept
  apply State.countCheck_kept; apply State.freeStalls_kept; assumption

theorem State.slotLoads_kept {z : State} (s : State) (hz : Kept z s) : Kept z (State.slotLoads s) := by
  unfold State.slotLoads
  dsimp only; refine Kept.upd ?_ rfl; assumption

theorem State.slotOpens_kept {z : State} (s : State) (o : OpenTick) (hz : Kept z s) : Kept z (State.slotOpens s o) := by
  unfold State.slotOpens
  dsimp only; apply State.rouse_kept; apply State.resubmit_kept; refine Kept.ite ?_ ?_; apply State.lowerLevels_kept
  refine Kept.ite ?_ ?_; refine Kept.upd ?_ rfl; apply State.slotLoads_kept; refine Kept.upd ?_ rfl; apply State.onOpen_kept
  apply State.runBeds_kept; apply State.ingest_kept; assumption; apply State.slotLoads_kept; refine Kept.upd ?_ rfl
  apply State.onOpen_kept; apply State.runBeds_kept; apply State.ingest_kept; assumption; refine Kept.ite ?_ ?_
  refine Kept.upd ?_ rfl; apply State.slotLoads_kept; refine Kept.upd ?_ rfl; apply State.onOpen_kept
  apply State.runBeds_kept; apply State.ingest_kept; assumption; apply State.slotLoads_kept; refine Kept.upd ?_ rfl
  apply State.onOpen_kept; apply State.runBeds_kept; apply State.ingest_kept; assumption

theorem State.tickLate_kept {z : State} (s : State) (n : Nat) (hz : Kept z s) : Kept z (State.tickLate s n) := by
  unfold State.tickLate
  dsimp only; refine Kept.upd ?_ rfl; refine Kept.ite ?_ ?_; apply State.onOpen_kept; assumption; apply State.becomeLate_kept
  apply State.onOpen_kept; assumption

theorem corWriteRun_kept (i : CmdIn) (s : State) : Verdict.Kept s (corWriteRun i s) := by
  unfold corWriteRun
  dsimp only; refine Verdict.kite ?_ ?_; exact trivial; refine Verdict.kite ?_ ?_; exact trivial; apply Verdict.ok_kept
  refine Kept.ite ?_ ?_; refine Kept.ite ?_ ?_; exact Kept.refl _; apply State.corStore_kept; exact Kept.refl _
  apply State.corStore_kept; refine Kept.ite ?_ ?_; exact Kept.refl _; apply State.corStore_kept; exact Kept.refl _

theorem corWriteCmd_kept : corWriteCmd.Kept := by
  intro i s
  exact corWriteRun_kept i s

theorem corHingeRun_kept (i : CmdIn) (s : State) : Verdict.Kept s (corHingeRun i s) := by
  unfold corHingeRun
  dsimp only; refine Verdict.kite ?_ ?_; exact trivial; refine Verdict.kite ?_ ?_; exact trivial; split; exact trivial
  refine Verdict.kite ?_ ?_; apply Verdict.kdone; apply State.corSwap_kept; exact Kept.refl _; split; exact trivial
  exact trivial; refine Verdict.kite ?_ ?_; exact trivial; refine Verdict.kite ?_ ?_; exact trivial; apply Verdict.kdefer
  apply State.corRequest_kept; refine Kept.fold ?_ (fun _ _ _ => ?_); exact Kept.refl _; apply State.corSupersede_kept
  assumption

theorem corHingeCmd_kept : corHingeCmd.Kept := by
  intro i s
  exact corHingeRun_kept i s

theorem State.feedGainsAt_kept {z : State} (s : State) (n : Nat) (l : List (Nat × Int)) (hz : Kept z s) : Kept z (State.feedGainsAt s n l) := by
  unfold State.feedGainsAt
  refine Kept.fold ?_ (fun _ _ _ => ?_); assumption; split; apply State.onFeedCor_kept; assumption

theorem corGainRun_kept (i : CmdIn) (s : State) : Verdict.Kept s (corGainRun i s) := by
  unfold corGainRun
  dsimp only; refine Verdict.kite ?_ ?_; exact trivial; apply scheduled_kept; refine Kept.fold ?_ (fun _ _ _ => ?_)
  exact Kept.refl _; apply State.onFeedCor_kept; assumption; intro _; refine Kept.upd ?_ rfl; exact Kept.refl _

theorem corGainCmd_kept : corGainCmd.Kept := by
  intro i s
  exact corGainRun_kept i s

theorem corLongRun_kept (i : CmdIn) (s : State) : Verdict.Kept s (corLongRun i s) := by
  unfold corLongRun
  dsimp only; refine Verdict.kite ?_ ?_; exact trivial; refine Verdict.kite ?_ ?_; exact trivial; refine Verdict.kite ?_ ?_
  exact trivial; apply Verdict.ok_kept; refine Kept.upd ?_ rfl; refine Kept.fold ?_ (fun _ _ _ => ?_); exact Kept.refl _
  apply State.onFeedCor_kept; apply State.onFeedCor_kept; refine Kept.upd ?_ rfl; assumption

theorem corLongCmd_kept : corLongCmd.Kept := by
  intro i s
  exact corLongRun_kept i s

theorem corFoldRun_kept (i : CmdIn) (s : State) : Verdict.Kept s (corFoldRun i s) := by
  unfold corFoldRun
  dsimp only; refine Verdict.kite ?_ ?_; exact trivial; refine Verdict.kite ?_ ?_; exact trivial; apply Verdict.ok_kept
  refine Kept.upd ?_ rfl; exact Kept.refl _

theorem corFoldCmd_kept : corFoldCmd.Kept := by
  intro i s
  exact corFoldRun_kept i s

theorem corQueryRun_kept (i : CmdIn) (s : State) : Verdict.Kept s (corQueryRun i s) := by
  unfold corQueryRun
  dsimp only; refine Verdict.kite ?_ ?_; exact trivial; apply Verdict.kdone; exact Kept.refl _

theorem corQueryCmd_kept : corQueryCmd.Kept := by
  intro i s
  exact corQueryRun_kept i s

theorem State.alignBlock_kept {z : State} (s : State) (f : Nat) (c : CalFeed) (block : Nat) (hz : Kept z s) : Kept z (State.alignBlock s f c block) := by
  unfold State.alignBlock
  split; dsimp only; refine Kept.ite ?_ ?_; apply State.endBlock_kept; refine Kept.upd ?_ rfl; assumption
  refine Kept.upd ?_ rfl; assumption

theorem State.calWrite_kept {z : State} (s : State) (f : Nat) (g : List Int) (hz : Kept z s) : Kept z (State.calWrite s f g) := by
  unfold State.calWrite
  dsimp only; refine Kept.upd ?_ rfl; assumption

theorem State.addReport_kept {z : State} (s : State) (r : CalReport) (hz : Kept z s) : Kept z (State.addReport s r) := by
  unfold State.addReport
  dsimp only; refine Kept.upd ?_ rfl; assumption

theorem State.adopt_kept {z : State} (s : State) (f : Nat) (g : List Int) (n start fade seq : Nat) (hz : Kept z s) : Kept z (State.adopt s f g n start fade seq) := by
  unfold State.adopt
  split; assumption; dsimp only; apply State.calEvt_kept; apply State.addReport_kept; apply State.corRequest_kept
  apply State.calWrite_kept; assumption

theorem State.setSuspect_kept {z : State} (s : State) (f : Nat) (on : Bool) (n seq : Nat) (hz : Kept z s) : Kept z (State.setSuspect s f on n seq) := by
  unfold State.setSuspect
  split; assumption; dsimp only; refine Kept.ite ?_ ?_; apply State.setCalFeed_kept; assumption; apply State.calEvt_kept
  apply State.addReport_kept; apply State.setCalFeed_kept; assumption

theorem State.roundFeed_kept {z : State} (s : State) (n f : Nat) (hz : Kept z s) : Kept z (State.roundFeed s n f) := by
  unfold State.roundFeed
  split; assumption; dsimp only; refine Kept.ite ?_ ?_; refine Kept.ite ?_ ?_; assumption; apply State.setSuspect_kept
  refine Kept.ite ?_ ?_; apply State.mirrorOut_kept; assumption; assumption; refine Kept.ite ?_ ?_; apply State.calEvt_kept
  refine Kept.ite ?_ ?_; assumption; apply State.setSuspect_kept; refine Kept.ite ?_ ?_; apply State.mirrorOut_kept
  assumption; assumption; refine Kept.ite ?_ ?_; refine Kept.ite ?_ ?_; assumption; apply State.setSuspect_kept
  refine Kept.ite ?_ ?_; apply State.mirrorOut_kept; assumption; assumption; apply State.adopt_kept; refine Kept.ite ?_ ?_
  apply State.mirrorOut_kept; refine Kept.ite ?_ ?_; assumption; apply State.setSuspect_kept; refine Kept.ite ?_ ?_
  apply State.mirrorOut_kept; assumption; assumption; refine Kept.ite ?_ ?_; assumption; apply State.setSuspect_kept
  refine Kept.ite ?_ ?_; apply State.mirrorOut_kept; assumption; assumption

theorem State.rateReset_kept {z : State} (s : State) (hz : Kept z s) : Kept z s.rateReset := by
  unfold State.rateReset
  refine Kept.mem hz rfl rfl fun h => ?_
  rw [storesOk_iff] at *
  exact ⟨h.1, h.2.1, rfl, rfl, rfl, rfl, rfl⟩

theorem renderConfigRun_kept (i : CmdIn) (s : State) : Verdict.Kept s (renderConfigRun i s) := by
  unfold renderConfigRun
  refine Verdict.kite ?_ ?_; exact trivial; refine Verdict.kite ?_ ?_; exact trivial; dsimp only; refine Verdict.kite ?_ ?_
  apply Verdict.ok_kept; exact Kept.refl _; apply Verdict.ok_kept; refine Kept.upd ?_ rfl; apply State.rateReset_kept
  exact Kept.refl _

theorem renderConfigCmd_kept : renderConfigCmd.Kept := by
  intro i s
  exact renderConfigRun_kept i s

theorem State.setPause_kept {z : State} (s : State) (p : PausePend) (hz : Kept z s) : Kept z (State.setPause s p) := by
  unfold State.setPause
  dsimp only; refine Kept.upd ?_ rfl; split; apply State.answer_kept; assumption; assumption

theorem pauseRun_kept (resume : Bool) (i : CmdIn) (s : State) : Verdict.Kept s (pauseRun resume i s) := by
  unfold pauseRun
  refine Verdict.kite ?_ ?_; exact trivial; split; exact trivial; exact trivial; apply Verdict.kdefer
  apply State.setPause_kept; exact Kept.refl _

theorem pauseCmd_kept : pauseCmd.Kept := by
  intro i s
  exact pauseRun_kept _ i s

theorem resumeCmd_kept : resumeCmd.Kept := by
  intro i s
  exact pauseRun_kept _ i s

theorem State.onPtp_kept {z : State} (s : State) (port : Nat) (f : PtpPort → PtpPort) (hz : Kept z s) : Kept z (State.onPtp s port f) := by
  unfold State.onPtp
  refine Kept.upd ?_ rfl; assumption

theorem State.ptmEvt_kept {z : State} (s : State) (i : Nat) (hz : Kept z s) : Kept z (State.ptmEvt s i) := by
  unfold State.ptmEvt
  refine Kept.upd ?_ rfl; assumption

theorem State.ptpReceive_kept {z : State} (s : State) (m : PtpMsg) (f : State → State) (h_f : ∀ t, Kept z t → Kept z (f t)) (hz : Kept z s) : Kept z (State.ptpReceive s m f) := by
  unfold State.ptpReceive
  refine Kept.ite ?_ ?_; assumption; apply State.receive_kept; intro _; intro _; refine Kept.ite ?_ ?_; apply h_f; assumption
  assumption; assumption

theorem State.refChange_kept {z : State} (s : State) (hz : Kept z s) : Kept z (State.refChange s) := by
  unfold State.refChange
  dsimp only; refine Kept.ite ?_ ?_; assumption; refine Kept.ite ?_ ?_; apply State.mirrorOut_kept; refine Kept.upd ?_ rfl
  assumption; refine Kept.upd ?_ rfl; assumption

theorem State.steer_kept {z : State} (s : State) (ppm : Nat) (hz : Kept z s) : Kept z (State.steer s ppm) := by
  unfold State.steer
  dsimp only; refine Kept.upd ?_ rfl; apply State.freeRange_kept; apply State.rebase_kept; assumption

theorem State.loseRef_kept {z : State} (s : State) (hz : Kept z s) : Kept z (State.loseRef s) := by
  unfold State.loseRef
  refine Kept.ite ?_ ?_; assumption; dsimp only; apply State.refChange_kept; apply State.steer_kept; apply State.ptmEvt_kept
  refine Kept.upd ?_ rfl; assumption

theorem State.regainRef_kept {z : State} (s : State) (far : Bool) (hz : Kept z s) : Kept z (State.regainRef s far) := by
  unfold State.regainRef
  apply State.refChange_kept; apply State.ptmEvt_kept; refine Kept.upd ?_ rfl; assumption

theorem State.switchPort_kept {z : State} (s : State) (b : Bool) (hz : Kept z s) : Kept z (State.switchPort s b) := by
  unfold State.switchPort
  refine Kept.ite ?_ ?_; assumption; apply State.ptmEvt_kept; refine Kept.upd ?_ rfl; assumption

theorem State.newGm_kept {z : State} (s : State) (gm : Nat) (b : Bool) (hz : Kept z s) : Kept z (State.newGm s gm b) := by
  unfold State.newGm
  dsimp only; refine Kept.upd ?_ rfl; assumption

theorem State.setMasters_kept {z : State} (s : State) (port : Nat) (l : List Foreign) (hz : Kept z s) : Kept z (State.setMasters s port l) := by
  unfold State.setMasters
  dsimp only; split; apply State.loseRef_kept; refine Kept.upd ?_ rfl; apply State.onPtp_kept; assumption
  refine Kept.ite ?_ ?_; refine Kept.ite ?_ ?_; apply State.onPtp_kept; assumption; apply State.switchPort_kept
  apply State.onPtp_kept; assumption; apply State.newGm_kept; apply State.onPtp_kept; assumption

theorem State.portDiff_kept {z : State} (s : State) (hz : Kept z s) : Kept z (State.portDiff s) := by
  unfold State.portDiff
  dsimp only; refine Kept.ite ?_ ?_; refine Kept.upd ?_ rfl; assumption; refine Kept.ite ?_ ?_; assumption
  refine Kept.ite ?_ ?_; apply State.ptmEvt_kept; refine Kept.upd ?_ rfl; assumption; refine Kept.upd ?_ rfl; assumption

theorem State.acquireSync_kept {z : State} (s : State) (off : Int) (hz : Kept z s) : Kept z (State.acquireSync s off) := by
  unfold State.acquireSync
  dsimp only; refine Kept.ite ?_ ?_; apply State.ptmEvt_kept; refine Kept.upd ?_ rfl; apply State.rebase_kept; assumption
  refine Kept.ite ?_ ?_; refine Kept.upd ?_ rfl; apply State.steer_kept; assumption; apply State.planStart_kept
  apply State.ptmEvt_kept; refine Kept.upd ?_ rfl; apply State.steer_kept; assumption

theorem State.judgeGm_kept {z : State} (s : State) (far : Bool) (hz : Kept z s) : Kept z (State.judgeGm s far) := by
  unfold State.judgeGm
  split; assumption; dsimp only; refine Kept.ite ?_ ?_; refine Kept.upd ?_ rfl; assumption; refine Kept.ite ?_ ?_
  apply State.ptmEvt_kept; refine Kept.upd ?_ rfl; assumption; refine Kept.ite ?_ ?_; apply State.loseRef_kept
  refine Kept.upd ?_ rfl; assumption; refine Kept.upd ?_ rfl; assumption

theorem State.trackSync_kept {z : State} (s : State) (off : Int) (hz : Kept z s) : Kept z (State.trackSync s off) := by
  unfold State.trackSync
  dsimp only; refine Kept.ite ?_ ?_; apply State.regainRef_kept; refine Kept.ite ?_ ?_; apply State.loseRef_kept
  apply State.ptmEvt_kept; apply State.judgeGm_kept; refine Kept.ite ?_ ?_; refine Kept.upd ?_ rfl; assumption
  apply State.steer_kept; refine Kept.upd ?_ rfl; assumption; apply State.judgeGm_kept; refine Kept.ite ?_ ?_
  refine Kept.upd ?_ rfl; assumption; apply State.steer_kept; refine Kept.upd ?_ rfl; assumption; refine Kept.ite ?_ ?_
  apply State.loseRef_kept; apply State.ptmEvt_kept; apply State.judgeGm_kept; refine Kept.ite ?_ ?_; refine Kept.upd ?_ rfl
  assumption; apply State.steer_kept; refine Kept.upd ?_ rfl; assumption; apply State.judgeGm_kept; refine Kept.ite ?_ ?_
  refine Kept.upd ?_ rfl; assumption; apply State.steer_kept; refine Kept.upd ?_ rfl; assumption

theorem State.sync_kept {z : State} (s : State) (port source : Nat) (t1 t2 : Int) (hz : Kept z s) : Kept z (State.sync s port source t1 t2) := by
  unfold State.sync
  split; assumption; dsimp only; refine Kept.ite ?_ ?_; apply State.portDiff_kept; apply State.onPtp_kept
  refine Kept.upd ?_ rfl; assumption; refine Kept.ite ?_ ?_; apply State.acquireSync_kept; refine Kept.upd ?_ rfl
  apply State.portDiff_kept; apply State.onPtp_kept; refine Kept.upd ?_ rfl; assumption; refine Kept.ite ?_ ?_
  apply State.trackSync_kept; refine Kept.upd ?_ rfl; apply State.portDiff_kept; apply State.onPtp_kept
  refine Kept.upd ?_ rfl; assumption; refine Kept.upd ?_ rfl; apply State.portDiff_kept; apply State.onPtp_kept
  refine Kept.upd ?_ rfl; assumption

theorem twinConfigRun_kept (i : CmdIn) (s : State) : Verdict.Kept s (twinConfigRun i s) := by
  unfold twinConfigRun
  dsimp only; refine Verdict.kite ?_ ?_; exact trivial; refine Verdict.kite ?_ ?_; exact trivial; apply Verdict.ok_kept
  refine Kept.upd ?_ rfl; exact Kept.refl _

theorem twinConfigCmd_kept : twinConfigCmd.Kept := by
  intro i s
  exact twinConfigRun_kept i s

theorem State.rejoin_kept {z : State} (s : State) (hz : Kept z s) : Kept z (State.rejoin s) := by
  unfold State.rejoin
  refine Kept.upd ?_ rfl; assumption

theorem twinJoinRun_kept (_i : CmdIn) (s : State) : Verdict.Kept s (twinJoinRun _i s) := by
  unfold twinJoinRun
  refine Verdict.kite ?_ ?_; exact trivial; refine Verdict.kite ?_ ?_; exact trivial; dsimp only; apply Verdict.ok_kept
  refine Kept.ite ?_ ?_; apply State.rejoin_kept; refine Kept.upd ?_ rfl; exact Kept.refl _; apply State.planStart_kept
  refine Kept.upd ?_ rfl; exact Kept.refl _

theorem twinJoinCmd_kept : twinJoinCmd.Kept := by
  intro i s
  exact twinJoinRun_kept i s

theorem twinQueryCmd_kept : twinQueryCmd.Kept := by
  intro i s
  unfold twinQueryCmd
  dsimp only
  apply Verdict.kdone; exact Kept.refl _

theorem State.takeCmd_kept {z : State} (s : State) (c : Cmd) (i : CmdIn) (n : Nat) (hc : c.Kept) (hz : Kept z s) :
    Kept z (s.takeCmd c i n) := by
  unfold State.takeCmd
  refine Kept.ite (State.schedule_kept _ _ _ hz) (Kept.ite (State.flowPend_kept _ _ _ _ hz) ?_)
  have hv := hc i s
  generalize c.run i s = v at hv
  cases v with
  | refuse st pl => exact hz
  | done t pl n => exact hz.trans hv
  | defer t n => exact hz.trans hv
  | fail t st pl => exact hz.trans hv
  | held t => exact hz.trans hv

theorem mirroredCmd_kept {op : Nat} {c : Cmd} (h : mirroredCmd op = some c) : c.Kept := by
  have hm : c ∈ mirroredCmds := List.mem_of_find?_eq_some h
  simp only [mirroredCmds, List.cons_append, List.nil_append, List.mem_cons, List.not_mem_nil, or_false] at hm
  rcases hm with rfl | rfl | rfl | rfl | rfl | rfl | rfl | rfl | rfl | rfl | rfl | rfl | rfl | rfl | rfl | rfl | rfl | rfl | rfl | rfl | rfl | rfl | rfl | rfl | rfl | rfl | rfl | rfl | rfl | rfl
  · exact pauseCmd_kept
  · exact resumeCmd_kept
  · exact objBindCmd_kept
  · exact objSourceCmd_kept
  · exact objMoveCmd_kept
  · exact objGainCmd_kept
  · exact objSpreadCmd_kept
  · exact objZonesCmd_kept
  · exact objLayoutsCmd_kept
  · exact objAttenCmd_kept
  · exact bedGainCmd_kept
  · exact bedBindCmd_kept
  · exact metaPolicyCmd_kept
  · exact soundSpeedCmd_kept
  · exact routeGainCmd_kept
  · exact routeWriteCmd_kept
  · exact routeCommitCmd_kept
  · exact corWriteCmd_kept
  · exact corHingeCmd_kept
  · exact corGainCmd_kept
  · exact calCaptureCmd_kept
  · exact calEnrollCmd_kept
  · exact calPolicyCmd_kept
  · exact calStartCmd_kept
  · exact calStopCmd_kept
  · exact sweepStartCmd_kept
  · exact sweepStopCmd_kept
  · exact calBaselineCmd_kept
  · exact calVetoCmd_kept
  · exact flowInSetCmd_kept

theorem State.mirrorCmd_kept {z : State} (s : State) (n op : Nat) (body : Bytes) (hz : Kept z s) : Kept z (s.mirrorCmd n op body) := by
  unfold State.mirrorCmd
  split
  · exact hz
  · exact State.sendFreed_kept _ (State.takeCmd_kept _ _ _ _ (mirroredCmd_kept (by assumption)) (Kept.upd hz rfl))

theorem State.mirrorSadm_kept {z : State} (s : State) (n : Nat) (x : SadmSet) (hz : Kept z s) : Kept z (State.mirrorSadm s n x) := by
  unfold State.mirrorSadm
  dsimp only; apply State.relayFrame_kept; refine Kept.upd ?_ rfl; refine Kept.fold ?_ (fun _ _ _ => ?_); assumption
  refine Kept.ite ?_ ?_; apply State.pendBed_kept; assumption; apply State.setObj_kept; apply State.pendObjAt_kept; assumption

theorem State.applyMirror_kept {z : State} (s : State) (m : Mirror) (hz : Kept z s) : Kept z (State.applyMirror s m) := by
  unfold State.applyMirror
  split; apply State.mirrorCmd_kept; assumption; apply State.mirrorSadm_kept; assumption; apply State.adopt_kept; assumption
  apply State.setSuspect_kept; assumption; refine Kept.upd ?_ rfl; assumption; refine Kept.upd ?_ rfl; assumption; assumption
  assumption

theorem State.drainMirror_kept {z : State} (n : Nat) (s : State) (hz : Kept z s) : Kept z (State.drainMirror n s) := by
  induction n generalizing s with
  | zero => exact hz
  | succ n ih =>
    unfold State.drainMirror
    split
    · exact hz
    · exact ih _ (State.applyMirror_kept _ _ (Kept.upd hz rfl))

theorem State.drain_kept {z : State} (s : State) (hz : Kept z s) : Kept z (State.drain s) := by
  unfold State.drain
  refine Kept.ite ?_ ?_; assumption; apply State.drainMirror_kept; assumption

theorem State.takeMirror_kept {z : State} (s : State) (m : Mirror) (hz : Kept z s) : Kept z (State.takeMirror s m) := by
  unfold State.takeMirror
  split; refine Kept.ite ?_ ?_; assumption; refine Kept.upd ?_ rfl; assumption; refine Kept.ite ?_ ?_; assumption
  refine Kept.upd ?_ rfl; assumption; refine Kept.ite ?_ ?_; assumption; apply State.drain_kept; refine Kept.upd ?_ rfl
  assumption

theorem State.settleRelay_kept {z : State} (s : State) (r : Relay) (hz : Kept z s) : Kept z (s.settleRelay r) := by
  unfold State.settleRelay
  split
  · split
    · exact runCmd_kept _ _ _ (mirroredCmd_kept (by assumption)) hz
    · exact hz
  · exact Kept.ite (Kept.upd hz rfl) (State.answer_kept _ _ _ _ _ _ hz)

theorem State.drainAll_kept {z : State} (s : State) (hz : Kept z s) : Kept z (State.drainAll s) := by
  unfold State.drainAll
  dsimp only; refine Kept.fold ?_ (fun _ _ _ => ?_); apply State.drain_kept; assumption; apply State.applyMirror_kept
  assumption

theorem State.takeOver_kept {z : State} (s : State) (hz : Kept z s) : Kept z (State.takeOver s) := by
  unfold State.takeOver
  dsimp only; apply State.refChange_kept; refine Kept.fold ?_ (fun _ _ _ => ?_); refine Kept.fold ?_ (fun _ _ _ => ?_)
  apply State.endChecks_kept; apply State.twnEvt_kept; refine Kept.upd ?_ rfl; apply State.drainAll_kept; assumption
  apply State.acceptFrame_kept; assumption; apply State.settleRelay_kept; assumption

theorem State.snapFlows_kept {z : State} (s : State) (x : Snapshot) (hz : Kept z s) : Kept z (State.snapFlows s x) := by
  unfold State.snapFlows
  dsimp only; apply State.leaveUnneeded_kept; refine Kept.fold ?_ (fun _ _ _ => ?_); refine Kept.upd ?_ rfl
  refine Kept.fold ?_ (fun _ _ _ => ?_); assumption; refine Kept.ite ?_ ?_; assumption; apply State.setFlowIn_kept; assumption
  apply State.joinGroup_kept; assumption

/-- A joiner that renders loads a well-formed snapshot. -/
theorem State.loadSnap_kept {z : State} (s : State) (x : Snapshot) (j : JoinSt) (hr : z.rendering = true)
    (hx : Sys2Proof.Machine.Snapshot.wf x = true) (hz : Kept z s) : Kept z (s.loadSnap x j) := by
  unfold State.loadSnap
  dsimp only
  apply State.drain_kept
  refine Kept.mem (State.setMode_kept' _ _ hr (State.snapFlows_kept _ _ (State.stopEngines_kept _
    (Kept.fold hz fun _ _ h => State.ingest_kept _ _ h)))) rfl rfl fun h => ?_
  rw [storesOk_iff] at *
  simp only [Snapshot.wf, List.all_cons, List.all_nil, Bool.and_true, Bool.and_eq_true] at hx
  exact ⟨h.1, h.2.1, h.2.2.1, hx.2.2.2.2, hx.1, hx.2.1, hx.2.2.1⟩

theorem State.twinReceive_kept {z : State} (s : State) (path : TwinPath) (f : State → State) (h_f : ∀ t, Kept z t → Kept z (f t)) (hz : Kept z s) : Kept z (State.twinReceive s path f) := by
  unfold State.twinReceive
  apply State.receive_kept; intro _; intro _; apply h_f; assumption; assumption

theorem State.unlessSeen_kept {z : State} (s : State) (ty seq : Nat) (f : State → State) (h_f : ∀ t, Kept z t → Kept z (f t)) (hz : Kept z s) : Kept z (State.unlessSeen s ty seq f) := by
  unfold State.unlessSeen
  refine Kept.ite ?_ ?_; assumption; apply h_f; refine Kept.upd ?_ rfl; assumption

theorem State.setPath_kept {z : State} (s : State) (p : TwinPath) (up : Bool) (hz : Kept z s) : Kept z (State.setPath s p up) := by
  unfold State.setPath
  dsimp only; refine Kept.upd ?_ rfl; assumption

theorem State.missOne_kept {z : State} (s : State) (p : TwinPath) (hz : Kept z s) : Kept z (State.missOne s p) := by
  unfold State.missOne
  dsimp only; refine Kept.upd ?_ rfl; assumption

theorem State.partLock_kept {z : State} (s : State) (hz : Kept z s) : Kept z (State.partLock s) := by
  unfold State.partLock
  refine Kept.ite ?_ ?_; assumption; refine Kept.ite ?_ ?_; apply State.refChange_kept; apply State.endChecks_kept
  refine Kept.upd ?_ rfl; assumption; refine Kept.upd ?_ rfl; assumption

theorem State.peerYields_kept {z : State} (s : State) (m : Tumbler) (hz : Kept z s) : Kept z (State.peerYields s m) := by
  unfold State.peerYields
  refine Kept.ite ?_ ?_; assumption; dsimp only; apply State.joinFail_kept; apply State.partLock_kept; refine Kept.ite ?_ ?_
  apply State.twnEvt_kept; apply State.twnEvt_kept; assumption; apply State.twnEvt_kept; assumption

theorem State.peerReturns_kept {z : State} (s : State) (m : Tumbler) (hz : Kept z s) : Kept z (State.peerReturns s m) := by
  unfold State.peerReturns
  refine Kept.ite ?_ ?_; refine Kept.upd ?_ rfl; assumption; refine Kept.ite ?_ ?_; apply State.diverged_kept; assumption
  assumption

theorem State.startJoin_kept {z : State} (s : State) (m : Tumbler) (hz : Kept z s) : Kept z (State.startJoin s m) := by
  unfold State.startJoin
  refine Kept.ite ?_ ?_; assumption; dsimp only; apply State.mirrorOut_kept; refine Kept.upd ?_ rfl; assumption

theorem State.peerChecks_kept {z : State} (s : State) (m : Tumbler) (hz : Kept z s) : Kept z (State.peerChecks s m) := by
  unfold State.peerChecks
  dsimp only; refine Kept.ite ?_ ?_; refine Kept.ite ?_ ?_; apply State.twnEvt_kept; assumption; assumption
  apply State.twnEvt_kept; refine Kept.ite ?_ ?_; apply State.twnEvt_kept; assumption; assumption

theorem State.endRelays_kept {z : State} (s : State) (hz : Kept z s) : Kept z (State.endRelays s) := by
  unfold State.endRelays
  refine Kept.ite ?_ ?_; assumption; refine Kept.fold ?_ (fun _ _ _ => ?_); refine Kept.upd ?_ rfl; assumption
  refine Kept.ite ?_ ?_; apply State.settleRelay_kept; assumption; apply State.answer_kept; apply State.countRefusal_kept
  assumption

theorem State.losePeer_kept {z : State} (s : State) (hz : Kept z s) : Kept z (State.losePeer s) := by
  unfold State.losePeer
  apply State.endRelays_kept; apply State.joinFail_kept; apply State.partLock_kept; apply State.twnEvt_kept
  refine Kept.upd ?_ rfl; assumption

theorem State.losePath_kept {z : State} (s : State) (p : TwinPath) (hz : Kept z s) : Kept z (State.losePath s p) := by
  unfold State.losePath
  dsimp only; refine Kept.ite ?_ ?_; refine Kept.ite ?_ ?_; apply State.joinFail_kept; apply State.twnEvt_kept
  apply State.setPath_kept; assumption; apply State.twnEvt_kept; apply State.setPath_kept; assumption
  apply State.losePeer_kept; refine Kept.ite ?_ ?_; apply State.joinFail_kept; apply State.twnEvt_kept
  apply State.setPath_kept; assumption; apply State.twnEvt_kept; apply State.setPath_kept; assumption

theorem State.resend_kept {z : State} (s : State) (e : Nat × Mirror) (hz : Kept z s) : Kept z (State.resend s e) := by
  unfold State.resend
  refine Kept.fold ?_ (fun _ _ _ => ?_); refine Kept.upd ?_ rfl; assumption; refine Kept.ite ?_ ?_; apply State.postOn_kept
  assumption; assumption

theorem State.relayed_kept {z : State} (s : State) (rseq op : Nat) (body : Bytes) (fl when : Nat) (hz : Kept z s) :
    Kept z (s.relayed rseq op body fl when) := by
  unfold State.relayed
  refine Kept.ite (State.sendTwin_kept _ _ _ hz) ?_
  dsimp only
  split
  · exact State.answer_kept _ _ _ _ _ _ (State.countRefusal_kept _ hz)
  · exact runCmd_kept _ _ _ (mirroredCmd_kept (by assumption)) hz
  · exact hz

theorem State.relayAnswer_kept {z : State} (s : State) (rseq : Nat) (st : Status) (payload : Bytes) (deferred : Bool) (hz : Kept z s) : Kept z (State.relayAnswer s rseq st payload deferred) := by
  unfold State.relayAnswer
  split; assumption; dsimp only; apply State.answer_kept; refine Kept.ite ?_ ?_; refine Kept.upd ?_ rfl; assumption
  apply State.countRefusal_kept; refine Kept.upd ?_ rfl; assumption

theorem State.sendSnapshot_kept {z : State} (s : State) (x : Snapshot) (hz : Kept z s) : Kept z (State.sendSnapshot s x) := by
  unfold State.sendSnapshot
  split; apply State.postOn_kept; refine Kept.snd (by assumption) ?_; apply State.nextTwinSeq_kept; assumption

theorem State.judgeEdge_kept {z : State} (s : State) (sc : Scene) (e : Nat) (hz : Kept z s) : Kept z (State.judgeEdge s sc e) := by
  unfold State.judgeEdge
  dsimp only; refine Kept.ite ?_ ?_; apply State.ptmEvt_kept; refine Kept.upd ?_ rfl; assumption; refine Kept.upd ?_ rfl
  assumption

theorem State.fixPhase_kept {z : State} (s : State) (m : Nat) (hz : Kept z s) : Kept z (State.fixPhase s m) := by
  unfold State.fixPhase
  split; assumption; refine Kept.ite ?_ ?_; refine Kept.upd ?_ rfl; assumption; split; refine Kept.upd ?_ rfl; assumption
  apply State.ptmEvt_kept; refine Kept.upd ?_ rfl; assumption

theorem State.fixEps_kept {z : State} (s : State) (m : Nat) (hz : Kept z s) : Kept z (State.fixEps s m) := by
  unfold State.fixEps
  dsimp only; refine Kept.ite ?_ ?_; apply State.ptmEvt_kept; refine Kept.upd ?_ rfl; assumption; refine Kept.upd ?_ rfl
  assumption

theorem State.corEnds_kept {z : State} (s : State) (n : Nat) (hz : Kept z s) : Kept z (State.corEnds s n) := by
  unfold State.corEnds
  refine Kept.fold ?_ (fun _ _ _ => ?_); assumption; apply State.corEnd_kept; assumption

theorem State.routeEnds_kept {z : State} (s : State) (n : Nat) (hz : Kept z s) : Kept z (State.routeEnds s n) := by
  unfold State.routeEnds
  split; assumption; refine Kept.ite ?_ ?_; assumption; refine Kept.upd ?_ rfl; assumption

theorem State.runSched_kept {z : State} (s : State) (n : Nat) (e : Sched') (hz : Kept z s) : Kept z (s.runSched n e) := by
  unfold State.runSched
  refine Kept.ite (State.soundAt_kept _ _ _ hz) (Kept.ite (State.dacMapAt_kept _ _ _ hz) (Kept.ite ?_ (State.calAt_kept _ _ _ _ hz)))
  split
  · rename_i c hc
    have hv := mirroredCmd_kept hc { op := e.op, body := e.body, form := 0, when := 0, ref := e.ref, mirror := none } s
    split
    · rename_i h; rw [h] at hv; exact hz.trans hv
    · exact hz
  · exact hz

theorem State.runScheds_kept {z : State} (s : State) (n : Nat) (hz : Kept z s) : Kept z (State.runScheds s n) := by
  unfold State.runScheds
  dsimp only; refine Kept.fold ?_ (fun _ _ _ => ?_); refine Kept.upd ?_ rfl; assumption; apply State.runSched_kept; assumption

theorem State.runBlocks_kept {z : State} (s : State) (n : Nat) (hz : Kept z s) : Kept z (State.runBlocks s n) := by
  unfold State.runBlocks
  refine Kept.upd ?_ rfl; assumption

theorem State.routeStarts_kept {z : State} (s : State) (n : Nat) (hz : Kept z s) : Kept z (State.routeStarts s n) := by
  unfold State.routeStarts
  split; assumption; refine Kept.ite ?_ ?_; assumption; dsimp only; apply State.answer_kept; refine Kept.upd ?_ rfl
  apply State.loadProg_kept; assumption

theorem State.runGains_kept {z : State} (s : State) (n : Nat) (hz : Kept z s) : Kept z (State.runGains s n) := by
  unfold State.runGains
  dsimp only; refine Kept.fold ?_ (fun _ _ _ => ?_); refine Kept.fold ?_ (fun _ _ _ => ?_); refine Kept.upd ?_ rfl; assumption
  apply State.gainsAt_kept; assumption; apply State.feedGainsAt_kept; assumption

theorem State.flowStarts_kept {z : State} (s : State) (n : Nat) (p : FlowPend) (hz : Kept z s) : Kept z (State.flowStarts s n p) := by
  unfold State.flowStarts
  dsimp only; apply State.setFlowIn_kept; refine Kept.upd ?_ rfl; assumption

theorem State.runFlows_kept {z : State} (s : State) (n : Nat) (hz : Kept z s) : Kept z (State.runFlows s n) := by
  unfold State.runFlows
  refine Kept.fold ?_ (fun _ _ _ => ?_); assumption; apply State.flowStarts_kept; assumption

theorem State.corStarts_kept {z : State} (s : State) (n : Nat) (hz : Kept z s) : Kept z (State.corStarts s n) := by
  unfold State.corStarts
  refine Kept.fold ?_ (fun _ _ _ => ?_); assumption; refine Kept.ite ?_ ?_; apply State.corStart_kept; assumption; assumption

theorem State.pauseNow_kept {z : State} (s : State) (hr : z.rendering = true) (hz : Kept z s) : Kept z s.pauseNow := by
  unfold State.pauseNow
  exact Kept.ite hz (State.setMode_kept' _ _ hr (Kept.upd hz rfl))

theorem State.resumeNow_kept {z : State} (s : State) (hr : z.rendering = true) (hz : Kept z s) : Kept z s.resumeNow := by
  unfold State.resumeNow
  exact Kept.ite hz (State.setMode_kept' _ _ hr (Kept.upd hz rfl))

theorem State.runPause_kept {z : State} (s : State) (n : Nat) (hr : z.rendering = true) (hz : Kept z s) : Kept z (s.runPause n) := by
  unfold State.runPause
  split
  · exact hz
  · refine Kept.ite hz (State.answer_kept _ _ _ _ _ _ ?_)
    have hu {p} : Kept z { s with rnd := { s.rnd with pend := p } } := Kept.upd hz rfl
    exact Kept.ite hu (Kept.ite (State.resumeNow_kept _ hr hu) (State.pauseNow_kept _ hr hu))

theorem State.runLevel_kept {z : State} (s : State) (hz : Kept z s) : Kept z (State.runLevel s) := by
  unfold State.runLevel
  dsimp only; refine Kept.upd ?_ rfl; assumption

theorem State.lossNow_kept {z : State} (s : State) (hr : z.rendering = true) (hz : Kept z s) : Kept z s.lossNow := by
  unfold State.lossNow
  split
  · exact State.setMode_kept' _ _ hr (Kept.upd hz rfl)
  · exact State.setMode_kept' _ _ hr (Kept.upd hz rfl)
  · exact Kept.upd hz rfl
  · exact State.setMode_kept' _ _ hr (Kept.upd hz rfl)
  · exact hz

theorem State.regainNow_kept {z : State} (s : State) (hr : z.rendering = true) (hz : Kept z s) : Kept z s.regainNow := by
  unfold State.regainNow
  dsimp only
  split
  · exact State.setMode_kept' _ _ hr (Kept.upd hz rfl)
  · exact Kept.upd hz rfl
  · exact Kept.upd hz rfl
  · exact hz

theorem State.runRefs_kept {z : State} (s : State) (n : Nat) (hr : z.rendering = true) (hz : Kept z s) : Kept z (s.runRefs n) := by
  unfold State.runRefs
  exact Kept.fold (Kept.upd hz rfl) fun _ _ h => Kept.ite (State.lossNow_kept _ hr h) (State.regainNow_kept _ hr h)

theorem State.runJoin_kept {z : State} (s : State) (n : Nat) (hz : Kept z s) : Kept z (State.runJoin s n) := by
  unfold State.runJoin
  split; assumption; refine Kept.ite ?_ ?_; assumption; dsimp only; apply State.twnEvt_kept; refine Kept.upd ?_ rfl
  assumption

theorem State.runSnap_kept {z : State} (s : State) (n : Nat) (hz : Kept z s) : Kept z (State.runSnap s n) := by
  unfold State.runSnap
  split; assumption; refine Kept.ite ?_ ?_; assumption; refine Kept.upd ?_ rfl; assumption

theorem State.openBoundary_kept {z : State} (s : State) (n : Nat) (hz : Kept z s) : Kept z (State.openBoundary s n) := by
  unfold State.openBoundary
  dsimp only; refine Kept.upd ?_ rfl; assumption

theorem State.applyBoundary_kept {z : State} (s : State) (n : Nat) (hr : z.rendering = true) (hz : Kept z s) : Kept z (s.applyBoundary n) := by
  unfold State.applyBoundary
  refine State.openBoundary_kept _ _ (State.runSnap_kept _ _ (State.runRefs_kept _ _ hr (State.runPause_kept _ _ hr (Kept.upd
    (State.spanStart_kept _ _ (State.corStarts_kept _ _ (State.runFlows_kept _ _ (State.runGains_kept _ _ (State.routeStarts_kept _ _
      (State.runBases_kept _ _ (State.runScheds_kept _ _ (State.runBlocks_kept _ _ (State.runJoin_kept _ _ ?_))))))))) rfl))))
  have h := State.routeEnds_kept _ n (State.corEnds_kept _ n (State.runLevel_kept _ hz))
  exact Kept.ite (State.takeOver_kept _ h) h

theorem State.stopTick_kept {z : State} (s : State) (n : Nat) (hz : Kept z s) : Kept z (State.stopTick s n) := by
  unfold State.stopTick
  dsimp only; apply State.stopEngines_kept; apply State.clampDac_kept; refine Kept.upd ?_ rfl; assumption

theorem State.startEmpty_kept {z : State} (s : State) (hz : Kept z s) : Kept z (State.startEmpty s) := by
  unfold State.startEmpty
  refine Kept.upd ?_ rfl; assumption

theorem State.startDbolt_kept {z : State} (s : State) (n : Nat) (hz : Kept z s) : Kept z (s.startDbolt n) :=
  hz.trans ⟨rfl, fun _ => ⟨rfl, rfl⟩, id, id, .inl rfl⟩

theorem State.startTwin_kept {z : State} (s : State) (hz : Kept z s) : Kept z (State.startTwin s) := by
  unfold State.startTwin
  dsimp only; refine Kept.upd ?_ rfl; assumption

theorem State.startRender_kept {z : State} (s : State) (n : Nat) (hz : Kept z s) : Kept z (State.startRender s n) := by
  unfold State.startRender
  refine Kept.upd ?_ rfl; assumption

theorem State.startSeen_kept {z : State} (s : State) (n : Nat) (hz : Kept z s) : Kept z (State.startSeen s n) := by
  unfold State.startSeen
  refine Kept.upd ?_ rfl; assumption

theorem State.enterRender_kept {z : State} (s : State) (n : Nat) (hz : Kept z s) : Kept z (s.enterRender n) := by
  unfold State.enterRender
  refine State.openBoundary_kept _ _ (Kept.fold ?_ fun _ _ h => State.joinGroup_kept _ _ h)
  have h : Kept z (((s.fixPhase (16 * n)).fixEps (16 * n)).startRender n) :=
    State.startRender_kept _ _ (State.fixEps_kept _ _ (State.fixPhase_kept _ _ hz))
  have k (t : State) (m : Mode) (ht : Kept z t) : Kept z (((t.startDbolt n).startTwin.startSeen n).setMode m) := by
    have e := State.startSeen_kept _ n (State.startTwin_kept _ (State.startDbolt_kept t n ht))
    have l : ((t.startDbolt n).startTwin.startSeen n).dblt.locked = true := rfl
    refine e.trans ?_
    unfold State.setMode
    split
    · exact Kept.refl _
    · exact ⟨rfl, fun _ => ⟨l, rfl⟩, id, id, .inl l⟩
  apply k
  exact Kept.ite (State.startEmpty_kept _ h) (Kept.upd h rfl)

theorem dbltSets_kept {z : State} (l : List (Nat × Nat)) (s : State) (hl : s.dblt.locked = false)
    (hd : ∀ e ∈ l, dbltInRange e.1 e.2 = true) (hz : Kept z s) : Kept z (l.foldl (fun s e => s.dbltSet e.1 e.2) s) := by
  induction l generalizing s with
  | nil => exact hz
  | cons e l ih =>
    have he := hd e (List.mem_cons_self ..)
    exact ih (s.dbltSet e.1 e.2) hl (fun x hx => hd x (List.mem_cons_of_mem _ hx))
      (State.dbltSet_kept s e.1 e.2 hl he (dbltInRange_lt he) hz)

theorem dbltWriteRun_kept (i : CmdIn) (s : State) : Verdict.Kept s (dbltWriteRun i s) := by
  unfold dbltWriteRun
  split
  · exact trivial
  rename_i hm
  split
  · exact trivial
  dsimp only
  split
  · exact trivial
  split
  · exact trivial
  rename_i hr
  have hl : s.dblt.locked = false := by simp at hm; exact hm.2
  refine Verdict.ok_kept (dbltSets_kept _ s hl (fun e he => ?_) (Kept.refl s))
  simp only [List.any_eq_true, not_exists, not_and, Bool.not_eq_true'] at hr
  simpa using hr e he

theorem dbltWriteCmd_kept : dbltWriteCmd.Kept := by
  intro i s
  exact dbltWriteRun_kept i s

theorem dbltReadRun_kept (i : CmdIn) (s : State) : Verdict.Kept s (dbltReadRun i s) := by
  unfold dbltReadRun
  refine Verdict.kite ?_ ?_; exact trivial; dsimp only; refine Verdict.kite ?_ ?_; exact trivial; split; apply Verdict.kdone
  exact Kept.refl _; apply Verdict.kdone; exact Kept.refl _; apply Verdict.kfail; exact Kept.refl _

theorem dbltReadCmd_kept : dbltReadCmd.Kept := by
  intro i s
  exact dbltReadRun_kept i s

theorem State.trainTime_kept {z : State} (s : State) (hz : Kept z s) : Kept z (State.trainTime s) := by
  unfold State.trainTime
  refine Kept.ite ?_ ?_; split; refine Kept.upd ?_ rfl; refine Kept.snd (by assumption) ?_; apply State.freeBelow_kept
  assumption; assumption

theorem State.lineFails_kept {z : State} (s : State) (ch : Nat) (hz : Kept z s) : Kept z (State.lineFails s ch) := by
  unfold State.lineFails
  refine Kept.ite ?_ ?_; refine Kept.upd ?_ rfl; assumption; refine Kept.upd ?_ rfl; assumption

theorem State.zeroDelay_kept {z : State} (s : State) (a : Nat) (hz : Kept z s) : Kept z (State.zeroDelay s a) := by
  unfold State.zeroDelay
  dsimp only; refine Kept.upd ?_ rfl; assumption

theorem State.zeroShadow_kept {z : State} (s : State) (a : Nat) (hz : Kept z s) : Kept z (State.zeroShadow s a) := by
  unfold State.zeroShadow
  dsimp only; refine Kept.ite ?_ ?_; refine Kept.ite ?_ ?_; refine Kept.upd ?_ rfl; assumption; assumption
  refine Kept.upd ?_ rfl; assumption

theorem State.zeroLine_kept {z : State} (s : State) (a : Nat) (hz : Kept z s) : Kept z (State.zeroLine s a) := by
  unfold State.zeroLine
  refine Kept.ite ?_ ?_; apply State.zeroDelay_kept; assumption; refine Kept.ite ?_ ?_; apply State.zeroShadow_kept
  assumption; refine Kept.ite ?_ ?_; split; dsimp only; refine Kept.upd ?_ rfl; assumption; assumption; refine Kept.ite ?_ ?_
  refine Kept.upd ?_ rfl; assumption; assumption

theorem State.gapLine_kept {z : State} (s : State) (a : Nat) (hz : Kept z s) : Kept z (State.gapLine s a) := by
  unfold State.gapLine
  dsimp only; refine Kept.upd ?_ rfl; assumption

theorem State.lostOnce_kept {z : State} (s : State) (ch a : Nat) (hz : Kept z s) : Kept z (State.lostOnce s ch a) := by
  unfold State.lostOnce
  refine Kept.ite ?_ ?_; assumption; refine Kept.ite ?_ ?_; apply State.gapLine_kept; assumption; refine Kept.ite ?_ ?_
  refine Kept.upd ?_ rfl; assumption; refine Kept.ite ?_ ?_; dsimp only; refine Kept.upd ?_ rfl; assumption; assumption

theorem State.crcOnce_kept {z : State} (s : State) (hz : Kept z s) : Kept z (State.crcOnce s) := by
  unfold State.crcOnce
  refine Kept.upd ?_ rfl; assumption

theorem State.slvErr_kept {z : State} (s : State) (req : Option FabErr) (hz : Kept z s) : Kept z (State.slvErr s req) := by
  unfold State.slvErr
  split; apply State.fabErr_kept; assumption; assumption

theorem State.badLine_kept {z : State} (s : State) (bad : List LineFail) (e : LineFail) (hz : Kept z s) : Kept z (State.badLine s bad e) := by
  unfold State.badLine
  dsimp only; refine Kept.ite ?_ ?_; refine Kept.ite ?_ ?_; apply State.logFault_kept; apply State.crcOnce_kept
  apply State.lineFails_kept; assumption; refine Kept.ite ?_ ?_; apply State.slvErr_kept; apply State.zeroLine_kept
  apply State.selfFault_kept; apply State.logFault_kept; refine Kept.upd ?_ rfl; apply State.lineFails_kept; assumption
  apply State.lineFails_kept; assumption; refine Kept.ite ?_ ?_; apply State.logFault_kept; refine Kept.upd ?_ rfl
  apply State.crcOnce_kept; apply State.lineFails_kept; assumption; apply State.slvErr_kept; apply State.lostOnce_kept
  apply State.logFault_kept; apply State.crcOnce_kept; apply State.lineFails_kept; assumption

theorem State.dbltEvt_kept {z : State} (s : State) (i : Nat) (hz : Kept z s) : Kept z (State.dbltEvt s i) := by
  unfold State.dbltEvt
  refine Kept.upd ?_ rfl; assumption

theorem State.setDbFeed_kept {z : State} (s : State) (f : Nat) (c : DbFeed) (hz : Kept z s) : Kept z (State.setDbFeed s f c) := by
  unfold State.setDbFeed
  refine Kept.upd ?_ rfl; assumption

theorem State.fadeOne_kept {z : State} (s : State) (x : Int) (hz : Kept z s) : Kept z (State.fadeOne s x).2 := by
  unfold State.fadeOne
  apply State.freeRange_kept; assumption

theorem State.fadeAll_kept {z : State} (s : State) (xs : List Int) (hz : Kept z s) : Kept z (State.fadeAll s xs).2 := by
  unfold State.fadeAll
  refine Kept.fold2 ?_ (fun _ _ _ => ?_); dsimp only; assumption; split; dsimp only; refine Kept.snd (by assumption) ?_
  apply State.fadeOne_kept; assumption

theorem State.ceilFeed_kept {z : State} (s : State) (f : Nat) (xs : List Int) (hz : Kept z s) : Kept z (State.ceilFeed s f xs).2 := by
  unfold State.ceilFeed
  dsimp only; refine Kept.ite ?_ ?_; assumption; apply State.dbltEvt_kept; refine Kept.upd ?_ rfl; assumption

theorem State.probeActs_kept {z : State} (s : State) (f n : Nat) (hz : Kept z s) : Kept z (State.probeActs s f n) := by
  unfold State.probeActs
  refine Kept.ite ?_ ?_; assumption; dsimp only; split; apply State.dbltEvt_kept; refine Kept.upd ?_ rfl; assumption
  apply State.setCalFeed_kept; apply State.dbltEvt_kept; refine Kept.upd ?_ rfl; assumption

theorem State.passFeed_kept {z : State} (s : State) (f : Nat) (b : CushBlk) (hz : Kept z s) : Kept z (State.passFeed s f b) := by
  unfold State.passFeed
  dsimp only; apply State.setDbFeed_kept; split; apply State.fadeAll_kept; apply State.ceilFeed_kept; refine Kept.ite ?_ ?_
  apply State.dbltEvt_kept; refine Kept.upd ?_ rfl; apply State.probeActs_kept; assumption; apply State.probeActs_kept
  assumption; dsimp only; apply State.ceilFeed_kept; refine Kept.ite ?_ ?_; apply State.dbltEvt_kept; refine Kept.upd ?_ rfl
  apply State.probeActs_kept; assumption; apply State.probeActs_kept; assumption

theorem State.underrun_kept {z : State} (s : State) (f : Nat) (hz : Kept z s) : Kept z (State.underrun s f) := by
  unfold State.underrun
  dsimp only; apply State.selfFault_kept; apply State.logFault_kept; refine Kept.upd ?_ rfl; assumption

theorem State.missFeed_kept {z : State} (s : State) (f : Nat) (hz : Kept z s) : Kept z (State.missFeed s f) := by
  unfold State.missFeed
  dsimp only; refine Kept.ite ?_ ?_; apply State.setDbFeed_kept; assumption; apply State.setDbFeed_kept
  apply State.ceilFeed_kept; apply State.fadeAll_kept; apply State.underrun_kept; assumption

theorem State.readFeed_kept {z : State} (s : State) (f n : Nat) (hz : Kept z s) : Kept z (State.readFeed s f n) := by
  unfold State.readFeed
  dsimp only; refine Kept.upd ?_ rfl; refine Kept.ite ?_ ?_; apply State.setDbFeed_kept; split; apply State.missFeed_kept
  assumption; refine Kept.ite ?_ ?_; assumption; apply State.passFeed_kept; assumption; split; apply State.missFeed_kept
  assumption; refine Kept.ite ?_ ?_; assumption; apply State.passFeed_kept; assumption

theorem State.dcJudge_kept {z : State} (s : State) (hz : Kept z s) : Kept z (State.dcJudge s) := by
  unfold State.dcJudge
  dsimp only; refine Kept.ite ?_ ?_; assumption; refine Kept.fold ?_ (fun _ _ _ => ?_); refine Kept.upd ?_ rfl; assumption
  refine Kept.ite ?_ ?_; apply State.dbltEvt_kept; refine Kept.upd ?_ rfl; apply State.setDbFeed_kept; assumption
  apply State.setDbFeed_kept; assumption

theorem State.dacOut_kept {z : State} (s : State) (n : Nat) (hz : Kept z s) : Kept z (State.dacOut s n) := by
  unfold State.dacOut
  refine Kept.ite ?_ ?_; assumption; dsimp only; refine Kept.upd ?_ rfl; refine Kept.fold ?_ (fun _ _ _ => ?_); assumption
  apply State.emit_kept; assumption

theorem State.freeFade_kept {z : State} (s : State) (x : Int) (hz : Kept z s) : Kept z (State.freeFade s x).2 := by
  unfold State.freeFade
  apply State.freeRange_kept; assumption

theorem State.yieldOut_kept {z : State} (s : State) (hz : Kept z s) : Kept z (State.yieldOut s) := by
  unfold State.yieldOut
  refine Kept.ite ?_ ?_; assumption; dsimp only; refine Kept.upd ?_ rfl; refine Kept.fold ?_ (fun _ _ _ => ?_); assumption
  apply State.emit_kept; refine Kept.fold2 ?_ (fun _ _ _ => ?_); dsimp only; assumption; dsimp only; apply State.freeFade_kept
  assumption

theorem State.snapFeeds_kept {z : State} (s : State) (hz : Kept z s) : Kept z (State.snapFeeds s) := by
  unfold State.snapFeeds
  split; refine Kept.ite ?_ ?_; refine Kept.upd ?_ rfl; assumption; assumption; assumption

theorem State.readBlock_kept {z : State} (s : State) (hz : Kept z s) : Kept z (State.readBlock s) := by
  unfold State.readBlock
  dsimp only; refine Kept.upd ?_ rfl; apply State.dacOut_kept; refine Kept.fold ?_ (fun _ _ _ => ?_)
  apply State.snapFeeds_kept; apply State.dcJudge_kept; assumption; apply State.readFeed_kept; assumption

theorem ptpConfigRun_kept (i : CmdIn) (s : State) : Verdict.Kept s (ptpConfigRun i s) := by
  unfold ptpConfigRun
  dsimp only; refine Verdict.kite ?_ ?_; exact trivial; refine Verdict.kite ?_ ?_; exact trivial; apply Verdict.ok_kept
  refine Kept.upd ?_ rfl; exact Kept.refl _

theorem ptpConfigCmd_kept : ptpConfigCmd.Kept := by
  intro i s
  exact ptpConfigRun_kept i s

theorem sceneTimeRun_kept (i : CmdIn) (s : State) : Verdict.Kept s (sceneTimeRun i s) := by
  unfold sceneTimeRun
  dsimp only; refine Verdict.kite ?_ ?_; exact trivial; refine Verdict.kite ?_ ?_; exact trivial; apply Verdict.ok_kept
  refine Kept.upd ?_ rfl; exact Kept.refl _

theorem sceneTimeCmd_kept : sceneTimeCmd.Kept := by
  intro i s
  exact sceneTimeRun_kept i s

theorem timeQueryCmd_kept : timeQueryCmd.Kept := by
  intro i s
  unfold timeQueryCmd
  dsimp only
  apply Verdict.kdone; exact Kept.refl _

theorem timeConvertRun_kept (i : CmdIn) (s : State) : Verdict.Kept s (timeConvertRun i s) := by
  unfold timeConvertRun
  dsimp only; refine Verdict.kite ?_ ?_; exact trivial; split; exact trivial; apply Verdict.kdone; exact Kept.refl _

theorem timeConvertCmd_kept : timeConvertCmd.Kept := by
  intro i s
  exact timeConvertRun_kept i s

/-- Every command of the keyway keeps the queue and the deadbolt. -/
theorem allCmds_kept {c : Cmd} (h : c ∈ allCmds) : c.Kept := by
  simp only [allCmds, List.cons_append, List.nil_append, List.mem_cons, List.not_mem_nil, or_false] at h
  rcases h with rfl | rfl | rfl | rfl | rfl | rfl | rfl | rfl | rfl | rfl | rfl | rfl | rfl | rfl | rfl | rfl | rfl | rfl | rfl | rfl | rfl | rfl | rfl | rfl | rfl | rfl | rfl | rfl | rfl | rfl | rfl | rfl | rfl | rfl | rfl | rfl | rfl | rfl | rfl | rfl | rfl | rfl | rfl | rfl | rfl | rfl | rfl | rfl | rfl | rfl | rfl | rfl | rfl | rfl | rfl | rfl | rfl | rfl | rfl | rfl | rfl | rfl | rfl | rfl | rfl | rfl | rfl | rfl | rfl | rfl | rfl | rfl | rfl | rfl | rfl | rfl | rfl | rfl | rfl | rfl | rfl
  · exact imgBeginCmd_kept
  · exact imgDataCmd_kept
  · exact imgEndCmd_kept
  · exact imgStatusCmd_kept
  · exact calCaptureCmd_kept
  · exact calEnrollCmd_kept
  · exact calPolicyCmd_kept
  · exact calStartCmd_kept
  · exact calStopCmd_kept
  · exact sweepStartCmd_kept
  · exact sweepStopCmd_kept
  · exact calBaselineCmd_kept
  · exact calVetoCmd_kept
  · exact calReportCmd_kept
  · exact calQueryCmd_kept
  · exact corWriteCmd_kept
  · exact corHingeCmd_kept
  · exact corGainCmd_kept
  · exact corLongCmd_kept
  · exact corFoldCmd_kept
  · exact corQueryCmd_kept
  · exact dacConfigCmd_kept
  · exact dacMapCmd_kept
  · exact dacSpanCmd_kept
  · exact dacQueryCmd_kept
  · exact dbltWriteCmd_kept
  · exact dbltReadCmd_kept
  · exact layoutWriteCmd_kept
  · exact layoutLoadCmd_kept
  · exact layoutQueryCmd_kept
  · exact soundSpeedCmd_kept
  · exact pairQueryCmd_kept
  · exact stageCommitCmd_kept
  · exact stageReturnCmd_kept
  · exact netAddrCmd_kept
  · exact vlanSetCmd_kept
  · exact flowInSetCmd_kept
  · exact flowOutSetCmd_kept
  · exact flowQueryCmd_kept
  · exact objBindCmd_kept
  · exact objSourceCmd_kept
  · exact objMoveCmd_kept
  · exact objGainCmd_kept
  · exact objSpreadCmd_kept
  · exact objZonesCmd_kept
  · exact objLayoutsCmd_kept
  · exact objAttenCmd_kept
  · exact bedGainCmd_kept
  · exact bedBindCmd_kept
  · exact sceneXformCmd_kept
  · exact metaPolicyCmd_kept
  · exact objQueryCmd_kept
  · exact pwrQueryCmd_kept
  · exact clkQueryCmd_kept
  · exact feedExerciseCmd_kept
  · exact pwrSleepCmd_kept
  · exact pwrDeepCmd_kept
  · exact pwrWakeCmd_kept
  · exact renderConfigCmd_kept
  · exact pauseCmd_kept
  · exact resumeCmd_kept
  · exact routeModeCmd_kept
  · exact xpMapCmd_kept
  · exact routeGainCmd_kept
  · exact routeWriteCmd_kept
  · exact routeCommitCmd_kept
  · exact bedAlignCmd_kept
  · exact latQueryCmd_kept
  · exact sysInfoCmd_kept
  · exact sysResetCmd_kept
  · exact nopCmd_kept
  · exact logReadCmd_kept
  · exact regReadCmd_kept
  · exact regWriteCmd_kept
  · exact ptpConfigCmd_kept
  · exact sceneTimeCmd_kept
  · exact timeQueryCmd_kept
  · exact timeConvertCmd_kept
  · exact twinConfigCmd_kept
  · exact twinJoinCmd_kept
  · exact twinQueryCmd_kept

theorem State.takeLater_kept {z : State} (n : Nat) (s : State) (hz : Kept z s) : Kept z (State.takeLater n s) := by
  induction n generalizing s with
  | zero => exact hz
  | succ n ih =>
    unfold State.takeLater
    split
    · dsimp only
      refine ih _ ?_
      split
      · exact mgmtTake_kept _ _ _ _ _ _ _ (fun k hk => allCmds_kept (List.mem_of_find?_eq_some hk)) (Kept.upd hz rfl)
      · exact Kept.upd hz rfl
    · exact hz

theorem State.settleGate_kept {z : State} (s : State) (g : Nat) (hz : Kept z s) : Kept z (State.settleGate s g) := by
  unfold State.settleGate
  apply State.takeLater_kept; apply State.releaseHeld_kept; assumption

end Sys2Proof.Machine
end

