-- ==== Sys2Proof/Laws/State.lean ====
section
/-! SUPPORT. What the updates of the state leave alone, one lemma an update: every field but the ones it writes. -/

namespace Sys2Proof.Machine

@[simp] theorem State.at_frame (s : State) (t : Nat) :
    (s.at t).pending = s.pending ∧ (s.at t).tick = s.tick ∧ (s.at t).sys = s.sys ∧ (s.at t).key = s.key ∧ (s.at t).boot = s.boot ∧
    (s.at t).pwr = s.pwr ∧ (s.at t).clk = s.clk ∧ (s.at t).ptm = s.ptm ∧ (s.at t).macA = s.macA ∧ (s.at t).macB = s.macB ∧
    (s.at t).macM = s.macM ∧ (s.at t).hasp = s.hasp ∧ (s.at t).net = s.net ∧ (s.at t).obj = s.obj ∧ (s.at t).pan = s.pan ∧
    (s.at t).rte = s.rte ∧ (s.at t).rnd = s.rnd ∧ (s.at t).cor = s.cor ∧ (s.at t).cal = s.cal ∧ (s.at t).tap = s.tap ∧ (s.at t).disp = s.disp ∧
    (s.at t).intg = s.intg ∧ (s.at t).dblt = s.dblt ∧ (s.at t).twn = s.twn ∧ (s.at t).dac = s.dac ∧ (s.at t).ddr = s.ddr ∧
    (s.at t).fab = s.fab ∧ (s.at t).sched = s.sched ∧ (s.at t).ord = s.ord ∧ (s.at t).out = s.out ∧ (s.at t).free = s.free := by
  repeat' constructor

@[simp] theorem State.emit_frame (s : State) (o : Out) :
    (s.emit o).pending = s.pending ∧ (s.emit o).now = s.now ∧ (s.emit o).tick = s.tick ∧ (s.emit o).sys = s.sys ∧ (s.emit o).key = s.key ∧
    (s.emit o).boot = s.boot ∧ (s.emit o).pwr = s.pwr ∧ (s.emit o).clk = s.clk ∧ (s.emit o).ptm = s.ptm ∧ (s.emit o).macA = s.macA ∧
    (s.emit o).macB = s.macB ∧ (s.emit o).macM = s.macM ∧ (s.emit o).hasp = s.hasp ∧ (s.emit o).net = s.net ∧ (s.emit o).obj = s.obj ∧
    (s.emit o).pan = s.pan ∧ (s.emit o).rte = s.rte ∧ (s.emit o).rnd = s.rnd ∧ (s.emit o).cor = s.cor ∧ (s.emit o).cal = s.cal ∧
    (s.emit o).tap = s.tap ∧ (s.emit o).disp = s.disp ∧ (s.emit o).intg = s.intg ∧ (s.emit o).dblt = s.dblt ∧ (s.emit o).twn = s.twn ∧
    (s.emit o).dac = s.dac ∧ (s.emit o).ddr = s.ddr ∧ (s.emit o).fab = s.fab ∧ (s.emit o).sched = s.sched ∧ (s.emit o).ord = s.ord ∧
    (s.emit o).free = s.free := by
  repeat' constructor

@[simp] theorem State.setObj_frame (s : State) (o : Nat) (c : ObjCtx) :
    (s.setObj o c).pending = s.pending ∧ (s.setObj o c).now = s.now ∧ (s.setObj o c).tick = s.tick ∧ (s.setObj o c).sys = s.sys ∧
    (s.setObj o c).key = s.key ∧ (s.setObj o c).boot = s.boot ∧ (s.setObj o c).pwr = s.pwr ∧ (s.setObj o c).clk = s.clk ∧
    (s.setObj o c).ptm = s.ptm ∧ (s.setObj o c).macA = s.macA ∧ (s.setObj o c).macB = s.macB ∧ (s.setObj o c).macM = s.macM ∧
    (s.setObj o c).hasp = s.hasp ∧ (s.setObj o c).net = s.net ∧ (s.setObj o c).pan = s.pan ∧ (s.setObj o c).rte = s.rte ∧
    (s.setObj o c).rnd = s.rnd ∧ (s.setObj o c).cor = s.cor ∧ (s.setObj o c).cal = s.cal ∧ (s.setObj o c).tap = s.tap ∧
    (s.setObj o c).disp = s.disp ∧ (s.setObj o c).intg = s.intg ∧ (s.setObj o c).dblt = s.dblt ∧ (s.setObj o c).twn = s.twn ∧
    (s.setObj o c).dac = s.dac ∧ (s.setObj o c).ddr = s.ddr ∧ (s.setObj o c).fab = s.fab ∧ (s.setObj o c).sched = s.sched ∧
    (s.setObj o c).ord = s.ord ∧ (s.setObj o c).out = s.out ∧ (s.setObj o c).free = s.free := by
  repeat' constructor

@[simp] theorem State.setBed_frame (s : State) (b : Nat) (c : BedCtx) :
    (s.setBed b c).pending = s.pending ∧ (s.setBed b c).now = s.now ∧ (s.setBed b c).tick = s.tick ∧ (s.setBed b c).sys = s.sys ∧
    (s.setBed b c).key = s.key ∧ (s.setBed b c).boot = s.boot ∧ (s.setBed b c).pwr = s.pwr ∧ (s.setBed b c).clk = s.clk ∧
    (s.setBed b c).ptm = s.ptm ∧ (s.setBed b c).macA = s.macA ∧ (s.setBed b c).macB = s.macB ∧ (s.setBed b c).macM = s.macM ∧
    (s.setBed b c).hasp = s.hasp ∧ (s.setBed b c).net = s.net ∧ (s.setBed b c).pan = s.pan ∧ (s.setBed b c).rte = s.rte ∧
    (s.setBed b c).rnd = s.rnd ∧ (s.setBed b c).cor = s.cor ∧ (s.setBed b c).cal = s.cal ∧ (s.setBed b c).tap = s.tap ∧
    (s.setBed b c).disp = s.disp ∧ (s.setBed b c).intg = s.intg ∧ (s.setBed b c).dblt = s.dblt ∧ (s.setBed b c).twn = s.twn ∧
    (s.setBed b c).dac = s.dac ∧ (s.setBed b c).ddr = s.ddr ∧ (s.setBed b c).fab = s.fab ∧ (s.setBed b c).sched = s.sched ∧
    (s.setBed b c).ord = s.ord ∧ (s.setBed b c).out = s.out ∧ (s.setBed b c).free = s.free := by
  repeat' constructor

@[simp] theorem State.onGate_frame (s : State) (g : Nat) (f : Gate → Gate) :
    (s.onGate g f).pending = s.pending ∧ (s.onGate g f).now = s.now ∧ (s.onGate g f).tick = s.tick ∧ (s.onGate g f).sys = s.sys ∧
    (s.onGate g f).key = s.key ∧ (s.onGate g f).boot = s.boot ∧ (s.onGate g f).pwr = s.pwr ∧ (s.onGate g f).ptm = s.ptm ∧
    (s.onGate g f).macA = s.macA ∧ (s.onGate g f).macB = s.macB ∧ (s.onGate g f).macM = s.macM ∧ (s.onGate g f).hasp = s.hasp ∧
    (s.onGate g f).net = s.net ∧ (s.onGate g f).obj = s.obj ∧ (s.onGate g f).pan = s.pan ∧ (s.onGate g f).rte = s.rte ∧
    (s.onGate g f).rnd = s.rnd ∧ (s.onGate g f).cor = s.cor ∧ (s.onGate g f).cal = s.cal ∧ (s.onGate g f).tap = s.tap ∧
    (s.onGate g f).disp = s.disp ∧ (s.onGate g f).intg = s.intg ∧ (s.onGate g f).dblt = s.dblt ∧ (s.onGate g f).twn = s.twn ∧
    (s.onGate g f).dac = s.dac ∧ (s.onGate g f).ddr = s.ddr ∧ (s.onGate g f).fab = s.fab ∧ (s.onGate g f).sched = s.sched ∧
    (s.onGate g f).ord = s.ord ∧ (s.onGate g f).out = s.out ∧ (s.onGate g f).free = s.free := by
  repeat' constructor

@[simp] theorem State.setDomain_frame (s : State) (d : Nat) (on : Bool) :
    (s.setDomain d on).pending = s.pending ∧ (s.setDomain d on).now = s.now ∧ (s.setDomain d on).tick = s.tick ∧
    (s.setDomain d on).sys = s.sys ∧ (s.setDomain d on).key = s.key ∧ (s.setDomain d on).boot = s.boot ∧ (s.setDomain d on).clk = s.clk ∧
    (s.setDomain d on).ptm = s.ptm ∧ (s.setDomain d on).macA = s.macA ∧ (s.setDomain d on).macB = s.macB ∧ (s.setDomain d on).macM = s.macM ∧
    (s.setDomain d on).hasp = s.hasp ∧ (s.setDomain d on).net = s.net ∧ (s.setDomain d on).obj = s.obj ∧ (s.setDomain d on).pan = s.pan ∧
    (s.setDomain d on).rte = s.rte ∧ (s.setDomain d on).rnd = s.rnd ∧ (s.setDomain d on).cor = s.cor ∧ (s.setDomain d on).cal = s.cal ∧
    (s.setDomain d on).tap = s.tap ∧ (s.setDomain d on).disp = s.disp ∧ (s.setDomain d on).intg = s.intg ∧ (s.setDomain d on).dblt = s.dblt ∧
    (s.setDomain d on).twn = s.twn ∧ (s.setDomain d on).dac = s.dac ∧ (s.setDomain d on).ddr = s.ddr ∧ (s.setDomain d on).fab = s.fab ∧
    (s.setDomain d on).sched = s.sched ∧ (s.setDomain d on).ord = s.ord ∧ (s.setDomain d on).out = s.out ∧ (s.setDomain d on).free = s.free := by
  repeat' constructor

@[simp] theorem State.setRun_frame (s : State) (g : Nat) (on : Bool) :
    (s.setRun g on).pending = s.pending ∧ (s.setRun g on).now = s.now ∧ (s.setRun g on).tick = s.tick ∧ (s.setRun g on).sys = s.sys ∧
    (s.setRun g on).key = s.key ∧ (s.setRun g on).boot = s.boot ∧ (s.setRun g on).pwr = s.pwr ∧ (s.setRun g on).ptm = s.ptm ∧
    (s.setRun g on).macA = s.macA ∧ (s.setRun g on).macB = s.macB ∧ (s.setRun g on).macM = s.macM ∧ (s.setRun g on).hasp = s.hasp ∧
    (s.setRun g on).net = s.net ∧ (s.setRun g on).obj = s.obj ∧ (s.setRun g on).pan = s.pan ∧ (s.setRun g on).rte = s.rte ∧
    (s.setRun g on).rnd = s.rnd ∧ (s.setRun g on).cor = s.cor ∧ (s.setRun g on).cal = s.cal ∧ (s.setRun g on).tap = s.tap ∧
    (s.setRun g on).disp = s.disp ∧ (s.setRun g on).intg = s.intg ∧ (s.setRun g on).dblt = s.dblt ∧ (s.setRun g on).twn = s.twn ∧
    (s.setRun g on).dac = s.dac ∧ (s.setRun g on).ddr = s.ddr ∧ (s.setRun g on).fab = s.fab ∧ (s.setRun g on).sched = s.sched ∧
    (s.setRun g on).ord = s.ord ∧ (s.setRun g on).out = s.out ∧ (s.setRun g on).free = s.free := by
  repeat' constructor

@[simp] theorem State.fabErr_frame (s : State) (e : FabErr) :
    (s.fabErr e).pending = s.pending ∧ (s.fabErr e).now = s.now ∧ (s.fabErr e).tick = s.tick ∧ (s.fabErr e).sys = s.sys ∧
    (s.fabErr e).key = s.key ∧ (s.fabErr e).boot = s.boot ∧ (s.fabErr e).pwr = s.pwr ∧ (s.fabErr e).clk = s.clk ∧ (s.fabErr e).ptm = s.ptm ∧
    (s.fabErr e).macA = s.macA ∧ (s.fabErr e).macB = s.macB ∧ (s.fabErr e).macM = s.macM ∧ (s.fabErr e).hasp = s.hasp ∧
    (s.fabErr e).net = s.net ∧ (s.fabErr e).obj = s.obj ∧ (s.fabErr e).pan = s.pan ∧ (s.fabErr e).rte = s.rte ∧ (s.fabErr e).rnd = s.rnd ∧
    (s.fabErr e).cor = s.cor ∧ (s.fabErr e).cal = s.cal ∧ (s.fabErr e).tap = s.tap ∧ (s.fabErr e).disp = s.disp ∧ (s.fabErr e).intg = s.intg ∧
    (s.fabErr e).dblt = s.dblt ∧ (s.fabErr e).twn = s.twn ∧ (s.fabErr e).dac = s.dac ∧ (s.fabErr e).ddr = s.ddr ∧ (s.fabErr e).sched = s.sched ∧
    (s.fabErr e).ord = s.ord ∧ (s.fabErr e).out = s.out ∧ (s.fabErr e).free = s.free := by
  repeat' constructor

@[simp] theorem State.objEvt_frame (s : State) (i : Nat) :
    (s.objEvt i).pending = s.pending ∧ (s.objEvt i).now = s.now ∧ (s.objEvt i).tick = s.tick ∧ (s.objEvt i).sys = s.sys ∧
    (s.objEvt i).key = s.key ∧ (s.objEvt i).boot = s.boot ∧ (s.objEvt i).pwr = s.pwr ∧ (s.objEvt i).clk = s.clk ∧ (s.objEvt i).ptm = s.ptm ∧
    (s.objEvt i).macA = s.macA ∧ (s.objEvt i).macB = s.macB ∧ (s.objEvt i).macM = s.macM ∧ (s.objEvt i).hasp = s.hasp ∧
    (s.objEvt i).net = s.net ∧ (s.objEvt i).pan = s.pan ∧ (s.objEvt i).rte = s.rte ∧ (s.objEvt i).rnd = s.rnd ∧ (s.objEvt i).cor = s.cor ∧
    (s.objEvt i).cal = s.cal ∧ (s.objEvt i).tap = s.tap ∧ (s.objEvt i).disp = s.disp ∧ (s.objEvt i).intg = s.intg ∧ (s.objEvt i).dblt = s.dblt ∧
    (s.objEvt i).twn = s.twn ∧ (s.objEvt i).dac = s.dac ∧ (s.objEvt i).ddr = s.ddr ∧ (s.objEvt i).fab = s.fab ∧ (s.objEvt i).sched = s.sched ∧
    (s.objEvt i).ord = s.ord ∧ (s.objEvt i).out = s.out ∧ (s.objEvt i).free = s.free := by
  repeat' constructor

@[simp] theorem State.intgEvt_frame (s : State) (i : Nat) :
    (s.intgEvt i).pending = s.pending ∧ (s.intgEvt i).now = s.now ∧ (s.intgEvt i).tick = s.tick ∧ (s.intgEvt i).sys = s.sys ∧
    (s.intgEvt i).key = s.key ∧ (s.intgEvt i).boot = s.boot ∧ (s.intgEvt i).pwr = s.pwr ∧ (s.intgEvt i).clk = s.clk ∧
    (s.intgEvt i).ptm = s.ptm ∧ (s.intgEvt i).macA = s.macA ∧ (s.intgEvt i).macB = s.macB ∧ (s.intgEvt i).macM = s.macM ∧
    (s.intgEvt i).hasp = s.hasp ∧ (s.intgEvt i).net = s.net ∧ (s.intgEvt i).obj = s.obj ∧ (s.intgEvt i).pan = s.pan ∧
    (s.intgEvt i).rte = s.rte ∧ (s.intgEvt i).rnd = s.rnd ∧ (s.intgEvt i).cor = s.cor ∧ (s.intgEvt i).cal = s.cal ∧ (s.intgEvt i).tap = s.tap ∧
    (s.intgEvt i).disp = s.disp ∧ (s.intgEvt i).dblt = s.dblt ∧ (s.intgEvt i).twn = s.twn ∧ (s.intgEvt i).dac = s.dac ∧
    (s.intgEvt i).ddr = s.ddr ∧ (s.intgEvt i).fab = s.fab ∧ (s.intgEvt i).sched = s.sched ∧ (s.intgEvt i).ord = s.ord ∧
    (s.intgEvt i).out = s.out ∧ (s.intgEvt i).free = s.free := by
  repeat' constructor

@[simp] theorem State.logFault_frame (s : State) (kind outcome source detail : Nat) :
    (s.logFault kind outcome source detail).pending = s.pending ∧ (s.logFault kind outcome source detail).now = s.now ∧
    (s.logFault kind outcome source detail).tick = s.tick ∧ (s.logFault kind outcome source detail).sys = s.sys ∧
    (s.logFault kind outcome source detail).key = s.key ∧ (s.logFault kind outcome source detail).boot = s.boot ∧
    (s.logFault kind outcome source detail).pwr = s.pwr ∧ (s.logFault kind outcome source detail).clk = s.clk ∧
    (s.logFault kind outcome source detail).ptm = s.ptm ∧ (s.logFault kind outcome source detail).macA = s.macA ∧
    (s.logFault kind outcome source detail).macB = s.macB ∧ (s.logFault kind outcome source detail).macM = s.macM ∧
    (s.logFault kind outcome source detail).hasp = s.hasp ∧ (s.logFault kind outcome source detail).net = s.net ∧
    (s.logFault kind outcome source detail).obj = s.obj ∧ (s.logFault kind outcome source detail).pan = s.pan ∧
    (s.logFault kind outcome source detail).rte = s.rte ∧ (s.logFault kind outcome source detail).rnd = s.rnd ∧
    (s.logFault kind outcome source detail).cor = s.cor ∧ (s.logFault kind outcome source detail).cal = s.cal ∧
    (s.logFault kind outcome source detail).tap = s.tap ∧ (s.logFault kind outcome source detail).disp = s.disp ∧
    (s.logFault kind outcome source detail).dblt = s.dblt ∧ (s.logFault kind outcome source detail).twn = s.twn ∧
    (s.logFault kind outcome source detail).dac = s.dac ∧ (s.logFault kind outcome source detail).ddr = s.ddr ∧
    (s.logFault kind outcome source detail).fab = s.fab ∧ (s.logFault kind outcome source detail).sched = s.sched ∧
    (s.logFault kind outcome source detail).ord = s.ord ∧ (s.logFault kind outcome source detail).out = s.out ∧
    (s.logFault kind outcome source detail).free = s.free := by
  repeat' constructor

@[simp] theorem State.pwrEvt_frame (s : State) (i : Nat) :
    (s.pwrEvt i).pending = s.pending ∧ (s.pwrEvt i).now = s.now ∧ (s.pwrEvt i).tick = s.tick ∧ (s.pwrEvt i).sys = s.sys ∧
    (s.pwrEvt i).key = s.key ∧ (s.pwrEvt i).boot = s.boot ∧ (s.pwrEvt i).clk = s.clk ∧ (s.pwrEvt i).ptm = s.ptm ∧ (s.pwrEvt i).macA = s.macA ∧
    (s.pwrEvt i).macB = s.macB ∧ (s.pwrEvt i).macM = s.macM ∧ (s.pwrEvt i).hasp = s.hasp ∧ (s.pwrEvt i).net = s.net ∧ (s.pwrEvt i).obj = s.obj ∧
    (s.pwrEvt i).pan = s.pan ∧ (s.pwrEvt i).rte = s.rte ∧ (s.pwrEvt i).rnd = s.rnd ∧ (s.pwrEvt i).cor = s.cor ∧ (s.pwrEvt i).cal = s.cal ∧
    (s.pwrEvt i).tap = s.tap ∧ (s.pwrEvt i).disp = s.disp ∧ (s.pwrEvt i).intg = s.intg ∧ (s.pwrEvt i).dblt = s.dblt ∧ (s.pwrEvt i).twn = s.twn ∧
    (s.pwrEvt i).dac = s.dac ∧ (s.pwrEvt i).ddr = s.ddr ∧ (s.pwrEvt i).fab = s.fab ∧ (s.pwrEvt i).sched = s.sched ∧ (s.pwrEvt i).ord = s.ord ∧
    (s.pwrEvt i).out = s.out ∧ (s.pwrEvt i).free = s.free := by
  repeat' constructor

@[simp] theorem State.ptmEvt_frame (s : State) (i : Nat) :
    (s.ptmEvt i).pending = s.pending ∧ (s.ptmEvt i).now = s.now ∧ (s.ptmEvt i).tick = s.tick ∧ (s.ptmEvt i).sys = s.sys ∧
    (s.ptmEvt i).key = s.key ∧ (s.ptmEvt i).boot = s.boot ∧ (s.ptmEvt i).pwr = s.pwr ∧ (s.ptmEvt i).clk = s.clk ∧ (s.ptmEvt i).macA = s.macA ∧
    (s.ptmEvt i).macB = s.macB ∧ (s.ptmEvt i).macM = s.macM ∧ (s.ptmEvt i).hasp = s.hasp ∧ (s.ptmEvt i).net = s.net ∧ (s.ptmEvt i).obj = s.obj ∧
    (s.ptmEvt i).pan = s.pan ∧ (s.ptmEvt i).rte = s.rte ∧ (s.ptmEvt i).rnd = s.rnd ∧ (s.ptmEvt i).cor = s.cor ∧ (s.ptmEvt i).cal = s.cal ∧
    (s.ptmEvt i).tap = s.tap ∧ (s.ptmEvt i).disp = s.disp ∧ (s.ptmEvt i).intg = s.intg ∧ (s.ptmEvt i).dblt = s.dblt ∧ (s.ptmEvt i).twn = s.twn ∧
    (s.ptmEvt i).dac = s.dac ∧ (s.ptmEvt i).ddr = s.ddr ∧ (s.ptmEvt i).fab = s.fab ∧ (s.ptmEvt i).sched = s.sched ∧ (s.ptmEvt i).ord = s.ord ∧
    (s.ptmEvt i).out = s.out ∧ (s.ptmEvt i).free = s.free := by
  repeat' constructor

@[simp] theorem State.clkEvt_frame (s : State) (i : Nat) :
    (s.clkEvt i).pending = s.pending ∧ (s.clkEvt i).now = s.now ∧ (s.clkEvt i).tick = s.tick ∧ (s.clkEvt i).sys = s.sys ∧
    (s.clkEvt i).key = s.key ∧ (s.clkEvt i).boot = s.boot ∧ (s.clkEvt i).pwr = s.pwr ∧ (s.clkEvt i).ptm = s.ptm ∧ (s.clkEvt i).macA = s.macA ∧
    (s.clkEvt i).macB = s.macB ∧ (s.clkEvt i).macM = s.macM ∧ (s.clkEvt i).hasp = s.hasp ∧ (s.clkEvt i).net = s.net ∧ (s.clkEvt i).obj = s.obj ∧
    (s.clkEvt i).pan = s.pan ∧ (s.clkEvt i).rte = s.rte ∧ (s.clkEvt i).rnd = s.rnd ∧ (s.clkEvt i).cor = s.cor ∧ (s.clkEvt i).cal = s.cal ∧
    (s.clkEvt i).tap = s.tap ∧ (s.clkEvt i).disp = s.disp ∧ (s.clkEvt i).intg = s.intg ∧ (s.clkEvt i).dblt = s.dblt ∧ (s.clkEvt i).twn = s.twn ∧
    (s.clkEvt i).dac = s.dac ∧ (s.clkEvt i).ddr = s.ddr ∧ (s.clkEvt i).fab = s.fab ∧ (s.clkEvt i).sched = s.sched ∧ (s.clkEvt i).ord = s.ord ∧
    (s.clkEvt i).out = s.out ∧ (s.clkEvt i).free = s.free := by
  repeat' constructor

@[simp] theorem State.corEvt_frame (s : State) (i : Nat) :
    (s.corEvt i).pending = s.pending ∧ (s.corEvt i).now = s.now ∧ (s.corEvt i).tick = s.tick ∧ (s.corEvt i).sys = s.sys ∧
    (s.corEvt i).key = s.key ∧ (s.corEvt i).boot = s.boot ∧ (s.corEvt i).pwr = s.pwr ∧ (s.corEvt i).clk = s.clk ∧ (s.corEvt i).ptm = s.ptm ∧
    (s.corEvt i).macA = s.macA ∧ (s.corEvt i).macB = s.macB ∧ (s.corEvt i).macM = s.macM ∧ (s.corEvt i).hasp = s.hasp ∧
    (s.corEvt i).net = s.net ∧ (s.corEvt i).obj = s.obj ∧ (s.corEvt i).pan = s.pan ∧ (s.corEvt i).rte = s.rte ∧ (s.corEvt i).rnd = s.rnd ∧
    (s.corEvt i).cal = s.cal ∧ (s.corEvt i).tap = s.tap ∧ (s.corEvt i).disp = s.disp ∧ (s.corEvt i).intg = s.intg ∧ (s.corEvt i).dblt = s.dblt ∧
    (s.corEvt i).twn = s.twn ∧ (s.corEvt i).dac = s.dac ∧ (s.corEvt i).ddr = s.ddr ∧ (s.corEvt i).fab = s.fab ∧ (s.corEvt i).sched = s.sched ∧
    (s.corEvt i).ord = s.ord ∧ (s.corEvt i).out = s.out ∧ (s.corEvt i).free = s.free := by
  repeat' constructor

@[simp] theorem State.calEvt_frame (s : State) (i : Nat) :
    (s.calEvt i).pending = s.pending ∧ (s.calEvt i).now = s.now ∧ (s.calEvt i).tick = s.tick ∧ (s.calEvt i).sys = s.sys ∧
    (s.calEvt i).key = s.key ∧ (s.calEvt i).boot = s.boot ∧ (s.calEvt i).pwr = s.pwr ∧ (s.calEvt i).clk = s.clk ∧ (s.calEvt i).ptm = s.ptm ∧
    (s.calEvt i).macA = s.macA ∧ (s.calEvt i).macB = s.macB ∧ (s.calEvt i).macM = s.macM ∧ (s.calEvt i).hasp = s.hasp ∧
    (s.calEvt i).net = s.net ∧ (s.calEvt i).obj = s.obj ∧ (s.calEvt i).pan = s.pan ∧ (s.calEvt i).rte = s.rte ∧ (s.calEvt i).rnd = s.rnd ∧
    (s.calEvt i).cor = s.cor ∧ (s.calEvt i).tap = s.tap ∧ (s.calEvt i).disp = s.disp ∧ (s.calEvt i).intg = s.intg ∧ (s.calEvt i).dblt = s.dblt ∧
    (s.calEvt i).twn = s.twn ∧ (s.calEvt i).dac = s.dac ∧ (s.calEvt i).ddr = s.ddr ∧ (s.calEvt i).fab = s.fab ∧ (s.calEvt i).sched = s.sched ∧
    (s.calEvt i).ord = s.ord ∧ (s.calEvt i).out = s.out ∧ (s.calEvt i).free = s.free := by
  repeat' constructor

@[simp] theorem State.dacEvt_frame (s : State) (i : Nat) :
    (s.dacEvt i).pending = s.pending ∧ (s.dacEvt i).now = s.now ∧ (s.dacEvt i).tick = s.tick ∧ (s.dacEvt i).sys = s.sys ∧
    (s.dacEvt i).key = s.key ∧ (s.dacEvt i).boot = s.boot ∧ (s.dacEvt i).pwr = s.pwr ∧ (s.dacEvt i).clk = s.clk ∧ (s.dacEvt i).ptm = s.ptm ∧
    (s.dacEvt i).macA = s.macA ∧ (s.dacEvt i).macB = s.macB ∧ (s.dacEvt i).macM = s.macM ∧ (s.dacEvt i).hasp = s.hasp ∧
    (s.dacEvt i).net = s.net ∧ (s.dacEvt i).obj = s.obj ∧ (s.dacEvt i).pan = s.pan ∧ (s.dacEvt i).rte = s.rte ∧ (s.dacEvt i).rnd = s.rnd ∧
    (s.dacEvt i).cor = s.cor ∧ (s.dacEvt i).cal = s.cal ∧ (s.dacEvt i).tap = s.tap ∧ (s.dacEvt i).disp = s.disp ∧ (s.dacEvt i).intg = s.intg ∧
    (s.dacEvt i).dblt = s.dblt ∧ (s.dacEvt i).twn = s.twn ∧ (s.dacEvt i).ddr = s.ddr ∧ (s.dacEvt i).fab = s.fab ∧ (s.dacEvt i).sched = s.sched ∧
    (s.dacEvt i).ord = s.ord ∧ (s.dacEvt i).out = s.out ∧ (s.dacEvt i).free = s.free := by
  repeat' constructor

@[simp] theorem State.dispEvt_frame (s : State) (i : Nat) :
    (s.dispEvt i).pending = s.pending ∧ (s.dispEvt i).now = s.now ∧ (s.dispEvt i).tick = s.tick ∧ (s.dispEvt i).sys = s.sys ∧
    (s.dispEvt i).key = s.key ∧ (s.dispEvt i).boot = s.boot ∧ (s.dispEvt i).pwr = s.pwr ∧ (s.dispEvt i).clk = s.clk ∧
    (s.dispEvt i).ptm = s.ptm ∧ (s.dispEvt i).macA = s.macA ∧ (s.dispEvt i).macB = s.macB ∧ (s.dispEvt i).macM = s.macM ∧
    (s.dispEvt i).hasp = s.hasp ∧ (s.dispEvt i).net = s.net ∧ (s.dispEvt i).obj = s.obj ∧ (s.dispEvt i).pan = s.pan ∧
    (s.dispEvt i).rte = s.rte ∧ (s.dispEvt i).rnd = s.rnd ∧ (s.dispEvt i).cor = s.cor ∧ (s.dispEvt i).cal = s.cal ∧ (s.dispEvt i).tap = s.tap ∧
    (s.dispEvt i).intg = s.intg ∧ (s.dispEvt i).dblt = s.dblt ∧ (s.dispEvt i).twn = s.twn ∧ (s.dispEvt i).dac = s.dac ∧
    (s.dispEvt i).ddr = s.ddr ∧ (s.dispEvt i).fab = s.fab ∧ (s.dispEvt i).sched = s.sched ∧ (s.dispEvt i).ord = s.ord ∧
    (s.dispEvt i).out = s.out ∧ (s.dispEvt i).free = s.free := by
  repeat' constructor

@[simp] theorem State.twnEvt_frame (s : State) (i : Nat) :
    (s.twnEvt i).pending = s.pending ∧ (s.twnEvt i).now = s.now ∧ (s.twnEvt i).tick = s.tick ∧ (s.twnEvt i).sys = s.sys ∧
    (s.twnEvt i).key = s.key ∧ (s.twnEvt i).boot = s.boot ∧ (s.twnEvt i).pwr = s.pwr ∧ (s.twnEvt i).clk = s.clk ∧ (s.twnEvt i).ptm = s.ptm ∧
    (s.twnEvt i).macA = s.macA ∧ (s.twnEvt i).macB = s.macB ∧ (s.twnEvt i).macM = s.macM ∧ (s.twnEvt i).hasp = s.hasp ∧
    (s.twnEvt i).net = s.net ∧ (s.twnEvt i).obj = s.obj ∧ (s.twnEvt i).pan = s.pan ∧ (s.twnEvt i).rte = s.rte ∧ (s.twnEvt i).rnd = s.rnd ∧
    (s.twnEvt i).cor = s.cor ∧ (s.twnEvt i).cal = s.cal ∧ (s.twnEvt i).tap = s.tap ∧ (s.twnEvt i).disp = s.disp ∧ (s.twnEvt i).intg = s.intg ∧
    (s.twnEvt i).dblt = s.dblt ∧ (s.twnEvt i).dac = s.dac ∧ (s.twnEvt i).ddr = s.ddr ∧ (s.twnEvt i).fab = s.fab ∧ (s.twnEvt i).sched = s.sched ∧
    (s.twnEvt i).ord = s.ord ∧ (s.twnEvt i).out = s.out ∧ (s.twnEvt i).free = s.free := by
  repeat' constructor

@[simp] theorem State.dbltEvt_frame (s : State) (i : Nat) :
    (s.dbltEvt i).pending = s.pending ∧ (s.dbltEvt i).now = s.now ∧ (s.dbltEvt i).tick = s.tick ∧ (s.dbltEvt i).sys = s.sys ∧
    (s.dbltEvt i).key = s.key ∧ (s.dbltEvt i).boot = s.boot ∧ (s.dbltEvt i).pwr = s.pwr ∧ (s.dbltEvt i).clk = s.clk ∧
    (s.dbltEvt i).ptm = s.ptm ∧ (s.dbltEvt i).macA = s.macA ∧ (s.dbltEvt i).macB = s.macB ∧ (s.dbltEvt i).macM = s.macM ∧
    (s.dbltEvt i).hasp = s.hasp ∧ (s.dbltEvt i).net = s.net ∧ (s.dbltEvt i).obj = s.obj ∧ (s.dbltEvt i).pan = s.pan ∧
    (s.dbltEvt i).rte = s.rte ∧ (s.dbltEvt i).rnd = s.rnd ∧ (s.dbltEvt i).cor = s.cor ∧ (s.dbltEvt i).cal = s.cal ∧ (s.dbltEvt i).tap = s.tap ∧
    (s.dbltEvt i).disp = s.disp ∧ (s.dbltEvt i).intg = s.intg ∧ (s.dbltEvt i).twn = s.twn ∧ (s.dbltEvt i).dac = s.dac ∧
    (s.dbltEvt i).ddr = s.ddr ∧ (s.dbltEvt i).fab = s.fab ∧ (s.dbltEvt i).sched = s.sched ∧ (s.dbltEvt i).ord = s.ord ∧
    (s.dbltEvt i).out = s.out ∧ (s.dbltEvt i).free = s.free := by
  repeat' constructor

@[simp] theorem State.dbltSet_frame (s : State) (off v : Nat) :
    (s.dbltSet off v).pending = s.pending ∧ (s.dbltSet off v).now = s.now ∧ (s.dbltSet off v).tick = s.tick ∧ (s.dbltSet off v).sys = s.sys ∧
    (s.dbltSet off v).key = s.key ∧ (s.dbltSet off v).boot = s.boot ∧ (s.dbltSet off v).pwr = s.pwr ∧ (s.dbltSet off v).clk = s.clk ∧
    (s.dbltSet off v).ptm = s.ptm ∧ (s.dbltSet off v).macA = s.macA ∧ (s.dbltSet off v).macB = s.macB ∧ (s.dbltSet off v).macM = s.macM ∧
    (s.dbltSet off v).hasp = s.hasp ∧ (s.dbltSet off v).net = s.net ∧ (s.dbltSet off v).obj = s.obj ∧ (s.dbltSet off v).pan = s.pan ∧
    (s.dbltSet off v).rte = s.rte ∧ (s.dbltSet off v).rnd = s.rnd ∧ (s.dbltSet off v).cor = s.cor ∧ (s.dbltSet off v).cal = s.cal ∧
    (s.dbltSet off v).tap = s.tap ∧ (s.dbltSet off v).disp = s.disp ∧ (s.dbltSet off v).intg = s.intg ∧ (s.dbltSet off v).twn = s.twn ∧
    (s.dbltSet off v).dac = s.dac ∧ (s.dbltSet off v).ddr = s.ddr ∧ (s.dbltSet off v).fab = s.fab ∧ (s.dbltSet off v).sched = s.sched ∧
    (s.dbltSet off v).ord = s.ord ∧ (s.dbltSet off v).out = s.out ∧ (s.dbltSet off v).free = s.free := by
  repeat' constructor

@[simp] theorem State.setDbFeed_frame (s : State) (f : Nat) (c : DbFeed) :
    (s.setDbFeed f c).pending = s.pending ∧ (s.setDbFeed f c).now = s.now ∧ (s.setDbFeed f c).tick = s.tick ∧ (s.setDbFeed f c).sys = s.sys ∧
    (s.setDbFeed f c).key = s.key ∧ (s.setDbFeed f c).boot = s.boot ∧ (s.setDbFeed f c).pwr = s.pwr ∧ (s.setDbFeed f c).clk = s.clk ∧
    (s.setDbFeed f c).ptm = s.ptm ∧ (s.setDbFeed f c).macA = s.macA ∧ (s.setDbFeed f c).macB = s.macB ∧ (s.setDbFeed f c).macM = s.macM ∧
    (s.setDbFeed f c).hasp = s.hasp ∧ (s.setDbFeed f c).net = s.net ∧ (s.setDbFeed f c).obj = s.obj ∧ (s.setDbFeed f c).pan = s.pan ∧
    (s.setDbFeed f c).rte = s.rte ∧ (s.setDbFeed f c).rnd = s.rnd ∧ (s.setDbFeed f c).cor = s.cor ∧ (s.setDbFeed f c).cal = s.cal ∧
    (s.setDbFeed f c).tap = s.tap ∧ (s.setDbFeed f c).disp = s.disp ∧ (s.setDbFeed f c).intg = s.intg ∧ (s.setDbFeed f c).twn = s.twn ∧
    (s.setDbFeed f c).dac = s.dac ∧ (s.setDbFeed f c).ddr = s.ddr ∧ (s.setDbFeed f c).fab = s.fab ∧ (s.setDbFeed f c).sched = s.sched ∧
    (s.setDbFeed f c).ord = s.ord ∧ (s.setDbFeed f c).out = s.out ∧ (s.setDbFeed f c).free = s.free := by
  repeat' constructor

@[simp] theorem State.setTokens_frame (s : State) (port tok : Nat) :
    (s.setTokens port tok).pending = s.pending ∧ (s.setTokens port tok).now = s.now ∧ (s.setTokens port tok).tick = s.tick ∧
    (s.setTokens port tok).sys = s.sys ∧ (s.setTokens port tok).key = s.key ∧ (s.setTokens port tok).boot = s.boot ∧
    (s.setTokens port tok).pwr = s.pwr ∧ (s.setTokens port tok).clk = s.clk ∧ (s.setTokens port tok).ptm = s.ptm ∧
    (s.setTokens port tok).macA = s.macA ∧ (s.setTokens port tok).macB = s.macB ∧ (s.setTokens port tok).macM = s.macM ∧
    (s.setTokens port tok).hasp = s.hasp ∧ (s.setTokens port tok).net = s.net ∧ (s.setTokens port tok).obj = s.obj ∧
    (s.setTokens port tok).pan = s.pan ∧ (s.setTokens port tok).rte = s.rte ∧ (s.setTokens port tok).rnd = s.rnd ∧
    (s.setTokens port tok).cor = s.cor ∧ (s.setTokens port tok).cal = s.cal ∧ (s.setTokens port tok).tap = s.tap ∧
    (s.setTokens port tok).disp = s.disp ∧ (s.setTokens port tok).intg = s.intg ∧ (s.setTokens port tok).twn = s.twn ∧
    (s.setTokens port tok).dac = s.dac ∧ (s.setTokens port tok).ddr = s.ddr ∧ (s.setTokens port tok).fab = s.fab ∧
    (s.setTokens port tok).sched = s.sched ∧ (s.setTokens port tok).ord = s.ord ∧ (s.setTokens port tok).out = s.out ∧
    (s.setTokens port tok).free = s.free := by
  repeat' constructor

@[simp] theorem State.wlDrop_frame (s : State) (port : Nat) :
    (s.wlDrop port).pending = s.pending ∧ (s.wlDrop port).now = s.now ∧ (s.wlDrop port).tick = s.tick ∧ (s.wlDrop port).sys = s.sys ∧
    (s.wlDrop port).key = s.key ∧ (s.wlDrop port).boot = s.boot ∧ (s.wlDrop port).pwr = s.pwr ∧ (s.wlDrop port).clk = s.clk ∧
    (s.wlDrop port).ptm = s.ptm ∧ (s.wlDrop port).macA = s.macA ∧ (s.wlDrop port).macB = s.macB ∧ (s.wlDrop port).macM = s.macM ∧
    (s.wlDrop port).hasp = s.hasp ∧ (s.wlDrop port).net = s.net ∧ (s.wlDrop port).obj = s.obj ∧ (s.wlDrop port).pan = s.pan ∧
    (s.wlDrop port).rte = s.rte ∧ (s.wlDrop port).rnd = s.rnd ∧ (s.wlDrop port).cor = s.cor ∧ (s.wlDrop port).cal = s.cal ∧
    (s.wlDrop port).tap = s.tap ∧ (s.wlDrop port).disp = s.disp ∧ (s.wlDrop port).intg = s.intg ∧ (s.wlDrop port).twn = s.twn ∧
    (s.wlDrop port).dac = s.dac ∧ (s.wlDrop port).ddr = s.ddr ∧ (s.wlDrop port).fab = s.fab ∧ (s.wlDrop port).sched = s.sched ∧
    (s.wlDrop port).ord = s.ord ∧ (s.wlDrop port).out = s.out ∧ (s.wlDrop port).free = s.free := by
  repeat' constructor

@[simp] theorem State.capDrop_frame (s : State) (port : Nat) :
    (s.capDrop port).pending = s.pending ∧ (s.capDrop port).now = s.now ∧ (s.capDrop port).tick = s.tick ∧ (s.capDrop port).sys = s.sys ∧
    (s.capDrop port).key = s.key ∧ (s.capDrop port).boot = s.boot ∧ (s.capDrop port).pwr = s.pwr ∧ (s.capDrop port).clk = s.clk ∧
    (s.capDrop port).ptm = s.ptm ∧ (s.capDrop port).macA = s.macA ∧ (s.capDrop port).macB = s.macB ∧ (s.capDrop port).macM = s.macM ∧
    (s.capDrop port).hasp = s.hasp ∧ (s.capDrop port).net = s.net ∧ (s.capDrop port).obj = s.obj ∧ (s.capDrop port).pan = s.pan ∧
    (s.capDrop port).rte = s.rte ∧ (s.capDrop port).rnd = s.rnd ∧ (s.capDrop port).cor = s.cor ∧ (s.capDrop port).cal = s.cal ∧
    (s.capDrop port).tap = s.tap ∧ (s.capDrop port).disp = s.disp ∧ (s.capDrop port).intg = s.intg ∧ (s.capDrop port).twn = s.twn ∧
    (s.capDrop port).dac = s.dac ∧ (s.capDrop port).ddr = s.ddr ∧ (s.capDrop port).fab = s.fab ∧ (s.capDrop port).sched = s.sched ∧
    (s.capDrop port).ord = s.ord ∧ (s.capDrop port).out = s.out ∧ (s.capDrop port).free = s.free := by
  repeat' constructor

@[simp] theorem State.storeReply_frame (s : State) (ip port : Nat) (r : Reply) :
    (s.storeReply ip port r).pending = s.pending ∧ (s.storeReply ip port r).now = s.now ∧ (s.storeReply ip port r).tick = s.tick ∧
    (s.storeReply ip port r).sys = s.sys ∧ (s.storeReply ip port r).boot = s.boot ∧ (s.storeReply ip port r).pwr = s.pwr ∧
    (s.storeReply ip port r).clk = s.clk ∧ (s.storeReply ip port r).ptm = s.ptm ∧ (s.storeReply ip port r).macA = s.macA ∧
    (s.storeReply ip port r).macB = s.macB ∧ (s.storeReply ip port r).macM = s.macM ∧ (s.storeReply ip port r).hasp = s.hasp ∧
    (s.storeReply ip port r).net = s.net ∧ (s.storeReply ip port r).obj = s.obj ∧ (s.storeReply ip port r).pan = s.pan ∧
    (s.storeReply ip port r).rte = s.rte ∧ (s.storeReply ip port r).rnd = s.rnd ∧ (s.storeReply ip port r).cor = s.cor ∧
    (s.storeReply ip port r).cal = s.cal ∧ (s.storeReply ip port r).tap = s.tap ∧ (s.storeReply ip port r).disp = s.disp ∧
    (s.storeReply ip port r).intg = s.intg ∧ (s.storeReply ip port r).dblt = s.dblt ∧ (s.storeReply ip port r).twn = s.twn ∧
    (s.storeReply ip port r).dac = s.dac ∧ (s.storeReply ip port r).ddr = s.ddr ∧ (s.storeReply ip port r).fab = s.fab ∧
    (s.storeReply ip port r).sched = s.sched ∧ (s.storeReply ip port r).ord = s.ord ∧ (s.storeReply ip port r).out = s.out ∧
    (s.storeReply ip port r).free = s.free := by
  repeat' constructor

@[simp] theorem State.countRefusal_frame (s : State) :
    (s.countRefusal).pending = s.pending ∧ (s.countRefusal).now = s.now ∧ (s.countRefusal).tick = s.tick ∧ (s.countRefusal).sys = s.sys ∧
    (s.countRefusal).boot = s.boot ∧ (s.countRefusal).pwr = s.pwr ∧ (s.countRefusal).clk = s.clk ∧ (s.countRefusal).ptm = s.ptm ∧
    (s.countRefusal).macA = s.macA ∧ (s.countRefusal).macB = s.macB ∧ (s.countRefusal).macM = s.macM ∧ (s.countRefusal).hasp = s.hasp ∧
    (s.countRefusal).net = s.net ∧ (s.countRefusal).obj = s.obj ∧ (s.countRefusal).pan = s.pan ∧ (s.countRefusal).rte = s.rte ∧
    (s.countRefusal).rnd = s.rnd ∧ (s.countRefusal).cor = s.cor ∧ (s.countRefusal).cal = s.cal ∧ (s.countRefusal).tap = s.tap ∧
    (s.countRefusal).disp = s.disp ∧ (s.countRefusal).intg = s.intg ∧ (s.countRefusal).dblt = s.dblt ∧ (s.countRefusal).twn = s.twn ∧
    (s.countRefusal).dac = s.dac ∧ (s.countRefusal).ddr = s.ddr ∧ (s.countRefusal).fab = s.fab ∧ (s.countRefusal).sched = s.sched ∧
    (s.countRefusal).ord = s.ord ∧ (s.countRefusal).out = s.out ∧ (s.countRefusal).free = s.free := by
  repeat' constructor

@[simp] theorem State.giveAseq_frame (s : State) :
    (s.giveAseq).pending = s.pending ∧ (s.giveAseq).now = s.now ∧ (s.giveAseq).tick = s.tick ∧ (s.giveAseq).sys = s.sys ∧
    (s.giveAseq).boot = s.boot ∧ (s.giveAseq).pwr = s.pwr ∧ (s.giveAseq).clk = s.clk ∧ (s.giveAseq).ptm = s.ptm ∧ (s.giveAseq).macA = s.macA ∧
    (s.giveAseq).macB = s.macB ∧ (s.giveAseq).macM = s.macM ∧ (s.giveAseq).hasp = s.hasp ∧ (s.giveAseq).net = s.net ∧ (s.giveAseq).obj = s.obj ∧
    (s.giveAseq).pan = s.pan ∧ (s.giveAseq).rte = s.rte ∧ (s.giveAseq).rnd = s.rnd ∧ (s.giveAseq).cor = s.cor ∧ (s.giveAseq).cal = s.cal ∧
    (s.giveAseq).tap = s.tap ∧ (s.giveAseq).disp = s.disp ∧ (s.giveAseq).intg = s.intg ∧ (s.giveAseq).dblt = s.dblt ∧ (s.giveAseq).twn = s.twn ∧
    (s.giveAseq).dac = s.dac ∧ (s.giveAseq).ddr = s.ddr ∧ (s.giveAseq).fab = s.fab ∧ (s.giveAseq).sched = s.sched ∧ (s.giveAseq).ord = s.ord ∧
    (s.giveAseq).out = s.out ∧ (s.giveAseq).free = s.free := by
  repeat' constructor

@[simp] theorem State.ringAdvance_frame (s : State) (n : Nat) :
    (s.ringAdvance n).pending = s.pending ∧ (s.ringAdvance n).now = s.now ∧ (s.ringAdvance n).tick = s.tick ∧ (s.ringAdvance n).sys = s.sys ∧
    (s.ringAdvance n).boot = s.boot ∧ (s.ringAdvance n).pwr = s.pwr ∧ (s.ringAdvance n).clk = s.clk ∧ (s.ringAdvance n).ptm = s.ptm ∧
    (s.ringAdvance n).macA = s.macA ∧ (s.ringAdvance n).macB = s.macB ∧ (s.ringAdvance n).macM = s.macM ∧ (s.ringAdvance n).hasp = s.hasp ∧
    (s.ringAdvance n).net = s.net ∧ (s.ringAdvance n).obj = s.obj ∧ (s.ringAdvance n).pan = s.pan ∧ (s.ringAdvance n).rte = s.rte ∧
    (s.ringAdvance n).rnd = s.rnd ∧ (s.ringAdvance n).cor = s.cor ∧ (s.ringAdvance n).cal = s.cal ∧ (s.ringAdvance n).tap = s.tap ∧
    (s.ringAdvance n).disp = s.disp ∧ (s.ringAdvance n).intg = s.intg ∧ (s.ringAdvance n).dblt = s.dblt ∧ (s.ringAdvance n).twn = s.twn ∧
    (s.ringAdvance n).dac = s.dac ∧ (s.ringAdvance n).ddr = s.ddr ∧ (s.ringAdvance n).fab = s.fab ∧ (s.ringAdvance n).sched = s.sched ∧
    (s.ringAdvance n).ord = s.ord ∧ (s.ringAdvance n).out = s.out ∧ (s.ringAdvance n).free = s.free := by
  repeat' constructor

@[simp] theorem State.storeCmd_frame (s : State) (ip port : Nat) (b : Bytes) :
    (s.storeCmd ip port b).pending = s.pending ∧ (s.storeCmd ip port b).now = s.now ∧ (s.storeCmd ip port b).tick = s.tick ∧
    (s.storeCmd ip port b).sys = s.sys ∧ (s.storeCmd ip port b).boot = s.boot ∧ (s.storeCmd ip port b).pwr = s.pwr ∧
    (s.storeCmd ip port b).clk = s.clk ∧ (s.storeCmd ip port b).ptm = s.ptm ∧ (s.storeCmd ip port b).macA = s.macA ∧
    (s.storeCmd ip port b).macB = s.macB ∧ (s.storeCmd ip port b).macM = s.macM ∧ (s.storeCmd ip port b).hasp = s.hasp ∧
    (s.storeCmd ip port b).net = s.net ∧ (s.storeCmd ip port b).obj = s.obj ∧ (s.storeCmd ip port b).pan = s.pan ∧
    (s.storeCmd ip port b).rte = s.rte ∧ (s.storeCmd ip port b).rnd = s.rnd ∧ (s.storeCmd ip port b).cor = s.cor ∧
    (s.storeCmd ip port b).cal = s.cal ∧ (s.storeCmd ip port b).tap = s.tap ∧ (s.storeCmd ip port b).disp = s.disp ∧
    (s.storeCmd ip port b).intg = s.intg ∧ (s.storeCmd ip port b).dblt = s.dblt ∧ (s.storeCmd ip port b).twn = s.twn ∧
    (s.storeCmd ip port b).dac = s.dac ∧ (s.storeCmd ip port b).ddr = s.ddr ∧ (s.storeCmd ip port b).fab = s.fab ∧
    (s.storeCmd ip port b).sched = s.sched ∧ (s.storeCmd ip port b).ord = s.ord ∧ (s.storeCmd ip port b).out = s.out ∧
    (s.storeCmd ip port b).free = s.free := by
  repeat' constructor

@[simp] theorem State.mgmtSend_frame (s : State) (ip port : Nat) (r : Reply) :
    (s.mgmtSend ip port r).pending = s.pending ∧ (s.mgmtSend ip port r).now = s.now ∧ (s.mgmtSend ip port r).tick = s.tick ∧
    (s.mgmtSend ip port r).sys = s.sys ∧ (s.mgmtSend ip port r).key = s.key ∧ (s.mgmtSend ip port r).boot = s.boot ∧
    (s.mgmtSend ip port r).pwr = s.pwr ∧ (s.mgmtSend ip port r).clk = s.clk ∧ (s.mgmtSend ip port r).ptm = s.ptm ∧
    (s.mgmtSend ip port r).macA = s.macA ∧ (s.mgmtSend ip port r).macB = s.macB ∧ (s.mgmtSend ip port r).hasp = s.hasp ∧
    (s.mgmtSend ip port r).net = s.net ∧ (s.mgmtSend ip port r).obj = s.obj ∧ (s.mgmtSend ip port r).pan = s.pan ∧
    (s.mgmtSend ip port r).rte = s.rte ∧ (s.mgmtSend ip port r).rnd = s.rnd ∧ (s.mgmtSend ip port r).cor = s.cor ∧
    (s.mgmtSend ip port r).cal = s.cal ∧ (s.mgmtSend ip port r).tap = s.tap ∧ (s.mgmtSend ip port r).disp = s.disp ∧
    (s.mgmtSend ip port r).intg = s.intg ∧ (s.mgmtSend ip port r).dblt = s.dblt ∧ (s.mgmtSend ip port r).twn = s.twn ∧
    (s.mgmtSend ip port r).dac = s.dac ∧ (s.mgmtSend ip port r).ddr = s.ddr ∧ (s.mgmtSend ip port r).fab = s.fab ∧
    (s.mgmtSend ip port r).sched = s.sched ∧ (s.mgmtSend ip port r).ord = s.ord ∧ (s.mgmtSend ip port r).out = s.out ∧
    (s.mgmtSend ip port r).free = s.free := by
  repeat' constructor

@[simp] theorem State.nextOrd_frame (s : State) :
    (s.nextOrd).pending = s.pending ∧ (s.nextOrd).now = s.now ∧ (s.nextOrd).tick = s.tick ∧ (s.nextOrd).sys = s.sys ∧ (s.nextOrd).key = s.key ∧
    (s.nextOrd).boot = s.boot ∧ (s.nextOrd).pwr = s.pwr ∧ (s.nextOrd).clk = s.clk ∧ (s.nextOrd).ptm = s.ptm ∧ (s.nextOrd).macA = s.macA ∧
    (s.nextOrd).macB = s.macB ∧ (s.nextOrd).macM = s.macM ∧ (s.nextOrd).hasp = s.hasp ∧ (s.nextOrd).net = s.net ∧ (s.nextOrd).obj = s.obj ∧
    (s.nextOrd).pan = s.pan ∧ (s.nextOrd).rte = s.rte ∧ (s.nextOrd).rnd = s.rnd ∧ (s.nextOrd).cor = s.cor ∧ (s.nextOrd).cal = s.cal ∧
    (s.nextOrd).tap = s.tap ∧ (s.nextOrd).disp = s.disp ∧ (s.nextOrd).intg = s.intg ∧ (s.nextOrd).dblt = s.dblt ∧ (s.nextOrd).twn = s.twn ∧
    (s.nextOrd).dac = s.dac ∧ (s.nextOrd).ddr = s.ddr ∧ (s.nextOrd).fab = s.fab ∧ (s.nextOrd).sched = s.sched ∧ (s.nextOrd).out = s.out ∧
    (s.nextOrd).free = s.free := by
  repeat' constructor

@[simp] theorem State.schedule_frame (s : State) (n : Nat) (i : CmdIn) :
    (s.schedule n i).pending = s.pending ∧ (s.schedule n i).now = s.now ∧ (s.schedule n i).tick = s.tick ∧ (s.schedule n i).sys = s.sys ∧
    (s.schedule n i).key = s.key ∧ (s.schedule n i).boot = s.boot ∧ (s.schedule n i).pwr = s.pwr ∧ (s.schedule n i).clk = s.clk ∧
    (s.schedule n i).ptm = s.ptm ∧ (s.schedule n i).macA = s.macA ∧ (s.schedule n i).macB = s.macB ∧ (s.schedule n i).macM = s.macM ∧
    (s.schedule n i).hasp = s.hasp ∧ (s.schedule n i).net = s.net ∧ (s.schedule n i).obj = s.obj ∧ (s.schedule n i).pan = s.pan ∧
    (s.schedule n i).rte = s.rte ∧ (s.schedule n i).rnd = s.rnd ∧ (s.schedule n i).cor = s.cor ∧ (s.schedule n i).cal = s.cal ∧
    (s.schedule n i).tap = s.tap ∧ (s.schedule n i).disp = s.disp ∧ (s.schedule n i).intg = s.intg ∧ (s.schedule n i).dblt = s.dblt ∧
    (s.schedule n i).twn = s.twn ∧ (s.schedule n i).dac = s.dac ∧ (s.schedule n i).ddr = s.ddr ∧ (s.schedule n i).fab = s.fab ∧
    (s.schedule n i).out = s.out ∧ (s.schedule n i).free = s.free := by
  repeat' constructor

@[simp] theorem State.pendObj_frame (s : State) (o : Nat) (b : Blk) :
    (s.pendObj o b).pending = s.pending ∧ (s.pendObj o b).now = s.now ∧ (s.pendObj o b).tick = s.tick ∧ (s.pendObj o b).sys = s.sys ∧
    (s.pendObj o b).key = s.key ∧ (s.pendObj o b).boot = s.boot ∧ (s.pendObj o b).pwr = s.pwr ∧ (s.pendObj o b).clk = s.clk ∧
    (s.pendObj o b).ptm = s.ptm ∧ (s.pendObj o b).macA = s.macA ∧ (s.pendObj o b).macB = s.macB ∧ (s.pendObj o b).macM = s.macM ∧
    (s.pendObj o b).hasp = s.hasp ∧ (s.pendObj o b).net = s.net ∧ (s.pendObj o b).pan = s.pan ∧ (s.pendObj o b).rte = s.rte ∧
    (s.pendObj o b).rnd = s.rnd ∧ (s.pendObj o b).cor = s.cor ∧ (s.pendObj o b).cal = s.cal ∧ (s.pendObj o b).tap = s.tap ∧
    (s.pendObj o b).disp = s.disp ∧ (s.pendObj o b).intg = s.intg ∧ (s.pendObj o b).dblt = s.dblt ∧ (s.pendObj o b).twn = s.twn ∧
    (s.pendObj o b).dac = s.dac ∧ (s.pendObj o b).ddr = s.ddr ∧ (s.pendObj o b).fab = s.fab ∧ (s.pendObj o b).sched = s.sched ∧
    (s.pendObj o b).ord = s.ord ∧ (s.pendObj o b).out = s.out ∧ (s.pendObj o b).free = s.free := by
  repeat' constructor

@[simp] theorem State.pendBed_frame (s : State) (k : Nat) (b : Blk) :
    (s.pendBed k b).pending = s.pending ∧ (s.pendBed k b).now = s.now ∧ (s.pendBed k b).tick = s.tick ∧ (s.pendBed k b).sys = s.sys ∧
    (s.pendBed k b).key = s.key ∧ (s.pendBed k b).boot = s.boot ∧ (s.pendBed k b).pwr = s.pwr ∧ (s.pendBed k b).clk = s.clk ∧
    (s.pendBed k b).ptm = s.ptm ∧ (s.pendBed k b).macA = s.macA ∧ (s.pendBed k b).macB = s.macB ∧ (s.pendBed k b).macM = s.macM ∧
    (s.pendBed k b).hasp = s.hasp ∧ (s.pendBed k b).net = s.net ∧ (s.pendBed k b).pan = s.pan ∧ (s.pendBed k b).rte = s.rte ∧
    (s.pendBed k b).rnd = s.rnd ∧ (s.pendBed k b).cor = s.cor ∧ (s.pendBed k b).cal = s.cal ∧ (s.pendBed k b).tap = s.tap ∧
    (s.pendBed k b).disp = s.disp ∧ (s.pendBed k b).intg = s.intg ∧ (s.pendBed k b).dblt = s.dblt ∧ (s.pendBed k b).twn = s.twn ∧
    (s.pendBed k b).dac = s.dac ∧ (s.pendBed k b).ddr = s.ddr ∧ (s.pendBed k b).fab = s.fab ∧ (s.pendBed k b).sched = s.sched ∧
    (s.pendBed k b).ord = s.ord ∧ (s.pendBed k b).out = s.out ∧ (s.pendBed k b).free = s.free := by
  repeat' constructor

@[simp] theorem State.onStatIn_frame (s : State) (i : Nat) (f : FlowStats → FlowStats) :
    (s.onStatIn i f).pending = s.pending ∧ (s.onStatIn i f).now = s.now ∧ (s.onStatIn i f).tick = s.tick ∧ (s.onStatIn i f).sys = s.sys ∧
    (s.onStatIn i f).key = s.key ∧ (s.onStatIn i f).boot = s.boot ∧ (s.onStatIn i f).pwr = s.pwr ∧ (s.onStatIn i f).clk = s.clk ∧
    (s.onStatIn i f).ptm = s.ptm ∧ (s.onStatIn i f).macA = s.macA ∧ (s.onStatIn i f).macB = s.macB ∧ (s.onStatIn i f).macM = s.macM ∧
    (s.onStatIn i f).hasp = s.hasp ∧ (s.onStatIn i f).obj = s.obj ∧ (s.onStatIn i f).pan = s.pan ∧ (s.onStatIn i f).rte = s.rte ∧
    (s.onStatIn i f).rnd = s.rnd ∧ (s.onStatIn i f).cor = s.cor ∧ (s.onStatIn i f).cal = s.cal ∧ (s.onStatIn i f).tap = s.tap ∧
    (s.onStatIn i f).disp = s.disp ∧ (s.onStatIn i f).intg = s.intg ∧ (s.onStatIn i f).dblt = s.dblt ∧ (s.onStatIn i f).twn = s.twn ∧
    (s.onStatIn i f).dac = s.dac ∧ (s.onStatIn i f).ddr = s.ddr ∧ (s.onStatIn i f).fab = s.fab ∧ (s.onStatIn i f).sched = s.sched ∧
    (s.onStatIn i f).ord = s.ord ∧ (s.onStatIn i f).out = s.out ∧ (s.onStatIn i f).free = s.free := by
  repeat' constructor

@[simp] theorem State.onStatOut_frame (s : State) (i : Nat) (f : FlowStats → FlowStats) :
    (s.onStatOut i f).pending = s.pending ∧ (s.onStatOut i f).now = s.now ∧ (s.onStatOut i f).tick = s.tick ∧ (s.onStatOut i f).sys = s.sys ∧
    (s.onStatOut i f).key = s.key ∧ (s.onStatOut i f).boot = s.boot ∧ (s.onStatOut i f).pwr = s.pwr ∧ (s.onStatOut i f).clk = s.clk ∧
    (s.onStatOut i f).ptm = s.ptm ∧ (s.onStatOut i f).macA = s.macA ∧ (s.onStatOut i f).macB = s.macB ∧ (s.onStatOut i f).macM = s.macM ∧
    (s.onStatOut i f).hasp = s.hasp ∧ (s.onStatOut i f).obj = s.obj ∧ (s.onStatOut i f).pan = s.pan ∧ (s.onStatOut i f).rte = s.rte ∧
    (s.onStatOut i f).rnd = s.rnd ∧ (s.onStatOut i f).cor = s.cor ∧ (s.onStatOut i f).cal = s.cal ∧ (s.onStatOut i f).tap = s.tap ∧
    (s.onStatOut i f).disp = s.disp ∧ (s.onStatOut i f).intg = s.intg ∧ (s.onStatOut i f).dblt = s.dblt ∧ (s.onStatOut i f).twn = s.twn ∧
    (s.onStatOut i f).dac = s.dac ∧ (s.onStatOut i f).ddr = s.ddr ∧ (s.onStatOut i f).fab = s.fab ∧ (s.onStatOut i f).sched = s.sched ∧
    (s.onStatOut i f).ord = s.ord ∧ (s.onStatOut i f).out = s.out ∧ (s.onStatOut i f).free = s.free := by
  repeat' constructor

@[simp] theorem State.onFlowRx_frame (s : State) (i : Nat) (f : FlowRx → FlowRx) :
    (s.onFlowRx i f).pending = s.pending ∧ (s.onFlowRx i f).now = s.now ∧ (s.onFlowRx i f).tick = s.tick ∧ (s.onFlowRx i f).sys = s.sys ∧
    (s.onFlowRx i f).key = s.key ∧ (s.onFlowRx i f).boot = s.boot ∧ (s.onFlowRx i f).pwr = s.pwr ∧ (s.onFlowRx i f).clk = s.clk ∧
    (s.onFlowRx i f).ptm = s.ptm ∧ (s.onFlowRx i f).macA = s.macA ∧ (s.onFlowRx i f).macB = s.macB ∧ (s.onFlowRx i f).macM = s.macM ∧
    (s.onFlowRx i f).hasp = s.hasp ∧ (s.onFlowRx i f).obj = s.obj ∧ (s.onFlowRx i f).pan = s.pan ∧ (s.onFlowRx i f).rte = s.rte ∧
    (s.onFlowRx i f).rnd = s.rnd ∧ (s.onFlowRx i f).cor = s.cor ∧ (s.onFlowRx i f).cal = s.cal ∧ (s.onFlowRx i f).tap = s.tap ∧
    (s.onFlowRx i f).disp = s.disp ∧ (s.onFlowRx i f).intg = s.intg ∧ (s.onFlowRx i f).dblt = s.dblt ∧ (s.onFlowRx i f).twn = s.twn ∧
    (s.onFlowRx i f).dac = s.dac ∧ (s.onFlowRx i f).ddr = s.ddr ∧ (s.onFlowRx i f).fab = s.fab ∧ (s.onFlowRx i f).sched = s.sched ∧
    (s.onFlowRx i f).ord = s.ord ∧ (s.onFlowRx i f).out = s.out ∧ (s.onFlowRx i f).free = s.free := by
  repeat' constructor

@[simp] theorem State.setFlowIn_frame (s : State) (i : Nat) (r : Bytes) (running : Bool) :
    (s.setFlowIn i r running).pending = s.pending ∧ (s.setFlowIn i r running).now = s.now ∧ (s.setFlowIn i r running).tick = s.tick ∧
    (s.setFlowIn i r running).sys = s.sys ∧ (s.setFlowIn i r running).key = s.key ∧ (s.setFlowIn i r running).boot = s.boot ∧
    (s.setFlowIn i r running).pwr = s.pwr ∧ (s.setFlowIn i r running).clk = s.clk ∧ (s.setFlowIn i r running).ptm = s.ptm ∧
    (s.setFlowIn i r running).macA = s.macA ∧ (s.setFlowIn i r running).macB = s.macB ∧ (s.setFlowIn i r running).macM = s.macM ∧
    (s.setFlowIn i r running).hasp = s.hasp ∧ (s.setFlowIn i r running).obj = s.obj ∧ (s.setFlowIn i r running).pan = s.pan ∧
    (s.setFlowIn i r running).rte = s.rte ∧ (s.setFlowIn i r running).rnd = s.rnd ∧ (s.setFlowIn i r running).cor = s.cor ∧
    (s.setFlowIn i r running).cal = s.cal ∧ (s.setFlowIn i r running).tap = s.tap ∧ (s.setFlowIn i r running).disp = s.disp ∧
    (s.setFlowIn i r running).intg = s.intg ∧ (s.setFlowIn i r running).dblt = s.dblt ∧ (s.setFlowIn i r running).twn = s.twn ∧
    (s.setFlowIn i r running).dac = s.dac ∧ (s.setFlowIn i r running).ddr = s.ddr ∧ (s.setFlowIn i r running).fab = s.fab ∧
    (s.setFlowIn i r running).sched = s.sched ∧ (s.setFlowIn i r running).ord = s.ord ∧ (s.setFlowIn i r running).out = s.out ∧
    (s.setFlowIn i r running).free = s.free := by
  repeat' constructor

@[simp] theorem State.countPkt_frame (s : State) (e port : Nat) :
    (s.countPkt e port).pending = s.pending ∧ (s.countPkt e port).now = s.now ∧ (s.countPkt e port).tick = s.tick ∧
    (s.countPkt e port).sys = s.sys ∧ (s.countPkt e port).key = s.key ∧ (s.countPkt e port).boot = s.boot ∧ (s.countPkt e port).pwr = s.pwr ∧
    (s.countPkt e port).clk = s.clk ∧ (s.countPkt e port).ptm = s.ptm ∧ (s.countPkt e port).macA = s.macA ∧ (s.countPkt e port).macB = s.macB ∧
    (s.countPkt e port).macM = s.macM ∧ (s.countPkt e port).hasp = s.hasp ∧ (s.countPkt e port).obj = s.obj ∧ (s.countPkt e port).pan = s.pan ∧
    (s.countPkt e port).rte = s.rte ∧ (s.countPkt e port).rnd = s.rnd ∧ (s.countPkt e port).cor = s.cor ∧ (s.countPkt e port).cal = s.cal ∧
    (s.countPkt e port).tap = s.tap ∧ (s.countPkt e port).disp = s.disp ∧ (s.countPkt e port).intg = s.intg ∧
    (s.countPkt e port).dblt = s.dblt ∧ (s.countPkt e port).twn = s.twn ∧ (s.countPkt e port).dac = s.dac ∧ (s.countPkt e port).ddr = s.ddr ∧
    (s.countPkt e port).fab = s.fab ∧ (s.countPkt e port).sched = s.sched ∧ (s.countPkt e port).ord = s.ord ∧ (s.countPkt e port).out = s.out ∧
    (s.countPkt e port).free = s.free := by
  repeat' constructor

@[simp] theorem State.onFeedCor_frame (s : State) (f : Nat) (g : FeedCor → FeedCor) :
    (s.onFeedCor f g).pending = s.pending ∧ (s.onFeedCor f g).now = s.now ∧ (s.onFeedCor f g).tick = s.tick ∧ (s.onFeedCor f g).sys = s.sys ∧
    (s.onFeedCor f g).key = s.key ∧ (s.onFeedCor f g).boot = s.boot ∧ (s.onFeedCor f g).pwr = s.pwr ∧ (s.onFeedCor f g).clk = s.clk ∧
    (s.onFeedCor f g).ptm = s.ptm ∧ (s.onFeedCor f g).macA = s.macA ∧ (s.onFeedCor f g).macB = s.macB ∧ (s.onFeedCor f g).macM = s.macM ∧
    (s.onFeedCor f g).hasp = s.hasp ∧ (s.onFeedCor f g).net = s.net ∧ (s.onFeedCor f g).obj = s.obj ∧ (s.onFeedCor f g).pan = s.pan ∧
    (s.onFeedCor f g).rte = s.rte ∧ (s.onFeedCor f g).rnd = s.rnd ∧ (s.onFeedCor f g).cal = s.cal ∧ (s.onFeedCor f g).tap = s.tap ∧
    (s.onFeedCor f g).disp = s.disp ∧ (s.onFeedCor f g).intg = s.intg ∧ (s.onFeedCor f g).dblt = s.dblt ∧ (s.onFeedCor f g).twn = s.twn ∧
    (s.onFeedCor f g).dac = s.dac ∧ (s.onFeedCor f g).ddr = s.ddr ∧ (s.onFeedCor f g).fab = s.fab ∧ (s.onFeedCor f g).sched = s.sched ∧
    (s.onFeedCor f g).ord = s.ord ∧ (s.onFeedCor f g).out = s.out ∧ (s.onFeedCor f g).free = s.free := by
  repeat' constructor

@[simp] theorem State.setCalFeed_frame (s : State) (f : Nat) (x : Option CalFeed) :
    (s.setCalFeed f x).pending = s.pending ∧ (s.setCalFeed f x).now = s.now ∧ (s.setCalFeed f x).tick = s.tick ∧
    (s.setCalFeed f x).sys = s.sys ∧ (s.setCalFeed f x).key = s.key ∧ (s.setCalFeed f x).boot = s.boot ∧ (s.setCalFeed f x).pwr = s.pwr ∧
    (s.setCalFeed f x).clk = s.clk ∧ (s.setCalFeed f x).ptm = s.ptm ∧ (s.setCalFeed f x).macA = s.macA ∧ (s.setCalFeed f x).macB = s.macB ∧
    (s.setCalFeed f x).macM = s.macM ∧ (s.setCalFeed f x).hasp = s.hasp ∧ (s.setCalFeed f x).net = s.net ∧ (s.setCalFeed f x).obj = s.obj ∧
    (s.setCalFeed f x).pan = s.pan ∧ (s.setCalFeed f x).rte = s.rte ∧ (s.setCalFeed f x).rnd = s.rnd ∧ (s.setCalFeed f x).cor = s.cor ∧
    (s.setCalFeed f x).tap = s.tap ∧ (s.setCalFeed f x).disp = s.disp ∧ (s.setCalFeed f x).intg = s.intg ∧ (s.setCalFeed f x).dblt = s.dblt ∧
    (s.setCalFeed f x).twn = s.twn ∧ (s.setCalFeed f x).dac = s.dac ∧ (s.setCalFeed f x).ddr = s.ddr ∧ (s.setCalFeed f x).fab = s.fab ∧
    (s.setCalFeed f x).sched = s.sched ∧ (s.setCalFeed f x).ord = s.ord ∧ (s.setCalFeed f x).out = s.out ∧ (s.setCalFeed f x).free = s.free := by
  repeat' constructor

@[simp] theorem State.onReports_frame (s : State) (test : CalReport → Bool) (f : CalReport → CalReport) :
    (s.onReports test f).pending = s.pending ∧ (s.onReports test f).now = s.now ∧ (s.onReports test f).tick = s.tick ∧
    (s.onReports test f).sys = s.sys ∧ (s.onReports test f).key = s.key ∧ (s.onReports test f).boot = s.boot ∧
    (s.onReports test f).pwr = s.pwr ∧ (s.onReports test f).clk = s.clk ∧ (s.onReports test f).ptm = s.ptm ∧
    (s.onReports test f).macA = s.macA ∧ (s.onReports test f).macB = s.macB ∧ (s.onReports test f).macM = s.macM ∧
    (s.onReports test f).hasp = s.hasp ∧ (s.onReports test f).net = s.net ∧ (s.onReports test f).obj = s.obj ∧
    (s.onReports test f).pan = s.pan ∧ (s.onReports test f).rte = s.rte ∧ (s.onReports test f).rnd = s.rnd ∧ (s.onReports test f).cor = s.cor ∧
    (s.onReports test f).tap = s.tap ∧ (s.onReports test f).disp = s.disp ∧ (s.onReports test f).intg = s.intg ∧
    (s.onReports test f).dblt = s.dblt ∧ (s.onReports test f).twn = s.twn ∧ (s.onReports test f).dac = s.dac ∧
    (s.onReports test f).ddr = s.ddr ∧ (s.onReports test f).fab = s.fab ∧ (s.onReports test f).sched = s.sched ∧
    (s.onReports test f).ord = s.ord ∧ (s.onReports test f).out = s.out ∧ (s.onReports test f).free = s.free := by
  repeat' constructor

@[simp] theorem State.onDac_frame (s : State) (n : Nat) (f : DacCh → DacCh) :
    (s.onDac n f).pending = s.pending ∧ (s.onDac n f).now = s.now ∧ (s.onDac n f).tick = s.tick ∧ (s.onDac n f).sys = s.sys ∧
    (s.onDac n f).key = s.key ∧ (s.onDac n f).boot = s.boot ∧ (s.onDac n f).pwr = s.pwr ∧ (s.onDac n f).clk = s.clk ∧
    (s.onDac n f).ptm = s.ptm ∧ (s.onDac n f).macA = s.macA ∧ (s.onDac n f).macB = s.macB ∧ (s.onDac n f).macM = s.macM ∧
    (s.onDac n f).hasp = s.hasp ∧ (s.onDac n f).net = s.net ∧ (s.onDac n f).obj = s.obj ∧ (s.onDac n f).pan = s.pan ∧
    (s.onDac n f).rte = s.rte ∧ (s.onDac n f).rnd = s.rnd ∧ (s.onDac n f).cor = s.cor ∧ (s.onDac n f).cal = s.cal ∧ (s.onDac n f).tap = s.tap ∧
    (s.onDac n f).disp = s.disp ∧ (s.onDac n f).intg = s.intg ∧ (s.onDac n f).dblt = s.dblt ∧ (s.onDac n f).twn = s.twn ∧
    (s.onDac n f).ddr = s.ddr ∧ (s.onDac n f).fab = s.fab ∧ (s.onDac n f).sched = s.sched ∧ (s.onDac n f).ord = s.ord ∧
    (s.onDac n f).out = s.out ∧ (s.onDac n f).free = s.free := by
  repeat' constructor

@[simp] theorem State.onPll_frame (s : State) (p : Nat) (f : Pll → Pll) :
    (s.onPll p f).pending = s.pending ∧ (s.onPll p f).now = s.now ∧ (s.onPll p f).tick = s.tick ∧ (s.onPll p f).sys = s.sys ∧
    (s.onPll p f).key = s.key ∧ (s.onPll p f).boot = s.boot ∧ (s.onPll p f).pwr = s.pwr ∧ (s.onPll p f).ptm = s.ptm ∧
    (s.onPll p f).macA = s.macA ∧ (s.onPll p f).macB = s.macB ∧ (s.onPll p f).macM = s.macM ∧ (s.onPll p f).hasp = s.hasp ∧
    (s.onPll p f).net = s.net ∧ (s.onPll p f).obj = s.obj ∧ (s.onPll p f).pan = s.pan ∧ (s.onPll p f).rte = s.rte ∧ (s.onPll p f).rnd = s.rnd ∧
    (s.onPll p f).cor = s.cor ∧ (s.onPll p f).cal = s.cal ∧ (s.onPll p f).tap = s.tap ∧ (s.onPll p f).disp = s.disp ∧
    (s.onPll p f).intg = s.intg ∧ (s.onPll p f).dblt = s.dblt ∧ (s.onPll p f).twn = s.twn ∧ (s.onPll p f).dac = s.dac ∧
    (s.onPll p f).ddr = s.ddr ∧ (s.onPll p f).fab = s.fab ∧ (s.onPll p f).sched = s.sched ∧ (s.onPll p f).ord = s.ord ∧
    (s.onPll p f).out = s.out ∧ (s.onPll p f).free = s.free := by
  repeat' constructor

@[simp] theorem State.onPtp_frame (s : State) (port : Nat) (f : PtpPort → PtpPort) :
    (s.onPtp port f).pending = s.pending ∧ (s.onPtp port f).now = s.now ∧ (s.onPtp port f).tick = s.tick ∧ (s.onPtp port f).sys = s.sys ∧
    (s.onPtp port f).key = s.key ∧ (s.onPtp port f).boot = s.boot ∧ (s.onPtp port f).pwr = s.pwr ∧ (s.onPtp port f).clk = s.clk ∧
    (s.onPtp port f).macA = s.macA ∧ (s.onPtp port f).macB = s.macB ∧ (s.onPtp port f).macM = s.macM ∧ (s.onPtp port f).hasp = s.hasp ∧
    (s.onPtp port f).net = s.net ∧ (s.onPtp port f).obj = s.obj ∧ (s.onPtp port f).pan = s.pan ∧ (s.onPtp port f).rte = s.rte ∧
    (s.onPtp port f).rnd = s.rnd ∧ (s.onPtp port f).cor = s.cor ∧ (s.onPtp port f).cal = s.cal ∧ (s.onPtp port f).tap = s.tap ∧
    (s.onPtp port f).disp = s.disp ∧ (s.onPtp port f).intg = s.intg ∧ (s.onPtp port f).dblt = s.dblt ∧ (s.onPtp port f).twn = s.twn ∧
    (s.onPtp port f).dac = s.dac ∧ (s.onPtp port f).ddr = s.ddr ∧ (s.onPtp port f).fab = s.fab ∧ (s.onPtp port f).sched = s.sched ∧
    (s.onPtp port f).ord = s.ord ∧ (s.onPtp port f).out = s.out ∧ (s.onPtp port f).free = s.free := by
  repeat' constructor

@[simp] theorem State.onEngine_frame (s : State) (k : Nat) (f : Engine → Engine) :
    (s.onEngine k f).pending = s.pending ∧ (s.onEngine k f).now = s.now ∧ (s.onEngine k f).tick = s.tick ∧ (s.onEngine k f).sys = s.sys ∧
    (s.onEngine k f).key = s.key ∧ (s.onEngine k f).boot = s.boot ∧ (s.onEngine k f).pwr = s.pwr ∧ (s.onEngine k f).clk = s.clk ∧
    (s.onEngine k f).ptm = s.ptm ∧ (s.onEngine k f).macA = s.macA ∧ (s.onEngine k f).macB = s.macB ∧ (s.onEngine k f).macM = s.macM ∧
    (s.onEngine k f).hasp = s.hasp ∧ (s.onEngine k f).net = s.net ∧ (s.onEngine k f).obj = s.obj ∧ (s.onEngine k f).pan = s.pan ∧
    (s.onEngine k f).rte = s.rte ∧ (s.onEngine k f).rnd = s.rnd ∧ (s.onEngine k f).cor = s.cor ∧ (s.onEngine k f).cal = s.cal ∧
    (s.onEngine k f).disp = s.disp ∧ (s.onEngine k f).intg = s.intg ∧ (s.onEngine k f).dblt = s.dblt ∧ (s.onEngine k f).twn = s.twn ∧
    (s.onEngine k f).dac = s.dac ∧ (s.onEngine k f).ddr = s.ddr ∧ (s.onEngine k f).fab = s.fab ∧ (s.onEngine k f).sched = s.sched ∧
    (s.onEngine k f).ord = s.ord ∧ (s.onEngine k f).out = s.out ∧ (s.onEngine k f).free = s.free := by
  repeat' constructor

@[simp] theorem State.onUnit_frame (s : State) (seq : Nat) (f : QUnit → QUnit) :
    (s.onUnit seq f).pending = s.pending ∧ (s.onUnit seq f).now = s.now ∧ (s.onUnit seq f).tick = s.tick ∧ (s.onUnit seq f).sys = s.sys ∧
    (s.onUnit seq f).key = s.key ∧ (s.onUnit seq f).boot = s.boot ∧ (s.onUnit seq f).pwr = s.pwr ∧ (s.onUnit seq f).clk = s.clk ∧
    (s.onUnit seq f).ptm = s.ptm ∧ (s.onUnit seq f).macA = s.macA ∧ (s.onUnit seq f).macB = s.macB ∧ (s.onUnit seq f).macM = s.macM ∧
    (s.onUnit seq f).hasp = s.hasp ∧ (s.onUnit seq f).net = s.net ∧ (s.onUnit seq f).obj = s.obj ∧ (s.onUnit seq f).pan = s.pan ∧
    (s.onUnit seq f).rte = s.rte ∧ (s.onUnit seq f).rnd = s.rnd ∧ (s.onUnit seq f).cor = s.cor ∧ (s.onUnit seq f).cal = s.cal ∧
    (s.onUnit seq f).tap = s.tap ∧ (s.onUnit seq f).intg = s.intg ∧ (s.onUnit seq f).dblt = s.dblt ∧ (s.onUnit seq f).twn = s.twn ∧
    (s.onUnit seq f).dac = s.dac ∧ (s.onUnit seq f).ddr = s.ddr ∧ (s.onUnit seq f).fab = s.fab ∧ (s.onUnit seq f).sched = s.sched ∧
    (s.onUnit seq f).ord = s.ord ∧ (s.onUnit seq f).out = s.out ∧ (s.onUnit seq f).free = s.free := by
  repeat' constructor

@[simp] theorem State.wdiscard_frame (s : State) :
    (s.wdiscard).pending = s.pending ∧ (s.wdiscard).now = s.now ∧ (s.wdiscard).tick = s.tick ∧ (s.wdiscard).key = s.key ∧
    (s.wdiscard).boot = s.boot ∧ (s.wdiscard).pwr = s.pwr ∧ (s.wdiscard).clk = s.clk ∧ (s.wdiscard).ptm = s.ptm ∧ (s.wdiscard).macA = s.macA ∧
    (s.wdiscard).macB = s.macB ∧ (s.wdiscard).macM = s.macM ∧ (s.wdiscard).hasp = s.hasp ∧ (s.wdiscard).net = s.net ∧ (s.wdiscard).obj = s.obj ∧
    (s.wdiscard).pan = s.pan ∧ (s.wdiscard).rte = s.rte ∧ (s.wdiscard).rnd = s.rnd ∧ (s.wdiscard).cor = s.cor ∧ (s.wdiscard).cal = s.cal ∧
    (s.wdiscard).tap = s.tap ∧ (s.wdiscard).disp = s.disp ∧ (s.wdiscard).intg = s.intg ∧ (s.wdiscard).dblt = s.dblt ∧ (s.wdiscard).twn = s.twn ∧
    (s.wdiscard).dac = s.dac ∧ (s.wdiscard).ddr = s.ddr ∧ (s.wdiscard).fab = s.fab ∧ (s.wdiscard).sched = s.sched ∧ (s.wdiscard).ord = s.ord ∧
    (s.wdiscard).out = s.out ∧ (s.wdiscard).free = s.free := by
  repeat' constructor

@[simp] theorem State.coreErr_frame (s : State) (a code : Nat) (write : Bool) :
    (s.coreErr a code write).pending = s.pending ∧ (s.coreErr a code write).now = s.now ∧ (s.coreErr a code write).tick = s.tick ∧
    (s.coreErr a code write).sys = s.sys ∧ (s.coreErr a code write).key = s.key ∧ (s.coreErr a code write).boot = s.boot ∧
    (s.coreErr a code write).pwr = s.pwr ∧ (s.coreErr a code write).clk = s.clk ∧ (s.coreErr a code write).ptm = s.ptm ∧
    (s.coreErr a code write).macA = s.macA ∧ (s.coreErr a code write).macB = s.macB ∧ (s.coreErr a code write).macM = s.macM ∧
    (s.coreErr a code write).hasp = s.hasp ∧ (s.coreErr a code write).net = s.net ∧ (s.coreErr a code write).obj = s.obj ∧
    (s.coreErr a code write).pan = s.pan ∧ (s.coreErr a code write).rte = s.rte ∧ (s.coreErr a code write).rnd = s.rnd ∧
    (s.coreErr a code write).cor = s.cor ∧ (s.coreErr a code write).cal = s.cal ∧ (s.coreErr a code write).tap = s.tap ∧
    (s.coreErr a code write).disp = s.disp ∧ (s.coreErr a code write).intg = s.intg ∧ (s.coreErr a code write).dblt = s.dblt ∧
    (s.coreErr a code write).twn = s.twn ∧ (s.coreErr a code write).dac = s.dac ∧ (s.coreErr a code write).ddr = s.ddr ∧
    (s.coreErr a code write).sched = s.sched ∧ (s.coreErr a code write).ord = s.ord ∧ (s.coreErr a code write).out = s.out := by
  repeat' constructor

@[simp] theorem State.logOpen_frame (s : State) (kind outcome : Nat) :
    (s.logOpen kind outcome).pending = s.pending ∧ (s.logOpen kind outcome).now = s.now ∧ (s.logOpen kind outcome).tick = s.tick ∧
    (s.logOpen kind outcome).sys = s.sys ∧ (s.logOpen kind outcome).key = s.key ∧ (s.logOpen kind outcome).boot = s.boot ∧
    (s.logOpen kind outcome).pwr = s.pwr ∧ (s.logOpen kind outcome).clk = s.clk ∧ (s.logOpen kind outcome).ptm = s.ptm ∧
    (s.logOpen kind outcome).macA = s.macA ∧ (s.logOpen kind outcome).macB = s.macB ∧ (s.logOpen kind outcome).macM = s.macM ∧
    (s.logOpen kind outcome).hasp = s.hasp ∧ (s.logOpen kind outcome).net = s.net ∧ (s.logOpen kind outcome).obj = s.obj ∧
    (s.logOpen kind outcome).pan = s.pan ∧ (s.logOpen kind outcome).rte = s.rte ∧ (s.logOpen kind outcome).rnd = s.rnd ∧
    (s.logOpen kind outcome).cor = s.cor ∧ (s.logOpen kind outcome).cal = s.cal ∧ (s.logOpen kind outcome).tap = s.tap ∧
    (s.logOpen kind outcome).disp = s.disp ∧ (s.logOpen kind outcome).dblt = s.dblt ∧ (s.logOpen kind outcome).twn = s.twn ∧
    (s.logOpen kind outcome).dac = s.dac ∧ (s.logOpen kind outcome).ddr = s.ddr ∧ (s.logOpen kind outcome).fab = s.fab ∧
    (s.logOpen kind outcome).sched = s.sched ∧ (s.logOpen kind outcome).ord = s.ord ∧ (s.logOpen kind outcome).out = s.out := by
  repeat' constructor

@[simp] theorem State.runBlocks_frame (s : State) (n : Nat) :
    (s.runBlocks n).pending = s.pending ∧ (s.runBlocks n).now = s.now ∧ (s.runBlocks n).tick = s.tick ∧ (s.runBlocks n).sys = s.sys ∧
    (s.runBlocks n).key = s.key ∧ (s.runBlocks n).boot = s.boot ∧ (s.runBlocks n).pwr = s.pwr ∧ (s.runBlocks n).clk = s.clk ∧
    (s.runBlocks n).ptm = s.ptm ∧ (s.runBlocks n).macA = s.macA ∧ (s.runBlocks n).macB = s.macB ∧ (s.runBlocks n).macM = s.macM ∧
    (s.runBlocks n).hasp = s.hasp ∧ (s.runBlocks n).net = s.net ∧ (s.runBlocks n).pan = s.pan ∧ (s.runBlocks n).rte = s.rte ∧
    (s.runBlocks n).rnd = s.rnd ∧ (s.runBlocks n).cor = s.cor ∧ (s.runBlocks n).cal = s.cal ∧ (s.runBlocks n).tap = s.tap ∧
    (s.runBlocks n).disp = s.disp ∧ (s.runBlocks n).intg = s.intg ∧ (s.runBlocks n).dblt = s.dblt ∧ (s.runBlocks n).twn = s.twn ∧
    (s.runBlocks n).dac = s.dac ∧ (s.runBlocks n).ddr = s.ddr ∧ (s.runBlocks n).fab = s.fab ∧ (s.runBlocks n).sched = s.sched ∧
    (s.runBlocks n).ord = s.ord ∧ (s.runBlocks n).out = s.out ∧ (s.runBlocks n).free = s.free := by
  repeat' constructor

@[simp] theorem State.setMode_frame (s : State) (m : Mode) :
    (s.setMode m).pending = s.pending ∧ (s.setMode m).now = s.now ∧ (s.setMode m).tick = s.tick ∧ (s.setMode m).key = s.key ∧
    (s.setMode m).boot = s.boot ∧ (s.setMode m).pwr = s.pwr ∧ (s.setMode m).clk = s.clk ∧ (s.setMode m).ptm = s.ptm ∧
    (s.setMode m).macA = s.macA ∧ (s.setMode m).macB = s.macB ∧ (s.setMode m).macM = s.macM ∧ (s.setMode m).hasp = s.hasp ∧
    (s.setMode m).net = s.net ∧ (s.setMode m).obj = s.obj ∧ (s.setMode m).pan = s.pan ∧ (s.setMode m).rte = s.rte ∧ (s.setMode m).rnd = s.rnd ∧
    (s.setMode m).cor = s.cor ∧ (s.setMode m).cal = s.cal ∧ (s.setMode m).tap = s.tap ∧ (s.setMode m).disp = s.disp ∧
    (s.setMode m).intg = s.intg ∧ (s.setMode m).dblt = s.dblt ∧ (s.setMode m).twn = s.twn ∧ (s.setMode m).dac = s.dac ∧
    (s.setMode m).ddr = s.ddr ∧ (s.setMode m).fab = s.fab ∧ (s.setMode m).sched = s.sched ∧ (s.setMode m).ord = s.ord ∧
    (s.setMode m).out = s.out ∧ (s.setMode m).free = s.free := by
  unfold State.setMode; split <;> simp

@[simp] theorem State.setMac_frame (s : State) (port : Nat) (m : MacSt) :
    (s.setMac port m).pending = s.pending ∧ (s.setMac port m).now = s.now ∧ (s.setMac port m).tick = s.tick ∧ (s.setMac port m).sys = s.sys ∧
    (s.setMac port m).key = s.key ∧ (s.setMac port m).boot = s.boot ∧ (s.setMac port m).pwr = s.pwr ∧ (s.setMac port m).clk = s.clk ∧
    (s.setMac port m).ptm = s.ptm ∧ (s.setMac port m).net = s.net ∧ (s.setMac port m).obj = s.obj ∧ (s.setMac port m).pan = s.pan ∧
    (s.setMac port m).rte = s.rte ∧ (s.setMac port m).rnd = s.rnd ∧ (s.setMac port m).cor = s.cor ∧ (s.setMac port m).cal = s.cal ∧
    (s.setMac port m).tap = s.tap ∧ (s.setMac port m).disp = s.disp ∧ (s.setMac port m).intg = s.intg ∧ (s.setMac port m).dblt = s.dblt ∧
    (s.setMac port m).twn = s.twn ∧ (s.setMac port m).dac = s.dac ∧ (s.setMac port m).ddr = s.ddr ∧ (s.setMac port m).fab = s.fab ∧
    (s.setMac port m).sched = s.sched ∧ (s.setMac port m).ord = s.ord ∧ (s.setMac port m).out = s.out ∧ (s.setMac port m).free = s.free := by
  unfold State.setMac; split_ifs <;> simp

@[simp] theorem State.onMac_frame (s : State) (port : Nat) (f : MacSt → MacSt) :
    (s.onMac port f).pending = s.pending ∧ (s.onMac port f).now = s.now ∧ (s.onMac port f).tick = s.tick ∧ (s.onMac port f).sys = s.sys ∧
    (s.onMac port f).key = s.key ∧ (s.onMac port f).boot = s.boot ∧ (s.onMac port f).pwr = s.pwr ∧ (s.onMac port f).clk = s.clk ∧
    (s.onMac port f).ptm = s.ptm ∧ (s.onMac port f).net = s.net ∧ (s.onMac port f).obj = s.obj ∧ (s.onMac port f).pan = s.pan ∧
    (s.onMac port f).rte = s.rte ∧ (s.onMac port f).rnd = s.rnd ∧ (s.onMac port f).cor = s.cor ∧ (s.onMac port f).cal = s.cal ∧
    (s.onMac port f).tap = s.tap ∧ (s.onMac port f).disp = s.disp ∧ (s.onMac port f).intg = s.intg ∧ (s.onMac port f).dblt = s.dblt ∧
    (s.onMac port f).twn = s.twn ∧ (s.onMac port f).dac = s.dac ∧ (s.onMac port f).ddr = s.ddr ∧ (s.onMac port f).fab = s.fab ∧
    (s.onMac port f).sched = s.sched ∧ (s.onMac port f).ord = s.ord ∧ (s.onMac port f).out = s.out ∧ (s.onMac port f).free = s.free := by
  simp [State.onMac]

@[simp] theorem State.queueFrame_frame (s : State) (port : Nat) (f : TxFrame) :
    (s.queueFrame port f).pending = s.pending ∧ (s.queueFrame port f).now = s.now ∧ (s.queueFrame port f).tick = s.tick ∧
    (s.queueFrame port f).sys = s.sys ∧ (s.queueFrame port f).key = s.key ∧ (s.queueFrame port f).boot = s.boot ∧
    (s.queueFrame port f).pwr = s.pwr ∧ (s.queueFrame port f).clk = s.clk ∧ (s.queueFrame port f).ptm = s.ptm ∧
    (s.queueFrame port f).net = s.net ∧ (s.queueFrame port f).obj = s.obj ∧ (s.queueFrame port f).pan = s.pan ∧
    (s.queueFrame port f).rte = s.rte ∧ (s.queueFrame port f).rnd = s.rnd ∧ (s.queueFrame port f).cor = s.cor ∧
    (s.queueFrame port f).cal = s.cal ∧ (s.queueFrame port f).tap = s.tap ∧ (s.queueFrame port f).disp = s.disp ∧
    (s.queueFrame port f).intg = s.intg ∧ (s.queueFrame port f).dblt = s.dblt ∧ (s.queueFrame port f).twn = s.twn ∧
    (s.queueFrame port f).dac = s.dac ∧ (s.queueFrame port f).ddr = s.ddr ∧ (s.queueFrame port f).fab = s.fab ∧
    (s.queueFrame port f).sched = s.sched ∧ (s.queueFrame port f).ord = s.ord ∧ (s.queueFrame port f).out = s.out ∧
    (s.queueFrame port f).free = s.free := by
  simp [State.queueFrame]

@[simp] theorem State.rxCount_frame (s : State) (port : Nat) :
    (s.rxCount port).pending = s.pending ∧ (s.rxCount port).now = s.now ∧ (s.rxCount port).tick = s.tick ∧ (s.rxCount port).sys = s.sys ∧
    (s.rxCount port).key = s.key ∧ (s.rxCount port).boot = s.boot ∧ (s.rxCount port).pwr = s.pwr ∧ (s.rxCount port).clk = s.clk ∧
    (s.rxCount port).ptm = s.ptm ∧ (s.rxCount port).net = s.net ∧ (s.rxCount port).obj = s.obj ∧ (s.rxCount port).pan = s.pan ∧
    (s.rxCount port).rte = s.rte ∧ (s.rxCount port).rnd = s.rnd ∧ (s.rxCount port).cor = s.cor ∧ (s.rxCount port).cal = s.cal ∧
    (s.rxCount port).tap = s.tap ∧ (s.rxCount port).disp = s.disp ∧ (s.rxCount port).intg = s.intg ∧ (s.rxCount port).dblt = s.dblt ∧
    (s.rxCount port).twn = s.twn ∧ (s.rxCount port).dac = s.dac ∧ (s.rxCount port).ddr = s.ddr ∧ (s.rxCount port).fab = s.fab ∧
    (s.rxCount port).sched = s.sched ∧ (s.rxCount port).ord = s.ord ∧ (s.rxCount port).out = s.out ∧ (s.rxCount port).free = s.free := by
  simp [State.rxCount]

@[simp] theorem State.irq_frame (s : State) :
    (s.irq).pending = s.pending ∧ (s.irq).now = s.now ∧ (s.irq).tick = s.tick ∧ (s.irq).sys = s.sys ∧ (s.irq).boot = s.boot ∧
    (s.irq).pwr = s.pwr ∧ (s.irq).clk = s.clk ∧ (s.irq).ptm = s.ptm ∧ (s.irq).macA = s.macA ∧ (s.irq).macB = s.macB ∧ (s.irq).macM = s.macM ∧
    (s.irq).hasp = s.hasp ∧ (s.irq).net = s.net ∧ (s.irq).obj = s.obj ∧ (s.irq).pan = s.pan ∧ (s.irq).rte = s.rte ∧ (s.irq).rnd = s.rnd ∧
    (s.irq).cor = s.cor ∧ (s.irq).cal = s.cal ∧ (s.irq).tap = s.tap ∧ (s.irq).disp = s.disp ∧ (s.irq).intg = s.intg ∧ (s.irq).dblt = s.dblt ∧
    (s.irq).twn = s.twn ∧ (s.irq).dac = s.dac ∧ (s.irq).ddr = s.ddr ∧ (s.irq).fab = s.fab ∧ (s.irq).sched = s.sched ∧ (s.irq).ord = s.ord ∧
    (s.irq).free = s.free := by
  unfold State.irq; dsimp only; split <;> simp

@[simp] theorem State.putRoute_frame (s : State) (t : Nat) (r : RouteRun) :
    (s.putRoute t r).pending = s.pending ∧ (s.putRoute t r).now = s.now ∧ (s.putRoute t r).tick = s.tick ∧ (s.putRoute t r).sys = s.sys ∧
    (s.putRoute t r).key = s.key ∧ (s.putRoute t r).boot = s.boot ∧ (s.putRoute t r).pwr = s.pwr ∧ (s.putRoute t r).clk = s.clk ∧
    (s.putRoute t r).ptm = s.ptm ∧ (s.putRoute t r).macA = s.macA ∧ (s.putRoute t r).macB = s.macB ∧ (s.putRoute t r).macM = s.macM ∧
    (s.putRoute t r).hasp = s.hasp ∧ (s.putRoute t r).net = s.net ∧ (s.putRoute t r).obj = s.obj ∧ (s.putRoute t r).pan = s.pan ∧
    (s.putRoute t r).cor = s.cor ∧ (s.putRoute t r).cal = s.cal ∧ (s.putRoute t r).tap = s.tap ∧ (s.putRoute t r).disp = s.disp ∧
    (s.putRoute t r).intg = s.intg ∧ (s.putRoute t r).dblt = s.dblt ∧ (s.putRoute t r).twn = s.twn ∧ (s.putRoute t r).dac = s.dac ∧
    (s.putRoute t r).ddr = s.ddr ∧ (s.putRoute t r).fab = s.fab ∧ (s.putRoute t r).sched = s.sched ∧ (s.putRoute t r).ord = s.ord ∧
    (s.putRoute t r).out = s.out ∧ (s.putRoute t r).free = s.free := by
  unfold State.putRoute; dsimp only; split_ifs <;> simp [State.onOpen]

@[simp] theorem State.setGate_frame (s : State) (g : Nat) (opened : Bool) :
    (s.setGate g opened).pending = s.pending ∧ (s.setGate g opened).now = s.now ∧ (s.setGate g opened).tick = s.tick ∧
    (s.setGate g opened).sys = s.sys ∧ (s.setGate g opened).key = s.key ∧ (s.setGate g opened).boot = s.boot ∧
    (s.setGate g opened).pwr = s.pwr ∧ (s.setGate g opened).macA = s.macA ∧ (s.setGate g opened).macB = s.macB ∧
    (s.setGate g opened).macM = s.macM ∧ (s.setGate g opened).hasp = s.hasp ∧ (s.setGate g opened).net = s.net ∧
    (s.setGate g opened).obj = s.obj ∧ (s.setGate g opened).pan = s.pan ∧ (s.setGate g opened).rte = s.rte ∧ (s.setGate g opened).rnd = s.rnd ∧
    (s.setGate g opened).cor = s.cor ∧ (s.setGate g opened).cal = s.cal ∧ (s.setGate g opened).tap = s.tap ∧
    (s.setGate g opened).disp = s.disp ∧ (s.setGate g opened).intg = s.intg ∧ (s.setGate g opened).dblt = s.dblt ∧
    (s.setGate g opened).twn = s.twn ∧ (s.setGate g opened).dac = s.dac ∧ (s.setGate g opened).ddr = s.ddr ∧ (s.setGate g opened).fab = s.fab ∧
    (s.setGate g opened).sched = s.sched ∧ (s.setGate g opened).ord = s.ord ∧ (s.setGate g opened).out = s.out ∧
    (s.setGate g opened).free = s.free := by
  unfold State.setGate State.rebase; split_ifs <;> simp

@[simp] theorem State.dropReply_frame (s : State) (r : Reply) :
    (s.dropReply r).pending = s.pending ∧ (s.dropReply r).now = s.now ∧ (s.dropReply r).tick = s.tick ∧ (s.dropReply r).sys = s.sys ∧
    (s.dropReply r).boot = s.boot ∧ (s.dropReply r).pwr = s.pwr ∧ (s.dropReply r).clk = s.clk ∧ (s.dropReply r).ptm = s.ptm ∧
    (s.dropReply r).macA = s.macA ∧ (s.dropReply r).macB = s.macB ∧ (s.dropReply r).macM = s.macM ∧ (s.dropReply r).hasp = s.hasp ∧
    (s.dropReply r).net = s.net ∧ (s.dropReply r).obj = s.obj ∧ (s.dropReply r).pan = s.pan ∧ (s.dropReply r).rte = s.rte ∧
    (s.dropReply r).rnd = s.rnd ∧ (s.dropReply r).cor = s.cor ∧ (s.dropReply r).cal = s.cal ∧ (s.dropReply r).tap = s.tap ∧
    (s.dropReply r).disp = s.disp ∧ (s.dropReply r).intg = s.intg ∧ (s.dropReply r).dblt = s.dblt ∧ (s.dropReply r).twn = s.twn ∧
    (s.dropReply r).dac = s.dac ∧ (s.dropReply r).ddr = s.ddr ∧ (s.dropReply r).fab = s.fab ∧ (s.dropReply r).sched = s.sched ∧
    (s.dropReply r).ord = s.ord ∧ (s.dropReply r).out = s.out ∧ (s.dropReply r).free = s.free := by
  unfold State.dropReply State.replied; dsimp only; split_ifs <;> simp

@[simp] theorem State.dbltPcie_frame (s : State) (off v : Nat) :
    (s.dbltPcie off v).pending = s.pending ∧ (s.dbltPcie off v).now = s.now ∧ (s.dbltPcie off v).tick = s.tick ∧
    (s.dbltPcie off v).sys = s.sys ∧ (s.dbltPcie off v).key = s.key ∧ (s.dbltPcie off v).boot = s.boot ∧ (s.dbltPcie off v).pwr = s.pwr ∧
    (s.dbltPcie off v).clk = s.clk ∧ (s.dbltPcie off v).ptm = s.ptm ∧ (s.dbltPcie off v).macA = s.macA ∧ (s.dbltPcie off v).macB = s.macB ∧
    (s.dbltPcie off v).macM = s.macM ∧ (s.dbltPcie off v).hasp = s.hasp ∧ (s.dbltPcie off v).net = s.net ∧ (s.dbltPcie off v).obj = s.obj ∧
    (s.dbltPcie off v).pan = s.pan ∧ (s.dbltPcie off v).rte = s.rte ∧ (s.dbltPcie off v).rnd = s.rnd ∧ (s.dbltPcie off v).cor = s.cor ∧
    (s.dbltPcie off v).cal = s.cal ∧ (s.dbltPcie off v).tap = s.tap ∧ (s.dbltPcie off v).disp = s.disp ∧ (s.dbltPcie off v).intg = s.intg ∧
    (s.dbltPcie off v).twn = s.twn ∧ (s.dbltPcie off v).dac = s.dac ∧ (s.dbltPcie off v).ddr = s.ddr ∧ (s.dbltPcie off v).fab = s.fab ∧
    (s.dbltPcie off v).sched = s.sched ∧ (s.dbltPcie off v).ord = s.ord ∧ (s.dbltPcie off v).out = s.out ∧ (s.dbltPcie off v).free = s.free := by
  unfold State.dbltPcie; split_ifs <;> simp

end Sys2Proof.Machine
end

