-- ==== Sys2Proof/Laws/Shared.lean ====
section
/-! SUPPORT. What each shared operation does, one lemma an operation: the values its updates write, what a reply touches, what the port guards and the
deadbolt's stages guarantee. -/

namespace Sys2Proof.Machine

/-! Values written. -/

@[simp] theorem State.at_now (s : State) (t : Nat) : (s.at t).now = max s.now t := rfl

@[simp] theorem State.emit_out (s : State) (o : Out) : (s.emit o).out = o :: s.out := rfl

@[simp] theorem State.setMode_mode (s : State) (m : Mode) : (s.setMode m).sys.mode = m := by
  unfold State.setMode
  split <;> simp_all

@[simp] theorem State.mac_setMac (s : State) (port : Nat) (m : MacSt) : (s.setMac port m).mac port = m := by
  unfold State.mac State.setMac
  split_ifs <;> rfl

theorem State.mac_setMac_of_ne (s : State) (p q : Nat) (m : MacSt) (hp : p < 4) (hq : q < 4) (h : p ≠ q) : (s.setMac p m).mac q = s.mac q := by
  unfold State.mac State.setMac
  split_ifs <;> first | rfl | omega

theorem State.objCtx_setObj (s : State) (o : Nat) (c : ObjCtx) (h : tabWf (fun _ => ObjCtx.reset) s.obj.objs = true) (o' : Nat) :
    (s.setObj o c).objCtx o' = if o' = o then c else s.objCtx o' := by
  exact tabGet_tabSet' h o c o'

theorem State.dbltGet_dbltSet (s : State) (off v off' : Nat) (h : tabWf (fun o => wd ((dbltDflt o).getD 0)) s.dblt.settings = true) :
    (s.dbltSet off v).dbltGet off' = if off' = off then v % 2 ^ 32 else s.dbltGet off' := by
  have h2 : (s.dbltSet off v).dbltGet off' =
      (tabGet (wd ((dbltDflt off').getD 0)) (tabSet (wd ((dbltDflt off).getD 0)) s.dblt.settings off (wd v)) off').toNat := rfl
  rw [h2, tabGet_tabSet (d := fun o => wd ((dbltDflt o).getD 0)) h]
  split
  · simp [wd]
  · rfl

/-! Replies. -/

/-- Writing an entry is what leaves the module, and nothing else. -/
theorem State.putEntry_only (s : State) (a : Nat) (b : Bytes) : s.putEntry a b = { s with out := (s.putEntry a b).out } := by
  unfold State.putEntry
  simp only [List.foldl]
  split_ifs <;> rfl

theorem State.replied_only (s : State) (r : Reply) : s.replied r = { s with key := (s.replied r).key } := by
  unfold State.replied
  split_ifs <;> rfl

theorem State.replied_irq_only (s : State) (r : Reply) :
    s.irq.replied r = { s with key := (s.irq.replied r).key, out := (s.irq.replied r).out } := by
  unfold State.replied State.irq
  dsimp only
  split_ifs <;> rfl

/-- A reply that is written to the ring changes the keyway and what has left the module, and nothing else. -/
theorem State.ringPut_frame {s t : State} {r : Reply} (h : s.ringPut r = some t) : t = { s with key := t.key, out := t.out } := by
  unfold State.ringPut at h
  dsimp only at h
  split_ifs at h <;> simp only [Option.some.injEq] at h <;> subst h <;> rw [State.replied_irq_only]
  all_goals first
    | (rw [State.putEntry_only]; done)
    | (rw [State.putEntry_only, State.putEntry_only s])

/-- A reply for the PCIe path changes the keyway and what has left the module, and nothing else. -/
theorem State.ringReply_frame (s : State) (r : Reply) : s.ringReply r = { s with key := (s.ringReply r).key, out := (s.ringReply r).out } := by
  unfold State.ringReply
  split_ifs
  · unfold State.dropReply; rw [State.replied_only]
  · rfl
  · cases h : s.ringPut r with
    | none => rfl
    | some t => exact State.ringPut_frame h

/-- A reply of this module's own commands changes the keyway, the MGMT port's queue and what has left the module, and nothing else. -/
theorem State.sendReply_frame (s : State) (src : CmdSrc) (r : Reply) (h : ∀ n, src ≠ .relay n) :
    s.sendReply src r = { s with key := (s.sendReply src r).key, macM := (s.sendReply src r).macM, out := (s.sendReply src r).out } := by
  cases src with
  | none => rfl
  | relay n => exact absurd rfl (h n)
  | pcie => rw [State.sendReply, State.ringReply_frame]
  | mgmt ip port => rw [State.sendReply, State.replied_only]; rfl

/-! The port guards. -/

/-- What a guard can do to a frame: pass it unchanged, drop it and count it, or take tokens; the settings stay. -/
theorem State.portGuard_cases (s : State) (port dst dport len : Nat) (exempt ptp : Bool) :
    s.portGuard port dst dport len exempt ptp = (true, s) ∨ s.portGuard port dst dport len exempt ptp = (false, s.wlDrop port) ∨
    s.portGuard port dst dport len exempt ptp = (false, (s.setTokens port (s.tokens port)).capDrop port) ∨
    ∃ tok, tok ≤ s.tokens port ∧ s.portGuard port dst dport len exempt ptp = (true, s.setTokens port tok) := by
  unfold State.portGuard
  dsimp only
  split_ifs
  · exact .inl rfl
  · exact .inr (.inl rfl)
  · exact .inl rfl
  · exact .inr (.inr (.inr ⟨_, Nat.sub_le _ _, rfl⟩))
  · exact .inr (.inr (.inl rfl))
  · exact .inr (.inr (.inr ⟨_, Nat.sub_le _ _, rfl⟩))

/-! The deadbolt's stages. -/

theorem clampI_bounds (c : Nat) (x : Int) : -(c : Int) ≤ clampI (-(c : Int)) c x ∧ clampI (-(c : Int)) c x ≤ c := by
  unfold clampI
  split_ifs <;> omega

theorem clampI_ne_iff (c : Nat) (x : Int) : clampI (-(c : Int)) c x ≠ x ↔ x < -(c : Int) ∨ (c : Int) < x := by
  unfold clampI
  split_ifs <;> omega

/-- The ceiling touches the deadbolt's counter and event, and nothing else. -/
theorem State.ceilFeed_frame (s : State) (f : Nat) (xs : List Int) :
    (s.ceilFeed f xs).2 = { s with dblt := (s.ceilFeed f xs).2.dblt } ∧ (s.ceilFeed f xs).2.dblt.settings = s.dblt.settings ∧
    (s.ceilFeed f xs).2.dblt.locked = s.dblt.locked ∧ (s.ceilFeed f xs).2.dblt.feeds = s.dblt.feeds := by
  unfold State.ceilFeed
  dsimp only
  split_ifs <;> exact ⟨rfl, rfl, rfl, rfl⟩

/-- A free value in a range stands in the range. -/
theorem State.freeRange_bounds (s : State) (lo hi : Int) (h : lo ≤ hi) : lo ≤ (s.freeRange lo hi).1 ∧ (s.freeRange lo hi).1 ≤ hi := by
  unfold State.freeRange
  have h1 := Int.emod_nonneg ((Config.freeValue s.free).toNat : Int) (b := hi - lo + 1) (by omega)
  have h2 := Int.emod_lt_of_pos ((Config.freeValue s.free).toNat : Int) (b := hi - lo + 1) (by omega)
  dsimp only
  omega

/-- A setting that reads its reset value is in its range. -/
theorem dblt_at_reset {off d : Nat} (h : dbltDflt off = some d) : dbltInRange off (wd d).toNat = true := by
  have cases : (off = 0xC ∧ d = 0x01044914) ∨ ((off = 0x10 ∨ off = 0x14 ∨ off = 0x18) ∧ d = 0) ∨
      (0x1000 ≤ off ∧ off < 0x3000 ∧ d = 0x7FFFFFFF) ∨ (0x3000 ≤ off ∧ off < 0x4000 ∧ d = 0x0147AE14) ∨ (0x4000 ≤ off ∧ d = 0) := by
    simp only [dbltDflt, regOr, regAt, regArr, List.find?] at h
    by_cases h1 : off = 0xC
    · subst h1; simp at h; omega
    by_cases h2 : off = 0x10
    · subst h2; simp at h; omega
    by_cases h3 : off = 0x14
    · subst h3; simp at h; omega
    by_cases h4 : off = 0x18
    · subst h4; simp at h; omega
    have f : [(0xC, 0x01044914), (0x10, 0), (0x14, 0), (0x18, 0)].find? (fun e : Nat × Nat => e.1 == off) = none := by
      simp [List.find?_eq_none]; omega
    simp only [List.find?] at f
    rw [f] at h
    simp only [Option.map_none] at h
    repeat' split at h
    all_goals simp_all
    all_goals omega
  rcases cases with ⟨rfl, rfl⟩ | ⟨rfl | rfl | rfl, rfl⟩ | ⟨a, b, rfl⟩ | ⟨a, b, rfl⟩ | ⟨a, rfl⟩
  all_goals first
    | decide
    | (simp [dbltInRange, wd]; omega)

/-- Every deadbolt setting is in its range at reset. -/
theorem reset_inRange : State.reset.DbltInRange := fun off h => by
  obtain ⟨d, e⟩ := Option.isSome_iff_exists.1 h
  have g : State.reset.dbltGet off = (wd d).toNat := by simp only [State.dbltGet, e]; rfl
  rw [g]; exact dblt_at_reset e
end Sys2Proof.Machine
end

