-- ==== Sys2Proof/Machine/Windows.lean ====
section
/-! DEFINITION. What the host reads through BAR2 (chapter "Register Map", R544): the staging areas, the correction records, the pair
store, the tables of the running image and of the ROM, and the engines' local SRAM. A read has no side effect. -/

namespace Sys2Proof.Machine

/-- Byte `i` of a table of 32-bit words. -/
def wordByte (f : Nat → Int) (i : Nat) : Nat := code 32 (f (i / 4)) / 2 ^ (8 * (i % 4)) % 256

/-- Byte `a` of engine `k`'s local SRAM: the shard that it holds with the newest input written, and the descriptor of its unit (R225). -/
def State.sramByte (s : State) (k a : Nat) : Nat :=
  let d := match s.unitOn k with
    | some u => u.d.copy
    | none => []
  let w := match (s.engine k).shard with
    | some sh => s.sramAt k sh (s.rnd.nextIn - 1) d (a / 4 * 4)
    | none => if tapRegion a = 0 ∨ tapRegion a = 5 then Config.sramWord k (s.engine k).unitCnt.toNat (a / 4 * 4)
              else s.sramAt k 0 0 d (a / 4 * 4)
  w / 2 ^ (8 * (a % 4)) % 256

/-- Byte `i` of the correction window: the records of R168. -/
def State.corWindowByte (s : State) (i : Nat) : Nat := (corByte s.cor.longMask s.cor.records i).toNat

/-- Byte `i` of the pair-store window (R103): entries of 10 bytes. -/
def State.pairByte (s : State) (i : Nat) : Nat :=
  let b := i / 0x3C0000
  if 2 ≤ b then 0 else tabGet pairIdle s.pan.pairs (393216 * b + i % 0x3C0000 / 10) / 2 ^ (8 * (i % 0x3C0000 % 10)) % 256

/-- Byte `i` of CAL_BANDTAB's window (R188). -/
def State.bandByte (s : State) (i : Nat) : Nat :=
  wordByte (fun w => imgBand s.boot.image (decide (40 ≤ w)) (w % 40 / 5) (w % 5)) i

/-- Byte `i` of CAL_EQTAB's window (R188). -/
def State.eqByte (s : State) (i : Nat) : Nat :=
  let e := i / 20
  rd8 (imgEq s.boot.image (decide (8 * 1501 ≤ e)) (e / 1501 % 8) (((e % 1501 : Nat) : Int) - 900)) (i % 20)

/-- Byte `off` of BAR2 (R544), in a window whose store answers. -/
def State.bar2Byte (s : State) (off : Nat) : Nat :=
  let img := s.boot.image
  if off < 0x2000000 then (memGet s.boot.staging off).toNat
  else if off < 0x4000000 then s.corWindowByte (off - 0x2000000)
  else if off < 0x4800000 then s.pairByte (off - 0x4000000)
  else if off < 0x4900000 then (memGet s.pan.staging (off - 0x4800000)).toNat
  else if off < 0x4A00000 then (memGet s.rte.staging (off - 0x4900000)).toNat
  else if off < 0x4A20000 then wordByte panSine (off - 0x4A00000)
  else if off < 0x4A40000 then wordByte (fun w => imgKernel img (w / 8) (w % 8)) (off - 0x4A20000)
  else if off < 0x4A40800 then wordByte (imgScl img) (off - 0x4A40000)
  else if off < 0x4A41000 then wordByte (imgMkp img) (off - 0x4A40800)
  else if off < 0x4A50000 then s.bandByte (off - 0x4A41000)
  else if off < 0x5000000 then s.eqByte (off - 0x4A50000)
  else s.sramByte ((off - 0x5000000) / 0x400000) ((off - 0x5000000) % 0x400000)

/-- What a host read of `n` bytes at `off` of BAR2 returns (R500, R544), and the state after it: an error is recorded and the data is
all ones. -/
def State.bar2Read (s : State) (off n id : Nat) : Bytes × State :=
  let c := (s.bar2Code off).getD 0
  if c = 0 then ((List.range n).map fun i => BitVec.ofNat 8 (s.bar2Byte (off + i)), s)
  else (List.replicate n 255, s.fabErr { addr := off, hi := 0xB2, master := 12, id, write := false, code := c, ts := s.ts32 })

end Sys2Proof.Machine
end

