-- ==== Sys2Proof/Tests/Slice0.lean ====
section
/-! SUPPORT. The model's own tests: ill-formed commands, which the checks refuse; the worked examples of the spec; and, for every
statement with hypotheses, a state and operands that meet them. -/

set_option Elab.async false
set_option maxRecDepth 100000
set_option linter.unusedVariables false

namespace Sys2Proof.Machine

open Sys2Proof

/-! Ill-formed commands. -/

def someU : Udp := { t := 1000, port := 0, vid := 0, src := 5, dst := 6, sport := 7, dport := 8, body := [] }

def good : Hdr := { src := .pcie, t := 0, tag := 0, length := 0, flags := 0, when := 0 }

/-- A header whose tag does not fit in 16 bits. -/
def badHdr : Hdr := { src := .pcie, t := 0, tag := 65536, length := 0, flags := 0, when := 0 }

/-- Headers that are wrong in one field each. -/
theorem test_wf_header_fields :
    [{ badHdr with tag := 0, src := .none }, { badHdr with tag := 0, src := .relay 1 }, { badHdr with tag := 0, src := .mgmt (2 ^ 32) 0 },
      { badHdr with tag := 0, src := .mgmt 0 65536 }, { badHdr with tag := 0, t := 2 ^ 64 }, badHdr, { badHdr with tag := 0, length := 65536 },
      { badHdr with tag := 0, flags := 65536 }, { badHdr with tag := 0, when := 2 ^ 64 }].all (fun h => !h.wf) = true := by decide

theorem test_wf_header_good : ({ badHdr with tag := 0 } : Hdr).wf = true := by decide

/-- Parameters that no 16-bit length counts. -/
theorem test_wf_long_parameters (h : Hdr) : (Instr.nop h (List.replicate 65536 0)).wf = false := by
  rw [Instr.wf, short, List.length_replicate]; exact Bool.and_false _

/-- Every keyway command with an ill-formed header. -/
theorem test_wf_keyway_commands :
    ([
    .sysInfo, .sysReset, .nop, .renderConfig, .pause, .resume, .dbltWrite, .dbltRead, .imgBegin, .imgData, .imgEnd, .imgStatus,
    .stageCommit, .stageReturn, .objBind, .objSource, .objMove, .objGain, .objSpread, .objZones, .objLayouts, .objAtten, .sceneXform,
    .metaPolicy, .bedGain, .bedBind, .objQuery, .layoutWrite, .layoutLoad, .layoutQuery, .soundSpeed, .pairQuery, .routeMode, .xpMap,
    .routeGain, .routeWrite, .routeCommit, .bedAlign, .latQuery, .corWrite, .corHinge, .corGain, .corLong, .corFold, .corQuery,
    .calCapture, .calEnroll, .calPolicy, .calStart, .calStop, .sweepStart, .sweepStop, .calBaseline, .calVeto, .calReport, .calQuery,
    .netAddr, .vlanSet, .flowInSet, .flowOutSet, .flowQuery, .ptpConfig, .sceneTime, .timeQuery, .timeConvert, .dacConfig, .dacMap,
    .dacSpan, .dacQuery, .pwrQuery, .pwrSleep, .pwrDeep, .pwrWake, .feedExercise, .clkQuery, .twinConfig, .twinJoin, .twinQuery, .logRead,
    .regRead, .regWrite] : List (Hdr → Bytes → Instr)).all (fun c => !(c badHdr []).wf) = true := by decide

/-- Every event that carries only a time, at a time past 64 bits. -/
theorem test_wf_times :
    ([
    .cmdFetchError, .mgmtShortDatagram, .cmdRingEnable, .cmdRingDisable, .rplRingEnable, .rplRingDisable, .replyRingSpace, .keyIrqTimer,
    .sysResetExec, .hostRxEnable, .hostTxEnable, .hostTxDisable, .watchdogExpiry, .resetPin, .wakePin, .deepWakeTimer, .strobeSilent,
    .feedSwitchB, .feedBFailReturn, .feedReturnA, .holdupCarry, .holdupExhausted, .bringupStep, .railRetry, .feedExerciseEnd, .xtalFail,
    .syncTimeout, .ptpPortSwitch, .igmpRepeat, .igmpLeave, .mirrorRetx, .verdictTimeout, .twinWaitExpiry, .joinReqSend, .snapshotSend,
    .joinFailTimeout, .autoJoinRetry, .dacSpanSwitch, .dacSpanFadeUp, .dacSpanDone, .ingressDeadline, .nominalDeadline, .shedWiden,
    .submitRetry, .unitDispatch, .egressReadout, .dcWindowEnd, .yieldTakeEffect, .sleepEntryStep, .wakeStep, .deepEntryStep,
    .pwrQueuedStart, .bootAwaitImage, .imgLoadDone, .firmwareReady, .dacClampOpen] : List (Nat → Instr)).all (fun c => !(c (2 ^ 64)).wf) = true := by decide

/-- Datagrams and PTP messages that are wrong in one field each. -/
theorem test_wf_datagrams :
    ([{ someU with t := 2 ^ 64 }, { someU with port := 4 }, { someU with vid := 4096 }, { someU with src := 2 ^ 32 }, { someU with dst := 2 ^ 32 },
      { someU with sport := 65536 }, { someU with dport := 65536 }] : List Udp).all (fun u =>
        !(Instr.st2110Packet u).wf && !(Instr.icmpEcho u).wf) = true := by decide

/-- Events with an operand past the width of its place: registers, rings, windows, power and clocks. -/
theorem test_wf_operands :
    [(.unknownOpcode good 65536 []), (.padSkip 0 65536), (.mgmtDenied good 65536 []), (.mgmtRepeat good 65536 []), (.keyRingCfgWrite 0 (2 ^ 32) 0),
    (.keyRingCfgWrite 0 0 (2 ^ 32)), (.keyCmdPiWrite 0 (2 ^ 32)), (.keyRplCiWrite 0 (2 ^ 32)), (.w1cClear 0 (2 ^ 32) 0), (.w1cClear 0 0 (2 ^ 32)),
    (.registerWrite 0 (2 ^ 32) 0 0), (.registerWrite 0 0 (2 ^ 32) 0), (.registerWrite 0 0 0 16), (.rndClrMin 0 (2 ^ 32)), (.panClrMax 0 (2 ^ 32)),
    (.dispClrMax 0 (2 ^ 32)), (.intgClrTjmax 0 (2 ^ 32)), (.ddrClrMax 0 (2 ^ 32)), (.pwrClrMinmax 0 (2 ^ 32)), (.tapKctlWrite 0 (2 ^ 32)),
    (.tapInjWrite 0 34 0), (.tapInjWrite 0 0 (2 ^ 32)), (.tapTestEnWrite 0 (2 ^ 32)), (.dbltRegWrite 0 (2 ^ 32) 0), (.dbltRegWrite 0 0 (2 ^ 32)),
    (.imgWindowWrite 0 (2 ^ 32) []), (.corWindowWrite 0 (2 ^ 32) []), (.layoutWindowWrite 0 (2 ^ 32) []), (.routeWindowWrite 0 (2 ^ 32) []),
    (.roWindowWrite 0 (2 ^ 32) []), (.hostRxPiWrite 0 (2 ^ 32) []), (.hostRxPiWrite 0 0 [[]]), (.hostTxPiWrite 0 (2 ^ 32) [] []),
    (.hostTxPiWrite 0 0 [[]] []), (.drainRelease 0 64), (.railFault 0 16), (.powerMonitorSample 0 65536 0 0 0 0), (.pllRefLoss 0 { pll := 9, outstanding := [] }), (.pllRelock 0 9),
    (.gateIdle 0 15), (.gateCloseTimeout 0 15), (.tempSample 0 65536)].all (fun i => !Instr.wf i) = true := by decide

/-! Small states. -/

/-- A packet of the command ring. -/
def pc (n : Nat) : Hdr := { src := .pcie, t := 1000, tag := 1, length := n, flags := 0, when := 0 }

/-- A datagram of the keyway port. -/
def mg (n : Nat) : Hdr := { pc n with src := .mgmt 0xA000001 5000 }

def someRef : ReplyRef := { src := .pcie, opcode := 0x111, tag := 1, aseq := 1 }

def State.inMode (s : State) (m : Mode) : State := { s with sys := { s.sys with mode := m } }

/-- The module in STAGED, with its rings enabled and every gate open. -/
def awake : State :=
  { State.reset with
    sys := { SysSt.reset with mode := .staged }
    boot := { BootSt.reset with state := .done }
    key := { KeySt.reset with cmdEn := true, rplEn := true, cmdSize := 64, rplSize := 64, cmdPi := 32 }
    ddr := { DdrSt.reset with trained0 := true, trained1 := true, next0 := 10, next1 := 10 }
    clk := { ClkSt.reset with gates := (List.range 15).map fun g => { Gate.reset g with run := true, st := .opened }
                              plls := (List.range 9).map fun p => { Pll.reset p with lock := true, bypass := false } } }

/-- The module in RENDER at tick 100, with the deadbolt locked. -/
def live : State :=
  { awake.inMode .render with
    tick := 100
    dblt := { DbltSt.reset with locked := true } }

def locking : State := awake.inMode .locking
def empty : State := { awake.inMode .awaitImage with boot := BootSt.reset }
def receiving : State := { empty with boot := { BootSt.reset with state := .receiving, size := 0xA2764 } }
def verifying : State := { empty with boot := { BootSt.reset with state := .verifying, size := 0xA2764 } }
def cold : State := { empty.inMode .cold with ddr := awake.ddr }
def training : State := { empty.inMode .cold with ddr := { DdrSt.reset with next0 := 3, next1 := 3, tries0 := 1, tries1 := 1 } }
/-- A command that has been relayed and not yet decided. -/
def owing : State :=
  { awake with twn := { awake.twn with relays := [{ seq := 1, op := 0x111, body := [], flags := 0, when := 0, ref := { someRef with aseq := 0 }, decided := none }] } }
def ofCommand : ObjSt := { ObjSt.reset with objs := [(0, { ObjCtx.reset with src := true }), (1, { ObjCtx.reset with src := true })] }
def commanded : State := { awake with obj := ofCommand }
def moving : State := { live with obj := ofCommand }
/-- A metadata entry whose last frame came long ago. -/
def staleFlow : State :=
  { live with tick := 100000, obj := { ObjSt.reset with frameAt := [(5, some 0)] }, net := { NetSt.reset with flowIn := [(5, [1, 1])] } }
def oneLayout : State := { awake with pan := { PanSt.reset with staging := [(0, 1)] } }
def wavefront : State := { awake with pan := { PanSt.reset with image := [(0x42, 1), (0x44, 2)] } }
def graph : State :=
  { awake with rte := { RteSt.reset with graph := true, staging := [(0, 1), (4, 2), (8, 0x90), (9, 1), (14, 1), (0x47, 0x10), (0x4F, 0xF0)] } }
def outRecord (kind : Nat) : Bytes := [1] ++ beB 1 kind ++ [0, 0, 1] ++ zeros 59 ++ leB 2 5 ++ zeros 126
def sending : State := { awake with net := { NetSt.reset with flowOut := [(0, outRecord 0)] } }
def streaming : State := { live with rnd := { RndSt.reset with nextOut := 100 }, net := { NetSt.reset with flowOut := [(0, outRecord 0)] } }
def relaying : State := { live with net := { NetSt.reset with flowOut := [(0, outRecord 1)], relayed := [(0, [[9]], 5)] } }
def someReport : CalReport :=
  { seq := 3, feed := 3, status := 0, decision := 0, start := none, gOld := [], gNew := [], arrival := 0, minConf := 0, req := 0, revert := none }
def reported : State := { awake with cal := { CalSt.reset with reports := [someReport], seq := 3 } }
def reportedLive : State := { live with cal := { CalSt.reset with reports := [someReport], seq := 3 } }
def seeking : State := { live with twn := { TwnSt.reset with state := .seeking, haspUp := true } }
def qualified : State := { awake with now := 600000000, pwr := { PwrSt.reset with bSince := some 0 } }
def choosy : State := { awake with key := { awake.key with allow := [(0, (0xB000001, 32))] } }
def recentCmd : Stored := { ip := 0xA000001, port := 5000, cmd := packetBytes 0x101 (mg 0) [], t := 0, aseq := 0, reply := none }
def recent : State := { awake with key := { awake.key with stored := [recentCmd] } }
def someReply : Reply :=
  { tag := 1, status := .ok, opcode := 0x101, deferred := false, relayed := false, replay := false, payload := [], aseq := 1 }
def shut : State := awake.onGate 4 fun g => { g with st := .closed }
def closing : State := awake.onGate 4 fun g => { g with st := .pending }
def coasting : State := { awake with clk := { awake.clk with plls := modAt awake.clk.plls 7 fun p => { p with coast := true } } }
def linked : State :=
  { awake with macA := { MacSt.reset true with link := true }, macB := { MacSt.reset true with link := true }
               macM := { MacSt.reset true with link := true, ip := 0xA000002 }, hasp := { MacSt.reset false with link := true } }
def someExercise : Exercise := { ref := someRef, start := 0, minB := 12000, maxB := 12500, maxI := 100, transferred := true, fell := false }
def someUdp : Udp := { t := 1000, port := 0, vid := 0, src := 5, dst := 6, sport := 7, dport := 8, body := [] }
def someAnn : Announce := { gm := 7, prio1 := 1, cls := 6, accuracy := 1, variance := 1, prio2 := 1, steps := 0, utc := 37, log := 0, receipt := 3 }
def someMsg : PtpMsg :=
  { t := 1000, port := 0, vid := 0, ip := 5, domain := 127, source := 9, seq := 0, twoStep := false, stamp := 0, corr := 0, rx := 0, logInterval := 0, ann := someAnn }
def someMaster : Foreign := { source := 9, ip := 5, ann := someAnn, heardAt := 0, known := true }
/-- A port that has a master to ask, by multicast. -/
def asking : State :=
  { live with macA := { MacSt.reset true with link := true, ip := 7 }
              ptm := { live.ptm with a := { live.ptm.a with ann := some someAnn, parent := 9, masterIp := 5 }, cfg := { live.ptm.cfg with ports := 3 } } }
/-- The same by unicast, with no ARP entry for the master. -/
def shutOut : State := { asking with ptm := { asking.ptm with cfg := { asking.ptm.cfg with delayMode := 1 } } }
/-- An IPv4 frame for the host. -/
def ipFrame : Bytes := zeros 12 ++ [8, 0]
def someScene : Scene := { num := 25, den := 1, lines := 625, strobe := true, falling := true }
def paired : State := { awake with hasp := { MacSt.reset false with link := true }, twn := { TwnSt.reset with state := .seeking } }
def paired2 : State := { (paired.inMode .render) with macB := { MacSt.reset true with link := true }, dblt := live.dblt }
def someTumbler : Tumbler :=
  { state := 1, decider := false, id := 1, timeLocked := true, ready := false, joinReq := false, reason := 0, digest := 0, tick := 0, appliedHi := 0,
    stateDigest := 0 }
def someMirror : Mirror := { mseq := 1, tick := 101, act := .start }
def someJoin : JoinSt := { asDecider := false, k := 101, g := none, matched := 0, snap := false, first := 0 }
def someSnap : Snapshot :=
  { tick := 101, mseq := 1, startS := 0, ord := 0, mode := .render, obj := .reset, pan := .reset, rte := .reset, cor := .reset, cal := .reset, level := 64,
    dir := .hold, pend := none, retMode := .render, coastLive := false, refLost := false, lostRec := false, declared := [], flowIn := [], flowPend := [],
    relaySeq := [], feeds := [], sched := [] }
def joined : State :=
  { live with rnd := { RndSt.reset with joinSnap := some someSnap, nextOut := 102, lastTick := 101 }
              twn := { TwnSt.reset with state := .alone, haspUp := true, join := some someJoin } }
def joiner : State := { live with twn := { TwnSt.reset with state := .joining, haspUp := true, join := some someJoin } }
def waitingTwin : State :=
  { locking with ptm := { PtmSt.reset with lock := 2 }, twn := { TwnSt.reset with state := .seeking, ready := true, wait := 0 } }
def barred : State :=
  { locking with rnd := { RndSt.reset with startAt := some 9 }, twn := { TwnSt.reset with state := .seeking, haspUp := true, peer := some { someTumbler with id := 0 } } }
def starting : State := { locking with rnd := { RndSt.reset with startAt := some 9 } }
def openAt (n : Nat) (late : Bool) : OpenTick :=
  { tick := n, opened := false, late, mode := .render, level := 64, dir := .hold, halted := false, obj := .reset, sound := [], flowIn := [], flowOut := [], rte := .reset,
    cor := .reset, cal := .reset, pairs := [], rteSat := false, corSat := false }
def opening : State := { live with rnd := { RndSt.reset with open_ := [openAt 100 false], nextIn := 100 } }
def lateNow : State := { live with rnd := { RndSt.reset with open_ := [openAt 100 true], sched := .late } }
def someDesc : Bytes := zeros 4 ++ [0, 8] ++ zeros 14 ++ leB 4 1 ++ zeros 24
def someUnit : QUnit :=
  { d := { parseDesc someDesc with seq := 5 }, lvl := 0, any := false, shadow := false, st := .running 0, ord := 0, readyAt := 0, runs := 1, failedOn := none }
def crowded : State := { awake with disp := { DispSt.reset with queue := List.replicate 2688 someUnit } }
def engineRuns : TapSt := { TapSt.reset with engines := modAt TapSt.reset.engines 0 fun e => { e with st := .run, unit := some 5 } }
def running : State := { awake with tap := engineRuns, disp := { DispSt.reset with queue := [someUnit] } }
def customerUnit : QUnit := { someUnit with d := { someUnit.d with kind := 3, slot := 12, output := false } }
def customerDesc : Bytes := zeros 4 ++ [3, 2] ++ zeros 10 ++ [12] ++ zeros 3 ++ leB 4 1 ++ zeros 24
def customerSlot : KSlot := { loaded := true, disabledOvr := false, budget := 1, overruns := 0 }
/-- An image whose customer slot 12 holds one word: END with COMMIT. -/
def customer : State :=
  { awake with tap := { engineRuns with kslots := List.replicate 4 customerSlot }, disp := { DispSt.reset with queue := [customerUnit] }
               boot := { awake.boot with image := [(6, 1), (0x90, 3), (0x95, 4), (0x443, 0x4A)] } }
/-- The same slot with a budget of no cycle at all. -/
def looping : State := { customer with tap := { customer.tap with kslots := List.replicate 4 { customerSlot with budget := 0 } } }
def armed : State :=
  { running with tap := { running.tap with engines := modAt running.tap.engines 0 fun e => { e with inj := 1 } } }
def halted : State := { awake with tap := { TapSt.reset with engines := modAt TapSt.reset.engines 0 fun e => { e with st := .halt } } }
def someCal : CalFeed :=
  { mode := 1, cap := 0, lagLo := 0, g := [], ref := [], est := [], basePend := [], suspect := false, vetoEnd := 0, lastAdopt := none, arrival := none,
    gHist := [], p := [], stopped := false, since := 0, ended := [] }
def enrolled : State := { live with cal := { CalSt.reset with feeds := [(3, some someCal)] } }
def capturing : State := { live with cal := { CalSt.reset with caps := [(2, { CapChan.reset with live := true, last := some 1000 })] } }
def probing : State := { live.inMode .liveProbe with tick := 0 }
def following : State := { live with twn := { TwnSt.reset with state := .lockstep, decider := false, haspUp := true } }
def capped : State := { live with dblt := { live.dblt with settings := [(0x14, 5)] } }
def enforced : State := { live with dblt := { live.dblt with settings := [(0x18, 1)] } }

/-- A partner of the same identity bars the start. -/
theorem peerBars_of_id {s : State} {m : Tumbler} (h : s.twn.haspUp = true) (g : s.twn.peer = some m) (e : m.id = s.twn.id) :
    s.peerBars = true := by
  simp [State.peerBars, State.peerNow, State.seesPeer, h, g, e]

/-- Events with an operand past the width of its place: ports, units, stores and the twin. -/
theorem test_wf_more_operands :
    [(.announceTimeout 0 4), (.arpRetry 0 4 0), (.arpRetry 0 0 (2 ^ 32)), (.igmpQuery 0 4 0 0), (.igmpQuery 0 0 (2 ^ 32) 0), (.igmpQuery 0 0 0 (2 ^ 32)),
    (.pauseFrame 0 4 0), (.pauseFrame 0 0 65536), (.pauseQuantaEnd 0 4), (.droppedFrame 0 4 { vid := none, nobuf := false }), (.droppedFrame 0 0 { vid := some 4096, nobuf := false }),
    (.hostRxFrame 0 (some 65536) []), (.frameLaunch 0 4), (.mediaPacketLaunch 0 2048), (.sadmRelaySend 0 2048), (.objStale 2048), (.modulatorReset 0 16),
    (.unitSubmit 0 8 (zeros 48)), (.unitSubmit 0 0 (zeros 47)), (.unitCommit 0 { engine := 34, ring := [] }), (.unitEndNoCommit 0 34), (.unitFault 0 34 0 { addr := 0, lane := 0 }),
    (.unitFault 0 0 256 { addr := 0, lane := 0 }), (.unitFault 0 0 0 { addr := 2 ^ 32, lane := 0 }), (.unitFault 0 0 0 { addr := 0, lane := 32 }), (.budgetInterrupt 0 34), (.haltRequest 0 34), (.haltRelease 0 34), (.dbltParityCheck 0 { feeds := [768], words := 0 }), (.dbltParityCheck 0 { feeds := [], words := 4096 }),
    (.captureNotLive 0 64), (.engineSelftestDone 0 [34]), (.mr4Read 0 8), (.dramScrub 0 { pass := true, bad := [{ ch := 2, addr := 0, merge := false, req := none }] }),
    (.dramScrub 0 { pass := true, bad := [{ ch := 0, addr := 0xF0000000, merge := false, req := none }] }), (.requestPromote 0 0),
    (.requestPromote 0 4), (.lowPowerIdle 0 { port := 4, partner := none }), (.wdogKick { t := 2 ^ 64, faults := [] }), (.wdogKick { t := 0, faults := [.calState 768 0] }),
    (.geometryBankComplete { t := 2 ^ 64, faults := [] }), (.rxFcsError 0 4), (.resetPinRelease 0 16 false), (.ackRx 0 (2 ^ 32) .hasp 0), (.ackRx 0 0 .hasp (2 ^ 32)),
    (.snapshotRx 0 0 { someSnap with rte := { RteSt.reset with staging := [(0, 0)] } })].all (fun i => !Instr.wf i) = true := by decide

/-! Worked examples of the spec. -/

/-- The move of 02: 3,600 mm in 1,440 ticks from rest, at j = 30, 720 and 1,440. -/
theorem test_example_move :
    ([30, 720, 1440].map fun j => (hermitePos (-460800) 0 460800 j 1440 + 460800, hermiteVel (-460800) 0 460800 j 1440))
      = [(791, 13440), (345600, 204800), (921600, 163840)] := by decide +kernel

/-- The stadium of 03: object 200 and the loudspeaker of feed 300. -/
theorem test_example_pair :
    isqrt (2600000000 * 65536) = 13053489 ∧ rawDelay false 13053489 0 343000 = 29239925 ∧ reachWeight false 29239925 = 0x7FFFFFFF ∧
      gainEncode 149615185 = 0x183A := by decide +kernel

/-- The gain fault of 09: the levels that the rise guard allows from block k on. -/
theorem test_example_rise_guard :
    [0x1000000, 0x2000000, 0x4000000, 0x8000000].map (guardLevel 0x40000000 0x2000000 1) = [0x2000000, 0x4000000, 0x8000000, 0x10000000] ∧
      guardBlock 0x40000000 0x2000000 1 0x1000000 [0x10000000] = ([0x2000000], true) ∧
      guardBlock 0x40000000 0x2000000 1 0x8000000 [0x10000000] = ([0x10000000], false) := by decide +kernel

/-- The loop word of 07: TAPM, and a loop of 63 iterations over the next word. -/
theorem test_example_tap_loop :
    (match tapWord { customer := true, slot := 12, limit := 100, inj := 0, prog := fun k => if k = 0 then 0x0C252780461F0000 else 0x0C25268000000000, sram := fun _ => 0 }
        { TapCpu.start with regs := [(0x10, 0x278000), (0x11, 0x259F80), (0x12, 0x25C000), (0x19, 0x3FFF80), (0x1A, 0x3FFF80), (0x1B, 128)] } with
      | .run c => decide (c.loops = [{ lvl := 1, first := 1, last := 1, left := 63 }] ∧ c.pc = 1)
      | _ => false) = true := by decide +kernel

/-- The boundary of 14: line 562 of frame 3,000,000 at 60,000/1,001 Hz and 1,125 lines. -/
theorem test_example_scene_line :
    ({ State.reset with ptm := { PtmSt.reset with phi := 0 } } : State).sceneSample
      { num := 60000, den := 1001, lines := 1125, strobe := false, falling := false } 3000000 562 = 2402400401 := by decide +kernel

/-- The replies of 11: 24 bytes of command take one slot, a reply of 144 bytes takes three. -/
theorem test_example_ring_slots : slotsOf 8 = 1 ∧ slotsOf 128 = 3 := by decide

/-- The ceiling of 20: 0x4000_0000 to feed 300 while STAGED. -/
theorem test_example_ceiling_set :
    (match step { awake with pending := [.dbltRegWrite 10 0x14B0 0x40000000] } with
      | .next t => decide (t.dbltGet 0x14B0 = 0x40000000 ∧ t.pending = [])
      | _ => false) = true := by decide +kernel

/-- The ceiling of 20, tried again after the lock: discarded and counted. -/
theorem test_example_ceiling_locked :
    (match step { live with pending := [.dbltRegWrite 10 0x14B0 0x7FFFFFFF] } with
      | .next t => decide (t.dbltGet 0x14B0 = 0x7FFFFFFF ∧ t.dblt.settings = [] ∧ t.dblt.lockedWrCnt = 1)
      | _ => false) = true := by decide +kernel

/-- The dispatch of MGMT commands names every opcode of the table once. -/
theorem test_commands_distinct : (allCmds.map (·.op)).Nodup ∧ allCmds.length = 81 := by decide +kernel

/-- Reset: COLD, with nothing waiting. -/
theorem test_reset_mode : State.reset.sys.mode = .cold ∧ State.reset.pending = [] := by decide

/-! A state and operands that meet the hypotheses of each statement; one theorem a statement, one clause a clause. -/

/-- Some packet that the command accepts meets the condition. -/
def Meets (c : Cmd) (pre : CmdIn → State → Prop) : Prop :=
  ∃ h p s, accepted c h p s = true ∧ pre (inputOf c h p s) (taken c.op h p s)

/-- Some packet and some boundary meet the condition. -/
def MeetsFor (c : Cmd) (pre : CmdIn → State → Nat → Prop) : Prop :=
  ∃ h p s n, accepted c h p s = true ∧ pre (inputOf c h p s) (taken c.op h p s) n

/-- Some packet and some boundary meet the condition, and fewer than 1,024 deferred replies are due. -/
def MeetsDue (c : Cmd) (pre : CmdIn → State → Nat → Prop) (eff : CmdIn → State → Nat → State) : Prop :=
  ∃ h p s n, accepted c h p s = true ∧ pre (inputOf c h p s) (taken c.op h p s) n ∧
    (eff (inputOf c h p s) (taken c.op h p s) n).key.due.length < 1024

theorem test_hypotheses_SystemCommandsComplete :
    (Meets sysInfoCmd (fun _ _ => True)) ∧
    (Meets sysResetCmd (fun _ _ => True)) ∧
    (Meets nopCmd (fun i u => u.nopWaits i.ref = false)) ∧
    (∃ (h : _) (p : _) (s : State) (u : _), u = taken 0x103 h p s ∧ accepted nopCmd h p s = true ∧ u.nopWaits (refOf 0x103 h p s) = true) ∧
    (Meets logReadCmd (fun i u => zeroAt i.body 6 2 = true ∧ 1 ≤ rd16 i.body 4 ∧ rd16 i.body 4 ≤ 63 ∧ u.intg.head ≤ rd32 i.body 0 + 65536)) ∧
    (Meets regReadCmd (fun i u => zeroAt i.body 6 2 = true ∧ rd32 i.body 0 % 4 = 0 ∧ 1 ≤ rd16 i.body 4 ∧ rd16 i.body 4 ≤ 256 ∧
        ∀ k < rd16 i.body 4, u.bar0Code (rd32 i.body 0 + 4 * k) = some 0)) ∧
    (Meets regReadCmd (fun i u => zeroAt i.body 6 2 = true ∧ rd32 i.body 0 % 4 = 0 ∧ rd16 i.body 4 = 1 ∧ u.bar0Code (rd32 i.body 0) = some 2)) ∧
    (∃ (h : _) (p : _) (s : State) (u : _) (e : _), u = taken 0xB02 h p s ∧ accepted regReadCmd h p s = true ∧ zeroAt p 6 2 = true ∧ rd32 p 0 % 4 = 0 ∧ 1 ≤ rd16 p 4 ∧ rd16 p 4 ≤ 256 ∧
      u.bar0Code (rd32 p 0) = some e ∧ (e = 3 ∨ e = 4)) ∧
    (Meets regWriteCmd (fun i u => zeroAt i.body 6 2 = true ∧ rd32 i.body 0 % 4 = 0 ∧ 1 ≤ rd16 i.body 4 ∧ rd16 i.body 4 ≤ 64 ∧
        ∀ k < rd16 i.body 4, u.regWritable (rd32 i.body 0 + 4 * k) = true ∧
          badSetting (rd32 i.body 0 + 4 * k) (rd32 i.body (8 + 4 * k)) = false ∧
          (u.writeRegs (rd32 i.body 0) i.body k).bar0Code (rd32 i.body 0 + 4 * k) = some 0)) :=
  ⟨⟨(pc 0), [], awake, by decide +kernel, by beta_reduce; decide +kernel⟩,
   ⟨(pc 0), [], awake, by decide +kernel, by beta_reduce; decide +kernel⟩,
   ⟨(pc 0), [], awake, by decide +kernel, by beta_reduce; decide +kernel⟩,
   ⟨pc 0, [], owing, _, rfl, by decide +kernel⟩,
   ⟨(pc 8), leB 4 0 ++ leB 2 63 ++ zeros 2, awake, by decide +kernel, by beta_reduce; decide +kernel⟩,
   ⟨(pc 8), leB 4 0 ++ leB 2 11 ++ zeros 2, awake, by decide +kernel, by beta_reduce; decide +kernel⟩,
   ⟨(pc 8), leB 4 0xFFFFF0 ++ leB 2 1 ++ zeros 2, awake, by decide +kernel, by beta_reduce; decide +kernel⟩,
   ⟨pc 8, leB 4 0x60000 ++ leB 2 1 ++ zeros 2, shut, _, 3, rfl, by decide +kernel⟩,
   ⟨(pc 12), leB 4 0x24 ++ leB 2 1 ++ zeros 2 ++ leB 4 77, awake, by decide +kernel, by beta_reduce; decide +kernel⟩⟩

theorem test_hypotheses_SetupCommandsComplete :
    (Meets renderConfigCmd (fun i u => u.sys.mode = .staged ∧ rd8 i.body 0 ≤ 1 ∧ zeroAt i.body 1 3 = true)) ∧
    (Meets dbltWriteCmd (fun i u => u.sys.mode = .staged ∧ u.dblt.locked = false ∧ dbltForm i.body = true ∧
        ∀ k < rd16 i.body 4 / 4, (dbltDflt (rd32 i.body 0 + 4 * k)).isSome = true ∧
          dbltInRange (rd32 i.body 0 + 4 * k) (rd32 i.body (8 + 4 * k)) = true)) ∧
    (Meets dbltReadCmd (fun i u => dbltForm i.body = true ∧ (∀ k < rd16 i.body 4 / 4, (dbltView u (rd32 i.body 0 + 4 * k)).isSome = true) ∧
        (u.bar0Code (0x330000 + rd32 i.body 0) = some 0 ∨ u.bar0Code (0x330000 + rd32 i.body 0) = none))) ∧
    (Meets imgBeginCmd (fun i u => u.sys.mode = .awaitImage ∧ zeroAt i.body 4 4 = true ∧ 0xA2764 ≤ rd32 i.body 0 ∧ rd32 i.body 0 ≤ 0x2000000 ∧
        u.boot.late = false ∧ u.dramOk = true)) ∧
    (Meets imgDataCmd (fun i u => u.sys.mode = .awaitImage ∧ u.boot.state = .receiving ∧ zeroAt i.body 6 2 = true ∧ 1 ≤ rd16 i.body 4 ∧
        rd16 i.body 4 ≤ 1424 ∧ rd32 i.body 0 + rd16 i.body 4 ≤ u.boot.size ∧ u.boot.late = false ∧ u.dramOk = true)) ∧
    (Meets imgEndCmd (fun _ u => u.sys.mode = .awaitImage ∧ u.boot.state = .receiving ∧ u.boot.badLine = none ∧ u.dramOk = true)) ∧
    (Meets imgStatusCmd (fun _ _ => True)) ∧
    (Meets stageCommitCmd (fun i u => u.sys.mode = .staged ∧ (rd32 i.body 0 = 0 ∨ rd32 i.body 0 = u.dblt.digest.toNat) ∧ u.cannotRender = false)) ∧
    (Meets stageReturnCmd (fun _ u => u.sys.mode = .locking)) :=
  ⟨⟨(pc 4), [1, 0, 0, 0], awake, by decide +kernel, by beta_reduce; decide +kernel⟩,
   ⟨(pc 12), leB 4 0xC ++ leB 2 4 ++ zeros 2 ++ leB 4 1, awake, by decide +kernel, by beta_reduce; decide +kernel⟩,
   ⟨(pc 8), leB 4 0xC ++ leB 2 16 ++ zeros 2, awake, by decide +kernel, by beta_reduce; decide +kernel⟩,
   ⟨(pc 8), leB 4 0x2000000 ++ zeros 4, empty, by decide +kernel, by beta_reduce; decide +kernel⟩,
   ⟨(pc 10), leB 4 (0xA2764 - 2) ++ leB 2 2 ++ zeros 2 ++ [7, 8], receiving, by decide +kernel, by beta_reduce; decide +kernel⟩,
   ⟨(pc 0), [], receiving, by decide +kernel, by beta_reduce; decide +kernel⟩,
   ⟨(pc 0), [], receiving, by decide +kernel, by beta_reduce; decide +kernel⟩,
   ⟨(pc 4), leB 4 0, awake, by decide +kernel, by beta_reduce; decide +kernel⟩,
   ⟨(pc 0), [], locking, by decide +kernel, by beta_reduce; decide +kernel⟩⟩

theorem test_hypotheses_PauseResumeAccepted :
    (MeetsDue pauseCmd (fun i u n => u.pausable = true ∧ u.boundary i u.firstNext = .ok n)
      (fun i u n => u.setPause { resume := false, tick := n, ref := i.ref })) ∧
    (Meets pauseCmd (fun _ u => u.pausable = false)) ∧
    (Meets pauseCmd (fun i u => u.pausable = true ∧ u.boundary i u.firstNext = .late)) ∧
    (MeetsDue resumeCmd (fun i u n => u.pausable = true ∧ u.boundary i u.firstNext = .ok n)
      (fun i u n => u.setPause { resume := true, tick := n, ref := i.ref })) ∧
    (Meets resumeCmd (fun _ u => u.pausable = false)) ∧
    (Meets resumeCmd (fun i u => u.pausable = true ∧ u.boundary i u.firstNext = .late)) :=
  ⟨⟨(pc 0), [], live, 101, by decide +kernel, by beta_reduce; decide +kernel, by decide +kernel⟩,
   ⟨(pc 0), [], awake, by decide +kernel, by beta_reduce; decide +kernel⟩,
   ⟨{ pc 0 with when := 1, flags := 0 }, [], live, by decide +kernel, by beta_reduce; decide +kernel⟩,
   ⟨(pc 0), [], live, 101, by decide +kernel, by beta_reduce; decide +kernel, by decide +kernel⟩,
   ⟨(pc 0), [], awake, by decide +kernel, by beta_reduce; decide +kernel⟩,
   ⟨{ pc 0 with when := 1, flags := 0 }, [], live, by decide +kernel, by beta_reduce; decide +kernel⟩⟩

theorem test_hypotheses_ObjectBlockCommandsComplete :
    (Meets objBindCmd (fun i u => BlockAdmitted false false (fun b => zeroAt b 2 2 = true ∧ zeroAt b 8 4 = true) i u u.tick ∧ u.staged = true)) ∧
    (MeetsFor objBindCmd (fun i u n => BlockAdmitted false false (fun b => zeroAt b 2 2 = true ∧ zeroAt b 8 4 = true) i u n ∧ BlockWaits false i u n)) ∧
    (Meets objSourceCmd (fun i u => BlockAdmitted false false (fun b => rd16 b 2 ≤ 1 ∧ zeroAt b 4 8 = true) i u u.tick ∧ u.staged = true)) ∧
    (MeetsFor objSourceCmd (fun i u n => BlockAdmitted false false (fun b => rd16 b 2 ≤ 1 ∧ zeroAt b 4 8 = true) i u n ∧ BlockWaits false i u n)) ∧
    (Meets objMoveCmd (fun i u => BlockAdmitted false true (fun b => zeroAt b 2 2 = true ∧ venueOk (rdS32 b 4) = true ∧ venueOk (rdS32 b 8) = true ∧ venueOk (rdS32 b 12) = true ∧ rd32 b 16 ≤ 1048560) i u u.tick ∧ u.staged = true)) ∧
    (MeetsFor objMoveCmd (fun i u n => BlockAdmitted false true (fun b => zeroAt b 2 2 = true ∧ venueOk (rdS32 b 4) = true ∧ venueOk (rdS32 b 8) = true ∧ venueOk (rdS32 b 12) = true ∧ rd32 b 16 ≤ 1048560) i u n ∧ BlockWaits false i u n)) ∧
    (Meets objGainCmd (fun i u => BlockAdmitted false true (fun b => rd8 b 2 < 3 ∧ rd8 b 3 = 0 ∧ rd32 b 8 ≤ 1048560) i u u.tick ∧ u.staged = true)) ∧
    (MeetsFor objGainCmd (fun i u n => BlockAdmitted false true (fun b => rd8 b 2 < 3 ∧ rd8 b 3 = 0 ∧ rd32 b 8 ≤ 1048560) i u n ∧ BlockWaits false i u n)) ∧
    (Meets objSpreadCmd (fun i u => BlockAdmitted false true (fun b => rd8 b 2 ≤ 1 ∧ rd8 b 3 = 0 ∧ rd32 b 4 ≤ (if rd8 b 2 = 1 then 32768 else 8388607) ∧ rd32 b 8 ≤ 1048560) i u u.tick ∧ u.staged = true)) ∧
    (MeetsFor objSpreadCmd (fun i u n => BlockAdmitted false true (fun b => rd8 b 2 ≤ 1 ∧ rd8 b 3 = 0 ∧ rd32 b 4 ≤ (if rd8 b 2 = 1 then 32768 else 8388607) ∧ rd32 b 8 ≤ 1048560) i u n ∧ BlockWaits false i u n)) ∧
    (Meets objZonesCmd (fun i u => BlockAdmitted false true (fun b => rd8 b 2 ≤ 4 ∧ rd8 b 3 = 0 ∧ ∀ k < rd8 b 2, (zoneAt b k).ok = true) i u u.tick ∧ u.staged = true)) ∧
    (MeetsFor objZonesCmd (fun i u n => BlockAdmitted false true (fun b => rd8 b 2 ≤ 4 ∧ rd8 b 3 = 0 ∧ ∀ k < rd8 b 2, (zoneAt b k).ok = true) i u n ∧ BlockWaits false i u n)) ∧
    (Meets objLayoutsCmd (fun i u => BlockAdmitted false false (fun b => zeroAt b 4 8 = true) i u u.tick ∧ u.staged = true)) ∧
    (MeetsFor objLayoutsCmd (fun i u n => BlockAdmitted false false (fun b => zeroAt b 4 8 = true) i u n ∧ BlockWaits false i u n)) ∧
    (Meets objAttenCmd (fun i u => BlockAdmitted false false (fun b => rd16 b 2 ≤ 3 ∧ 1 ≤ rd32 b 4 ∧ rd32 b 4 ≤ rd32 b 8) i u u.tick ∧ u.staged = true)) ∧
    (MeetsFor objAttenCmd (fun i u n => BlockAdmitted false false (fun b => rd16 b 2 ≤ 3 ∧ 1 ≤ rd32 b 4 ∧ rd32 b 4 ≤ rd32 b 8) i u n ∧ BlockWaits false i u n)) ∧
    (Meets bedGainCmd (fun i u => BlockAdmitted true false (fun b => rd8 b 2 < 3 ∧ rd8 b 3 = 0 ∧ rd32 b 8 ≤ 1048560) i u u.tick ∧ u.staged = true)) ∧
    (MeetsFor bedGainCmd (fun i u n => BlockAdmitted true false (fun b => rd8 b 2 < 3 ∧ rd8 b 3 = 0 ∧ rd32 b 8 ≤ 1048560) i u n ∧ BlockWaits true i u n)) ∧
    (Meets bedBindCmd (fun i u => BlockAdmitted true false (fun b => zeroAt b 2 2 = true ∧ zeroAt b 8 4 = true) i u u.tick ∧ u.staged = true)) ∧
    (MeetsFor bedBindCmd (fun i u n => BlockAdmitted true false (fun b => zeroAt b 2 2 = true ∧ zeroAt b 8 4 = true) i u n ∧ BlockWaits true i u n)) :=
  ⟨⟨(pc 12), leB 2 511 ++ zeros 2 ++ leB 4 9 ++ zeros 4, commanded, by decide +kernel, by simp only [BlockAdmitted]; decide +kernel⟩,
   ⟨(pc 12), leB 2 511 ++ zeros 2 ++ leB 4 9 ++ zeros 4, moving, 101, by decide +kernel, by simp only [BlockAdmitted, BlockWaits]; decide +kernel⟩,
   ⟨(pc 12), leB 2 0 ++ leB 2 1 ++ zeros 8, commanded, by decide +kernel, by simp only [BlockAdmitted]; decide +kernel⟩,
   ⟨(pc 12), leB 2 0 ++ leB 2 1 ++ zeros 8, moving, 101, by decide +kernel, by simp only [BlockAdmitted, BlockWaits]; decide +kernel⟩,
   ⟨(pc 20), leB 2 1 ++ zeros 2 ++ leI 4 (-8388607) ++ leI 4 8388607 ++ zeros 4 ++ leB 4 1048560, commanded, by decide +kernel, by simp only [BlockAdmitted]; decide +kernel⟩,
   ⟨(pc 20), leB 2 1 ++ zeros 2 ++ leI 4 (-8388607) ++ leI 4 8388607 ++ zeros 4 ++ leB 4 1048560, moving, 101, by decide +kernel, by simp only [BlockAdmitted, BlockWaits]; decide +kernel⟩,
   ⟨(pc 12), leB 2 1 ++ [0, 0] ++ leI 4 (-5) ++ leB 4 64, commanded, by decide +kernel, by simp only [BlockAdmitted]; decide +kernel⟩,
   ⟨(pc 12), leB 2 1 ++ [0, 0] ++ leI 4 (-5) ++ leB 4 64, moving, 101, by decide +kernel, by simp only [BlockAdmitted, BlockWaits]; decide +kernel⟩,
   ⟨(pc 12), leB 2 1 ++ [1, 0] ++ leB 4 32768 ++ leB 4 0, commanded, by decide +kernel, by simp only [BlockAdmitted]; decide +kernel⟩,
   ⟨(pc 12), leB 2 1 ++ [1, 0] ++ leB 4 32768 ++ leB 4 0, moving, 101, by decide +kernel, by simp only [BlockAdmitted, BlockWaits]; decide +kernel⟩,
   ⟨(pc 28), leB 2 1 ++ [1, 0] ++ zeros 24, commanded, by decide +kernel, by simp only [BlockAdmitted]; decide +kernel⟩,
   ⟨(pc 28), leB 2 1 ++ [1, 0] ++ zeros 24, moving, 101, by decide +kernel, by simp only [BlockAdmitted, BlockWaits]; decide +kernel⟩,
   ⟨(pc 12), leB 2 1 ++ leB 2 65535 ++ zeros 8, commanded, by decide +kernel, by simp only [BlockAdmitted]; decide +kernel⟩,
   ⟨(pc 12), leB 2 1 ++ leB 2 65535 ++ zeros 8, moving, 101, by decide +kernel, by simp only [BlockAdmitted, BlockWaits]; decide +kernel⟩,
   ⟨(pc 12), leB 2 1 ++ leB 2 3 ++ leB 4 1 ++ leB 4 1, commanded, by decide +kernel, by simp only [BlockAdmitted]; decide +kernel⟩,
   ⟨(pc 12), leB 2 1 ++ leB 2 3 ++ leB 4 1 ++ leB 4 1, moving, 101, by decide +kernel, by simp only [BlockAdmitted, BlockWaits]; decide +kernel⟩,
   ⟨(pc 12), leB 2 127 ++ [2, 0] ++ leI 4 5 ++ leB 4 64, commanded, by decide +kernel, by simp only [BlockAdmitted]; decide +kernel⟩,
   ⟨(pc 12), leB 2 127 ++ [2, 0] ++ leI 4 5 ++ leB 4 64, moving, 101, by decide +kernel, by simp only [BlockAdmitted, BlockWaits]; decide +kernel⟩,
   ⟨(pc 12), leB 2 127 ++ zeros 2 ++ leB 4 9 ++ zeros 4, commanded, by decide +kernel, by simp only [BlockAdmitted]; decide +kernel⟩,
   ⟨(pc 12), leB 2 127 ++ zeros 2 ++ leB 4 9 ++ zeros 4, moving, 101, by decide +kernel, by simp only [BlockAdmitted, BlockWaits]; decide +kernel⟩⟩

theorem test_hypotheses_SceneAndLayoutCommandsComplete :
    (Meets sceneXformCmd (fun i u => u.sys.mode = .staged ∧ (∀ k < 4, inRange 1 8388607 (rdS32 i.body (12 + 4 * k)) = true) ∧ zeroAt i.body 30 2 = true)) ∧
    (Meets metaPolicyCmd (fun i _ => rd16 i.body 0 < 1024 ∧ rd8 i.body 2 ≤ 1 ∧ rd8 i.body 3 = 0 ∧ 40 ≤ rd32 i.body 4 ∧ rd32 i.body 4 ≤ 10000)) ∧
    (Meets objQueryCmd (fun i u => rd16 i.body 0 < objCount u.rnd.rate96 ∧ zeroAt i.body 2 2 = true)) ∧
    (Meets layoutWriteCmd (fun i u => u.sys.mode = .staged ∧ 1 ≤ rd16 i.body 4 ∧ rd16 i.body 4 ≤ 1024 ∧ rd32 i.body 0 + rd16 i.body 4 ≤ layoutLen ∧
        zeroAt i.body 6 2 = true)) ∧
    (Meets layoutLoadCmd (fun _ u => u.sys.mode = .staged ∧ layoutCheck u.pan.staging (feedCount u.rnd.rate96) = none)) ∧
    (Meets layoutQueryCmd (fun i _ => rd8 i.body 0 < 16 ∧ zeroAt i.body 1 3 = true)) ∧
    (Meets soundSpeedCmd (fun i u => rd8 i.body 0 < 16 ∧ zeroAt i.body 1 3 = true ∧ 300000 ≤ rd32 i.body 4 ∧ rd32 i.body 4 ≤ 380000 ∧
        1 ≤ rd32 i.body 8 ∧ rd32 i.body 8 ≤ 65535 ∧ (layoutRec u.pan.image (rd8 i.body 0)).count ≠ 0 ∧
        (layoutRec u.pan.image (rd8 i.body 0)).method = 2 ∧ u.staged = true)) ∧
    (MeetsFor soundSpeedCmd (fun i u n => rd8 i.body 0 < 16 ∧ zeroAt i.body 1 3 = true ∧ 300000 ≤ rd32 i.body 4 ∧ rd32 i.body 4 ≤ 380000 ∧
        1 ≤ rd32 i.body 8 ∧ rd32 i.body 8 ≤ 65535 ∧ (layoutRec u.pan.image (rd8 i.body 0)).count ≠ 0 ∧
        (layoutRec u.pan.image (rd8 i.body 0)).method = 2 ∧ u.staged = false ∧ u.boundary i u.firstCut = .ok n)) ∧
    (Meets pairQueryCmd (fun i u => rd16 i.body 0 < objCount u.rnd.rate96 ∧ rd16 i.body 2 < feedCount u.rnd.rate96)) :=
  ⟨⟨(pc 32), zeros 12 ++ leB 4 1 ++ leB 4 8388607 ++ leB 4 5 ++ leB 4 5 ++ leB 2 65535 ++ zeros 2, awake, by decide +kernel, by beta_reduce; decide +kernel⟩,
   ⟨(pc 8), leB 2 1023 ++ [1, 0] ++ leB 4 40, live, by decide +kernel, by beta_reduce; decide +kernel⟩,
   ⟨(pc 4), leB 2 511 ++ zeros 2, awake, by decide +kernel, by beta_reduce; decide +kernel⟩,
   ⟨(pc 9), leB 4 0x8443F ++ leB 2 1 ++ zeros 2 ++ [5], awake, by decide +kernel, by beta_reduce; decide +kernel⟩,
   ⟨(pc 0), [], oneLayout, by decide +kernel, by beta_reduce; decide +kernel⟩,
   ⟨(pc 4), [15, 0, 0, 0], awake, by decide +kernel, by beta_reduce; decide +kernel⟩,
   ⟨(pc 12), leB 4 0 ++ leB 4 300000 ++ leB 4 65535, wavefront, by decide +kernel, by beta_reduce; decide +kernel⟩,
   ⟨(pc 12), leB 4 0 ++ leB 4 380000 ++ leB 4 1, { wavefront with sys := { wavefront.sys with mode := .render } }, 1, by decide +kernel, by beta_reduce; decide +kernel⟩,
   ⟨(pc 4), leB 2 511 ++ leB 2 767, awake, by decide +kernel, by beta_reduce; decide +kernel⟩⟩

theorem test_hypotheses_RoutingCommandsComplete :
    (Meets routeModeCmd (fun i u => u.sys.mode = .staged ∧ rd8 i.body 0 ≤ 1 ∧ zeroAt i.body 1 3 = true)) ∧
    (Meets xpMapCmd (fun i u => u.sys.mode = .staged ∧ u.rte.graph = false ∧
        (∀ k < 128, rd16 i.body (2 * k) = 0xFFFF ∨ plainBus u.rnd.rate96 (rd16 i.body (2 * k)) = true) ∧
        (∀ k < 128, rd16 i.body (256 + 2 * k) = 0xFFFF ∨ rd16 i.body (256 + 2 * k) < feedCount u.rnd.rate96) ∧
        distinct (((List.range 128).map fun k => rd16 i.body (256 + 2 * k)).filter (· != 0xFFFF)) = true)) ∧
    (Meets routeGainCmd (fun i u => 1 ≤ rd8 i.body 0 ∧ rd8 i.body 0 ≤ 64 ∧ zeroAt i.body 1 3 = true ∧
        (∀ k < rd8 i.body 0, rd16 i.body (4 + 8 * k) < 16384 ∧ zeroAt i.body (6 + 8 * k) 2 = true) ∧ u.staged = true)) ∧
    (MeetsFor routeGainCmd (fun i u n => 1 ≤ rd8 i.body 0 ∧ rd8 i.body 0 ≤ 64 ∧ zeroAt i.body 1 3 = true ∧
        (∀ k < rd8 i.body 0, rd16 i.body (4 + 8 * k) < 16384 ∧ zeroAt i.body (6 + 8 * k) 2 = true) ∧ u.staged = false ∧ u.boundary i u.firstCut = .ok n)) ∧
    (Meets routeWriteCmd (fun i u => u.rte.graph = true ∧ 1 ≤ rd16 i.body 4 ∧ rd16 i.body 4 ≤ 1024 ∧ rd32 i.body 0 + rd16 i.body 4 ≤ routeLen ∧
        zeroAt i.body 6 2 = true ∧ u.rte.frozen = false)) ∧
    (Meets routeCommitCmd (fun _ u => u.sys.mode = .staged ∧ u.rte.graph = true ∧ routeCheck u.rnd.rate96 u.rte.staging = none ∧
        (routeScan u.rnd.rate96 u.rte.staging).cost ≤ routeBudget u.rnd.rate96)) ∧
    (MeetsDue routeCommitCmd (fun i u n => u.rendering = true ∧ u.sys.mode ≠ .sweep ∧ u.rte.graph = true ∧ routeCheck u.rnd.rate96 u.rte.staging = none ∧
        fadeOk (rd32 i.body 0) = true ∧ (routeScan u.rnd.rate96 u.rte.staging).maxDelay ≤ rd32 i.body 0 ∧
        u.boundary i u.firstCut = .ok n ∧
        u.costNext + (routeScan u.rnd.rate96 u.rte.staging).cost ≤ routeBudget u.rnd.rate96)
      (fun i u n => u.setRoutePend { tick := n, fade := rd32 i.body 0, ref := i.ref })) ∧
    (Meets bedAlignCmd (fun i u => u.sys.mode = .staged ∧ rd16 i.body 0 < 128 ∧ rd16 i.body 2 ≤ 2047)) ∧
    (Meets latQueryCmd (fun i u => rd8 i.body 0 ≤ 2 ∧ rd16 i.body 2 < (if rd8 i.body 0 = 1 then 128 else objCount u.rnd.rate96) ∧ rd16 i.body 4 < feedCount u.rnd.rate96 ∧ rd8 i.body 1 = 1 ∧ rd16 i.body 6 = 0)) ∧
    (Meets latQueryCmd (fun i u => rd8 i.body 0 ≤ 2 ∧ rd16 i.body 2 < (if rd8 i.body 0 = 1 then 128 else objCount u.rnd.rate96) ∧ rd16 i.body 4 < feedCount u.rnd.rate96 ∧ rd8 i.body 1 = 0 ∧ rd16 i.body 6 < 1024 ∧ frOn (u.flowOut (rd16 i.body 6)) = true ∧
        frKind (u.flowOut (rd16 i.body 6)) = 0 ∧ (foFeeds (u.flowOut (rd16 i.body 6))).contains (rd16 i.body 4) = true)) :=
  ⟨⟨(pc 4), [1, 0, 0, 0], awake, by decide +kernel, by beta_reduce; decide +kernel⟩,
   ⟨(pc 512), leB 2 0 ++ (List.replicate 254 (0xFF : Byte)) ++ leB 2 767 ++ List.replicate 254 (0xFF : Byte), awake, by decide +kernel, by beta_reduce; decide +kernel⟩,
   ⟨(pc 12), [1, 0, 0, 0] ++ leB 2 16383 ++ zeros 2 ++ leI 4 (-1), awake, by decide +kernel, by beta_reduce; decide +kernel⟩,
   ⟨(pc 12), [1, 0, 0, 0] ++ leB 2 16383 ++ zeros 2 ++ leI 4 (-1), live, 101, by decide +kernel, by beta_reduce; decide +kernel⟩,
   ⟨(pc 9), leB 4 0x3043F ++ leB 2 1 ++ zeros 2 ++ [5], graph, by decide +kernel, by beta_reduce; decide +kernel⟩,
   ⟨(pc 4), leB 4 0, graph, by decide +kernel, by beta_reduce; decide +kernel⟩,
   ⟨(pc 4), leB 4 1024, { graph with sys := { graph.sys with mode := .render } }, 1, by decide +kernel, by beta_reduce; decide +kernel, by decide +kernel⟩,
   ⟨(pc 4), leB 2 127 ++ leB 2 2047, awake, by decide +kernel, by beta_reduce; decide +kernel⟩,
   ⟨(pc 8), [0, 1] ++ leB 2 511 ++ leB 2 767 ++ zeros 2, awake, by decide +kernel, by beta_reduce; decide +kernel⟩,
   ⟨(pc 8), [1, 0] ++ leB 2 127 ++ leB 2 5 ++ leB 2 0, sending, by decide +kernel, by beta_reduce; decide +kernel⟩⟩

theorem test_hypotheses_CorrectionCommandsComplete :
    (Meets corWriteCmd (fun i u => u.corFeedOk (rd16 i.body 0) = true ∧ zeroAt i.body 2 2 = true ∧ 1 ≤ rd16 i.body 8 ∧ rd16 i.body 8 ≤ 1024 ∧
        zeroAt i.body 10 2 = true ∧ rd32 i.body 4 + rd16 i.body 8 ≤ (if isLong u.cor.longMask (rd16 i.body 0) then 0x8100 else 0x4100) ∧
        u.corFrozen (rd16 i.body 0) = false)) ∧
    (Meets corHingeCmd (fun i u => u.sys.mode = .staged ∧ zeroAt i.body 4 4 = true ∧ maskFeeds (rdLE i.body 8 96) 768 ≠ [] ∧
        (∀ f ∈ maskFeeds (rdLE i.body 8 96) 768, u.corFeedOk f = true) ∧ u.hingeFail (maskFeeds (rdLE i.body 8 96) 768) = none)) ∧
    (MeetsDue corHingeCmd (fun i u n => u.rendering = true ∧ u.sys.mode ≠ .staged ∧ fadeOk (rd32 i.body 0) = true ∧ zeroAt i.body 4 4 = true ∧ maskFeeds (rdLE i.body 8 96) 768 ≠ [] ∧
        (∀ f ∈ maskFeeds (rdLE i.body 8 96) 768, u.corFeedOk f = true) ∧ u.hingeFail (maskFeeds (rdLE i.body 8 96) 768) = none ∧
        u.boundary i u.firstHinge = .ok n ∧
        (∀ r ∈ u.cor.pend, r.meets (maskFeeds (rdLE i.body 8 96) 768) = true → r.inside (maskFeeds (rdLE i.body 8 96) 768) = true) ∧
        (u.cor.pend.filter fun r => !r.inside (maskFeeds (rdLE i.body 8 96) 768)).length < 64)
      (fun i u n => (((u.cor.pend.filter fun r => r.inside (maskFeeds (rdLE i.body 8 96) 768)).foldl State.corSupersede u).corRequest
        (maskFeeds (rdLE i.body 8 96) 768) n (rd32 i.body 0) none i.ref))) ∧
    (Meets corGainCmd (fun i u => 1 ≤ rd8 i.body 0 ∧ rd8 i.body 0 ≤ 64 ∧ zeroAt i.body 1 3 = true ∧
        (∀ k < rd8 i.body 0, u.corFeedOk (rd16 i.body (4 + 8 * k)) = true ∧ zeroAt i.body (6 + 8 * k) 2 = true) ∧ u.staged = true)) ∧
    (MeetsFor corGainCmd (fun i u n => 1 ≤ rd8 i.body 0 ∧ rd8 i.body 0 ≤ 64 ∧ zeroAt i.body 1 3 = true ∧
        (∀ k < rd8 i.body 0, u.corFeedOk (rd16 i.body (4 + 8 * k)) = true ∧ zeroAt i.body (6 + 8 * k) 2 = true) ∧ u.staged = false ∧ u.boundary i u.firstCut = .ok n)) ∧
    (Meets corLongCmd (fun i u => u.sys.mode = .staged ∧ (u.rnd.rate96 = true → rdLE i.body 0 48 < 2 ^ 192) ∧
        (∀ m < 384, bit (rdLE i.body 0 48) m ≠ bit u.cor.longMask m →
          foldOf u.cor.folds (2 * m) = none ∧ foldOf u.cor.folds (2 * m + 1) = none))) ∧
    (Meets corFoldCmd (fun i u => u.sys.mode = .staged ∧ rd8 i.body 0 < 64 ∧ rd8 i.body 1 = 0)) ∧
    (Meets corFoldCmd (fun i u => u.sys.mode = .staged ∧ rd8 i.body 0 < 64 ∧ 1 ≤ rd8 i.body 1 ∧ rd8 i.body 1 ≤ (if u.rnd.rate96 then 11 else 23) ∧
        (∀ f ∈ rd16 i.body 2 :: (List.range (rd8 i.body 1)).map (fun k => rd16 i.body (4 + 2 * k)), u.corFeedOk f = true ∧
          shardOfFeed u.rnd.rate96 f = shardOfFeed u.rnd.rate96 (rd16 i.body 2) ∧
          ((foldOf u.cor.folds f).all fun g => g.1 == rd8 i.body 0) = true) ∧
        distinct (rd16 i.body 2 :: (List.range (rd8 i.body 1)).map fun k => rd16 i.body (4 + 2 * k)) = true)) ∧
    (Meets corQueryCmd (fun i u => rd16 i.body 0 < feedCount u.rnd.rate96 ∧ zeroAt i.body 2 2 = true)) :=
  ⟨⟨(pc 13), leB 2 767 ++ zeros 2 ++ leB 4 0x40FF ++ leB 2 1 ++ zeros 2 ++ [5], awake, by decide +kernel, by beta_reduce; decide +kernel⟩,
   ⟨(pc 104), zeros 8 ++ [1] ++ zeros 95, awake, by decide +kernel, by beta_reduce; decide +kernel⟩,
   ⟨(pc 104), leB 4 1024 ++ zeros 4 ++ [1] ++ zeros 95, live, 132, by decide +kernel, by beta_reduce; decide +kernel, by decide +kernel⟩,
   ⟨(pc 12), [1, 0, 0, 0] ++ leB 2 767 ++ zeros 2 ++ leI 4 (-1), awake, by decide +kernel, by beta_reduce; decide +kernel⟩,
   ⟨(pc 12), [1, 0, 0, 0] ++ leB 2 767 ++ zeros 2 ++ leI 4 (-1), live, 101, by decide +kernel, by beta_reduce; decide +kernel⟩,
   ⟨(pc 48), [1] ++ zeros 47, awake, by decide +kernel, by beta_reduce; decide +kernel⟩,
   ⟨(pc 4), [63, 0, 0, 0], awake, by decide +kernel, by beta_reduce; decide +kernel⟩,
   ⟨(pc 6), [63, 1] ++ leB 2 0 ++ leB 2 1, awake, by decide +kernel, by beta_reduce; decide +kernel⟩,
   ⟨(pc 4), leB 2 767 ++ zeros 2, awake, by decide +kernel, by beta_reduce; decide +kernel⟩⟩

theorem test_hypotheses_CalibrationCommandsComplete :
    (Meets calCaptureCmd (fun i u => rd8 i.body 0 < 64 ∧ rd8 i.body 4 < 64 ∧ rd8 i.body 1 = 0 ∧ zeroAt i.body 5 3 = true ∧
        (rd16 i.body 2 = 0xFFFF ∨ rd16 i.body 2 < 1024 ∧
          (let r := tabGet [] (u.flowsAt (u.calBound i)) (rd16 i.body 2)
           frOn r = true ∧ frKind r = 0 ∧ fiAsync r = false ∧ rd8 i.body 4 < frNch r)) ∧ u.staged = true)) ∧
    (MeetsFor calCaptureCmd (fun i u n => rd8 i.body 0 < 64 ∧ rd8 i.body 4 < 64 ∧ rd8 i.body 1 = 0 ∧ zeroAt i.body 5 3 = true ∧
        (rd16 i.body 2 = 0xFFFF ∨ rd16 i.body 2 < 1024 ∧
          (let r := tabGet [] (u.flowsAt (u.calBound i)) (rd16 i.body 2)
           frOn r = true ∧ frKind r = 0 ∧ fiAsync r = false ∧ rd8 i.body 4 < frNch r)) ∧ u.staged = false ∧ u.boundary i u.firstCut = .ok n)) ∧
    (Meets calEnrollCmd (fun i u => 1 ≤ rd8 i.body 0 ∧ rd8 i.body 0 ≤ 64 ∧ zeroAt i.body 1 3 = true ∧
        ∀ k < rd8 i.body 0, u.enrollOk (u.calBound i) (enrollAt i.body k) = true ∧ u.staged = true)) ∧
    (MeetsFor calEnrollCmd (fun i u n => 1 ≤ rd8 i.body 0 ∧ rd8 i.body 0 ≤ 64 ∧ zeroAt i.body 1 3 = true ∧
        ∀ k < rd8 i.body 0, u.enrollOk (u.calBound i) (enrollAt i.body k) = true ∧ u.staged = false ∧ u.boundary i u.firstCut = .ok n)) ∧
    (Meets calPolicyCmd (fun i u => inRange 1200 4000 (rdS16 i.body 0) = true ∧ inRange (-9000) (-5400) (rdS16 i.body 2) = true ∧
        inRange (-900) 0 (rdS16 i.body 4) = true ∧ inRange 0 600 (rdS16 i.body 6) = true ∧ inRange 10 600 (rdS16 i.body 8) = true ∧
        inRange 1 300 (rdS16 i.body 10) = true ∧ inRange 600 6000 (rdS16 i.body 12) = true ∧ inRange 0 3000 (rdS16 i.body 14) = true ∧
        inRange 300 3000 (rdS16 i.body 16) = true ∧ (1 ≤ rd8 i.body 18 ∧ rd8 i.body 18 ≤ 64) ∧ rd8 i.body 19 = 0 ∧
        (1 ≤ rd16 i.body 20 ∧ rd16 i.body 20 ≤ 600) ∧ (10 ≤ rd16 i.body 22 ∧ rd16 i.body 22 ≤ 3600) ∧
        (1000 ≤ rd16 i.body 24 ∧ rd16 i.body 24 ≤ 60000) ∧ fadeOk (rd16 i.body 26) = true ∧
        (10 ≤ rd16 i.body 28 ∧ rd16 i.body 28 ≤ 3600) ∧ (∀ b < 8, inRange 0 2000 (rdS16 i.body (32 + 2 * b)) = true) ∧ u.staged = true)) ∧
    (MeetsFor calPolicyCmd (fun i u n => inRange 1200 4000 (rdS16 i.body 0) = true ∧ inRange (-9000) (-5400) (rdS16 i.body 2) = true ∧
        inRange (-900) 0 (rdS16 i.body 4) = true ∧ inRange 0 600 (rdS16 i.body 6) = true ∧ inRange 10 600 (rdS16 i.body 8) = true ∧
        inRange 1 300 (rdS16 i.body 10) = true ∧ inRange 600 6000 (rdS16 i.body 12) = true ∧ inRange 0 3000 (rdS16 i.body 14) = true ∧
        inRange 300 3000 (rdS16 i.body 16) = true ∧ (1 ≤ rd8 i.body 18 ∧ rd8 i.body 18 ≤ 64) ∧ rd8 i.body 19 = 0 ∧
        (1 ≤ rd16 i.body 20 ∧ rd16 i.body 20 ≤ 600) ∧ (10 ≤ rd16 i.body 22 ∧ rd16 i.body 22 ≤ 3600) ∧
        (1000 ≤ rd16 i.body 24 ∧ rd16 i.body 24 ≤ 60000) ∧ fadeOk (rd16 i.body 26) = true ∧
        (10 ≤ rd16 i.body 28 ∧ rd16 i.body 28 ≤ 3600) ∧ (∀ b < 8, inRange 0 2000 (rdS16 i.body (32 + 2 * b)) = true) ∧ u.staged = false ∧ u.boundary i u.firstCut = .ok n)) ∧
    (Meets calBaselineCmd (fun i u => rd8 i.body 0 ≤ 2 ∧ rd8 i.body 1 = 0 ∧ (rd8 i.body 0 = 1 ∨ zeroAt i.body 4 16 = true) ∧
        (if rd16 i.body 2 = 0xFFFF then rd8 i.body 0 ≠ 1 else u.enrolledAt (rd16 i.body 2) (u.calBound i) = true) ∧ u.staged = true)) ∧
    (MeetsFor calBaselineCmd (fun i u n => rd8 i.body 0 ≤ 2 ∧ rd8 i.body 1 = 0 ∧ (rd8 i.body 0 = 1 ∨ zeroAt i.body 4 16 = true) ∧
        (if rd16 i.body 2 = 0xFFFF then rd8 i.body 0 ≠ 1 else u.enrolledAt (rd16 i.body 2) (u.calBound i) = true) ∧ u.staged = false ∧ u.boundary i u.firstCut = .ok n)) ∧
    (Meets calVetoCmd (fun i u => ∃ r, u.report (rd32 i.body 0) = some r ∧ (r.status = 0 ∨ u.revertible r = true) ∧ u.staged = true)) ∧
    (MeetsFor calVetoCmd (fun i u n => ∃ r, u.report (rd32 i.body 0) = some r ∧ (r.status = 0 ∨ u.revertible r = true) ∧ u.staged = false ∧ u.boundary i u.firstCut = .ok n)) ∧
    (MeetsFor calStartCmd (fun i u n => u.sys.mode = .render ∧ u.boundary i u.firstCut = .ok n)) ∧
    (MeetsFor calStopCmd (fun i u n => u.sys.mode = .liveProbe ∧ u.boundary i u.firstCut = .ok n)) ∧
    (MeetsFor sweepStartCmd (fun i u n => u.sys.mode = .paused ∧ inRange (-9000) (-4500) (rdS16 i.body 0) = true ∧ zeroAt i.body 2 2 = true ∧ u.boundary i u.firstCut = .ok n)) ∧
    (MeetsFor sweepStopCmd (fun i u n => u.sys.mode = .sweep ∧ u.boundary i u.firstCut = .ok n)) ∧
    (Meets calReportCmd (fun i u => ∃ r, u.report (rd32 i.body 0) = some r)) ∧
    (Meets calQueryCmd (fun i u => rd16 i.body 0 < feedCount u.rnd.rate96 ∧ zeroAt i.body 2 2 = true)) :=
  ⟨⟨(pc 8), [63, 0, 0xFF, 0xFF, 63, 0, 0, 0], awake, by decide +kernel, by beta_reduce; decide +kernel⟩,
   ⟨(pc 8), [63, 0, 0xFF, 0xFF, 63, 0, 0, 0], live, 101, by decide +kernel, by beta_reduce; decide +kernel⟩,
   ⟨(pc 12), [1, 0, 0, 0] ++ leB 2 767 ++ [63, 0] ++ leB 4 262143, awake, by decide +kernel, by beta_reduce; decide +kernel⟩,
   ⟨(pc 12), [1, 0, 0, 0] ++ leB 2 767 ++ [63, 0] ++ leB 4 262143, live, 101, by decide +kernel, by beta_reduce; decide +kernel⟩,
   ⟨(pc 48), leB 2 1200 ++ leI 2 (-9000) ++ leI 2 (-900) ++ leB 2 600 ++ leB 2 10 ++ leB 2 300 ++ leB 2 600 ++ leB 2 3000 ++ leB 2 300 ++ [64, 0] ++ leB 2 600 ++ leB 2 10 ++ leB 2 1000 ++ leB 2 1024 ++ leB 2 10 ++ leB 2 0 ++ leB 2 2000 ++ zeros 14, awake, by decide +kernel, by beta_reduce; decide +kernel⟩,
   ⟨(pc 48), leB 2 1200 ++ leI 2 (-9000) ++ leI 2 (-900) ++ leB 2 600 ++ leB 2 10 ++ leB 2 300 ++ leB 2 600 ++ leB 2 3000 ++ leB 2 300 ++ [64, 0] ++ leB 2 600 ++ leB 2 10 ++ leB 2 1000 ++ leB 2 1024 ++ leB 2 10 ++ leB 2 0 ++ leB 2 2000 ++ zeros 14, live, 101, by decide +kernel, by beta_reduce; decide +kernel⟩,
   ⟨(pc 20), [2, 0, 0xFF, 0xFF] ++ zeros 16, awake, by decide +kernel, by beta_reduce; decide +kernel⟩,
   ⟨(pc 20), [2, 0, 0xFF, 0xFF] ++ zeros 16, live, 101, by decide +kernel, by beta_reduce; decide +kernel⟩,
   ⟨(pc 4), leB 4 3, reported, by decide +kernel, by beta_reduce; decide +kernel⟩,
   ⟨(pc 4), leB 4 3, reportedLive, 101, by decide +kernel, by beta_reduce; decide +kernel⟩,
   ⟨(pc 0), [], { live with sys := { live.sys with mode := .render } }, 101, by decide +kernel, by beta_reduce; decide +kernel⟩,
   ⟨(pc 0), [], { live with sys := { live.sys with mode := .liveProbe } }, 101, by decide +kernel, by beta_reduce; decide +kernel⟩,
   ⟨(pc 4), leI 2 (-4500) ++ zeros 2, { live with sys := { live.sys with mode := .paused } }, 101, by decide +kernel, by beta_reduce; decide +kernel⟩,
   ⟨(pc 0), [], { live with sys := { live.sys with mode := .sweep } }, 101, by decide +kernel, by beta_reduce; decide +kernel⟩,
   ⟨(pc 4), leB 4 3, reported, by decide +kernel, ⟨_, rfl⟩⟩,
   ⟨(pc 4), leB 2 767 ++ zeros 2, awake, by decide +kernel, by beta_reduce; decide +kernel⟩⟩

theorem test_hypotheses_NetworkAndTimeCommandsComplete :
    (Meets netAddrCmd (fun i u => rd8 i.body 0 < 2 ∧ u.sys.mode = .staged ∧ inRange 8 30 (rd8 i.body 1) = true ∧ zeroAt i.body 2 2 = true)) ∧
    (Meets netAddrCmd (fun i _ => rd8 i.body 0 = 2 ∧ i.ref.src = .pcie ∧ inRange 8 30 (rd8 i.body 1) = true ∧ zeroAt i.body 2 2 = true)) ∧
    (Meets netAddrCmd (fun i _ => rd8 i.body 0 = 2 ∧ (∃ ip port, i.ref.src = .mgmt ip port) ∧ inRange 8 30 (rd8 i.body 1) = true ∧ zeroAt i.body 2 2 = true)) ∧
    (Meets vlanSetCmd (fun i u => u.sys.mode = .staged ∧ rd8 i.body 0 ≤ 63 ∧ rd8 i.body 1 ≤ 7 ∧ rd16 i.body 2 ≤ 4094)) ∧
    (Meets flowInSetCmd (fun i u => u.staged = true ∧ rd16 i.body 0 < 1024 ∧ zeroAt i.body 2 2 = true ∧ u.fiOk (rd16 i.body 0) u.tick (slice i.body 4 192) = true ∧
        u.fiFull (rd16 i.body 0) u.tick (slice i.body 4 192) = false)) ∧
    (MeetsFor flowInSetCmd (fun i u n => u.staged = false ∧ u.boundary i u.firstFlow = .ok n ∧ rd16 i.body 0 < 1024 ∧ zeroAt i.body 2 2 = true ∧
        u.fiOk (rd16 i.body 0) n (slice i.body 4 192) = true ∧ u.fiFull (rd16 i.body 0) n (slice i.body 4 192) = false ∧
        (frOn (slice i.body 4 192) = true → frKind (slice i.body 4 192) = 0 →
          ingressTerm u.rnd.rate96 (frPtime (slice i.body 4 192)) ≤ u.rte.ingress))) ∧
    (Meets flowOutSetCmd (fun i u => u.sys.mode = .staged ∧ rd16 i.body 0 < 1024 ∧ zeroAt i.body 2 2 = true ∧ u.foOk (rd16 i.body 0) (slice i.body 4 192) = true)) ∧
    (Meets flowQueryCmd (fun i _ => rd8 i.body 0 = 0 ∧ rd8 i.body 1 = 0 ∧ rd16 i.body 2 < 1024)) ∧
    (Meets flowQueryCmd (fun i _ => rd8 i.body 0 = 1 ∧ rd8 i.body 1 = 0 ∧ rd16 i.body 2 < 1024)) ∧
    (Meets ptpConfigCmd (fun i u => u.sys.mode = .staged ∧ rd8 i.body 0 ≤ 1 ∧ rd8 i.body 1 ≤ 127 ∧ rd8 i.body 2 ≤ 1 ∧ 1 ≤ rd8 i.body 3 ∧ rd8 i.body 3 ≤ 3 ∧
        rd8 i.body 20 ≤ 63 ∧ rd8 i.body 21 ≤ 63 ∧ inRange 1 200 (rd16 i.body 4) = true ∧ inRange 50 10000 (rd16 i.body 6) = true ∧
        inRange 10000 10000000 (rd32 i.body 8) = true ∧ zeroAt i.body 22 2 = true)) ∧
    (Meets sceneTimeCmd (fun i u => u.sys.mode = .staged ∧ 1 ≤ rd32 i.body 0 ∧ rd32 i.body 0 ≤ 240000 ∧ 1 ≤ rd32 i.body 4 ∧ rd32 i.body 4 ≤ 1001 ∧
        rd32 i.body 4 ≤ rd32 i.body 0 ∧ rd32 i.body 0 ≤ 240 * rd32 i.body 4 ∧ 1 ≤ rd16 i.body 8 ∧ rd16 i.body 8 ≤ 4500 ∧
        rd8 i.body 10 ≤ 1 ∧ rd8 i.body 11 ≤ rd8 i.body 10)) ∧
    (Meets timeQueryCmd (fun _ _ => True)) ∧
    (Meets timeConvertCmd (fun i u => rd8 i.body 0 ≤ 2 ∧ zeroAt i.body 1 7 = true ∧ rd64 i.body 8 ≠ 0 ∧ (u.whenSample (rd8 i.body 0) (rd64 i.body 8)).isSome = true)) :=
  ⟨⟨(pc 12), [1, 30, 0, 0, 10, 0, 0, 1, 10, 0, 0, 2], awake, by decide +kernel, by beta_reduce; decide +kernel⟩,
   ⟨(pc 12), [2, 8, 0, 0, 10, 0, 0, 1, 10, 0, 0, 2], live, by decide +kernel, by beta_reduce; decide +kernel⟩,
   ⟨(mg 12), [2, 8, 0, 0, 10, 0, 0, 1, 10, 0, 0, 2], live, by decide +kernel, by decide +kernel, ⟨_, _, rfl⟩, by decide +kernel⟩,
   ⟨(pc 4), [63, 7, 0xFE, 0x0F], awake, by decide +kernel, by beta_reduce; decide +kernel⟩,
   ⟨(pc 196), leB 2 1023 ++ zeros 194, awake, by decide +kernel, by beta_reduce; decide +kernel⟩,
   ⟨(pc 196), leB 2 1023 ++ zeros 194, live, 601, by decide +kernel, by beta_reduce; decide +kernel⟩,
   ⟨(pc 196), leB 2 1023 ++ zeros 194, awake, by decide +kernel, by beta_reduce; decide +kernel⟩,
   ⟨(pc 4), [0, 0, 0xFF, 3], awake, by decide +kernel, by beta_reduce; decide +kernel⟩,
   ⟨(pc 4), [1, 0, 0xFF, 3], awake, by decide +kernel, by beta_reduce; decide +kernel⟩,
   ⟨(pc 24), [1, 127, 1, 3] ++ leB 2 200 ++ leB 2 50 ++ leB 4 10000 ++ zeros 8 ++ [63, 63, 0, 0], awake, by decide +kernel, by beta_reduce; decide +kernel⟩,
   ⟨(pc 12), leB 4 24000 ++ leB 4 1001 ++ leB 2 4500 ++ [1, 1], awake, by decide +kernel, by beta_reduce; decide +kernel⟩,
   ⟨(pc 0), [], awake, by decide +kernel, by beta_reduce; decide +kernel⟩,
   ⟨(pc 16), [1] ++ zeros 7 ++ leB 8 17, awake, by decide +kernel, by beta_reduce; decide +kernel⟩⟩

theorem test_hypotheses_MonitorAndTwinCommandsComplete :
    (Meets dacConfigCmd (fun i u => u.sys.mode = .staged ∧ rd8 i.body 0 ≤ 1 ∧ rd8 i.body 1 ≤ 1 ∧ zeroAt i.body 2 2 = true ∧
        (rd8 i.body 0 = 1 ∨ rd8 i.body 1 = 1 → u.ptm.scene.isSome = true))) ∧
    (Meets dacMapCmd (fun i u => 1 ≤ rd8 i.body 0 ∧ rd8 i.body 0 ≤ 16 ∧ zeroAt i.body 1 3 = true ∧
        (∀ k < rd8 i.body 0, rd8 i.body (4 + 4 * k) < 16 ∧ rd8 i.body (5 + 4 * k) = 0 ∧
          (rd16 i.body (6 + 4 * k) = 0xFFFF ∨ rd16 i.body (6 + 4 * k) < feedCount u.rnd.rate96)) ∧ u.staged = true)) ∧
    (MeetsFor dacMapCmd (fun i u n => 1 ≤ rd8 i.body 0 ∧ rd8 i.body 0 ≤ 16 ∧ zeroAt i.body 1 3 = true ∧
        (∀ k < rd8 i.body 0, rd8 i.body (4 + 4 * k) < 16 ∧ rd8 i.body (5 + 4 * k) = 0 ∧
          (rd16 i.body (6 + 4 * k) = 0xFFFF ∨ rd16 i.body (6 + 4 * k) < feedCount u.rnd.rate96)) ∧ u.staged = false ∧ u.boundary i u.firstCut = .ok n)) ∧
    (Meets dacSpanCmd (fun i u => rd16 i.body 0 ≠ 0 ∧ rd8 i.body 2 ≤ 2 ∧ rd8 i.body 3 = 0 ∧ u.staged = true)) ∧
    (MeetsDue dacSpanCmd (fun i u n => rd16 i.body 0 ≠ 0 ∧ rd8 i.body 2 ≤ 2 ∧ rd8 i.body 3 = 0 ∧ u.staged = false ∧ u.boundary i u.firstCut = .ok n ∧
        (∀ r ∈ u.dac.reqs, r.phase = 0 → masksMeet r.mask (rd16 i.body 0) = true → maskInside r.mask (rd16 i.body 0) = true))
      (fun i u n => (let v := ((u.dac.reqs.filter fun r => r.phase == 0).filter fun r => maskInside r.mask (rd16 i.body 0)).foldl State.spanSupersede u
        { v with dac := { v.dac with reqs := v.dac.reqs ++
          [{ mask := rd16 i.body 0, span := rd8 i.body 2, start := n, ref := i.ref, phase := 0, switched := false }] } }))) ∧
    (Meets dacQueryCmd (fun _ _ => True)) ∧
    (Meets clkQueryCmd (fun _ _ => True)) ∧
    (Meets twinConfigCmd (fun i u => u.sys.mode = .staged ∧ rd8 i.body 0 ≤ 1 ∧ rd8 i.body 1 ≤ 1 ∧ rd8 i.body 2 ≤ 1 ∧ rd8 i.body 3 = 0 ∧ rd16 i.body 4 ≤ 60 ∧
        1024 ≤ rd16 i.body 6 ∧ 224 * 2 ^ 24 ≤ rdBE i.body 24 4 ∧ rdBE i.body 24 4 < 240 * 2 ^ 24 ∧ zeroAt i.body 28 4 = true)) ∧
    (Meets twinJoinCmd (fun _ u => u.twn.state = .seeking ∧ u.twn.haspUp = true ∧ u.rendering = true)) ∧
    (Meets twinJoinCmd (fun _ u => u.twn.state = .seeking ∧ u.twn.haspUp = true ∧ u.rendering = false)) ∧
    (Meets twinQueryCmd (fun _ _ => True)) :=
  ⟨⟨(pc 4), [0, 0, 0, 0], awake, by decide +kernel, by beta_reduce; decide +kernel⟩,
   ⟨(pc 8), [1, 0, 0, 0, 15, 0, 0xFF, 2], awake, by decide +kernel, by beta_reduce; decide +kernel⟩,
   ⟨(pc 8), [1, 0, 0, 0, 15, 0, 0xFF, 2], live, 101, by decide +kernel, by beta_reduce; decide +kernel⟩,
   ⟨(pc 4), [1, 0x80, 2, 0], awake, by decide +kernel, by beta_reduce; decide +kernel⟩,
   ⟨(pc 4), [1, 0x80, 2, 0], live, 101, by decide +kernel, by beta_reduce; decide +kernel, by decide +kernel⟩,
   ⟨(pc 0), [], awake, by decide +kernel, by beta_reduce; decide +kernel⟩,
   ⟨(pc 0), [], awake, by decide +kernel, by beta_reduce; decide +kernel⟩,
   ⟨(pc 32), [1, 1, 1, 0] ++ leB 2 60 ++ leB 2 1024 ++ zeros 8 ++ [10, 0, 0, 1, 10, 0, 0, 2, 239, 0, 0, 1, 0, 0, 0, 0], awake, by decide +kernel, by beta_reduce; decide +kernel⟩,
   ⟨(pc 0), [], seeking, by decide +kernel, by beta_reduce; decide +kernel⟩,
   ⟨(pc 0), [], { seeking with sys := { seeking.sys with mode := .locking } }, by decide +kernel, by beta_reduce; decide +kernel⟩,
   ⟨(pc 0), [], awake, by decide +kernel, by beta_reduce; decide +kernel⟩⟩

theorem test_hypotheses_PowerCommandsComplete :
    (Meets pwrQueryCmd (fun _ _ => True)) ∧
    (MeetsDue pwrSleepCmd (fun _ u n => u.pwr.trans = 0 ∧ u.pwr.queued = none ∧ (u.sys.mode = .staged ∨ u.sys.mode = .paused) ∧ u.twn.state ≠ .joining ∧ u.twn.state ≠ .lockstep ∧
        (u.rnd.pend.any (·.resume)) = false ∧ u.rte.pend = none ∧ u.rte.hinge = none ∧ u.cor.pend = [] ∧ u.cor.running = [] ∧ n = u.tick + 1)
      (fun i u _ => u.pwrStart { op := 0x910, after := 0, ref := i.ref })) ∧
    (MeetsDue pwrDeepCmd (fun i u n => u.pwr.trans = 0 ∧ u.pwr.queued = none ∧ (u.sys.mode = .staged ∨ u.sys.mode = .sleep) ∧ rd32 i.body 0 ≤ 864000 ∧ n = u.tick + 1)
      (fun i u _ => u.pwrStart { op := 0x911, after := rd32 i.body 0, ref := i.ref })) ∧
    (MeetsDue pwrWakeCmd (fun _ u n => u.pwr.trans = 0 ∧ u.pwr.queued = none ∧ u.sys.mode = .sleep ∧ n = u.tick + 1)
      (fun i u _ => u.pwrStart { op := 0x912, after := 0, ref := i.ref })) ∧
    (MeetsDue pwrSleepCmd (fun _ u n => (u.pwr.trans ≠ 0 ∨ u.pwr.queued.isSome = true) ∧ n = u.tick + 1)
      (fun i u _ => (let v := match u.pwr.queued with
          | some q => (u.answer q.ref .superseded true false []).pwrEvt 6
          | none => u
        { v with pwr := { v.pwr with queued := some { op := 0x910, after := 0, ref := i.ref } } }))) ∧
    (MeetsDue pwrDeepCmd (fun i u n => (u.pwr.trans ≠ 0 ∨ u.pwr.queued.isSome = true) ∧ rd32 i.body 0 ≤ 864000 ∧ n = u.tick + 1)
      (fun i u _ => (let v := match u.pwr.queued with
          | some q => (u.answer q.ref .superseded true false []).pwrEvt 6
          | none => u
        { v with pwr := { v.pwr with queued := some { op := 0x911, after := rd32 i.body 0, ref := i.ref } } }))) ∧
    (MeetsDue pwrWakeCmd (fun _ u n => (u.pwr.trans ≠ 0 ∨ u.pwr.queued.isSome = true) ∧ n = u.tick + 1)
      (fun i u _ => (let v := match u.pwr.queued with
          | some q => (u.answer q.ref .superseded true false []).pwrEvt 6
          | none => u
        { v with pwr := { v.pwr with queued := some { op := 0x912, after := 0, ref := i.ref } } }))) ∧
    (MeetsDue feedExerciseCmd (fun _ u n => u.pwr.exercise = none ∧ u.pwr.trans = 0 ∧ u.pwr.queued = none ∧ u.pwr.source = 0 ∧ (u.pwr.bSince.any fun b => decide (b + 500000000 ≤ u.now)) = true ∧ n = u.tick + 1)
      (fun i u _ => { u with pwr := { u.pwr with
          exercise := some { ref := i.ref, start := u.now, minB := 0xFFFF, maxB := 0, maxI := 0, transferred := false, fell := false }
          exerciseCnt := u.pwr.exerciseCnt + 1, source := 1, lastSwitch := u.ts32, srcAt := u.now } })) ∧
    (Meets feedExerciseCmd (fun _ u => u.pwr.exercise = none ∧ u.pwr.trans = 0 ∧ u.pwr.queued = none ∧ u.pwr.source = 1)) ∧
    (Meets feedExerciseCmd (fun _ u => u.pwr.exercise = none ∧ u.pwr.trans = 0 ∧ u.pwr.queued = none ∧ (u.pwr.source = 2 ∨ u.pwr.source = 0 ∧ (u.pwr.bSince.any fun b => decide (b + 500000000 ≤ u.now)) = false))) :=
  ⟨⟨(pc 0), [], awake, by decide +kernel, by beta_reduce; decide +kernel⟩,
   ⟨(pc 0), [], awake, 1, by decide +kernel, by beta_reduce; decide +kernel, by decide +kernel⟩,
   ⟨(pc 4), leB 4 864000, awake, 1, by decide +kernel, by beta_reduce; decide +kernel, by decide +kernel⟩,
   ⟨(pc 0), [], { awake with sys := { awake.sys with mode := .sleep } }, 1, by decide +kernel, by beta_reduce; decide +kernel, by decide +kernel⟩,
   ⟨(pc 0), [], { awake with pwr := { awake.pwr with trans := 2 } }, 1, by decide +kernel, by beta_reduce; decide +kernel, by decide +kernel⟩,
   ⟨(pc 4), leB 4 0, { awake with pwr := { awake.pwr with trans := 2 } }, 1, by decide +kernel, by beta_reduce; decide +kernel, by decide +kernel⟩,
   ⟨(pc 0), [], { awake with pwr := { awake.pwr with trans := 2 } }, 1, by decide +kernel, by beta_reduce; decide +kernel, by decide +kernel⟩,
   ⟨(pc 0), [], qualified, 1, by decide +kernel, by beta_reduce; decide +kernel, by decide +kernel⟩,
   ⟨(pc 0), [], { awake with pwr := { awake.pwr with source := 1 } }, by decide +kernel, by beta_reduce; decide +kernel⟩,
   ⟨(pc 0), [], { awake with pwr := { awake.pwr with source := 2 } }, by decide +kernel, by beta_reduce; decide +kernel⟩⟩

theorem test_hypotheses_TransportEventsAct :
    (∃ (h : Hdr) (op : _) (s v : State), v = s.at h.t ∧ h.src = .pcie ∧ opcodes.contains op = false ∧ op ≠ 0 ∧ v.ringReady = true) ∧
    (∃ (h : Hdr) (op : _) (p : Bytes) (s : State) (ip : _) (port : _) (v : State), v = s.at h.t ∧ h.src = .mgmt ip port ∧ opcodes.contains op = false ∧ v.mgmtOpen = true ∧ v.allowed ip = true ∧ ((v.rxCount 2).repeated ip port (packetBytes op h p)) = none ∧ v.midway = false ∧ p.length ≤ 1440) ∧
    (∃ (t : _) (s v : State), v = s.at t ∧ v.ringReady = true ∧ v.key.cmdCi ≠ 0) ∧
    (∃ (t : _) (s v : State), v = s.at t ∧ v.ringReady = true ∧ v.key.cmdCi = 0) ∧
    (∃ (t : _) (s v : State), v = s.at t ∧ v.ringReady = true) ∧
    (∃ (t : _) (s v : State), v = s.at t ∧ v.mgmtOpen = true) ∧
    (∃ (h : Hdr) (p : Bytes) (s : State) (ip : _) (port : _) (v : State), v = s.at h.t ∧ h.src = .mgmt ip port ∧ v.mgmtOpen = true ∧ v.allowed ip = false ∧ v.midway = false ∧ p.length ≤ 1440) ∧
    (∃ (h : Hdr) (op : _) (p : Bytes) (s : State) (ip : _) (port : _) (e : _) (v : State), v = s.at h.t ∧ h.src = .mgmt ip port ∧ v.mgmtOpen = true ∧ v.allowed ip = true ∧ v.repeated ip port (packetBytes op h p) = some e ∧ v.midway = false ∧ p.length ≤ 1440) ∧
    (∃ (t : _) (s : State) (r : _) (rest : _) (u : _) (v : State), v = s.at t ∧ v.key.rplEn = true ∧ v.key.waiting = r :: rest ∧ v.ringPut r = some u) ∧
    (∃ (s v : State), v = s.at 1000 ∧ (v.key.waiting = [] ∨ ∃ r rest, v.key.rplEn = true ∧ v.key.waiting = r :: rest ∧ v.ringPut r = none)) ∧
    (∃ (t : _) (s : State) (t0 : _) (v : State), v = s.at t ∧ v.key.irqFirst = some t0 ∧ v.key.irqTimer ≠ 0 ∧ t0 + 1000 * v.key.irqTimer ≤ v.now) ∧
    (∃ (t : _) (s : State) (r : _) (v : State), v = s.at t ∧ v.key.resetAt = some r ∧ r ≤ v.now) :=
  ⟨⟨pc 0, 0x999, awake, _, rfl, by decide +kernel⟩,
   ⟨mg 0, 0x999, [], awake, 0xA000001, 5000, _, rfl, by decide +kernel⟩,
   ⟨1000, { awake with key := { awake.key with cmdCi := 8 } }, _, rfl, by decide +kernel⟩,
   ⟨1000, awake, _, rfl, by decide +kernel⟩,
   ⟨1000, awake, _, rfl, by decide +kernel⟩,
   ⟨1000, awake, _, rfl, by decide +kernel⟩,
   ⟨mg 0, [], choosy, 0xA000001, 5000, _, rfl, by decide +kernel⟩,
   ⟨mg 0, 0x101, [], recent, 0xA000001, 5000, recentCmd, _, rfl, by decide +kernel⟩,
   ⟨1000, { awake with key := { awake.key with waiting := [someReply] } }, someReply, [], _, _, rfl, by decide +kernel, by decide +kernel, rfl⟩,
   ⟨awake, _, rfl, Or.inl (by decide +kernel)⟩,
   ⟨2000, { awake with key := { awake.key with irqFirst := some 1000, irqTimer := 1 } }, 1000, _, rfl, by decide +kernel⟩,
   ⟨2000, { awake with key := { awake.key with resetAt := some 2000 } }, 2000, _, rfl, by decide +kernel⟩⟩

theorem test_hypotheses_RingRegistersAct :
    (∃ (t : _) (s v : State), v = s.at t ∧ v.writable 0x10000 1 = true ∧ v.key.cmdEn = false ∧ ringSizeOk v.key.cmdSize = true) ∧
    (∃ (t : _) (s v : State), v = s.at t ∧ v.writable 0x10000 1 = true ∧ v.key.cmdEn = false ∧ ringSizeOk v.key.cmdSize = false) ∧
    (∃ (t : _) (s v : State), v = s.at t ∧ v.writable 0x10000 1 = true) ∧
    (∃ (t : _) (s v : State), v = s.at t ∧ v.writable 0x10000 1 = true ∧ v.key.rplEn = false ∧ ringSizeOk v.key.rplSize = true) ∧
    (∃ (t : _) (s v : State), v = s.at t ∧ v.writable 0x10000 1 = true ∧ v.key.rplEn = false ∧ ringSizeOk v.key.rplSize = false) ∧
    (∃ (t : _) (s v : State), v = s.at t ∧ v.writable 0x10000 1 = true ∧ v.key.rplEn = true) ∧
    (∃ (t : _) (x : _) (s v : State), v = s.at t ∧ v.writable 0x10010 1 = true ∧ v.key.cmdEn = false ∧ x % 4096 = 0) ∧
    (∃ (t : _) (s v : State), v = s.at t ∧ v.writable 0x10014 1 = true ∧ v.key.cmdEn = false) ∧
    (∃ (t : _) (x : _) (s v : State), v = s.at t ∧ v.writable 0x10030 1 = true ∧ v.key.rplEn = false ∧ x % 4096 = 0) ∧
    (∃ (t : _) (s v : State), v = s.at t ∧ v.writable 0x10034 1 = true ∧ v.key.rplEn = false) ∧
    (∃ (t : _) (x : _) (s v : State), v = s.at t ∧ v.writable 0x10018 1 = true ∧ v.key.cmdEn = false ∧ ringSizeOk x = true) ∧
    (∃ (t : _) (x : _) (s v : State), v = s.at t ∧ v.writable 0x10018 1 = true ∧ (v.key.cmdEn = true ∨ ringSizeOk x = false)) ∧
    (∃ (t : _) (x : _) (s v : State), v = s.at t ∧ v.writable 0x10038 1 = true ∧ v.key.rplEn = false ∧ ringSizeOk x = true) ∧
    (∃ (t : _) (x : _) (s v : State), v = s.at t ∧ v.writable 0x10038 1 = true ∧ (v.key.rplEn = true ∨ ringSizeOk x = false)) ∧
    (∃ (t : _) (x : _) (s v : State), v = s.at t ∧ v.writable 0x10010 1 = true ∧ x % 4096 ≠ 0) ∧
    (∃ (t : _) (x : _) (s v : State), v = s.at t ∧ v.writable 0x10030 1 = true ∧ x % 4096 ≠ 0) ∧
    (∃ (t : _) (s v : State), v = s.at t ∧ v.writable 0x10010 1 = true ∧ v.key.cmdEn = true) ∧
    (∃ (t : _) (s v : State), v = s.at t ∧ v.writable 0x10014 1 = true ∧ v.key.cmdEn = true) ∧
    (∃ (t : _) (s v : State), v = s.at t ∧ v.writable 0x10030 1 = true ∧ v.key.rplEn = true) ∧
    (∃ (t : _) (s v : State), v = s.at t ∧ v.writable 0x10034 1 = true ∧ v.key.rplEn = true) ∧
    (∃ (t : _) (x : _) (s v : State), v = s.at t ∧ v.writable 0x1001C 1 = true ∧ v.key.cmdEn = true ∧ x < 65536 ∧ x < v.key.cmdSize) ∧
    (∃ (t : _) (x : _) (s v : State), v = s.at t ∧ v.writable 0x1001C 1 = true ∧ v.key.cmdEn = true ∧ x < 65536 ∧ v.key.cmdSize ≤ x) ∧
    (∃ (t : _) (x : _) (s v : State), v = s.at t ∧ v.writable 0x10040 1 = true ∧ v.key.rplEn = true ∧ x < 65536 ∧ x < v.key.rplSize ∧
      (x + v.key.rplSize - v.key.rplCi) % v.key.rplSize ≤ (v.key.rplPi + v.key.rplSize - v.key.rplCi) % v.key.rplSize) ∧
    (∃ (t : _) (x : _) (s v : State), v = s.at t ∧ v.writable 0x10040 1 = true ∧ v.key.rplEn = true ∧ x < 65536 ∧
      (v.key.rplSize ≤ x ∨ (v.key.rplPi + v.key.rplSize - v.key.rplCi) % v.key.rplSize < (x + v.key.rplSize - v.key.rplCi) % v.key.rplSize)) :=
  ⟨⟨1000, { awake with key := { awake.key with cmdEn := false } }, _, rfl, by decide +kernel⟩,
   ⟨1000, { awake with key := { awake.key with cmdEn := false, cmdSize := 65 } }, _, rfl, by decide +kernel⟩,
   ⟨1000, awake, _, rfl, by decide +kernel⟩,
   ⟨1000, { awake with key := { awake.key with rplEn := false } }, _, rfl, by decide +kernel⟩,
   ⟨1000, { awake with key := { awake.key with rplEn := false, rplSize := 0 } }, _, rfl, by decide +kernel⟩,
   ⟨1000, awake, _, rfl, by decide +kernel⟩,
   ⟨1000, 0x12345000, { awake with key := { awake.key with cmdEn := false } }, _, rfl, by decide +kernel⟩,
   ⟨1000, { awake with key := { awake.key with cmdEn := false } }, _, rfl, by decide +kernel⟩,
   ⟨1000, 0x12345000, { awake with key := { awake.key with rplEn := false } }, _, rfl, by decide +kernel⟩,
   ⟨1000, { awake with key := { awake.key with rplEn := false } }, _, rfl, by decide +kernel⟩,
   ⟨1000, 65536, { awake with key := { awake.key with cmdEn := false } }, _, rfl, by decide +kernel⟩,
   ⟨1000, 65, awake, _, rfl, by decide +kernel⟩,
   ⟨1000, 65536, { awake with key := { awake.key with rplEn := false } }, _, rfl, by decide +kernel⟩,
   ⟨1000, 65, awake, _, rfl, by decide +kernel⟩,
   ⟨1000, 5, { awake with key := { awake.key with cmdEn := false } }, _, rfl, by decide +kernel⟩,
   ⟨1000, 5, { awake with key := { awake.key with rplEn := false } }, _, rfl, by decide +kernel⟩,
   ⟨1000, awake, _, rfl, by decide +kernel⟩,
   ⟨1000, awake, _, rfl, by decide +kernel⟩,
   ⟨1000, awake, _, rfl, by decide +kernel⟩,
   ⟨1000, awake, _, rfl, by decide +kernel⟩,
   ⟨1000, 63, awake, _, rfl, by decide +kernel⟩,
   ⟨1000, 64, awake, _, rfl, by decide +kernel⟩,
   ⟨1000, 0, awake, _, rfl, by decide +kernel⟩,
   ⟨1000, 64, awake, _, rfl, by decide +kernel⟩⟩

theorem test_hypotheses_EventBitsClearByWritingOne :
    (∃ (t : _) (s v : State), v = s.at t ∧ v.writable 0xC 0 = true) ∧
    (∃ (t : _) (s v : State), v = s.at t ∧ v.writable 0x10004 1 = true) ∧
    (∃ (t : _) (s v : State), v = s.at t ∧ v.writable 0x30004 3 = true) ∧
    (∃ (t : _) (s v : State), v = s.at t ∧ v.writable 0x40004 4 = true) ∧
    (∃ (t : _) (s v : State), v = s.at t ∧ v.writable 0x50004 5 = true) ∧
    (∃ (t : _) (s v : State), v = s.at t ∧ v.writable 0x60008 6 = true) ∧
    (∃ (t : _) (s v : State), v = s.at t ∧ v.writable 0x70008 7 = true) ∧
    (∃ (t : _) (s v : State), v = s.at t ∧ v.writable 0x80008 8 = true) ∧
    (∃ (t : _) (s v : State), v = s.at t ∧ v.writable 0x90008 9 = true) ∧
    (∃ (t : _) (s v : State), v = s.at t ∧ v.writable 0xA0004 10 = true) ∧
    (∃ (t : _) (s v : State), v = s.at t ∧ v.writable 0xB0004 11 = true) ∧
    (∃ (t : _) (s v : State), v = s.at t ∧ v.writable 0xC0004 12 = true) ∧
    (∃ (t : _) (s v : State), v = s.at t ∧ v.writable 0x100014 13 = true) ∧
    (∃ (t : _) (s v : State), v = s.at t ∧ v.writable 0x110004 14 = true) ∧
    (∃ (t : _) (s v : State), v = s.at t ∧ v.writable 0x120008 15 = true) ∧
    (∃ (t : _) (s v : State), v = s.at t ∧ v.writable 0x130014 16 = true) ∧
    (∃ (t : _) (s v : State), v = s.at t ∧ v.writable 0x140004 17 = true) ∧
    (∃ (t : _) (s v : State), v = s.at t ∧ v.writable 0x150004 18 = true) ∧
    (∃ (t : _) (s v : State), v = s.at t ∧ v.writable 0x300004 20 = true) ∧
    (∃ (t : _) (s v : State), v = s.at t ∧ v.writable 0x310004 21 = true) ∧
    (∃ (t : _) (s v : State), v = s.at t ∧ v.writable 0x320004 22 = true) ∧
    (∃ (t : _) (s v : State), v = s.at t ∧ v.writable 0x330004 23 = true) ∧
    (∃ (t : _) (k : _) (s v : State), v = s.at t ∧ k < 34 ∧ v.writable (0x200004 + 0x1000 * k) 19 = true) :=
  ⟨⟨1000, awake, _, rfl, by decide +kernel⟩,
   ⟨1000, awake, _, rfl, by decide +kernel⟩,
   ⟨1000, awake, _, rfl, by decide +kernel⟩,
   ⟨1000, awake, _, rfl, by decide +kernel⟩,
   ⟨1000, awake, _, rfl, by decide +kernel⟩,
   ⟨1000, awake, _, rfl, by decide +kernel⟩,
   ⟨1000, awake, _, rfl, by decide +kernel⟩,
   ⟨1000, awake, _, rfl, by decide +kernel⟩,
   ⟨1000, awake, _, rfl, by decide +kernel⟩,
   ⟨1000, awake, _, rfl, by decide +kernel⟩,
   ⟨1000, awake, _, rfl, by decide +kernel⟩,
   ⟨1000, awake, _, rfl, by decide +kernel⟩,
   ⟨1000, awake, _, rfl, by decide +kernel⟩,
   ⟨1000, awake, _, rfl, by decide +kernel⟩,
   ⟨1000, awake, _, rfl, by decide +kernel⟩,
   ⟨1000, awake, _, rfl, by decide +kernel⟩,
   ⟨1000, awake, _, rfl, by decide +kernel⟩,
   ⟨1000, awake, _, rfl, by decide +kernel⟩,
   ⟨1000, awake, _, rfl, by decide +kernel⟩,
   ⟨1000, awake, _, rfl, by decide +kernel⟩,
   ⟨1000, awake, _, rfl, by decide +kernel⟩,
   ⟨1000, awake, _, rfl, by decide +kernel⟩,
   ⟨1000, 33, awake, _, rfl, by decide +kernel⟩⟩

theorem test_hypotheses_HostRegisterWritesAct :
    (∃ (t : _) (a : _) (be : _) (b : _) (blk : _) (g : _) (d : Nat) (len : _) (s v : State), v = s.at t ∧ v.pcieUp = true ∧ be % 16 = 15 ∧ v.bar0Code a = some 0 ∧ bar0Block a = some (b, len, d, g, blk) ∧ (blk = 23 → dbltDflt (a - b) = none) ∧ hostReg blk (a - b) = true) ∧
    (∃ (t : _) (a : _) (be : _) (b : _) (blk : _) (g : _) (d : Nat) (len : _) (s v : State), v = s.at t ∧ v.pcieUp = true ∧ be % 16 = 15 ∧ v.bar0Code a = some 0 ∧ bar0Block a = some (b, len, d, g, blk) ∧ (blk = 23 → dbltDflt (a - b) = none) ∧ hostReg blk (a - b) = false) ∧
    (∃ (t : _) (be : _) (s v : State), v = s.at t ∧ v.pcieUp = true ∧ be % 16 ≠ 15) ∧
    (∃ (t : _) (a : _) (be : _) (c : _) (s v : State), v = s.at t ∧ v.pcieUp = true ∧ be % 16 = 15 ∧ v.bar0Code a = some c ∧ c ≠ 0) ∧
    (∃ (t : _) (a : _) (be : _) (b : _) (blk : _) (g : _) (d : Nat) (len : _) (s v : State), v = s.at t ∧ v.pcieUp = true ∧ be % 16 = 15 ∧ v.bar0Code a = none ∧ bar0Block a = some (b, len, d, g, blk)) ∧
    (∃ (t : _) (s v : State), v = s.at t ∧ v.writable 0x24 0 = true) ∧
    (∃ (t : _) (x : _) (s v : State), v = s.at t ∧ v.writable 0x100028 13 = true ∧ bit x 0 = true) ∧
    (∃ (t : _) (x : _) (s v : State), v = s.at t ∧ v.writable 0x120020 15 = true ∧ bit x 0 = true) ∧
    (∃ (t : _) (x : _) (s v : State), v = s.at t ∧ v.writable 0xA0008 10 = true ∧ bit x 0 = true) ∧
    (∃ (t : _) (x : _) (s v : State), v = s.at t ∧ v.writable 0xB0018 11 = true ∧ bit x 0 = true) ∧
    (∃ (t : _) (x : _) (s v : State), v = s.at t ∧ v.writable 0x300008 20 = true ∧ bit x 0 = true) ∧
    (∃ (t : _) (x : _) (s v : State), v = s.at t ∧ v.writable 0x30008 3 = true ∧ bit x 0 = true) ∧
    (∃ (t : _) (x : _) (s v : State), v = s.at t ∧ v.writable 0x228004 19 = true ∧ v.ticking = false ∧ ((List.range 4).filter fun i => bit (x % 16) i).all (fun i => (getD' v.tap.kslots i { loaded := false, disabledOvr := false, budget := 0, overruns := 0 }).loaded) = true ∧
      sumN (((List.range 4).filter fun i => bit (x % 16) i).map fun i => (getD' v.tap.kslots i { loaded := false, disabledOvr := false, budget := 0, overruns := 0 }).budget) ≤ (if v.rnd.rate96 then 4096 else 8192)) ∧
    (∃ (t : _) (x : _) (s v : State), v = s.at t ∧ v.writable 0x228004 19 = true ∧ v.ticking = true ∧ ((List.range 4).filter fun i => bit (x % 16) i).all (fun i => (getD' v.tap.kslots i { loaded := false, disabledOvr := false, budget := 0, overruns := 0 }).loaded) = true ∧
      sumN (((List.range 4).filter fun i => bit (x % 16) i).map fun i => (getD' v.tap.kslots i { loaded := false, disabledOvr := false, budget := 0, overruns := 0 }).budget) ≤ (if v.rnd.rate96 then 4096 else 8192)) ∧
    (∃ (t : _) (x : _) (i : _) (s v : State), v = s.at t ∧ v.writable 0x228004 19 = true ∧ i < 4 ∧ bit (x % 16) i = true ∧ (getD' v.tap.kslots i { loaded := false, disabledOvr := false, budget := 0, overruns := 0 }).loaded = false) ∧
    (∃ (t : _) (k : _) (s v : State), v = s.at t ∧ k < 34 ∧ v.writable (0x20001C + 0x1000 * k) 19 = true) ∧
    (∃ (t : _) (x : _) (s v : State), v = s.at t ∧ v.writable 0x228000 19 = true ∧ bit x 0 = true ∧ v.sys.mode = .staged) ∧
    (∃ (t : _) (s v : State), v = s.at t ∧ v.writable 0x228000 19 = true ∧ v.sys.mode ≠ .staged) :=
  ⟨⟨1000, 0x24, 15, 0, 0, 15, 1, 0x10000, awake, _, rfl, by decide +kernel⟩,
   ⟨1000, 0x0, 15, 0, 0, 15, 1, 0x10000, awake, _, rfl, by decide +kernel⟩,
   ⟨1000, 3, awake, _, rfl, by decide +kernel⟩,
   ⟨1000, 0x3F0000, 15, 2, awake, _, rfl, by decide +kernel⟩,
   ⟨1000, 0x60004, 15, 0x60000, 6, 4, 5, 0x10000, closing, _, rfl, by decide +kernel⟩,
   ⟨1000, awake, _, rfl, by decide +kernel⟩,
   ⟨1000, 1, awake, _, rfl, by decide +kernel⟩,
   ⟨1000, 1, awake, _, rfl, by decide +kernel⟩,
   ⟨1000, 1, awake, _, rfl, by decide +kernel⟩,
   ⟨1000, 1, awake, _, rfl, by decide +kernel⟩,
   ⟨1000, 1, awake, _, rfl, by decide +kernel⟩,
   ⟨1000, 1, awake, _, rfl, by decide +kernel⟩,
   ⟨1000, 0, awake, _, rfl, by decide +kernel⟩,
   ⟨1000, 0, live, _, rfl, by decide +kernel⟩,
   ⟨1000, 8, 3, awake, _, rfl, by decide +kernel⟩,
   ⟨1000, 33, awake, _, rfl, by decide +kernel⟩,
   ⟨1000, 1, awake, _, rfl, by decide +kernel⟩,
   ⟨1000, live, _, rfl, by decide +kernel⟩⟩

theorem test_hypotheses_DeadboltWritesStayInRange :
    (∃ (t : _) (off : _) (x : _) (s v : State), v = s.at t ∧ (dbltDflt off).isSome = true ∧ v.writable (0x330000 + off) 23 = true ∧ v.sys.mode = .staged ∧ v.dblt.locked = false ∧ dbltInRange off x = true) ∧
    (∃ (t : _) (off : _) (x : _) (s v : State), v = s.at t ∧ (dbltDflt off).isSome = true ∧ v.writable (0x330000 + off) 23 = true ∧ v.sys.mode = .staged ∧ v.dblt.locked = false ∧ dbltInRange off x = false) ∧
    (∃ (t : _) (off : _) (s v : State), v = s.at t ∧ (dbltDflt off).isSome = true ∧ v.writable (0x330000 + off) 23 = true ∧ (v.sys.mode ≠ .staged ∨ v.dblt.locked = true)) :=
  ⟨⟨1000, 0xC, 17058068, awake, _, rfl, by decide +kernel⟩,
   ⟨1000, 0xC, 17058069, awake, _, rfl, by decide +kernel⟩,
   ⟨1000, 0xC, live, _, rfl, by decide +kernel⟩⟩

theorem test_hypotheses_WindowWritesStoreTheirBytes :
    (∃ (t : _) (off : _) (data : Bytes) (s v : State), v = s.at t ∧ off < 0x2000000 ∧ off + data.length ≤ 0x2000000 ∧ v.windowOpen (off) = true ∧ v.boot.state = .receiving) ∧
    (∃ (t : _) (off : _) (data : Bytes) (s v : State), v = s.at t ∧ off < 0x2000000 ∧ off + data.length ≤ 0x2000000 ∧ v.windowOpen off = true ∧ v.boot.state ≠ .receiving) ∧
    (∃ (t : _) (off : _) (data : Bytes) (s v : State), v = s.at t ∧ off < 0x84440 ∧ off + data.length ≤ 0x84440 ∧ v.windowOpen (0x4800000 + off) = true ∧ v.sys.mode = .staged) ∧
    (∃ (t : _) (off : _) (data : Bytes) (s v : State), v = s.at t ∧ off < 0x84440 ∧ off + data.length ≤ 0x84440 ∧ v.windowOpen (0x4800000 + off) = true ∧ v.sys.mode ≠ .staged) ∧
    (∃ (t : _) (off : _) (data : Bytes) (s v : State), v = s.at t ∧ off < 0x30440 ∧ off + data.length ≤ 0x30440 ∧ v.windowOpen (0x4900000 + off) = true ∧ v.rte.frozen = false) ∧
    (∃ (t : _) (off : _) (data : Bytes) (s v : State), v = s.at t ∧ off < 0x30440 ∧ off + data.length ≤ 0x30440 ∧ v.windowOpen (0x4900000 + off) = true ∧ v.rte.frozen = true) ∧
    (∃ (t : _) (off : _) (data : Bytes) (s v : State), v = s.at t ∧ off + data.length ≤ 0x1860000 ∧ v.windowOpen (0x2000000 + off) = true ∧ data ≠ [] ∧ off % 0xC30000 % 0x4100 + data.length ≤ 0x4100 ∧ off % 0xC30000 / 0x4100 < feedCount v.rnd.rate96 ∧ v.corWritable (off / 0xC30000) (off % 0xC30000 / 0x4100) = true) ∧
    (∃ (t : _) (off : _) (data : Bytes) (s v : State), v = s.at t ∧ off + data.length ≤ 0x1860000 ∧ v.windowOpen (0x2000000 + off) = true ∧ data ≠ [] ∧ off % 0xC30000 % 0x4100 + data.length ≤ 0x4100 ∧ (feedCount v.rnd.rate96 ≤ off % 0xC30000 / 0x4100 ∨ v.corWritable (off / 0xC30000) (off % 0xC30000 / 0x4100) = false)) ∧
    (∃ (t : _) (off : _) (s v : State), v = s.at t ∧ ((0x4000000 ≤ off ∧ off < 0x4800000) ∨ 0x4A00000 ≤ off) ∧ v.windowOpen off = true) :=
  ⟨⟨1000, 0x2000000 - 1, [5], receiving, _, rfl, by decide +kernel⟩,
   ⟨1000, 0, [5], awake, _, rfl, by decide +kernel⟩,
   ⟨1000, 0x84440 - 1, [5], awake, _, rfl, by decide +kernel⟩,
   ⟨1000, 0, [5], live, _, rfl, by decide +kernel⟩,
   ⟨1000, 0x30440 - 1, [5], awake, _, rfl, by decide +kernel⟩,
   ⟨1000, 0, [5], { awake with rte := { awake.rte with frozen := true } }, _, rfl, by decide +kernel⟩,
   ⟨1000, 0xC30000, [5], awake, _, rfl, by decide +kernel⟩,
   ⟨1000, 0, [5], awake, _, rfl, by decide +kernel⟩,
   ⟨1000, 0x4000000, awake, _, rfl, by decide +kernel⟩⟩

theorem test_hypotheses_HostFrameRingsAct :
    (∃ (t : _) (s v : State), v = s.at t ∧ v.writable 0x80100 8 = true ∧ v.net.hrx.en = false ∧ ringSizeOk v.net.hrx.size = true) ∧
    (∃ (t : _) (s v : State), v = s.at t ∧ v.writable 0x80100 8 = true ∧ v.net.hrx.en = false ∧ ringSizeOk v.net.hrx.size = false) ∧
    (∃ (t : _) (s v : State), v = s.at t ∧ v.writable 0x80100 8 = true ∧ v.net.htx.en = false ∧ ringSizeOk v.net.htx.size = true) ∧
    (∃ (t : _) (s v : State), v = s.at t ∧ v.writable 0x80100 8 = true ∧ v.net.htx.en = false ∧ ringSizeOk v.net.htx.size = false) ∧
    (∃ (t : _) (s v : State), v = s.at t ∧ v.writable 0x80100 8 = true ∧ v.net.htx.en = true) ∧
    (∃ (t : _) (x : _) (s v : State), v = s.at t ∧ v.writable 0x80110 8 = true ∧ v.net.hrx.en = true ∧ x < v.net.hrx.size) ∧
    (∃ (t : _) (x : _) (s v : State), v = s.at t ∧ v.writable 0x80124 8 = true ∧ v.net.htx.en = true ∧ x < v.net.htx.size) :=
  ⟨⟨1000, { awake with net := { awake.net with hrx := { awake.net.hrx with size := 64 } } }, _, rfl, by decide +kernel⟩,
   ⟨1000, awake, _, rfl, by decide +kernel⟩,
   ⟨1000, { awake with net := { awake.net with htx := { awake.net.htx with size := 64 } } }, _, rfl, by decide +kernel⟩,
   ⟨1000, awake, _, rfl, by decide +kernel⟩,
   ⟨1000, { awake with net := { awake.net with htx := { awake.net.htx with size := 64, en := true } } }, _, rfl, by decide +kernel⟩,
   ⟨1000, 1, { awake with net := { awake.net with hrx := { awake.net.hrx with size := 64, en := true } } }, _, rfl, by decide +kernel⟩,
   ⟨1000, 1, { awake with net := { awake.net with htx := { awake.net.htx with size := 64, en := true } } }, _, rfl, by decide +kernel⟩⟩

theorem test_hypotheses_ResetsReturnTheModuleToReset :
    (∃ (t : _) (s v : State), v = s.at t ∧ v.domainOn 0 = true ∧ v.pwr.bring = none ∧ v.unpowered = false) ∧
    (∃ (t : _) (s v : State), v = s.at t ∧ v.domainOn 0 = true ∧ v.pwr.bring = none ∧ v.unpowered = true) ∧
    (∃ (t : _) (s v : State), v = s.at t ∧ v.pwr.resetLow = true ∧ v.unpowered = false) ∧
    (∃ (t : _) (s v : State), v = s.at t ∧ v.pwr.perst = false ∧ v.domainOn 1 = true) ∧
    (∃ (t : _) (s v : State), v = s.at t ∧ v.pwr.perst = true) ∧
    (∃ (t : _) (m : _) (s v : State), v = s.at t ∧ bit v.fab.drain m = true) :=
  ⟨⟨1000, awake, _, rfl, by decide +kernel⟩,
   ⟨1000, { awake with sys := { awake.sys with mode := .deepSleep } }, _, rfl, by decide +kernel⟩,
   ⟨1000, { awake with pwr := { awake.pwr with resetLow := true } }, _, rfl, by decide +kernel⟩,
   ⟨1000, awake, _, rfl, by decide +kernel⟩,
   ⟨1000, { awake with pwr := { awake.pwr with perst := true } }, _, rfl, by decide +kernel⟩,
   ⟨1000, 12, { awake with fab := { awake.fab with drain := 2 ^ 12 } }, _, rfl, by decide +kernel⟩⟩

theorem test_hypotheses_BootRunsToStaged :
    (∃ (t : _) (s v : State), v = s.at t ∧ v.sys.mode = .cold ∧ v.pwr.resetLow = false ∧ v.pwr.off = false ∧ v.trainEnded = true) ∧
    (∃ (t : _) (s v : State), v = s.at t ∧ v.boot.state = .verifying) ∧
    (∃ (t : _) (s v : State), v = s.at t ∧ v.boot.state = .verifying ∧ (imgVerify v.boot.staging v.boot.size).1 ≠ 1) ∧
    (∃ (t : _) (s v : State), v = s.at t ∧ v.boot.state = .loading) ∧
    (∃ (t : _) (s v : State), v = s.at t ∧ v.boot.state = .selftest) ∧
    (∃ (t : _) (s v : State), v = s.at t ∧ v.boot.state = .starting ∧ v.sys.mode = .awaitImage) :=
  ⟨⟨1000, cold, _, rfl, by decide +kernel⟩,
   ⟨1000, verifying, _, rfl, by decide +kernel⟩,
   ⟨1000, verifying, _, rfl, by decide +kernel⟩,
   ⟨1000, { receiving with boot := { receiving.boot with state := .loading } }, _, rfl, by decide +kernel⟩,
   ⟨1000, { receiving with boot := { receiving.boot with state := .selftest } }, _, rfl, by decide +kernel⟩,
   ⟨1000, { receiving with boot := { receiving.boot with state := .starting } }, _, rfl, by decide +kernel⟩⟩

theorem test_hypotheses_PowerPathEventsAct :
    (∃ (t : _) (s v : State), v = s.at t ∧ v.pwr.source = 0 ∧ v.pwr.bOk = true) ∧
    (∃ (t : _) (s v : State), v = s.at t ∧ v.pwr.source = 1 ∧ v.pwr.aOk = true ∧ v.pwr.exercise = none) ∧
    (∃ (t : _) (s : State) (e : _) (v : State), v = s.at t ∧ v.pwr.source = 1 ∧ v.pwr.aOk = true ∧ v.pwr.exercise = some e) ∧
    (∃ (t : _) (s v : State), v = s.at t ∧ v.pwr.source = 1 ∧ v.pwr.exercise = none) ∧
    (∃ (t : _) (s v : State), v = s.at t ∧ (v.pwr.source = 0 ∧ v.pwr.bOk = false ∨ v.pwr.source = 1 ∧ v.pwr.aOk = false)) ∧
    (∃ (t : _) (a : _) (b : _) (s v : State), v = s.at t ∧ v.pwr.source = 2 ∧ v.domainOn 0 = true ∧ (a || b) = true) ∧
    (∃ (t : _) (s v : State), v = s.at t ∧ v.pwr.source = 2 ∧ v.domainOn 0 = true ∧ v.pwr.srcAt + 2000000 ≤ v.now) ∧
    (∃ (t : _) (a : _) (b : _) (s v : State), v = s.at t ∧ v.pwr.off = true ∧ v.domainOn 0 = false ∧ (a || b) = true) ∧
    (∃ (t : _) (s v : State), v = s.at t ∧ v.pwr.source ≠ 1 ∧ v.domainOn 0 = true) ∧
    (∃ (t : _) (s v : State), v = s.at t ∧ v.pwr.source ≠ 0 ∧ v.domainOn 0 = true) ∧
    (∃ (t : _) (s v : State), v = s.at t ∧ v.domainOn 0 = true ∧ v.pwr.samples.length + 1 < 10) ∧
    (∃ (t : _) (s v : State), v = s.at t ∧ v.domainOn 0 = true ∧ 10 ≤ v.pwr.samples.length + 1) ∧
    (∃ (t : _) (s : State) (e : _) (v : State), v = s.at t ∧ v.pwr.exercise = some e ∧ e.start + 200000000 ≤ v.now ∧ 10800 ≤ e.minB ∧ e.maxB ≤ 13200 ∧ e.transferred = true) ∧
    (∃ (t : _) (s : State) (e : _) (v : State), v = s.at t ∧ v.pwr.exercise = some e ∧ e.start + 200000000 ≤ v.now ∧ 10200 ≤ e.minB ∧ e.minB < 10800) ∧
    (∃ (t : _) (s : State) (e : _) (v : State), v = s.at t ∧ v.pwr.exercise = some e ∧ e.start + 200000000 ≤ v.now ∧ (10800 ≤ e.minB ∨ e.minB < 10200) ∧ e.transferred = false ∧ e.fell = false) ∧
    (∃ (t : _) (s : State) (k : _) (src : _) (v : State), v = s.at t ∧ v.pwr.bring = some (k, src) ∧ v.pwr.transAt ≤ v.now ∧ (k = 11 → v.pwr.holdupReady = true) ∧ k ≠ 12) ∧
    (∃ (t : _) (s : State) (src : _) (v : State), v = s.at t ∧ v.pwr.bring = some (12, src) ∧ v.pwr.transAt ≤ v.now) ∧
    (∃ (t : _) (rail : _) (s v : State), v = s.at t ∧ v.railOn rail = true) ∧
    (∃ (t : _) (s v : State), v = s.at t ∧ v.pwr.off = true ∧ v.pwr.bring = none ∧ v.pwr.stuck = false ∧ v.domainOn 0 = true ∧ v.pwr.rail ≠ 0 ∧ v.pwr.transAt + 1000000000 ≤ v.now) ∧
    (∃ (t : _) (s v : State), v = s.at t ∧ v.deepAsleep = true) ∧
    (∃ (t : _) (s : State) (w : _) (v : State), v = s.at t ∧ v.deepAsleep = true ∧ v.pwr.wakeAt = some w ∧ w ≤ v.now) :=
  ⟨⟨1000, { awake with pwr := { awake.pwr with bOk := true } }, _, rfl, by decide +kernel⟩,
   ⟨1000, { awake with pwr := { awake.pwr with source := 1, aOk := true } }, _, rfl, by decide +kernel⟩,
   ⟨1000, { awake with pwr := { awake.pwr with source := 1, aOk := true, exercise := some someExercise } }, someExercise, _, rfl, by decide +kernel⟩,
   ⟨1000, { awake with pwr := { awake.pwr with source := 1 } }, _, rfl, by decide +kernel⟩,
   ⟨1000, { awake with pwr := { awake.pwr with bOk := false } }, _, rfl, by decide +kernel⟩,
   ⟨1000, false, true, { awake with pwr := { awake.pwr with source := 2 } }, _, rfl, by decide +kernel⟩,
   ⟨3000000, { awake with pwr := { awake.pwr with source := 2 } }, _, rfl, by decide +kernel⟩,
   ⟨1000, true, false, { awake with pwr := { awake.pwr with off := true, domains := 0 } }, _, rfl, by decide +kernel⟩,
   ⟨1000, awake, _, rfl, by decide +kernel⟩,
   ⟨1000, { awake with pwr := { awake.pwr with source := 1 } }, _, rfl, by decide +kernel⟩,
   ⟨1000, awake, _, rfl, by decide +kernel⟩,
   ⟨1000, { awake with pwr := { awake.pwr with samples := List.replicate 9 (1, 2, 3, 4) } }, _, rfl, by decide +kernel⟩,
   ⟨200001000, { awake with pwr := { awake.pwr with source := 1, exercise := some someExercise } }, someExercise, _, rfl, by decide +kernel⟩,
   ⟨200001000, { awake with pwr := { awake.pwr with source := 1, exercise := some { someExercise with minB := 10200 } } }, { someExercise with minB := 10200 }, _, rfl, by decide +kernel⟩,
   ⟨200001000, { awake with pwr := { awake.pwr with source := 1, exercise := some { someExercise with transferred := false, fell := false } } }, { someExercise with transferred := false, fell := false }, _, rfl, by decide +kernel⟩,
   ⟨1000, { awake with pwr := { awake.pwr with bring := some (11, 1), holdupReady := true } }, 11, 1, _, rfl, by decide +kernel⟩,
   ⟨1000, { awake with pwr := { awake.pwr with bring := some (12, 4) } }, 4, _, rfl, by decide +kernel⟩,
   ⟨1000, 13, awake, _, rfl, by decide +kernel⟩,
   ⟨1000000000, { awake with pwr := { awake.pwr with off := true, rail := 13, domains := 1 } }, _, rfl, by decide +kernel⟩,
   ⟨1000, { awake with sys := { awake.sys with mode := .deepSleep } }, _, rfl, by decide +kernel⟩,
   ⟨1000, { awake with sys := { awake.sys with mode := .deepSleep }, pwr := { awake.pwr with wakeAt := some 1000 } }, 1000, _, rfl, by decide +kernel⟩⟩

theorem test_hypotheses_PowerTransitionsStep :
    (∃ (t : _) (k : _) (s v : State), v = s.at t ∧ (v.pwr.trans = 1 ∨ v.pwr.trans = 3) ∧ v.gatesSettled = true ∧ v.pwr.stepNo = k ∧ 1 ≤ k ∧ k < 10 ∧ v.pwr.transAt + getD' sleepTimes k 0 ≤ v.now) ∧
    (∃ (t : _) (s v : State), v = s.at t ∧ v.pwr.trans = 1 ∧ v.gatesSettled = true ∧ v.pwr.stepNo = 9 ∧ v.pwr.transAt + 5000000 ≤ v.now) ∧
    (∃ (t : _) (s v : State), v = s.at t ∧ v.pwr.trans = 2 ∧ v.pwr.stepNo = 0 ∧ v.pwr.transAt + 0 ≤ v.now) ∧
    (∃ (t : _) (s v : State), v = s.at t ∧ v.pwr.trans = 2 ∧ v.pwr.stepNo = 1 ∧ v.pwr.transAt + 2000000 ≤ v.now) ∧
    (∃ (t : _) (s v : State), v = s.at t ∧ v.pwr.trans = 2 ∧ v.pwr.stepNo = 2 ∧ v.pwr.transAt + 4000000 ≤ v.now) ∧
    (∃ (t : _) (s v : State), v = s.at t ∧ v.pwr.trans = 2 ∧ v.pwr.stepNo = 3 ∧ v.pwr.transAt + 6000000 ≤ v.now) ∧
    (∃ (t : _) (s v : State), v = s.at t ∧ v.pwr.trans = 2 ∧ v.pwr.stepNo = 4 ∧ v.pwr.transAt + 38000000 ≤ v.now) ∧
    (∃ (t : _) (s v : State), v = s.at t ∧ v.pwr.trans = 2 ∧ v.pwr.stepNo = 5 ∧ v.pwr.transAt + 40000000 ≤ v.now) ∧
    (∃ (t : _) (s : State) (r : _) (v : State), v = s.at t ∧ v.pwr.trans = 3 ∧ v.pwr.stepNo = 10 ∧ v.pwr.transAt ≤ v.now ∧ v.pwr.cur = some r) ∧
    (∃ (t : _) (s v : State), v = s.at t ∧ v.pwr.trans = 3 ∧ v.pwr.stepNo = 11 ∧ v.pwr.transAt + 1000000 ≤ v.now) ∧
    (∃ (t : _) (s v : State), v = s.at t ∧ v.pwr.trans = 3 ∧ v.pwr.stepNo = 12 ∧ v.pwr.transAt + 3000000 ≤ v.now) ∧
    (∃ (t : _) (s : State) (r : _) (v : State), v = s.at t ∧ v.pwr.trans = 0 ∧ v.pwr.queued = some r ∧ State.pwrRefusal { v with pwr := { v.pwr with queued := none } } r.op = none) ∧
    (∃ (t : _) (s : State) (r : _) (st : _) (v : State), v = s.at t ∧ v.pwr.trans = 0 ∧ v.pwr.queued = some r ∧ State.pwrRefusal { v with pwr := { v.pwr with queued := none } } r.op = some st) :=
  ⟨⟨5000000, 9, { awake with pwr := { awake.pwr with trans := 1, stepNo := 9 } }, _, rfl, by decide +kernel⟩,
   ⟨5000000, { awake with pwr := { awake.pwr with trans := 1, stepNo := 9 } }, _, rfl, by decide +kernel⟩,
   ⟨1000, { awake with pwr := { awake.pwr with trans := 2, stepNo := 0 } }, _, rfl, by decide +kernel⟩,
   ⟨2000000, { awake with pwr := { awake.pwr with trans := 2, stepNo := 1 } }, _, rfl, by decide +kernel⟩,
   ⟨4000000, { awake with pwr := { awake.pwr with trans := 2, stepNo := 2 } }, _, rfl, by decide +kernel⟩,
   ⟨6000000, { awake with pwr := { awake.pwr with trans := 2, stepNo := 3 } }, _, rfl, by decide +kernel⟩,
   ⟨38000000, { awake with pwr := { awake.pwr with trans := 2, stepNo := 4 } }, _, rfl, by decide +kernel⟩,
   ⟨40000000, { awake with sys := { awake.sys with mode := .sleep }, pwr := { awake.pwr with trans := 2, stepNo := 5 } }, _, rfl, by decide +kernel⟩,
   ⟨1000, { awake with pwr := { awake.pwr with trans := 3, stepNo := 10, cur := some { op := 0x911, after := 5, ref := someRef } } }, { op := 0x911, after := 5, ref := someRef }, _, rfl, by decide +kernel⟩,
   ⟨1000000, { awake with pwr := { awake.pwr with trans := 3, stepNo := 11 } }, _, rfl, by decide +kernel⟩,
   ⟨3000000, { awake with pwr := { awake.pwr with trans := 3, stepNo := 12 } }, _, rfl, by decide +kernel⟩,
   ⟨1000, { awake with pwr := { awake.pwr with queued := some { op := 0x911, after := 5, ref := someRef } } }, { op := 0x911, after := 5, ref := someRef }, _, rfl, by decide +kernel⟩,
   ⟨1000, { awake with pwr := { awake.pwr with queued := some { op := 0x912, after := 5, ref := someRef } } }, { op := 0x912, after := 5, ref := someRef }, .badMode, _, rfl, by decide +kernel⟩⟩

theorem test_hypotheses_YieldAndTemperatureEventsAct :
    (∃ (w : WdogWrite) (s v : State), v = s.at w.t ∧ v.imageRuns = true ∧ v.powered = true) ∧
    (∃ v : State, v.intg.yieldPend = none ∧ v.sys.mode ≠ .yielded) ∧
    (∃ (t : _) (s v : State), v = s.at t ∧ v.ticking = true ∧ v.intg.kickAt + 4000000 ≤ v.now ∧ v.intg.yieldPend = none) ∧
    (∃ (t : _) (tj : _) (s v : State), v = s.at t ∧ v.pwr.off = false ∧ tj < 400 ∧ (v.intg.cool = false ∨ tj < 400)) ∧
    (∃ (t : _) (tj : _) (s v : State), v = s.at t ∧ v.pwr.off = false ∧ 400 ≤ tj ∧ tj < 460 ∧ v.intg.cool = true) ∧
    (∃ (t : _) (tj : _) (s v : State), v = s.at t ∧ v.pwr.off = false ∧ v.imageRuns = true ∧ v.powered = true ∧ 460 ≤ tj ∧ tj < 500 ∧ v.intg.hot = 1 ∧ v.intg.yieldPend = none ∧ v.sys.mode ≠ .yielded) ∧
    (∃ (t : _) (tj : _) (s v : State), v = s.at t ∧ v.pwr.off = false ∧ 500 ≤ tj) ∧
    (∃ (t : _) (s : State) (n : _) (r : _) (v : State), v = s.at t ∧ v.powered = true ∧ v.intg.yieldPend = some (n, r)) :=
  ⟨⟨{ t := 1000, faults := [.fw 64 false] }, awake, _, rfl, by decide +kernel⟩,
   ⟨awake, by decide +kernel⟩,
   ⟨4000000, live, _, rfl, by decide +kernel⟩,
   ⟨1000, 399, awake, _, rfl, by decide +kernel⟩,
   ⟨1000, 400, { awake with intg := { awake.intg with cool := true } }, _, rfl, by decide +kernel⟩,
   ⟨1000, 460, { awake with intg := { awake.intg with hot := 1 } }, _, rfl, by decide +kernel⟩,
   ⟨1000, 500, awake, _, rfl, by decide +kernel⟩,
   ⟨1000, { awake with intg := { awake.intg with yieldPend := some (9, 2) } }, 9, 2, _, rfl, by decide +kernel⟩⟩

theorem test_hypotheses_ClockAndGateEventsAct :
    (∃ (t : _) (p : _) (x : _) (s v : State), v = s.at t ∧ p < 3 ∧ (v.pll p).bypass ≠ x ∧ v.pwr.off = false) ∧
    (∃ (t : _) (p : _) (x : _) (s v : State), v = s.at t ∧ p < 3 ∧ (v.pll p).bypass ≠ x ∧ v.pwr.off = false) ∧
    (∃ (t : _) (p : _) (s v : State), v = s.at t ∧ p < 3 ∧ (v.pll p).bypass = false ∧ v.pwr.off = false) ∧
    (∃ (t : _) (l : RefLoss) (s v : State), v = s.at t ∧ l.pll < 8 ∧ (v.pll l.pll).coast = false ∧ v.powered = true) ∧
    (∃ (t : _) (p : _) (s v : State), v = s.at t ∧ 5 ≤ p ∧ p ≤ 7 ∧ (v.pll p).coast = true ∧ v.powered = true) ∧
    (∃ (t : _) (khz : _) (s v : State), v = s.at t ∧ v.powered = true ∧ (∀ p < 9, v.freqBad p (getD' khz p 0 % 2 ^ 32) = false) ∧ v.clk.plls.length = 9) ∧
    (∃ (t : _) (s v : State), v = s.at t ∧ v.clk.xtalOk = true ∧ v.powered = true ∧ v.intg.yieldPend = none ∧ v.sys.mode ≠ .yielded) ∧
    (∃ (t : _) (g : _) (s v : State), v = s.at t ∧ g < 15 ∧ (v.gate g).st = .pending) ∧
    (∃ (t : _) (g : _) (s v : State), v = s.at t ∧ g < 15 ∧ (v.gate g).st = .pending ∧ v.pwr.trans ≠ 1) ∧
    (∃ (t : _) (g : _) (s v : State), v = s.at t ∧ g < 15 ∧ (v.gate g).st = .pending ∧ v.pwr.trans = 1) :=
  ⟨⟨1000, 2, true, awake, _, rfl, by decide +kernel⟩,
   ⟨1000, 2, true, awake, _, rfl, by decide +kernel⟩,
   ⟨1000, 0, awake, _, rfl, by decide +kernel⟩,
   ⟨1000, { pll := 7, outstanding := [] }, awake, _, rfl, by decide +kernel⟩,
   ⟨1000, 7, coasting, _, rfl, by decide +kernel⟩,
   ⟨1000, [1000000, 800000, 1200000, 1066625, 1250000, 10312500, 10312500, 16000000, 24576], awake, _, rfl, by decide +kernel⟩,
   ⟨1000, awake, _, rfl, by decide +kernel⟩,
   ⟨1000, 4, closing, _, rfl, by decide +kernel⟩,
   ⟨1000, 4, closing, _, rfl, by decide +kernel⟩,
   ⟨1000, 4, { closing with pwr := { closing.pwr with trans := 1 } }, _, rfl, by decide +kernel⟩⟩

theorem test_hypotheses_PortEventsAct :
    (∃ (t : _) (port : _) (s v : State), v = s.at t ∧ port < 4 ∧ (v.mac port).link = true) ∧
    (∃ (t : _) (port : _) (s v : State), v = s.at t ∧ port < 4 ∧ (v.mac port).link = false ∧ v.portOpen port = true ∧ (v.pll (if port < 2 then 5 else 6)).coast = false) ∧
    (∃ (t : _) (port : _) (vid : _) (s v : State), v = s.at t ∧ v.portOpen port = true ∧ port ≠ 3 ∧ v.vidKnown (vid % 4096) = false) ∧
    (∃ (t : _) (port : _) (d : FrameDrop) (s v : State), v = s.at t ∧ v.portOpen port = true ∧ v.vidKnown (d.vid.getD 0 % 4096) = true ∧ (port = 3 → d.vid.getD 0 % 4096 = 0) ∧ d.nobuf = false) ∧
    (∃ (t : _) (port : _) (d : FrameDrop) (s v : State), v = s.at t ∧ v.portOpen port = true ∧ v.vidKnown (d.vid.getD 0 % 4096) = true ∧ (port = 3 → d.vid.getD 0 % 4096 = 0) ∧ d.nobuf = true) ∧
    (∃ (t : _) (vid : _) (s v : State), v = s.at t ∧ v.portOpen 3 = true ∧ vid % 4096 ≠ 0) ∧
    (∃ (t : _) (port : _) (s v : State), v = s.at t ∧ v.portOpen port = true) ∧
    (∃ (t : _) (port : _) (vid : _) (s v : State), v = s.at t ∧ v.portServes port = true ∧ v.vidKnown vid = true ∧ (port = 3 → vid = 0) ∧ v.portIp port ≠ 0) ∧
    (∃ (t : _) (port : _) (vid : _) (s v : State), v = s.at t ∧ v.portServes port = true ∧ v.vidKnown vid = true ∧ (port = 3 → vid = 0) ∧ v.portIp port ≠ 0) ∧
    (∃ (t : _) (port : _) (ip : _) (s v : State), v = s.at t ∧ v.portServes port = true ∧ (tabGet none (v.mac port).asked ip).isSome = true ∧ (tabGet none (v.mac port).arp ip) = none) ∧
    (∃ (u : Udp) (s v : State), v = s.at u.t ∧ v.portServes u.port = true ∧ u.port ≠ 3 ∧ v.vidKnown u.vid = true ∧ v.portIp u.port ≠ 0 ∧ u.dst = v.portIp u.port ∧
      udpLen u.body.length (u.vid != 0) ≤ frameMax u.port) ∧
    (∃ (t : _) (port : _) (s v : State), v = s.at t ∧ v.portServes port = true ∧ port < 2 ∧ v.vidKnown 0 = true) ∧
    (∃ (t : _) (s v : State), v = s.at t ∧ v.mediaTx = true) ∧
    (∃ (t : _) (s v : State), v = s.at t ∧ v.mediaTx = true) ∧
    (∃ (t : _) (port : _) (s v : State), v = s.at t ∧ v.portServes port = true ∧ port ≠ 3 ∧ v.imageRuns = true) ∧
    (∃ (t : _) (port : _) (s v : State), v = s.at t ∧ v.portOpen port = true ∧ port ≠ 3) ∧
    (∃ (t : _) (s v : State), v = s.at t ∧ v.portOpen 3 = true) ∧
    (∃ (t : _) (port : _) (s : State) (e : _) (v : State), v = s.at t ∧ port < 4 ∧ (v.mac port).pausedTo = some e ∧ e ≤ v.now) ∧
    (∃ (t : _) (port : _) (s v : State), v = s.at t ∧ v.portOpen port = true ∧ (v.mac port).link = true ∧ (v.mac port).eeeEn = true) ∧
    (∃ (t : _) (port : _) (s v : State), v = s.at t ∧ v.portOpen port = true ∧ (v.mac port).link = true ∧ v.inLpi port = false ∧ v.lpiAllowed port = true ∧ (∀ f ∈ (v.mac port).queue, v.media < f.launch)) ∧
    (∃ (t : _) (frame : Bytes) (s v : State), v = s.at t ∧ v.portOpen 2 = true ∧ v.imageRuns = true ∧ v.net.hrx.en = true ∧ etherType frame = 0x0800 ∧ frame.length ≤ 1518 ∧ frame.length ≤ sumN (v.net.hrx.slots.map fun sl => rd16 sl 8)) ∧
    (∃ (t : _) (frame : Bytes) (s v : State), v = s.at t ∧ v.portOpen 2 = true ∧ v.imageRuns = true ∧ v.net.hrx.en = true ∧ etherType frame = 0x0800 ∧ frame.length ≤ 1518 ∧ sumN (v.net.hrx.slots.map fun sl => rd16 sl 8) < frame.length) ∧
    (∃ (t : _) (frame : Bytes) (s v : State), v = s.at t ∧ v.portOpen 2 = true ∧ (v.imageRuns = true → v.net.hrx.en = true → (etherType frame ≠ 0x0800 ∨ 1518 < frame.length))) ∧
    (∃ (t : _) (port : _) (s : State) (f : _) (v : State), v = s.at t ∧ v.txReady port = true ∧ v.nextFrame port = some f) :=
  ⟨⟨1000, 1, linked, _, rfl, by decide +kernel⟩,
   ⟨1000, 3, awake, _, rfl, by decide +kernel⟩,
   ⟨1000, 1, 5, awake, _, rfl, by decide +kernel⟩,
   ⟨1000, 1, { vid := none, nobuf := false }, awake, _, rfl, by decide +kernel⟩,
   ⟨1000, 1, { vid := none, nobuf := true }, awake, _, rfl, by decide +kernel⟩,
   ⟨1000, 5, awake, _, rfl, by decide +kernel⟩,
   ⟨1000, 1, awake, _, rfl, by decide +kernel⟩,
   ⟨1000, 2, 0, linked, _, rfl, by decide +kernel⟩,
   ⟨1000, 2, 0, linked, _, rfl, by decide +kernel⟩,
   ⟨1000, 2, 5, { linked with macM := { linked.macM with asked := [(5, some 0)] } }, _, rfl, by decide +kernel⟩,
   ⟨{ someUdp with port := 2, dst := 0xA000002 }, linked, _, rfl, by decide +kernel⟩,
   ⟨1000, 1, live, _, rfl, by decide +kernel⟩,
   ⟨1000, live, _, rfl, by decide +kernel⟩,
   ⟨1000, live, _, rfl, by decide +kernel⟩,
   ⟨1000, 2, awake, _, rfl, by decide +kernel⟩,
   ⟨1000, 2, awake, _, rfl, by decide +kernel⟩,
   ⟨1000, awake, _, rfl, by decide +kernel⟩,
   ⟨1000, 2, { awake with macM := { awake.macM with pausedTo := some 1000 } }, 1000, _, rfl, by decide +kernel⟩,
   ⟨1000, 2, { linked with macM := { linked.macM with eeeEn := true } }, _, rfl, by decide +kernel⟩,
   ⟨1000, 2, { linked with macM := { linked.macM with eeeEn := true } }, _, rfl, by decide +kernel⟩,
   ⟨1000, ipFrame, { awake with net := { awake.net with hrx := { awake.net.hrx with en := true, size := 64, slots := [List.replicate 32 1] } } }, _, rfl, by decide +kernel⟩,
   ⟨1000, ipFrame, { awake with net := { awake.net with hrx := { awake.net.hrx with en := true, size := 64 } } }, _, rfl, by decide +kernel⟩,
   ⟨1000, [1, 2], { awake with net := { awake.net with hrx := { awake.net.hrx with en := true, size := 64 } } }, _, rfl, by decide +kernel⟩,
   ⟨1000, 2, { linked with macM := { linked.macM with queue := [TxFrame.udp 3 5 6 7 []] } }, TxFrame.udp 3 5 6 7 [], _, rfl, by decide +kernel⟩⟩

theorem test_hypotheses_PtpEventsAct :
    (∃ (m : PtpMsg) (s v : State), v = s.at m.t ∧ m.port < 2 ∧ v.portOpen m.port = true ∧ v.vidKnown m.vid = true ∧ v.ptpOn = true ∧ m.domain = v.ptm.cfg.domain ∧ bit v.ptm.cfg.ports m.port = true ∧
      tabGet 0 v.net.vlan (v.ptpVlan m.port) % 4096 = m.vid ∧ m.ann.ok = true) ∧
    (∃ (m : PtpMsg) (s v : State), v = s.at m.t ∧ m.port < 2 ∧ v.portOpen m.port = true ∧ v.vidKnown m.vid = true ∧ v.ptpOn = true ∧ m.domain = v.ptm.cfg.domain ∧ bit v.ptm.cfg.ports m.port = true ∧
      tabGet 0 v.net.vlan (v.ptpVlan m.port) % 4096 = m.vid ∧ -7 ≤ m.logInterval ∧ m.logInterval ≤ 1 ∧ m.twoStep = true) ∧
    (∃ (m : PtpMsg) (s v : State), v = s.at m.t ∧ m.port < 2 ∧ v.portOpen m.port = true ∧ v.vidKnown m.vid = true ∧ v.ptpOn = true ∧ m.domain = v.ptm.cfg.domain ∧ bit v.ptm.cfg.ports m.port = true ∧
      tabGet 0 v.net.vlan (v.ptpVlan m.port) % 4096 = m.vid ∧ -7 ≤ m.logInterval ∧ m.logInterval ≤ 1 ∧ m.twoStep = false) ∧
    (∃ (m : PtpMsg) (rx : _) (corr : _) (s v : State), v = s.at m.t ∧ m.port < 2 ∧ v.portOpen m.port = true ∧ v.vidKnown m.vid = true ∧ v.ptpOn = true ∧ m.domain = v.ptm.cfg.domain ∧ bit v.ptm.cfg.ports m.port = true ∧
      tabGet 0 v.net.vlan (v.ptpVlan m.port) % 4096 = m.vid ∧ (v.ptpPort m.port).wait = some (m.seq, rx, corr)) ∧
    (∃ (m : PtpMsg) (t3 : _) (s v : State), v = s.at m.t ∧ m.port < 2 ∧ v.portOpen m.port = true ∧ v.vidKnown m.vid = true ∧ v.ptpOn = true ∧ m.domain = v.ptm.cfg.domain ∧ bit v.ptm.cfg.ports m.port = true ∧
      tabGet 0 v.net.vlan (v.ptpVlan m.port) % 4096 = m.vid ∧ m.source = (v.ptpPort m.port).parent ∧ ((v.ptpPort m.port).reqs.find? fun r => r.1 == m.seq) = some (m.seq, t3)) ∧
    (∃ (t : _) (port : _) (s : State) (f : _) (v : State), v = s.at t ∧ v.mayAsk port = true ∧ f = { TxFrame.made 7 (v.delayDst port) 319 (.delayReq (v.ptpPort port).nextReq) with vlan := v.ptpVlan port } ∧
      (v.startFrame port f).1 = true) ∧
    (∃ (t : _) (port : _) (s : State) (f : _) (v : State), v = s.at t ∧ v.mayAsk port = true ∧ f = { TxFrame.made 7 (v.delayDst port) 319 (.delayReq (v.ptpPort port).nextReq) with vlan := v.ptpVlan port } ∧
      (v.startFrame port f).1 = false) ∧
    (∃ (t : _) (port : _) (s v : State), v = s.at t ∧ port < 2 ∧ v.ptpOn = true ∧ ((v.ptpPort port).foreign.any fun x => decide (x.heardAt + x.ann.timeout ≤ v.now)) = true) ∧
    (∃ (t : _) (port : _) (s v : State), v = s.at t ∧ ((v.ptpPort port).foreign.any fun x => decide (x.heardAt + x.ann.timeout ≤ v.now)) = false) ∧
    (∃ (t : _) (s v : State), v = s.at t ∧ v.ptm.a.silent v.now 1000000000 = true ∧ v.ptm.b.silent v.now 1000000000 = true ∧ v.rendering = true ∧ v.ptm.lost = false) ∧
    (∃ (t : _) (s : State) (c : _) (v : State), v = s.at t ∧ v.ptpOn = true ∧ v.seesGm (if v.ptm.activeB then v.ptm.a else v.ptm.b) = true ∧ (c = if v.ptm.activeB then v.ptm.b else v.ptm.a) ∧ c.silent v.now (4 * logNs c.syncInt) = true) ∧
    (∃ (t : _) (s v : State), v = s.at t ∧ v.imageRuns = true ∧ v.powered = true ∧ (v.gate 10).st = .opened ∧ v.ptm.edgeRise = none ∧ v.ptm.scene = none) ∧
    (∃ (t : _) (s : State) (sc : _) (v : State), v = s.at t ∧ v.imageRuns = true ∧ v.powered = true ∧ (v.gate 10).st = .opened ∧ v.ptm.edgeFall = none ∧ v.ptm.scene = some sc ∧ sc.falling = true ∧ (sc.strobe && v.ticking) = false) ∧
    (∃ (t : _) (s : State) (sc : _) (v : State), v = s.at t ∧ v.imageRuns = true ∧ v.powered = true ∧ (v.gate 10).st = .opened ∧ v.ptm.edgeFall = none ∧ v.ptm.scene = some sc ∧ sc.falling = true ∧ sc.strobe = true ∧ v.ticking = true) ∧
    (∃ (t : _) (s : State) (l : _) (v : State), v = s.at t ∧ v.ptm.edgeRise = some l ∧ v.now ≤ l + 1000) ∧
    (∃ (t : _) (s : State) (sc : _) (e : _) (v : State), v = s.at t ∧ v.ptm.scene = some sc ∧ v.ptm.strobeLive = true ∧ v.lastEdge sc = some e ∧ (e + sc.twoFrames : Int) ≤ v.media) ∧
    (∃ (t : _) (s v : State), v = s.at t ∧ v.ptm.scene = none) :=
  ⟨⟨someMsg, live, _, rfl, by decide +kernel⟩,
   ⟨{ someMsg with twoStep := true }, live, _, rfl, by decide +kernel⟩,
   ⟨someMsg, live, _, rfl, by decide +kernel⟩,
   ⟨someMsg, 5, 6, { live with ptm := { live.ptm with a := { live.ptm.a with wait := some (0, 5, 6) } } }, _, rfl, by decide +kernel⟩,
   ⟨someMsg, 5, { live with ptm := { live.ptm with a := { live.ptm.a with parent := 9, reqs := [(0, 5)] } } }, _, rfl, by decide +kernel⟩,
   ⟨1000, 0, asking, _, _, rfl, by decide +kernel, rfl, by decide +kernel⟩,
   ⟨1000, 0, shutOut, _, _, rfl, by decide +kernel, rfl, by decide +kernel⟩,
   ⟨90000000000, 0, { live with ptm := { live.ptm with a := { live.ptm.a with foreign := [someMaster] } } }, _, rfl, by decide +kernel⟩,
   ⟨1000, 0, live, _, rfl, by decide +kernel⟩,
   ⟨1000, live, _, rfl, by decide +kernel⟩,
   ⟨1000, { live with ptm := { live.ptm with gm := some 7, b := { live.ptm.b with ann := some someAnn } } }, live.ptm.a, _, rfl, by decide +kernel⟩,
   ⟨1000, awake, _, rfl, by decide +kernel⟩,
   ⟨1000, { awake with ptm := { awake.ptm with scene := some someScene } }, someScene, _, rfl, by decide +kernel⟩,
   ⟨1000, { live with ptm := { live.ptm with scene := some someScene } }, someScene, _, rfl, by decide +kernel⟩,
   ⟨1000, { awake with ptm := { awake.ptm with edgeRise := some 0 } }, 0, _, rfl, by decide +kernel⟩,
   ⟨100000000, { awake with ptm := { awake.ptm with scene := some someScene, strobeLive := true, fallAt := some 0 } }, someScene, 0, _, rfl, by decide +kernel⟩,
   ⟨1000, awake, _, rfl, by decide +kernel⟩⟩

theorem test_hypotheses_MediaEventsAct :
    (∃ (u : Udp) (s v : State), v = s.at u.t ∧ u.port < 2 ∧ v.portOpen u.port = true ∧ v.vidKnown u.vid = true ∧ udpLen u.body.length (u.vid != 0) ≤ 1522 ∧ v.ticking = true) ∧
    (∃ (u : Udp) (s v : State), v = s.at u.t ∧ u.port < 2 ∧ v.portOpen u.port = true ∧ v.vidKnown u.vid = true ∧ udpLen u.body.length (u.vid != 0) ≤ 1522 ∧ v.ticking = false) ∧
    (∃ (u : Udp) (s v : State), v = s.at u.t ∧ u.port < 2 ∧ v.portOpen u.port = true ∧ v.vidKnown u.vid = true ∧ udpLen u.body.length (u.vid != 0) ≤ 1522 ∧ v.ticking = true) ∧
    (∃ (t : _) (e : _) (i : _) (s v : State), v = s.at t ∧ v.streams = true ∧ frOn (v.flowOut e) = true ∧ frKind (v.flowOut e) = 0 ∧ i = v.stamp (v.flowOut e) (tabGet 0 v.rnd.pktNext e) ∧ v.packetReady (v.flowOut e) i = true ∧ (v.launchTime (v.flowOut e) i : Int) ≤ v.media) ∧
    (∃ (t : _) (e : _) (s : State) (f : _) (v : State), v = s.at t ∧ (v.net.relayed.find? fun f => f.1 == e) = some f ∧ (v.rendering = false ∨ frOn (v.flowOut e) = false ∨ frKind (v.flowOut e) ≠ 1)) ∧
    (∃ (t : _) (e : _) (b : _) (ts : _) (s v : State), v = s.at t ∧ (v.net.relayed.find? fun f => f.1 == e) = some (e, [b], ts) ∧ v.streams = true ∧ frOn (v.flowOut e) = true ∧ frKind (v.flowOut e) = 1) :=
  ⟨⟨someUdp, live, _, rfl, by decide +kernel⟩,
   ⟨someUdp, awake, _, rfl, by decide +kernel⟩,
   ⟨someUdp, live, _, rfl, by decide +kernel⟩,
   ⟨100000000, 0, _, streaming, _, rfl, by decide +kernel, by decide +kernel, by decide +kernel, rfl, by decide +kernel⟩,
   ⟨1000, 0, { awake with net := { awake.net with relayed := [(0, [[]], 5)] } }, (0, [[]], 5), _, rfl, by decide +kernel⟩,
   ⟨1000, 0, [9], 5, relaying, _, rfl, by decide +kernel⟩⟩

theorem test_hypotheses_TwinEventsAct :
    (∃ (t : _) (p : TwinPath) (s v : State), v = s.at t ∧ v.twinOn = true ∧ v.portServes p.port = true) ∧
    (∃ (t : _) (p : TwinPath) (s v : State), v = s.at t ∧ v.portServes p.port = true ∧ v.twinOn = true ∧ (p = .hasp → v.imageRuns = true)) ∧
    (∃ (t : _) (s v : State), v = s.at t ∧ v.portOpen 3 = true ∧ v.imageRuns = false) ∧
    (∃ (t : _) (p : TwinPath) (s v : State), v = s.at t ∧ v.twinOn = true ∧ (v.pathUp p && (v.missOne p).missedOut p) = false) ∧
    (∃ (t : _) (p : TwinPath) (s v : State), v = s.at t ∧ v.twinOn = true ∧ v.pathUp p = true ∧ (v.missOne p).missedOut p = true) ∧
    (∃ (t : _) (p : TwinPath) (s v : State), v = s.at t ∧ v.portServes p.port = true ∧ v.twinOn = true ∧ v.twn.decider = true) ∧
    (∃ (t : _) (q : _) (p : TwinPath) (s v : State), v = s.at t ∧ v.portServes p.port = true ∧ v.twinOn = true ∧ v.twn.decider = false ∧ v.twn.seenSeq.contains (2, q) = false) ∧
    (∃ (t : _) (q : _) (p : TwinPath) (s v : State), v = s.at t ∧ v.portServes p.port = true ∧ v.twinOn = true ∧ v.twn.decider = false ∧ v.twn.seenSeq.contains (2, q) = true) ∧
    (∃ (t : _) (q : _) (p : TwinPath) (s v : State), v = s.at t ∧ v.portServes p.port = true ∧ v.twinOn = true ∧ v.twn.seenSeq.contains (3, q) = false) ∧
    (∃ (t : _) (s v : State), v = s.at t ∧ v.twinOn = true ∧ v.seesPeer = true) ∧
    (∃ (t : _) (s v : State), v = s.at t ∧ (v.twinOn && v.seesPeer) = false) ∧
    (∃ (t : _) (q : _) (p : TwinPath) (s v : State), v = s.at t ∧ v.portServes p.port = true ∧ v.twinOn = true ∧ v.twn.seenSeq.contains (6, q) = false) ∧
    (∃ (t : _) (q : _) (p : TwinPath) (s v : State), v = s.at t ∧ v.portServes p.port = true ∧ v.twinOn = true ∧ v.twn.seenSeq.contains (6, q) = false) ∧
    (∃ (t : _) (q : _) (p : TwinPath) (s v : State), v = s.at t ∧ v.portServes p.port = true ∧ v.twinOn = true ∧ v.twn.seenSeq.contains (4, q) = false ∧ (v.twn.checking || v.twn.join.isSome) = true) ∧
    (∃ (t : _) (q : _) (p : TwinPath) (s v : State), v = s.at t ∧ v.portServes p.port = true ∧ v.twinOn = true ∧ v.twn.seenSeq.contains (5, q) = false ∧ v.twn.state = .lockstep) ∧
    (∃ (t : _) (s : State) (n : _) (clean : _) (t0 : _) (v : State), v = s.at t ∧ v.twn.verdict = some (n, clean, t0) ∧ v.twn.decider = true ∧ t0 + 1000000 ≤ v.now) ∧
    (∃ (t : _) (s : State) (x : Snapshot) (j : _) (v : State), v = s.at t ∧ v.rnd.joinSnap = some x ∧ v.twn.join = some j ∧ v.twn.haspUp = true ∧ x.tick < v.rnd.nextOut ∧ x.tick ≤ v.rnd.lastTick + 1) ∧
    (∃ (t : _) (q : _) (x : Snapshot) (s : State) (j : _) (v : State), v = s.at t ∧ v.portServes 3 = true ∧ v.twinOn = true ∧ v.twn.seenSeq.contains (7, q) = false ∧ v.twn.join = some j ∧ v.twn.state = .joining ∧ v.rendering = true ∧ j.snap = false ∧ x.tick = j.k ∧ v.tick + 1 = j.k) ∧
    (∃ (t : _) (s v : State), v = s.at t ∧ v.sys.mode = .locking ∧ v.twn.state = .seeking ∧ v.twn.ready = true ∧ v.timeLocked = true ∧ v.rnd.startAt = none ∧ v.peerBars = false ∧ v.peerWaits = true ∧ v.twn.readyAt + v.twn.wait * 1000000000 ≤ v.now) ∧
    (∃ (t : _) (s v : State), v = s.at t ∧ v.twn.state = .joining ∧ v.rendering = true ∧ v.twn.join = none ∧ 16 * v.rnd.startS + v.fs / 5 ≤ v.sampleNow) ∧
    (∃ (t : _) (s : State) (j : _) (v : State), v = s.at t ∧ v.twn.join = some j ∧ j.matched = 0 ∧ 16 * j.k + 10 * v.fs ≤ v.sampleNow) ∧
    (∃ (t : _) (s : State) (r : _) (v : State), v = s.at t ∧ v.twn.retryAt = some r ∧ r ≤ v.now ∧ v.twn.state = .seeking ∧ v.twn.autoJoin = true ∧ v.rendering = true) ∧
    (∃ (t : _) (s : State) (r : _) (v : State), v = s.at t ∧ v.twn.retryAt = some r ∧ r ≤ v.now ∧ v.twn.state = .seeking ∧ v.twn.autoJoin = true ∧ v.rendering = false) :=
  ⟨⟨1000, .netB, paired2, _, rfl, by decide +kernel⟩,
   ⟨1000, .hasp, paired, _, rfl, by decide +kernel⟩,
   ⟨1000, empty, _, rfl, by decide +kernel⟩,
   ⟨1000, .hasp, paired, _, rfl, by decide +kernel⟩,
   ⟨1000, .hasp, { paired with twn := { paired.twn with haspUp := true, missHasp := 4 } }, _, rfl, by decide +kernel⟩,
   ⟨1000, .hasp, { paired with twn := { paired.twn with decider := true } }, _, rfl, by decide +kernel⟩,
   ⟨1000, 5, .hasp, paired, _, rfl, by decide +kernel⟩,
   ⟨1000, 5, .hasp, { paired with twn := { paired.twn with seenSeq := [(2, 5)] } }, _, rfl, by decide +kernel⟩,
   ⟨1000, 5, .hasp, paired, _, rfl, by decide +kernel⟩,
   ⟨1000, { paired with twn := { paired.twn with haspUp := true } }, _, rfl, by decide +kernel⟩,
   ⟨1000, awake, _, rfl, by decide +kernel⟩,
   ⟨1000, 5, .hasp, paired, _, rfl, by decide +kernel⟩,
   ⟨1000, 5, .hasp, paired, _, rfl, by decide +kernel⟩,
   ⟨1000, 5, .hasp, { paired with twn := { paired.twn with checking := true } }, _, rfl, by decide +kernel⟩,
   ⟨1000, 5, .hasp, { paired with twn := { paired.twn with state := .lockstep } }, _, rfl, by decide +kernel⟩,
   ⟨2000000, { paired with twn := { paired.twn with decider := true, verdict := some (1, true, 0) } }, 1, true, 0, _, rfl, by decide +kernel⟩,
   ⟨1000, joined, someSnap, someJoin, _, rfl, by decide +kernel⟩,
   ⟨1000, 5, someSnap, joiner, someJoin, _, rfl, by decide +kernel⟩,
   ⟨1000, waitingTwin, _, rfl, by decide +kernel⟩,
   ⟨300000000, { live with twn := { live.twn with state := .joining } }, _, rfl, by decide +kernel⟩,
   ⟨11000000000, { live with twn := { live.twn with state := .joining, join := some someJoin } }, someJoin, _, rfl, by decide +kernel⟩,
   ⟨1000, { live with twn := { live.twn with state := .seeking, autoJoin := true, retryAt := some 5 } }, 5, _, rfl, by decide +kernel⟩,
   ⟨1000, { awake with twn := { awake.twn with state := .seeking, autoJoin := true, retryAt := some 5 } }, 5, _, rfl, by decide +kernel⟩⟩

theorem test_hypotheses_BoundariesApplyTheirActions :
    (∃ (s v : State), s.ticking = true ∧ s.joinerWaits (s.tick + 1) = false ∧ v = (s.at (s.nsOfSample (16 * (s.tick + 1)))).applyMoves ∧ v.intg.yieldPend = none ∧ v.rnd.stopAt = none) ∧
    (∃ (s v : State) (n : _) (r : _), s.ticking = true ∧ s.joinerWaits (s.tick + 1) = false ∧ v = (s.at (s.nsOfSample (16 * (s.tick + 1)))).applyMoves ∧ v.intg.yieldPend = some (n, r) ∧ n ≤ s.tick + 1) ∧
    (∃ (s v : State) (n : _), s.ticking = true ∧ s.joinerWaits (s.tick + 1) = false ∧ v = (s.at (s.nsOfSample (16 * (s.tick + 1)))).applyMoves ∧ v.intg.yieldPend = none ∧ v.rnd.stopAt = some n ∧ n = s.tick + 1) ∧
    (∃ (s : State), s.ticking = true ∧ s.joinerWaits (s.tick + 1) = true) ∧
    (∃ (s : State) (n : _) (v : State), s.rnd.startAt = some n ∧ s.sys.mode = .locking ∧ s.pwr.off = false ∧ v = s.at (s.nsOfSample (16 * n)) ∧ v.intg.yieldPend.isSome = true) ∧
    (∃ (s : State) (n : _) (v : State), s.rnd.startAt = some n ∧ s.sys.mode = .locking ∧ s.pwr.off = false ∧ v = s.at (s.nsOfSample (16 * n)) ∧ v.intg.yieldPend = none ∧ (v.twn.state = .off ∨ v.peerBars = false)) ∧
    (∃ (s : State) (n : _) (v : State), s.rnd.startAt = some n ∧ s.sys.mode = .locking ∧ s.pwr.off = false ∧ v = s.at (s.nsOfSample (16 * n)) ∧ v.intg.yieldPend = none ∧ v.twn.state ≠ .off ∧ v.peerBars = true) ∧
    (∃ (s : State), s.ticking = true) ∧
    (∃ (s : State) (h : _), s.ticking = true ∧ s.rte.hinge = some h ∧ fadeEnd h.start h.fade ≤ s.boundaryNow) ∧
    (∃ (s : State) (h : _), s.ticking = true ∧ s.rte.hinge = some h ∧ s.boundaryNow < fadeEnd h.start h.fade) ∧
    (∃ (flow : _) (s : State), tabGet none s.obj.frameAt flow = none) ∧
    (∃ (flow : _) (s : State) (f : _), s.ticking = true ∧ frOn (s.flowIn flow) = true ∧ frKind (s.flowIn flow) = 1 ∧ tabGet none s.obj.frameAt flow = some f ∧ f + s.holdSamples flow < 16 * s.tick) :=
  ⟨⟨live, _, by decide +kernel, by decide +kernel, rfl, by decide +kernel⟩,
   ⟨{ live with intg := { live.intg with yieldPend := some (101, 2) } }, _, 101, 2, by decide +kernel, by decide +kernel, rfl, by decide +kernel⟩,
   ⟨{ live with rnd := { live.rnd with stopAt := some 101 } }, _, 101, by decide +kernel, by decide +kernel, rfl, by decide +kernel⟩,
   ⟨{ joiner with tick := 2000 }, by decide +kernel⟩,
   ⟨{ locking with rnd := { locking.rnd with startAt := some 9 }, intg := { locking.intg with yieldPend := some (9, 2) } }, 9, _, by decide +kernel, by decide +kernel, by decide +kernel, rfl, by decide +kernel⟩,
   ⟨{ locking with rnd := { locking.rnd with startAt := some 9 } }, 9, _, by decide +kernel, by decide +kernel, by decide +kernel, rfl, by decide +kernel⟩,
   ⟨barred, 9, barred.at (barred.nsOfSample (16 * 9)), rfl, rfl, by decide +kernel, Eq.refl _, by decide +kernel,
    by decide +kernel, peerBars_of_id (m := { someTumbler with id := 0 }) rfl rfl rfl⟩,
   ⟨live, by decide +kernel⟩,
   ⟨{ live with rte := { live.rte with hinge := some { start := 30, fade := 1024 } } }, { start := 30, fade := 1024 }, by decide +kernel⟩,
   ⟨{ live with rte := { live.rte with hinge := some { start := 90, fade := 1024 } } }, { start := 90, fade := 1024 }, by decide +kernel⟩,
   ⟨5, live, by decide +kernel⟩,
   ⟨5, staleFlow, 0, by decide +kernel⟩⟩

theorem test_hypotheses_MonitorEventsAct :
    (∃ (t : _) (s : State) (r : _) (v : State), v = s.at t ∧ v.dac.reqs = [r] ∧ r.phase ≠ 0 ∧ r.switched = false ∧ v.atConnector (16 * r.start + 96) = true) ∧
    (∃ (t : _) (s : State) (r : _) (v : State), v = s.at t ∧ v.dac.reqs = [r] ∧ r.phase = 1 ∧ 16 * r.start + 64 + v.spanZ ≤ v.sampleNow) ∧
    (∃ (t : _) (s : State) (r : _) (e : _) (v : State), v = s.at t ∧ v.dac.reqs = [r] ∧ r.phase = 3 ∧ e = r.start + (128 + v.spanZ) / 16 ∧ 16 * e ≤ v.sampleNow) ∧
    (∃ (t : _) (ch : _) (s v : State), v = s.at t ∧ v.dac.running = true ∧ ch < 16) ∧
    (∃ (t : _) (s v : State), v = s.at t ∧ v.rendering = true ∧ v.dac.clamped = true ∧ v.atConnector (16 * v.rnd.startS) = true) :=
  ⟨⟨100000000, { live with dac := { live.dac with reqs := [{ mask := 3, span := 1, start := 10, ref := someRef, phase := 1, switched := false }] } }, { mask := 3, span := 1, start := 10, ref := someRef, phase := 1, switched := false }, _, rfl, by decide +kernel⟩,
   ⟨100000000, { live with dac := { live.dac with reqs := [{ mask := 3, span := 1, start := 10, ref := someRef, phase := 1, switched := false }] } }, { mask := 3, span := 1, start := 10, ref := someRef, phase := 1, switched := false }, _, rfl, by decide +kernel⟩,
   ⟨100000000, { live with dac := { live.dac with reqs := [{ mask := 3, span := 1, start := 10, ref := someRef, phase := 3, switched := true }] } }, { mask := 3, span := 1, start := 10, ref := someRef, phase := 3, switched := true }, _, _, rfl, by decide +kernel, by decide +kernel, rfl, by decide +kernel⟩,
   ⟨1000, 15, { awake with dac := { awake.dac with running := true } }, _, rfl, by decide +kernel⟩,
   ⟨100000000, { live with dac := { live.dac with clamped := true } }, _, rfl, by decide +kernel⟩⟩

theorem test_hypotheses_SlotsAndDispatchAct :
    (∃ (t : _) (s : State) (x : _) (v : State), v = s.at t ∧ v.openTick v.rnd.nextIn = some x ∧ v.ticking = true ∧ 16 * v.rnd.nextIn + 16 + v.rte.ingress ≤ v.sampleNow) ∧
    (∃ (t : _) (s : State) (x : _) (v : State), v = s.at t ∧ (v.rnd.open_.find? fun x => !x.late) = some x ∧ v.ticking = true ∧ v.deadline x.tick ≤ v.sampleNow) ∧
    (∃ (t : _) (s : State) (x : _) (v : State), v = s.at t ∧ (v.rnd.open_.find? fun x => x.late) = some x ∧ v.schedLate = true) ∧
    (∃ (t : _) (d : Bytes) (s v : State), v = s.at t ∧ v.dispRuns = true ∧ descOk d = false) ∧
    (∃ (t : _) (d : Bytes) (s v : State), v = s.at t ∧ v.dispRuns = true ∧ descOk d = true ∧ (parseDesc d).kind ≠ 3 ∧ v.occupancy (kindClass (parseDesc d).kind) < classRoom (kindClass (parseDesc d).kind)) ∧
    (∃ (t : _) (d : Bytes) (s v : State), v = s.at t ∧ v.dispRuns = true ∧ descOk d = true ∧ (parseDesc d).kind ≠ 3 ∧ classRoom (kindClass (parseDesc d).kind) ≤ v.occupancy (kindClass (parseDesc d).kind)) ∧
    (∃ (t : _) (d : Bytes) (s v : State), v = s.at t ∧ v.dispRuns = true ∧ descOk d = true ∧ (parseDesc d).kind = 3 ∧ v.submitsKrn (parseDesc d) = true ∧ v.occupancy 2 < classRoom 2) ∧
    (∃ (t : _) (d : Bytes) (s v : State), v = s.at t ∧ v.dispRuns = true ∧ descOk d = true ∧ (parseDesc d).kind = 3 ∧ v.submitsKrn (parseDesc d) = false) ∧
    (∃ (t : _) (s v : State), v = s.at t ∧ v.dispRuns = true) ∧
    (∃ (t : _) (s v : State), v = s.at t ∧ v.dispRuns = true) ∧
    (∃ (t : _) (e : UnitEnd) (s : State) (u : _) (v : State), v = s.at t ∧ v.unitOn e.engine = some u ∧ v.dispRuns = true ∧ (v.engine e.engine).st = .run ∧ u.d.kind ≠ 3 ∧ injFires (v.engine e.engine).inj.toNat u.d.kind = false ∧ v.overLimit e.engine u = false) ∧
    (∃ (t : _) (k : _) (s : State) (u : _) (v : State), v = s.at t ∧ v.unitOn k = some u ∧ v.dispRuns = true ∧ (v.engine k).st = .run ∧ u.d.kind ≠ 3 ∧ injFires (v.engine k).inj.toNat u.d.kind = false ∧ v.overLimit k u = false) ∧
    (∃ (t : _) (k : _) (s : State) (u : _) (v : State), v = s.at t ∧ v.unitOn k = some u ∧ v.dispRuns = true ∧ (v.engine k).st = .run ∧ u.d.kind ≠ 3 ∧ injFires (v.engine k).inj.toNat u.d.kind = true) ∧
    (∃ (t : _) (k : _) (s : State) (u : _) (v : State), v = s.at t ∧ v.unitOn k = some u ∧ v.dispRuns = true ∧ (v.engine k).st = .run ∧ u.d.kind ≠ 3 ∧ injFires (v.engine k).inj.toNat u.d.kind = false ∧ v.overLimit k u = true) ∧
    (∃ (t : _) (k : _) (s : State) (u : _) (c : _) (commit : _) (v : State), v = s.at t ∧ v.unitOn k = some u ∧ v.dispRuns = true ∧ (v.engine k).st = .run ∧ u.d.kind = 3 ∧ v.krnRun k u.d = .done c commit) ∧
    (∃ (t : _) (k : _) (s : State) (u : _) (c : _) (commit : _) (v : State), v = s.at t ∧ v.unitOn k = some u ∧ v.dispRuns = true ∧ (v.engine k).st = .run ∧ u.d.kind = 3 ∧ v.krnRun k u.d = .done c commit) ∧
    (∃ (t : _) (k : _) (kind : _) (s : State) (u : _) (v : State), v = s.at t ∧ v.unitOn k = some u ∧ v.dispRuns = true ∧ (v.engine k).st = .run ∧ u.d.kind ≠ 3 ∧ 1 ≤ kind ∧ kind ≤ 3) ∧
    (∃ (t : _) (k : _) (s : State) (u : _) (v : State), v = s.at t ∧ v.unitOn k = some u ∧ v.dispRuns = true ∧ (v.engine k).st = .run ∧ u.d.kind = 0) ∧
    (∃ (t : _) (k : _) (s : State) (u : _) (v : State), v = s.at t ∧ v.unitOn k = some u ∧ v.dispRuns = true ∧ (v.engine k).st = .run ∧ v.overLimit k u = true ∧ u.d.kind ≠ 3) ∧
    (∃ (t : _) (k : _) (s : State) (u : _) (c : _) (v : State), v = s.at t ∧ v.unitOn k = some u ∧ v.dispRuns = true ∧ (v.engine k).st = .run ∧ v.overLimit k u = true ∧ u.d.kind = 3 ∧ v.krnRun k u.d = .overrun c) ∧
    (∃ (t : _) (k : _) (s : State) (u : _) (v : State), v = s.at t ∧ v.unitOn k = some u ∧ v.dispRuns = true ∧ (v.engine k).st = .run ∧ v.overLimit k u = false) ∧
    (∃ (t : _) (k : _) (s v : State), v = s.at t ∧ v.tap.testEn = true ∧ (v.engine k).st = .run) ∧
    (∃ (t : _) (s v : State), v = s.at t ∧ v.tap.testEn = false) ∧
    (∃ (t : _) (k : _) (s v : State), v = s.at t ∧ (v.engine k).st = .halt) ∧
    (∃ (g : GeomDone) (s : State) (n : _) (t0 : _) (v : State), v = s.at g.t ∧ v.pan.building = some (n, t0) ∧ v.dispRuns = true) :=
  ⟨⟨100000000, opening, _, _, rfl, rfl, by decide +kernel⟩,
   ⟨100000000, opening, _, _, rfl, rfl, by decide +kernel⟩,
   ⟨100000000, lateNow, _, _, rfl, rfl, by decide +kernel⟩,
   ⟨1000, [], awake, _, rfl, by decide +kernel⟩,
   ⟨1000, someDesc, awake, _, rfl, by decide +kernel⟩,
   ⟨1000, someDesc, crowded, _, rfl, by decide +kernel⟩,
   ⟨1000, customerDesc, { customer with tap := { customer.tap with en := 1 } }, _, rfl, by decide +kernel⟩,
   ⟨1000, customerDesc, customer, _, rfl, by decide +kernel⟩,
   ⟨1000, awake, _, rfl, by decide +kernel⟩,
   ⟨1000, awake, _, rfl, by decide +kernel⟩,
   ⟨0, { engine := 0, ring := [1] }, running, someUnit, _, rfl, by decide +kernel⟩,
   ⟨0, 0, running, someUnit, _, rfl, by decide +kernel⟩,
   ⟨1000, 0, armed, someUnit, _, rfl, by decide +kernel⟩,
   ⟨100000, 0, running, someUnit, _, rfl, by decide +kernel⟩,
   ⟨1000, 0, customer, customerUnit, _, true, _, rfl, by decide +kernel, by decide +kernel, by decide +kernel, by decide +kernel, rfl⟩,
   ⟨1000, 0, customer, customerUnit, _, true, _, rfl, by decide +kernel, by decide +kernel, by decide +kernel, by decide +kernel, rfl⟩,
   ⟨1000, 0, 3, running, someUnit, _, rfl, by decide +kernel⟩,
   ⟨1000, 0, running, someUnit, _, rfl, by decide +kernel⟩,
   ⟨100000, 0, running, someUnit, _, rfl, by decide +kernel⟩,
   ⟨100000, 0, looping, customerUnit, _, _, rfl, by decide +kernel, by decide +kernel, by decide +kernel, by decide +kernel, by decide +kernel, rfl⟩,
   ⟨0, 0, running, someUnit, _, rfl, by decide +kernel⟩,
   ⟨1000, 0, { running with tap := { running.tap with testEn := true } }, _, rfl, by decide +kernel⟩,
   ⟨1000, awake, _, rfl, by decide +kernel⟩,
   ⟨1000, 0, halted, _, rfl, by decide +kernel⟩,
   ⟨{ t := 1000, faults := [] }, { awake with pan := { awake.pan with building := some (5, 0) } }, 5, 0, _, rfl, by decide +kernel⟩⟩

theorem test_hypotheses_EgressAndDeadboltEventsAct :
    (∃ (t : _) (s v : State), v = s.at t ∧ v.sys.mode = .yielded) ∧
    (∃ (t : _) (s v : State), v = s.at t ∧ v.sys.mode ≠ .yielded ∧ v.ticking = true ∧ v.readoutDue = true) ∧
    (∃ (t : _) (s v : State), v = s.at t ∧ v.ticking = true) ∧
    (∃ (t : _) (f : _) (s v : State), v = s.at t ∧ v.domainOn 2 = true ∧ v.unpowered = false ∧ f < feedCount v.rnd.rate96 ∧ (v.dbFeed f).held = false) ∧
    (∃ (t : _) (n : _) (s v : State), v = s.at t ∧ v.domainOn 2 = true ∧ v.unpowered = false ∧ n ≠ 0) ∧
    (∃ (t : _) (s v : State), v = s.at t ∧ v.domainOn 2 = true ∧ v.unpowered = false) :=
  ⟨⟨1000, { awake with sys := { awake.sys with mode := .yielded } }, _, rfl, by decide +kernel⟩,
   ⟨100000000, live, _, rfl, by decide +kernel⟩,
   ⟨1000, live, _, rfl, by decide +kernel⟩,
   ⟨1000, 767, awake, _, rfl, by decide +kernel⟩,
   ⟨1000, 2, awake, _, rfl, by decide +kernel⟩,
   ⟨1000, awake, _, rfl, by decide +kernel⟩⟩

theorem test_hypotheses_CalibrationEventsAct :
    (∃ (t : _) (f : _) (b : _) (s : State) (c : _) (v : State), v = s.at t ∧ v.calFeed f = some c ∧ v.ticking = true ∧ v.dispatchable 1 = true ∧ c.stopped = false ∧ v.blockDue c b = true ∧ v.cal.aligned.contains (f, b) = false ∧
      v.blockLost c b = false ∧ v.blockIn c b = true) ∧
    (∃ (t : _) (f : _) (b : _) (s : State) (c : _) (v : State), v = s.at t ∧ v.calFeed f = some c ∧ v.blockDue c b = true ∧ (blockRange v.rnd.rate96 c b).1 + v.capHist ≤ v.sampleNow) ∧
    (∃ (t : _) (ch : _) (s v : State), v = s.at t ∧ (v.cap ch).live = true ∧ ((v.cap ch).last.all fun l => decide (l + 100000000 ≤ v.now)) = true) ∧
    (∃ (s : State), s.sys.mode = .liveProbe ∧ s.ticking = true ∧ s.holdsRounds = true ∧ s.cal.lastRound ≠ some s.tick ∧ 16 * s.tick % (s.cal.policy.period * s.fs) = 0) ∧
    (∃ (s : State), (s.sys.mode ≠ .liveProbe ∨ s.holdsRounds = false ∨ s.cal.lastRound = some s.tick)) :=
  ⟨⟨1500000000, 3, 0, enrolled, someCal, _, rfl, by decide +kernel⟩,
   ⟨100000000000, 3, 0, enrolled, someCal, _, rfl, by decide +kernel⟩,
   ⟨100001000, 2, capturing, _, rfl, by decide +kernel⟩,
   ⟨probing, by decide +kernel⟩,
   ⟨awake, by decide +kernel⟩⟩

theorem test_hypotheses_DramAndFabricEventsAct :
    (∃ (t : _) (s v : State), v = s.at t ∧ v.sys.mode = .cold ∧ v.pwr.off = false ∧ v.pwr.resetLow = false ∧ v.ddr.next0 < 9 ∧ v.ddr.next1 ≠ 10) ∧
    (∃ (t : _) (s v : State), v = s.at t ∧ v.sys.mode = .cold ∧ v.pwr.off = false ∧ v.pwr.resetLow = false ∧ v.ddr.next0 < 10 ∧ v.ddr.next0 ≠ 0 ∧ v.ddr.tries0 < 3 ∧ v.ddr.next1 ≠ 10) ∧
    (∃ (t : _) (s v : State), v = s.at t ∧ v.sys.mode = .cold ∧ v.pwr.off = false ∧ v.pwr.resetLow = false ∧ v.ddr.next0 = 9) ∧
    (∃ (t : _) (s v : State), v = s.at t ∧ v.sys.mode = .cold ∧ v.pwr.off = false ∧ v.pwr.resetLow = false ∧ v.ddr.next0 < 10 ∧ v.ddr.next0 ≠ 0 ∧ v.ddr.tries0 = 3) ∧
    (∃ (t : _) (s v : State), v = s.at t ∧ v.sys.mode = .cold ∧ v.pwr.off = false ∧ v.pwr.resetLow = false ∧ v.ddr.next1 < 9 ∧ v.ddr.next0 ≠ 10) ∧
    (∃ (t : _) (s v : State), v = s.at t ∧ v.sys.mode = .cold ∧ v.pwr.off = false ∧ v.pwr.resetLow = false ∧ v.ddr.next1 < 10 ∧ v.ddr.next1 ≠ 0 ∧ v.ddr.tries1 < 3 ∧ v.ddr.next0 ≠ 10) ∧
    (∃ (t : _) (s v : State), v = s.at t ∧ v.sys.mode = .cold ∧ v.pwr.off = false ∧ v.pwr.resetLow = false ∧ v.ddr.next1 = 9) ∧
    (∃ (t : _) (s v : State), v = s.at t ∧ v.sys.mode = .cold ∧ v.pwr.off = false ∧ v.pwr.resetLow = false ∧ v.ddr.next1 < 10 ∧ v.ddr.next1 ≠ 0 ∧ v.ddr.tries1 = 3) ∧
    (∃ (t : _) (s v : State), v = s.at t ∧ v.dramRuns = true) ∧
    (∃ (t : _) (rate : _) (s v : State), v = s.at t ∧ v.dramRuns = true ∧ rate ≤ 4) ∧
    (∃ (t : _) (s v : State), v = s.at t ∧ v.dramRuns = true ∧ v.ddr.debt0 ≠ 8) ∧
    (∃ (t : _) (s v : State), v = s.at t ∧ v.dramRuns = true ∧ v.ddr.debt0 = 8) ∧
    (∃ (t : _) (s v : State), v = s.at t ∧ v.dramRuns = true ∧ v.ddr.debt1 ≠ 8) ∧
    (∃ (t : _) (s v : State), v = s.at t ∧ v.dramRuns = true ∧ v.ddr.debt1 = 8) ∧
    (∃ (t : _) (s v : State), v = s.at t ∧ v.dramRuns = true) ∧
    (∃ (t : _) (line : _) (s v : State), v = s.at t ∧ v.dramRuns = true ∧ duplicated (64 * line) = true) ∧
    (∃ (t : _) (line : _) (s v : State), v = s.at t ∧ v.dramRuns = true ∧ duplicated (64 * line) = true) ∧
    (∃ (t : _) (line : _) (s v : State), v = s.at t ∧ v.dramRuns = true ∧ duplicated (64 * line) = false) ∧
    (∃ (t : _) (line : _) (s v : State), v = s.at t ∧ v.dramRuns = true ∧ duplicated (64 * line) = true) ∧
    (∃ (t : _) (n : _) (s v : State), v = s.at t ∧ v.dramRuns = true ∧ 1 ≤ n ∧ n ≤ 3) ∧
    (∃ (t : _) (s v : State), v = s.at t ∧ v.unpowered = false) :=
  ⟨⟨1000, training, _, rfl, by decide +kernel⟩,
   ⟨1000, { training with ddr := { training.ddr with next0 := 9, tries0 := 2 } }, _, rfl, by decide +kernel⟩,
   ⟨1000, { training with ddr := { training.ddr with next0 := 9 } }, _, rfl, by decide +kernel⟩,
   ⟨1000, { training with ddr := { training.ddr with next0 := 9, tries0 := 3 } }, _, rfl, by decide +kernel⟩,
   ⟨1000, training, _, rfl, by decide +kernel⟩,
   ⟨1000, { training with ddr := { training.ddr with next1 := 9, tries1 := 2 } }, _, rfl, by decide +kernel⟩,
   ⟨1000, { training with ddr := { training.ddr with next1 := 9 } }, _, rfl, by decide +kernel⟩,
   ⟨1000, { training with ddr := { training.ddr with next1 := 9, tries1 := 3 } }, _, rfl, by decide +kernel⟩,
   ⟨1000, awake, _, rfl, by decide +kernel⟩,
   ⟨1000, 4, awake, _, rfl, by decide +kernel⟩,
   ⟨1000, awake, _, rfl, by decide +kernel⟩,
   ⟨1000, { awake with ddr := { awake.ddr with debt0 := 8 } }, _, rfl, by decide +kernel⟩,
   ⟨1000, awake, _, rfl, by decide +kernel⟩,
   ⟨1000, { awake with ddr := { awake.ddr with debt1 := 8 } }, _, rfl, by decide +kernel⟩,
   ⟨1000, awake, _, rfl, by decide +kernel⟩,
   ⟨1000, 0, awake, _, rfl, by decide +kernel⟩,
   ⟨1000, 0, awake, _, rfl, by decide +kernel⟩,
   ⟨1000, 0x900000, awake, _, rfl, by decide +kernel⟩,
   ⟨1000, 0, awake, _, rfl, by decide +kernel⟩,
   ⟨1000, 3, awake, _, rfl, by decide +kernel⟩,
   ⟨1000, awake, _, rfl, by decide +kernel⟩⟩

theorem test_hypotheses_StepRunsTheFrontCommand :
    (∃ (c : _) (rest : _) (s : State), s.pending = c :: rest) ∧
    (∃ s : State, s.pending = []) :=
  ⟨⟨.startBoundary, [.tickBoundary], { State.reset with pending := [.startBoundary, .tickBoundary] }, by decide +kernel⟩,
   ⟨State.reset, by decide +kernel⟩⟩

theorem test_hypotheses_CommandsLeaveTheQueue :
    ∃ (c : _) (s : State) (t : State), exec c s = .next t :=
  ⟨(.resetPin 1000), State.reset, _, rfl⟩

theorem test_hypotheses_DeadboltStaysSafe :
    ∃ s t : State, s.DbltSafe ∧ step s = .next t :=
  ⟨State.reset, State.reset, ⟨rfl, reset_inRange⟩, rfl⟩

theorem test_hypotheses_LockedSettingsStayUntilReset :
    ∃ (c : _) (s : State) (t : State), s.dblt.locked = true ∧ exec c s = .next t :=
  ⟨(.dbltRegWrite 200 0xC 5), live, _, by decide +kernel, rfl⟩

theorem test_hypotheses_RenderingModesAreLocked :
    ∃ s t : State, (s.rendering = true → s.dblt.locked = true) ∧ step s = .next t ∧ t.rendering = true :=
  ⟨{ live with pending := [.wdogKick { t := 200, faults := [] }] }, _, by decide +kernel, rfl, by decide +kernel⟩

theorem test_hypotheses_StoresStayCanonical :
    ∃ s t : State, s.StoresOk = true ∧ (s.pending.head?.all Instr.wf) = true ∧ step s = .next t :=
  ⟨{ State.reset with pending := [.resetPin 5] }, _, by decide +kernel, by decide +kernel, rfl⟩

theorem test_hypotheses_HeadChecksComeInOrder :
    (∃ (i : _) (c : _) (h : _) (p : _) (s : State), keywayRow i = some (c, h, p) ∧ delivered c.op h p s = true ∧ (taken c.op h p s).imageRuns = false ∧ c.boot = false) ∧
    (∃ (i : _) (c : _) (h : _) (p : _) (s : State), keywayRow i = some (c, h, p) ∧ delivered c.op h p s = true ∧ (taken c.op h p s).imageRuns = true ∧ c.len h.length p = false) ∧
    (∃ (i : _) (c : _) (h : _) (p : _) (s : State), keywayRow i = some (c, h, p) ∧ delivered c.op h p s = true ∧ (taken c.op h p s).imageRuns = true ∧ c.len h.length p = true ∧ h.flags / 4 ≠ 0) ∧
    (∃ (i : _) (c : _) (h : _) (p : _) (s : State), keywayRow i = some (c, h, p) ∧ delivered c.op h p s = true ∧ (taken c.op h p s).imageRuns = true ∧ c.len h.length p = true ∧ h.flags / 4 = 0 ∧ h.flags % 4 ≠ 3 ∧
      (c.mirrored && (taken c.op h p s).rendering && (taken c.op h p s).follows) = false ∧ modeCheck (taken c.op h p s) c = false) :=
  ⟨⟨(.pause (pc 0) []), pauseCmd, (pc 0), [], empty, rfl, by decide +kernel⟩,
   ⟨(.pause (pc 4) [0, 0, 0, 0]), pauseCmd, (pc 4), [0, 0, 0, 0], awake, rfl, by decide +kernel⟩,
   ⟨(.pause { pc 0 with flags := 4 } []), pauseCmd, { pc 0 with flags := 4 }, [], awake, rfl, by decide +kernel⟩,
   ⟨(.pause (pc 0) []), pauseCmd, (pc 0), [], { awake with sys := { awake.sys with mode := .yielded } }, rfl, by decide +kernel⟩⟩

theorem test_hypotheses_DeniedSourcesAreAnsweredDenied :
    ∃ (i : _) (c : _) (h : Hdr) (p : Bytes) (s : State) (ip : _) (port : _), keywayRow i = some (c, h, p) ∧ h.src = .mgmt ip port ∧ (s.at h.t).mgmtOpen = true ∧ (s.at h.t).midway = false ∧ p.length ≤ 1440 ∧ (s.at h.t).allowed ip = false ∧ s.key.parked = [] ∧ s.key.nops = [] ∧ s.behind h.src (s.key.aseq + 1).toNat = false :=
  ⟨(.nop (mg 0) []), nopCmd, (mg 0), [], choosy, 0xA000001, 5000, rfl, by decide +kernel⟩

theorem test_hypotheses_RepeatsAreNotExecutedAgain :
    ∃ (i : _) (c : _) (h : Hdr) (p : Bytes) (s : State) (ip : _) (port : _) (e : _), keywayRow i = some (c, h, p) ∧ h.src = .mgmt ip port ∧ (s.at h.t).mgmtOpen = true ∧ (s.at h.t).midway = false ∧ p.length ≤ 1440 ∧
    (s.at h.t).allowed ip = true ∧ (s.at h.t).repeated ip port (packetBytes c.op h p) = some e :=
  ⟨(.sysInfo (mg 0) []), sysInfoCmd, (mg 0), [], recent, 0xA000001, 5000, recentCmd, rfl, by decide +kernel⟩

theorem test_hypotheses_FollowersRelayMirroredCommands :
    ∃ (i : _) (c : _) (h : _) (p : _) (s : State), keywayRow i = some (c, h, p) ∧ delivered c.op h p s = true ∧ (taken c.op h p s).imageRuns = true ∧ c.len h.length p = true ∧ h.flags / 4 = 0 ∧
    h.flags % 4 ≠ 3 ∧ c.mirrored = true ∧ (taken c.op h p s).rendering = true ∧ (taken c.op h p s).follows = true :=
  ⟨(.pause (pc 0) []), pauseCmd, (pc 0), [], following, rfl, by decide +kernel⟩

theorem test_hypotheses_QueriesChangeNothing :
    ∃ (i : _) (c : _) (h : _) (p : _) (s : State) (t : State), keywayRow i = some (c, h, p) ∧ c.op ∈ [0x101, 0x121] ∧ exec i s = .next t :=
  ⟨(.sysInfo (pc 0) []), sysInfoCmd, (pc 0), [], awake, _, rfl, by decide +kernel, rfl⟩

theorem test_hypotheses_ModeRulesRefuseWithBadMode :
    (Meets renderConfigCmd (fun _ u => u.sys.mode ≠ .staged)) ∧
    (Meets dbltWriteCmd (fun _ u => u.sys.mode ≠ .staged)) ∧
    (Meets stageCommitCmd (fun _ u => u.sys.mode ≠ .staged)) ∧
    (Meets sceneXformCmd (fun _ u => u.sys.mode ≠ .staged)) ∧
    (Meets layoutWriteCmd (fun _ u => u.sys.mode ≠ .staged)) ∧
    (Meets layoutLoadCmd (fun _ u => u.sys.mode ≠ .staged)) ∧
    (Meets routeModeCmd (fun _ u => u.sys.mode ≠ .staged)) ∧
    (Meets xpMapCmd (fun _ u => u.sys.mode ≠ .staged)) ∧
    (Meets bedAlignCmd (fun _ u => u.sys.mode ≠ .staged)) ∧
    (Meets corLongCmd (fun _ u => u.sys.mode ≠ .staged)) ∧
    (Meets corFoldCmd (fun _ u => u.sys.mode ≠ .staged)) ∧
    (Meets vlanSetCmd (fun _ u => u.sys.mode ≠ .staged)) ∧
    (Meets flowOutSetCmd (fun _ u => u.sys.mode ≠ .staged)) ∧
    (Meets ptpConfigCmd (fun _ u => u.sys.mode ≠ .staged)) ∧
    (Meets sceneTimeCmd (fun _ u => u.sys.mode ≠ .staged)) ∧
    (Meets dacConfigCmd (fun _ u => u.sys.mode ≠ .staged)) ∧
    (Meets twinConfigCmd (fun _ u => u.sys.mode ≠ .staged)) ∧
    (Meets stageReturnCmd (fun _ u => u.sys.mode ≠ .locking)) ∧
    (Meets imgBeginCmd (fun _ u => u.sys.mode ≠ .awaitImage)) ∧
    (Meets imgDataCmd (fun _ u => u.sys.mode ≠ .awaitImage)) ∧
    (Meets imgEndCmd (fun _ u => u.sys.mode ≠ .awaitImage)) ∧
    (Meets twinJoinCmd (fun _ u => u.twn.state ≠ .seeking)) ∧
    (Meets calStartCmd (fun _ u => u.sys.mode ≠ .render)) ∧
    (Meets calStopCmd (fun _ u => u.sys.mode ≠ .liveProbe)) ∧
    (Meets sweepStartCmd (fun _ u => u.sys.mode ≠ .paused)) ∧
    (Meets sweepStopCmd (fun _ u => u.sys.mode ≠ .sweep)) ∧
    (Meets pwrWakeCmd (fun _ u => u.pwr.trans = 0 ∧ u.pwr.queued = none ∧ u.sys.mode ≠ .sleep)) ∧
    (Meets routeWriteCmd (fun _ u => u.rte.graph = false)) ∧
    (Meets xpMapCmd (fun _ u => u.rte.graph = true)) ∧
    (Meets dbltWriteCmd (fun _ u => u.dblt.locked = true)) :=
  ⟨⟨(pc 4), (zeros 4), live, by decide +kernel, by beta_reduce; decide +kernel⟩,
   ⟨(pc 12), (zeros 4 ++ leB 2 4 ++ zeros 6), live, by decide +kernel, by beta_reduce; decide +kernel⟩,
   ⟨(pc 4), (zeros 4), live, by decide +kernel, by beta_reduce; decide +kernel⟩,
   ⟨(pc 32), (zeros 32), live, by decide +kernel, by beta_reduce; decide +kernel⟩,
   ⟨(pc 9), (zeros 4 ++ leB 2 1 ++ zeros 3), live, by decide +kernel, by beta_reduce; decide +kernel⟩,
   ⟨(pc 0), (zeros 0), live, by decide +kernel, by beta_reduce; decide +kernel⟩,
   ⟨(pc 4), (zeros 4), live, by decide +kernel, by beta_reduce; decide +kernel⟩,
   ⟨(pc 512), (zeros 512), live, by decide +kernel, by beta_reduce; decide +kernel⟩,
   ⟨(pc 4), (zeros 4), live, by decide +kernel, by beta_reduce; decide +kernel⟩,
   ⟨(pc 48), (zeros 48), live, by decide +kernel, by beta_reduce; decide +kernel⟩,
   ⟨(pc 4), (zeros 4), live, by decide +kernel, by beta_reduce; decide +kernel⟩,
   ⟨(pc 4), (zeros 4), live, by decide +kernel, by beta_reduce; decide +kernel⟩,
   ⟨(pc 196), (zeros 196), live, by decide +kernel, by beta_reduce; decide +kernel⟩,
   ⟨(pc 24), (zeros 24), live, by decide +kernel, by beta_reduce; decide +kernel⟩,
   ⟨(pc 12), (zeros 12), live, by decide +kernel, by beta_reduce; decide +kernel⟩,
   ⟨(pc 4), (zeros 4), live, by decide +kernel, by beta_reduce; decide +kernel⟩,
   ⟨(pc 32), (zeros 32), live, by decide +kernel, by beta_reduce; decide +kernel⟩,
   ⟨(pc 0), (zeros 0), live, by decide +kernel, by beta_reduce; decide +kernel⟩,
   ⟨(pc 8), (zeros 8), live, by decide +kernel, by beta_reduce; decide +kernel⟩,
   ⟨(pc 9), (zeros 4 ++ leB 2 1 ++ zeros 3), live, by decide +kernel, by beta_reduce; decide +kernel⟩,
   ⟨(pc 0), (zeros 0), live, by decide +kernel, by beta_reduce; decide +kernel⟩,
   ⟨(pc 0), (zeros 0), live, by decide +kernel, by beta_reduce; decide +kernel⟩,
   ⟨(pc 0), (zeros 0), awake, by decide +kernel, by beta_reduce; decide +kernel⟩,
   ⟨(pc 0), (zeros 0), live, by decide +kernel, by beta_reduce; decide +kernel⟩,
   ⟨(pc 4), (zeros 4), live, by decide +kernel, by beta_reduce; decide +kernel⟩,
   ⟨(pc 0), (zeros 0), live, by decide +kernel, by beta_reduce; decide +kernel⟩,
   ⟨(pc 0), (zeros 0), live, by decide +kernel, by beta_reduce; decide +kernel⟩,
   ⟨(pc 9), (zeros 4 ++ leB 2 1 ++ zeros 3), awake, by decide +kernel, by beta_reduce; decide +kernel⟩,
   ⟨(pc 512), (zeros 512), graph, by decide +kernel, by beta_reduce; decide +kernel⟩,
   ⟨(pc 12), (zeros 4 ++ leB 2 4 ++ zeros 6), live, by decide +kernel, by beta_reduce; decide +kernel⟩⟩

theorem test_hypotheses_WhenResolvesToTheFirstBoundaryAtOrAfterIt :
    (∃ (s : State) (c : CmdIn) (first n : Nat), c.mirror = none ∧ s.boundary c first = .ok n ∧ c.when ≠ 0) ∧
    (∃ (s : State) (c : CmdIn) (first n : Nat), c.mirror = none ∧ s.boundary c first = .ok n ∧ c.when = 0) ∧
    (∃ (s : State) (c : CmdIn) (first : Nat), c.mirror = none ∧ s.boundary c first = .late) ∧
    (∃ (s : State) (c : CmdIn) (first : Nat), c.mirror = none ∧ s.boundary c first = .bad) ∧
    (∃ (c : CmdIn), c.mirror = none ∧ c.form = 0) :=
  ⟨⟨live, { op := 0x111, body := [], form := 1, when := 1601, ref := someRef, mirror := none }, 101, 101, by decide +kernel⟩,
   ⟨live, { op := 0x111, body := [], form := 0, when := 0, ref := someRef, mirror := none }, 101, 101, by decide +kernel⟩,
   ⟨live, { op := 0x111, body := [], form := 1, when := 1600, ref := someRef, mirror := none }, 101, by decide +kernel⟩,
   ⟨live, { op := 0x111, body := [], form := 2, when := 65536, ref := someRef, mirror := none }, 101, by decide +kernel⟩,
   ⟨{ op := 0x111, body := [], form := 0, when := 5, ref := someRef, mirror := none }, by decide +kernel⟩⟩

theorem test_hypotheses_PairEntriesRoundTrip :
    (∃ e : PairEntry, e.dE < 2 ^ 26 ∧ e.dS < 2 ^ 26 ∧ e.gE < 2 ^ 14 ∧ e.gS < 2 ^ 14) ∧
    (∃ (n : _), n < 2 ^ 80) :=
  ⟨⟨{ dE := 67108863, dS := 12288, gE := 16383, gS := 0 }, by decide +kernel⟩,
   ⟨1208925819614629174706175, by decide +kernel⟩⟩

theorem test_hypotheses_ReplyWritesStayInFreeSlots :
    ∃ (s : State) (r : Reply) (t : State), s.key.rplPi < s.key.rplSize ∧ s.key.rplCi < s.key.rplSize ∧ s.ringPut r = some t :=
  ⟨awake, someReply, _, by decide +kernel, by decide +kernel, rfl⟩

theorem test_hypotheses_ScheduledCommandsTakeEffect :
    (∃ (s : State) (n : Nat), ∀ e ∈ s.sched, n < e.tick) ∧
    (∃ (s : State) (n : Nat) (e : Sched'), s.sched = [e] ∧ e.tick ≤ n) ∧
    (∃ (s : State) (e : Sched'), e.op = 0x304) ∧
    (∃ (s : State) (e : Sched'), e.op = 0x811) ∧
    (∃ (s : State) (e : Sched'), e.op = 0x603) ∧
    (∃ (s : State) (e : Sched'), e.op = 0x604 ∧ s.sys.mode = .render) ∧
    (∃ (s : State) (e : Sched'), e.op = 0x605 ∧ s.sys.mode = .liveProbe) ∧
    (∃ (s : State) (e : Sched'), e.op = 0x606 ∧ s.sys.mode = .paused) ∧
    (∃ (s : State) (e : Sched'), e.op = 0x607 ∧ s.sys.mode = .sweep) ∧
    (∃ (s : State) (e : Sched'), e.op = 0x605 ∧ s.sys.mode ≠ .liveProbe) :=
  ⟨⟨live, 101, by decide +kernel⟩,
   ⟨{ live with sched := [{ tick := 101, ord := 0, op := 0x604, body := [], ref := someRef }] }, 101, { tick := 101, ord := 0, op := 0x604, body := [], ref := someRef }, by decide +kernel⟩,
   ⟨live, { tick := 101, ord := 0, op := 0x304, body := [], ref := someRef }, by decide +kernel⟩,
   ⟨live, { tick := 101, ord := 0, op := 0x811, body := [], ref := someRef }, by decide +kernel⟩,
   ⟨live, { tick := 101, ord := 0, op := 0x603, body := [], ref := someRef }, by decide +kernel⟩,
   ⟨live, { tick := 101, ord := 0, op := 0x604, body := [], ref := someRef }, by decide +kernel⟩,
   ⟨{ live with sys := { live.sys with mode := .liveProbe } }, { tick := 101, ord := 0, op := 0x605, body := [], ref := someRef }, by decide +kernel⟩,
   ⟨{ live with sys := { live.sys with mode := .paused } }, { tick := 101, ord := 0, op := 0x606, body := [], ref := someRef }, by decide +kernel⟩,
   ⟨{ live with sys := { live.sys with mode := .sweep } }, { tick := 101, ord := 0, op := 0x607, body := [], ref := someRef }, by decide +kernel⟩,
   ⟨live, { tick := 101, ord := 0, op := 0x605, body := [], ref := someRef }, by decide +kernel⟩⟩

theorem test_hypotheses_DeadboltStagesKeepTheirBounds :
    (∃ (falling rising : Bool) (m : Nat) (xs : List Int), m ≤ 64) ∧
    (∃ (ceil floor rise q : Nat) (xs : List Int), rise ≠ 0 ∧ (guardBlock ceil floor rise q xs).2 = true) ∧
    (∃ (ceil floor rise q : Nat) (xs : List Int), ∀ x ∈ xs, x.natAbs ≤ guardLevel ceil floor rise q) ∧
    (∃ (c : Nat) (xs : List Int), ∀ x ∈ xs, x.natAbs ≤ c) :=
  ⟨⟨true, false, 64, [-5, 7], by decide +kernel⟩,
   ⟨100, 10, 1, 10, [50, -60], by decide +kernel⟩,
   ⟨100, 10, 1, 10, [5, -20], by decide +kernel⟩,
   ⟨10, [10, -10], by decide +kernel⟩⟩

theorem test_hypotheses_ReadoutStaysUnderTheCeiling :
    ∃ (t : Nat) (s u : State), tabWf (fun _ => DbFeed.reset) s.dblt.feeds = true ∧ exec (.egressReadout t) s = .next u ∧ (s.at t).sys.mode ≠ .yielded ∧
    (s.at t).ticking = true ∧ (s.at t).readoutDue = true :=
  ⟨100000000, live, _, by decide +kernel, rfl, by decide +kernel⟩

theorem test_hypotheses_PortCapBoundsThroughput :
    ∃ (s : State) (port : Nat), port < 2 ∧ s.bwCap port ≠ 0 :=
  ⟨capped, 1, by decide +kernel⟩

theorem test_hypotheses_WhitelistDropsWhatItDoesNotList :
    (∃ (s : State) (dst dport : Nat), bit (s.dbltGet 0x18) 0 = true ∧ s.whitelisted dst dport = false) ∧
    (∃ (s : State) (port : Nat) (f : TxFrame), port < 2 ∧ bit (s.dbltGet 0x18) 0 = true ∧ s.whitelisted f.dst f.dport = false ∧ f.exempt = false) ∧
    (∃ (s : State) (port dst dport : Nat) (exempt : Bool), port < 2 ∧ (bit (s.dbltGet 0x18) 0 = false ∨ s.whitelisted dst dport = true ∨ exempt = true) ∧ s.bwCap port = 0) :=
  ⟨⟨enforced, 1, 1, by decide +kernel⟩,
   ⟨enforced, 1, TxFrame.udp 3 5 6 7 [], by decide +kernel⟩,
   ⟨State.reset, 1, 1, 1, false, by decide +kernel⟩⟩

theorem test_hypotheses_HostWritesSettingsOnlyInStaged :
    (∃ (t a v be : Nat) (s u : State), ((s.at t).sys.mode ≠ .staged ∨ s.dblt.locked = true) ∧ exec (.registerWrite t a v be) s = .next u) ∧
    (Meets regWriteCmd (fun i u => zeroAt i.body 6 2 = true ∧ rd32 i.body 0 % 4 = 0 ∧ 1 ≤ rd16 i.body 4 ∧ rd16 i.body 4 ≤ 64 ∧ (∃ k off, k < rd16 i.body 4 ∧ rd32 i.body 0 + 4 * k = 0x330000 + off ∧ (dbltDflt off).isSome) ∧ (u.sys.mode ≠ .staged ∨ u.dblt.locked = true ∧ ∀ k, k < rd16 i.body 4 → badSetting (rd32 i.body 0 + 4 * k) (rd32 i.body (8 + 4 * k)) = false))) ∧
    (∃ (s u : State), exec .startBoundary s = .next u ∧ s.rendering = false ∧ u.rendering = true) ∧
    (∃ (c : Instr) (s t : State), s.dblt.locked = true ∧ exec c s = .next t ∧ t.dblt.locked = false) :=
  ⟨⟨200, 0x33000C, 5, 15, live, _, by decide +kernel, rfl⟩,
   ⟨(pc 12), (leB 4 0x33000C ++ leB 2 1 ++ zeros 6), live, by decide +kernel, by decide +kernel, by decide +kernel, by decide +kernel, by decide +kernel, ⟨0, 0xC, by decide +kernel⟩, by decide +kernel⟩,
   ⟨starting, _, rfl, by decide +kernel⟩,
   ⟨(.resetPin 200), live, _, by decide +kernel, rfl, by decide +kernel⟩⟩

end Sys2Proof.Machine
end

section
/-! SUPPORT. What each command that is no keyway command leaves alone, one lemma a command (see Laws/Kept.lean for `Kept`): the
row's cases as the model's definition has them, each closed by the lemma of the operation it calls. -/

set_option Elab.async false

namespace Sys2Proof.Machine

/-- Every next state that a result is satisfies `P`. -/
def Answers (P : State → Prop) (r : Result) : Prop := ∀ t, r = .next t → P t

theorem Answers.next {P : State → Prop} {t : State} (h : P t) : Answers P (.next t) := fun _ e => by cases e; exact h

theorem Answers.mono {P Q : State → Prop} {r : Result} (h : Answers P r) (hPQ : ∀ t, P t → Q t) : Answers Q r := fun t e => hPQ t (h t e)

theorem kept_at (s : State) (t : Nat) : Kept s (s.at t) := State.at_kept s t (.refl s)

/-- Ticks run in rendering modes alone (R17, R360). -/
theorem ticking_rendering {s : State} (h : s.ticking = true) : s.rendering = true := by
  unfold State.ticking at h
  simp only [Bool.and_eq_true] at h
  obtain ⟨⟨hr, -⟩, -⟩ := h
  exact hr

/-! Machine/Keyway. -/

theorem execUnknownOpcode_kept (h : Hdr) (op : Nat) (p : Bytes) (s : State) : Answers (Kept s) (execUnknownOpcode h op p s) :=
  .next (.ite (.refl _) (keywayOp_kept _ _ _ _ _ nofun (.refl _)))

theorem execPadSkip_kept (t tag : Nat) (s : State) : Answers (Kept s) (execPadSkip t tag s) :=
  have h := kept_at s t
  .next (.ite h (.ite (State.answer_kept _ _ _ _ _ _ (State.countRefusal_kept _ (State.giveAseq_kept _ (State.ringAdvance_kept _ _ h))))
    (.upd h rfl)))

theorem execCmdFetchError_kept (t : Nat) (s : State) : Answers (Kept s) (execCmdFetchError t s) :=
  have h := kept_at s t
  .next (.ite h (State.emit_kept _ _ (.upd h rfl)))

theorem execMgmtShortDatagram_kept (t : Nat) (s : State) : Answers (Kept s) (execMgmtShortDatagram t s) :=
  have h := kept_at s t
  .next (.ite h (State.rxDropped_kept _ _ (State.rxCount_kept _ _ h)))

theorem execMgmtDenied_kept (h : Hdr) (op : Nat) (p : Bytes) (s : State) : Answers (Kept s) (execMgmtDenied h op p s) := by
  have ha := kept_at s h.t
  refine .next ?_
  split
  · exact .ite (mgmtPacket_kept _ _ _ _ _ _ _ nofun ha) ha
  · exact ha

theorem execMgmtRepeat_kept (h : Hdr) (op : Nat) (p : Bytes) (s : State) : Answers (Kept s) (execMgmtRepeat h op p s) := by
  have ha := kept_at s h.t
  refine .next ?_
  split
  · refine .ite ?_ ha
    split
    · exact mgmtPacket_kept _ _ _ _ _ _ _ nofun ha
    · exact ha
  · exact ha

theorem execReplyRingSpace_kept (t : Nat) (s : State) : Answers (Kept s) (execReplyRingSpace t s) :=
  have h := kept_at s t
  .next (State.sendFreed_kept _ (.ite (State.flushReplies_kept _ _ h) h))

theorem execKeyIrqTimer_kept (t : Nat) (s : State) : Answers (Kept s) (execKeyIrqTimer t s) := by
  have h := kept_at s t
  refine .next ?_
  split
  · exact .ite (State.emit_kept _ _ (.upd h rfl)) h
  · exact h

/-! Machine/RegMap. -/

theorem execRegisterWrite_kept (t addr v be : Nat) (s : State) : Answers (Kept s) (execRegisterWrite t addr v be s) :=
  have h := kept_at s t
  .next (State.pcieWrite_kept _ _ _ _ h)

theorem execHostRxPiWrite_kept (t v : Nat) (slots : List Bytes) (s : State) : Answers (Kept s) (execHostRxPiWrite t v slots s) :=
  have h := kept_at s t
  .next (.ite (State.postRx_kept _ _ _ h) (State.pcieWrite_kept _ _ _ _ h))

theorem execHostTxPiWrite_kept (t v : Nat) (slots frames : List Bytes) (s : State) :
    Answers (Kept s) (execHostTxPiWrite t v slots frames s) :=
  have h := kept_at s t
  .next (.ite (State.postTx_kept _ _ _ _ h) (State.pcieWrite_kept _ _ _ _ h))

/-! Machine/Boot. -/

theorem execResetPinRelease_kept (t addrId : Nat) (sgmii : Bool) (s : State) : Answers (Kept s) (execResetPinRelease t addrId sgmii s) :=
  have h := kept_at s t
  .next (.ite h (.ite (.upd h rfl) (.upd (.upd h rfl) rfl)))

theorem execPerst_kept (t : Nat) (low : Bool) (outstanding : List FabErr) (s : State) : Answers (Kept s) (execPerst t low outstanding s) :=
  have h := kept_at s t
  .next (.ite h (.ite (State.perstLow_kept _ _ (.upd h rfl)) (.upd h rfl)))

theorem execDrainRelease_kept (t m : Nat) (s : State) : Answers (Kept s) (execDrainRelease t m s) :=
  have h := kept_at s t
  .next (.ite (.upd h rfl) h)

theorem execBootAwaitImage_kept (t : Nat) (s : State) : Answers (Kept s) (execBootAwaitImage t s) :=
  have h := kept_at s t
  have hg := Kept.fold (l := romGates) h fun _ g hu => State.setGate_kept _ g true (State.setRun_kept _ g true hu)
  .next (.ite h (State.setMode_kept _ _ rfl (State.onMac_kept _ _ _ (.upd hg rfl))))

theorem execImgVerifyDone_kept (t : Nat) (badLine : Option Nat) (s : State) : Answers (Kept s) (execImgVerifyDone t badLine s) := by
  have h := kept_at s t
  refine .next (.ite h ?_)
  split
  · exact .upd h rfl
  · split
    · exact .ite (.upd h rfl) (.upd h rfl)

/-- The image becomes current: the staged bytes up to its size, in canonical form still. -/
theorem execImgLoadDone_kept (t : Nat) (s : State) : Answers (Kept s) (execImgLoadDone t s) := by
  have h := kept_at s t
  refine .next (.ite h (.mem h rfl rfl fun k => ?_))
  obtain ⟨hst, -, hrest⟩ := storesOk_iff.1 k
  exact storesOk_iff.2 ⟨hst, tabDrop_wf _ _ hst, hrest⟩

theorem execEngineSelftestDone_kept (t : Nat) (failed : List Nat) (s : State) : Answers (Kept s) (execEngineSelftestDone t failed s) :=
  have h := kept_at s t
  have hf := Kept.fold (l := (List.range 34).filter failed.contains) h fun _ k hu => State.declareFailed_kept _ k hu
  .next (.ite h (.upd (State.applyMoves_kept _ (.fold hf fun _ _ hu => State.assignSpare_kept _ _ hu)) rfl))

theorem execFirmwareReady_kept (t : Nat) (s : State) : Answers (Kept s) (execFirmwareReady t s) :=
  have h := kept_at s t
  .next (.ite h (State.setMode_kept _ _ rfl (.upd h rfl)))

/-! Machine/DacCmds. -/

theorem execDacSpanSwitch_kept (t : Nat) (s : State) : Answers (Kept s) (execDacSpanSwitch t s) :=
  have h := kept_at s t
  .next (.fold h (fun _ _ hu => .ite (State.setSpan_kept _ _ _ (.upd hu rfl)) hu))

theorem execDacSpanFadeUp_kept (t : Nat) (s : State) : Answers (Kept s) (execDacSpanFadeUp t s) :=
  have h := kept_at s t
  .next (.fold h (fun _ _ hu => .ite (State.answer_kept _ _ _ _ _ _ (.upd hu rfl)) hu))

theorem execDacSpanDone_kept (t : Nat) (s : State) : Answers (Kept s) (execDacSpanDone t s) :=
  have h := kept_at s t
  .next (.fold h (fun _ _ hu => .ite (.ite (State.spanStart_kept _ _ (State.dacEvt_kept _ _ (.upd hu rfl))) (State.dacEvt_kept _ _
    (.upd hu rfl))) hu))

theorem execModulatorReset_kept (t ch : Nat) (s : State) : Answers (Kept s) (execModulatorReset t ch s) :=
  have h := kept_at s t
  .next (.ite (State.dacEvt_kept _ _ (.upd h rfl)) h)

theorem execDacClampOpen_kept (t : Nat) (s : State) : Answers (Kept s) (execDacClampOpen t s) :=
  have h := kept_at s t
  .next (.ite (.upd h rfl) h)

/-! Machine/Power. -/

theorem execFeedSwitchB_kept (t : Nat) (s : State) : Answers (Kept s) (execFeedSwitchB t s) :=
  have h := kept_at s t
  .next (.ite (State.toFeedB_kept _ (State.feedFailed_kept _ _ h)) h)

theorem execFeedBFailReturn_kept (t : Nat) (s : State) : Answers (Kept s) (execFeedBFailReturn t s) :=
  have h := kept_at s t
  .next (.ite (State.exerciseDone_kept _ _ (State.pwrEvt_kept _ _ (State.setSource_kept _ _ (State.feedFailed_kept _ _ h)))) h)

theorem execFeedReturnA_kept (t : Nat) (s : State) : Answers (Kept s) (execFeedReturnA t s) :=
  have h := kept_at s t
  .next (.ite (State.pwrEvt_kept _ _ (State.setSource_kept _ _ (.upd h rfl))) h)

theorem execHoldupCarry_kept (t : Nat) (s : State) : Answers (Kept s) (execHoldupCarry t s) :=
  have h := kept_at s t
  .next (.ite (State.exerciseDone_kept _ _ (State.pwrEvt_kept _ _ (State.setSource_kept _ _ (State.feedFailed_kept _ _ h)))) h)

theorem execHoldupEnd_kept (t : Nat) (aOk bOk : Bool) (s : State) : Answers (Kept s) (execHoldupEnd t aOk bOk s) :=
  have h := kept_at s t
  .next (.ite (State.setSource_kept _ _ (.upd h rfl)) h)

theorem execHoldupExhausted_kept (t : Nat) (s : State) : Answers (Kept s) (execHoldupExhausted t s) :=
  have h := kept_at s t
  .next (.ite (.upd (State.powerDown_kept _ _ _ h) rfl) h)

theorem execFeedQualified_kept (t : Nat) (aOk bOk : Bool) (s : State) : Answers (Kept s) (execFeedQualified t aOk bOk s) :=
  have h := kept_at s t
  .next (.ite (State.startBring_kept _ _ _ (State.setSource_kept _ _ (.upd h rfl))) h)

theorem execFeedFail_kept (t : Nat) (b : Bool) (s : State) : Answers (Kept s) (execFeedFail t b s) :=
  have h := kept_at s t
  .next (.ite h (.ite (State.feedFailed_kept _ _ h) (State.exerciseDone_kept _ _ (State.feedFailed_kept _ _ h))))

theorem execPowerMonitorSample_kept (t aMv aMa bMv bMa hMv : Nat) (s : State) :
    Answers (Kept s) (execPowerMonitorSample t aMv aMa bMv bMa hMv s) :=
  have h := kept_at s t
  .next (.ite h (.ite (.upd h rfl) (State.powerMeans_kept _ _ (.upd h rfl))))

theorem execFeedExerciseEnd_kept (t : Nat) (s : State) : Answers (Kept s) (execFeedExerciseEnd t s) := by
  have h := kept_at s t
  refine .next ?_
  split
  · exact .ite h (State.exerciseDone_kept _ _ (State.setSource_kept _ _ (State.exerciseResult_kept _ _ h)))
  · exact h

theorem execRailFault_kept (t rail : Nat) (s : State) : Answers (Kept s) (execRailFault t rail s) :=
  have h := kept_at s t
  .next (.ite h (.upd (State.powerDown_kept _ _ _ h) rfl))

theorem execRailRetry_kept (t : Nat) (s : State) : Answers (Kept s) (execRailRetry t s) :=
  have h := kept_at s t
  .next (.ite (State.startBring_kept _ _ _ h) h)

theorem execWakePin_kept (t : Nat) (s : State) : Answers (Kept s) (execWakePin t s) :=
  have h := kept_at s t
  .next (.ite (State.startBring_kept _ _ _ h) h)

theorem execDeepWakeTimer_kept (t : Nat) (s : State) : Answers (Kept s) (execDeepWakeTimer t s) :=
  have h := kept_at s t
  .next (.ite (State.startBring_kept _ _ _ h) h)

theorem execSleepEntryStep_kept (t : Nat) (s : State) : Answers (Kept s) (execSleepEntryStep t s) :=
  have h := kept_at s t
  .next (.ite h (State.sleepStep_kept _ _ (.upd h rfl)))

theorem execWakeStep_kept (t : Nat) (s : State) : Answers (Kept s) (execWakeStep t s) :=
  have h := kept_at s t
  .next (.ite h (State.wakeStep_kept _ _ (.upd h rfl)))

theorem execDeepEntryStep_kept (t : Nat) (s : State) : Answers (Kept s) (execDeepEntryStep t s) :=
  have h := kept_at s t
  .next (.ite h (State.deepStep_kept _ _ (.upd h rfl)))

theorem execPwrQueuedStart_kept (t : Nat) (s : State) : Answers (Kept s) (execPwrQueuedStart t s) := by
  have h := kept_at s t
  refine .next ?_
  split
  · exact h
  · refine .ite h ?_
    dsimp only
    split
    · exact State.answer_kept _ _ _ _ _ _ (State.countRefusal_kept _ (.upd h rfl))
    · exact State.pwrStart_kept _ _ (.upd h rfl)

/-! Machine/Integrity. -/

theorem execYieldTakeEffect_kept (t : Nat) (s : State) : Answers (Kept s) (execYieldTakeEffect t s) :=
  have h := kept_at s t
  .next (.ite (State.takeYield_kept _ h) h)

theorem execWdogKick_kept (w : WdogWrite) (s : State) : Answers (Kept s) (execWdogKick w s) :=
  have h := kept_at s w.t
  .next (.ite (.fold (.upd h rfl) (fun _ _ hu => State.sramFault_kept _ _ hu)) h)

theorem execWatchdogExpiry_kept (t : Nat) (s : State) : Answers (Kept s) (execWatchdogExpiry t s) :=
  have h := kept_at s t
  .next (.ite (State.decideYield_kept _ _ (State.logOpen_kept _ _ _ h)) h)

theorem execTempSample_kept (t tj : Nat) (s : State) : Answers (Kept s) (execTempSample t tj s) :=
  have h := kept_at s t
  have hw {c : Prop} [Decidable c] {u : State} (hu : Kept s u) : Kept s (if c then u.logClock 13 7 else u) :=
    .ite (State.logClock_kept _ _ _ hu) hu
  have hy {c : Prop} [Decidable c] {u : State} (hu : Kept s u) : Kept s (if c then u.yieldFault 2 12 else u) :=
    .ite (State.yieldFault_kept _ _ _ hu) hu
  .next (.ite h (.ite (hy (hw (.upd h rfl))) (State.powerDown_kept _ _ _ (.upd (hy (hw (.upd h rfl))) rfl))))

/-! Machine/Clocks. -/

theorem execMuxSwitch_kept (t p : Nat) (toXtal alive : Bool) (s : State) : Answers (Kept s) (execMuxSwitch t p toXtal alive s) :=
  have h := kept_at s t
  .next (.ite h (.ite (State.clkEvt_kept _ _ h) (State.onPll_kept _ _ _ h)))

theorem execMuxForcedSwitch_kept (t p : Nat) (toXtal : Bool) (s : State) : Answers (Kept s) (execMuxForcedSwitch t p toXtal s) :=
  have h := kept_at s t
  .next (.ite h (.upd (State.clkEvt_kept _ _ (State.onPll_kept _ _ _ h)) rfl))

theorem execPllRefLoss_kept (t : Nat) (l : RefLoss) (s : State) : Answers (Kept s) (execPllRefLoss t l s) :=
  have h := kept_at s t
  .next (.ite h (State.coastEffect_kept _ _ _ (State.clkEvt_kept _ _ (State.onPll_kept _ _ _ h))))

theorem execPllRelock_kept (t p : Nat) (s : State) : Answers (Kept s) (execPllRelock t p s) :=
  have h := kept_at s t
  .next (.ite (State.clkEvt_kept _ _ (State.onPll_kept _ _ _ h)) h)

theorem execFreqMonWindow_kept (t : Nat) (khz : List Nat) (locked : List Bool) (s : State) :
    Answers (Kept s) (execFreqMonWindow t khz locked s) :=
  have h := kept_at s t
  have hf : Kept s ((List.range 9).foldl _ _) :=
    .fold h fun _ _ hu => .ite (State.clkEvt_kept _ _ (State.onPll_kept _ _ _ hu)) (State.onPll_kept _ _ _ hu)
  .next (.ite h (.ite (State.selfFault_kept _ hf) hf))

theorem execXtalFail_kept (t : Nat) (s : State) : Answers (Kept s) (execXtalFail t s) :=
  have h := kept_at s t
  .next (.ite h (State.yieldFault_kept _ _ _ (.upd h rfl)))

/-! Machine/Ports. -/

theorem execLinkChange_kept (t port : Nat) (up : Bool) (s : State) : Answers (Kept s) (execLinkChange t port up s) :=
  have h := kept_at s t
  .next (.ite h (State.setLink_kept _ _ _ h))

theorem execArpFrame_kept (t port vid : Nat) (request : Bool) (sip smac tip : Nat) (s : State) :
    Answers (Kept s) (execArpFrame t port vid request sip smac tip s) :=
  have h := kept_at s t
  .next (State.receive_kept _ _ _ _ _ (fun _ hu => .ite hu (.ite (State.post_kept _ _ _ (State.onMac_kept _ _ _ hu))
    (State.onMac_kept _ _ _ hu))) h)

theorem execArpRetry_kept (t port ip : Nat) (s : State) : Answers (Kept s) (execArpRetry t port ip s) :=
  have h := kept_at s t
  .next (.ite (State.askArp_kept _ _ _ h) h)

theorem execIcmpEcho_kept (u : Udp) (s : State) : Answers (Kept s) (execIcmpEcho u s) :=
  have h := kept_at s u.t
  .next (State.receiveUdp_kept _ _ _ _ (fun _ hu => .ite hu (State.post_kept _ _ _ hu)) h)

theorem execIgmpQuery_kept (t port group src : Nat) (s : State) : Answers (Kept s) (execIgmpQuery t port group src s) :=
  have h := kept_at s t
  .next (State.receive_kept _ _ _ _ _ (fun _ hu => .fold hu (fun _ _ hu => State.sendIgmp_kept _ _ _ _ _ hu)) h)

theorem execIgmpRepeat_kept (t : Nat) (s : State) : Answers (Kept s) (execIgmpRepeat t s) := by
  have h := kept_at s t
  refine .next (.ite h ?_)
  split
  · exact .fold (.upd h rfl) (fun _ _ hu => .ite (State.sendIgmp_kept _ _ _ _ _ hu) hu)

theorem execIgmpLeave_kept (t : Nat) (s : State) : Answers (Kept s) (execIgmpLeave t s) := by
  have h := kept_at s t
  refine .next (.ite h ?_)
  split
  · exact State.leaveUnneeded_kept _ _ (.upd h rfl)

theorem execLldpFrame_kept (t port tw : Nat) (agreed : Bool) (s : State) : Answers (Kept s) (execLldpFrame t port tw agreed s) :=
  have h := kept_at s t
  .next (State.receive_kept _ _ _ _ _ (fun _ hu => State.post_kept _ _ _ (State.onMac_kept _ _ _ hu)) h)

theorem execPauseFrame_kept (t port quanta : Nat) (s : State) : Answers (Kept s) (execPauseFrame t port quanta s) :=
  have h := kept_at s t
  .next (.ite h (.ite (State.rxDropped_kept _ _ (State.rxCount_kept _ _ h)) (State.onMac_kept _ _ _ (State.rxCount_kept _ _ h))))

theorem execPauseQuantaEnd_kept (t port : Nat) (s : State) : Answers (Kept s) (execPauseQuantaEnd t port s) :=
  have h := kept_at s t
  .next (.ite (State.onMac_kept _ _ _ h) h)

theorem execDroppedFrame_kept (t port : Nat) (d : FrameDrop) (s : State) : Answers (Kept s) (execDroppedFrame t port d s) :=
  have h := kept_at s t
  .next (State.receive_kept _ _ _ _ _ (fun _ hu => .ite (State.rxNobuf_kept _ _ hu) (State.rxDropped_kept _ _ hu)) h)

theorem execRxFcsError_kept (t port : Nat) (s : State) : Answers (Kept s) (execRxFcsError t port s) :=
  have h := kept_at s t
  .next (.ite (State.onMac_kept _ _ _ h) h)

theorem execLowPowerIdle_kept (t : Nat) (e : LpiEvent) (s : State) : Answers (Kept s) (execLowPowerIdle t e s) := by
  have h := kept_at s t
  refine .next ?_
  split
  · exact .ite (State.onMac_kept _ _ _ h) h
  · exact .ite (State.onMac_kept _ _ _ h) h

theorem execHostRxFrame_kept (t : Nat) (tci : Option Nat) (frame : Bytes) (s : State) : Answers (Kept s) (execHostRxFrame t tci frame s) :=
  have h := kept_at s t
  .next (State.receive_kept _ _ _ _ _ (fun _ hu => .ite (State.rxDropped_kept _ _ hu) (State.rxFill_kept _ _ _ _ _ _ _ (.ite hu
    (State.rxNobuf_kept _ _ hu)))) h)

theorem execFrameLaunch_kept (t port : Nat) (s : State) : Answers (Kept s) (execFrameLaunch t port s) := by
  have h := kept_at s t
  refine .next (.ite h ?_)
  split
  · exact h
  · exact State.launch_kept _ _ _ h

/-! Machine/Ptp. -/

theorem execPtpAnnounce_kept (m : PtpMsg) (s : State) : Answers (Kept s) (execPtpAnnounce m s) :=
  have h := kept_at s m.t
  .next (State.ptpReceive_kept _ _ _ (fun _ hu => .ite hu (.upd (State.setMasters_kept _ _ _ hu) rfl)) h)

theorem execAnnounceTimeout_kept (t port : Nat) (s : State) : Answers (Kept s) (execAnnounceTimeout t port s) :=
  have h := kept_at s t
  .next (.ite (State.setMasters_kept _ _ _ h) h)

theorem execPtpDelayReqSend_kept (t port : Nat) (tx : Int) (s : State) : Answers (Kept s) (execPtpDelayReqSend t port tx s) :=
  have h := kept_at s t
  .next (.ite h (.ite (State.onPtp_kept _ _ _ (State.startFrame_kept _ _ _ h)) (State.startFrame_kept _ _ _ h)))

theorem execPtpDelayResp_kept (m : PtpMsg) (s : State) : Answers (Kept s) (execPtpDelayResp m s) := by
  have h := kept_at s m.t
  refine .next (State.ptpReceive_kept _ _ _ (fun _ hu => ?_) h)
  split
  · exact hu
  · exact State.onPtp_kept _ _ _ hu

theorem execPtpSync_kept (m : PtpMsg) (s : State) : Answers (Kept s) (execPtpSync m s) :=
  have h := kept_at s m.t
  .next (State.ptpReceive_kept _ _ _ (fun _ hu => .ite hu (.ite (State.onPtp_kept _ _ _ (State.onPtp_kept _ _ _ hu))
    (State.sync_kept _ _ _ _ _ (State.onPtp_kept _ _ _ hu)))) h)

theorem execPtpFollowUp_kept (m : PtpMsg) (s : State) : Answers (Kept s) (execPtpFollowUp m s) := by
  have h := kept_at s m.t
  refine .next (State.ptpReceive_kept _ _ _ (fun _ hu => ?_) h)
  split
  · exact hu
  · exact .ite hu (State.sync_kept _ _ _ _ _ (State.onPtp_kept _ _ _ hu))

theorem execSyncTimeout_kept (t : Nat) (s : State) : Answers (Kept s) (execSyncTimeout t s) :=
  have h := kept_at s t
  .next (.ite (State.loseRef_kept _ h) h)

theorem execPtpPortSwitch_kept (t : Nat) (s : State) : Answers (Kept s) (execPtpPortSwitch t s) :=
  have h := kept_at s t
  .next (.ite (State.switchPort_kept _ _ h) h)

/-! Machine/Strobe. -/

theorem execFrameStbEdge_kept (t : Nat) (falling : Bool) (s : State) : Answers (Kept s) (execFrameStbEdge t falling s) := by
  have h := kept_at s t
  refine .next (.ite h ?_)
  dsimp only
  split
  · exact .upd h rfl
  · exact .ite (.upd h rfl) (.ite (State.judgeEdge_kept _ _ _ (.upd h rfl)) (.upd h rfl))

theorem execStrobeSilent_kept (t : Nat) (s : State) : Answers (Kept s) (execStrobeSilent t s) := by
  have h := kept_at s t
  refine .next ?_
  split
  · exact h
  · exact .ite (.ite (State.ptmEvt_kept _ _ (.upd h rfl)) (.upd h rfl)) h

/-! Machine/Media. -/

theorem execSt2110Packet_kept (u : Udp) (s : State) : Answers (Kept s) (execSt2110Packet u s) :=
  have h := kept_at s u.t
  .next (State.receiveUdp_kept _ _ _ _ (fun _ hu => .ite hu (.fold hu (fun _ _ hu => State.audioPacket_kept _ _ _ _ _ hu))) h)

theorem execSadmPacket_kept (u : Udp) (frames : List AdmFrame) (s : State) : Answers (Kept s) (execSadmPacket u frames s) :=
  have h := kept_at s u.t
  .next (State.receiveUdp_kept _ _ _ _ (fun _ hu => .ite hu (.fold hu (fun _ _ hu => State.sadmPart_kept _ _ _ _ _ _ hu))) h)

theorem execMediaPacketLaunch_kept (t entry : Nat) (s : State) : Answers (Kept s) (execMediaPacketLaunch t entry s) :=
  have h := kept_at s t
  .next (.ite h (State.sendFlow_kept _ _ _ _ _ _ (.upd h rfl)))

theorem execSadmRelaySend_kept (t entry : Nat) (s : State) : Answers (Kept s) (execSadmRelaySend t entry s) := by
  have h := kept_at s t
  refine .next ?_
  split
  · exact h
  · refine .ite (.upd h rfl) (.fold (.upd h rfl) (fun _ _ hu => ?_))
    split
    · exact .ite (State.sendFlow_kept _ _ _ _ _ _ (.upd hu rfl)) (.upd hu rfl)

/-! Machine/Units. -/

theorem execUnitSubmit_kept (t core : Nat) (desc : Bytes) (s : State) : Answers (Kept s) (execUnitSubmit t core desc s) :=
  have h := kept_at s t
  .next (.ite h (State.submit_kept _ _ _ (.ite (.upd (State.submitAt_kept _ _ h) rfl) (State.submitAt_kept _ _ h))))

theorem execSubmitRetry_kept (t : Nat) (s : State) : Answers (Kept s) (execSubmitRetry t s) :=
  have h := kept_at s t
  .next (.ite (State.resubmit_kept _ _ h) h)

theorem execUnitDispatch_kept (t : Nat) (s : State) : Answers (Kept s) (execUnitDispatch t s) := by
  have h := kept_at s t
  refine .next (.ite h (.fold (State.rouse_kept _ h) (fun _ _ hu => ?_)))
  split
  · exact State.dispatch_kept _ _ _ hu
  · exact hu

/-! Machine/Commit. -/

theorem execGeometryBankComplete_kept (g : GeomDone) (s : State) : Answers (Kept s) (execGeometryBankComplete g s) := by
  have h := kept_at s g.t
  refine .next ?_
  split
  · exact h
  · exact .ite h (State.rouse_kept _ (State.geomKick_kept _ (.upd (.fold (State.geomEvents_kept _ _ h)
    (fun _ _ hu => State.geomFault_kept _ _ hu)) rfl)))

theorem execUnitCommit_kept (t : Nat) (e : UnitEnd) (s : State) : Answers (Kept s) (execUnitCommit t e s) := by
  have h := kept_at s t
  refine .next ?_
  split
  · exact h
  · exact .ite (.fold (State.endOn_kept _ _ _ h) (fun _ _ hu => State.ringFault_kept _ _ hu)) (State.endOn_kept _ _ _ h)

theorem execUnitEndNoCommit_kept (t engine : Nat) (s : State) : Answers (Kept s) (execUnitEndNoCommit t engine s) :=
  have h := kept_at s t
  .next (State.endOn_kept _ _ _ h)

theorem execUnitFault_kept (t engine kind : Nat) (site : FaultSite) (s : State) : Answers (Kept s) (execUnitFault t engine kind site s) :=
  have h := kept_at s t
  .next (State.onRunning_kept _ _ _ (fun _ _ hu => .ite (State.krnStops_kept _ _ _ hu) (.ite (.ite (State.pairParity_kept _ _ _ _ hu) hu)
    (.ite (State.unitFails_kept _ _ _ _ _ _ (.ite hu (State.freeStalls_kept _ _ hu))) hu))) h)

theorem execBudgetInterrupt_kept (t engine : Nat) (s : State) : Answers (Kept s) (execBudgetInterrupt t engine s) :=
  have h := kept_at s t
  .next (State.onRunning_kept _ _ _ (fun _ _ hu => .ite hu (.ite (State.krnStops_kept _ _ _ hu) (State.vendorFails_kept _ _ _ _ hu))) h)

theorem execHaltRequest_kept (t engine : Nat) (s : State) : Answers (Kept s) (execHaltRequest t engine s) :=
  have h := kept_at s t
  .next (.ite (State.onEngine_kept _ _ _ h) h)

theorem execHaltRelease_kept (t engine : Nat) (s : State) : Answers (Kept s) (execHaltRelease t engine s) :=
  have h := kept_at s t
  .next (.ite (State.onEngine_kept _ _ _ h) h)

/-! Machine/Slot. -/

theorem execIngressDeadline_kept (t : Nat) (s : State) : Answers (Kept s) (execIngressDeadline t s) := by
  have h := kept_at s t
  refine .next ?_
  split
  · exact h
  · exact .ite (State.slotOpens_kept _ _ h) h

theorem execNominalDeadline_kept (t : Nat) (s : State) : Answers (Kept s) (execNominalDeadline t s) := by
  have h := kept_at s t
  refine .next ?_
  split
  · exact h
  · exact .ite (State.tickLate_kept _ _ h) h

theorem execShedWiden_kept (t : Nat) (s : State) : Answers (Kept s) (execShedWiden t s) := by
  have h := kept_at s t
  refine .next ?_
  split
  · exact h
  · exact .ite h (State.setShed_kept _ _ (.upd h rfl))

/-! Machine/CalRows. -/

theorem execCalAlignStart_kept (t f block : Nat) (s : State) : Answers (Kept s) (execCalAlignStart t f block s) := by
  have h := kept_at s t
  refine .next ?_
  split
  · exact h
  · exact .ite (State.alignBlock_kept _ _ _ _ h) h

theorem execCalBlockAbandon_kept (t f block : Nat) (s : State) : Answers (Kept s) (execCalBlockAbandon t f block s) := by
  have h := kept_at s t
  refine .next ?_
  split
  · exact h
  · exact .ite (State.abandonBlock_kept _ _ _ h) h

theorem execCaptureNotLive_kept (t ch : Nat) (s : State) : Answers (Kept s) (execCaptureNotLive t ch s) :=
  have h := kept_at s t
  .next (.ite (State.calEvt_kept _ _ (.upd h rfl)) h)

theorem execCalDecisionRound_kept (s : State) : Answers (Kept s) (execCalDecisionRound s) :=
  .next (.ite (.refl _) (State.onOpen_kept _ _ _ (.fold (.upd (.refl _) rfl) (fun _ _ hu => State.roundFeed_kept _ _ _ hu))))

/-! Machine/Twin. -/

theorem execTumblerSend_kept (t : Nat) (path : TwinPath) (s : State) : Answers (Kept s) (execTumblerSend t path s) :=
  have h := kept_at s t
  .next (.ite h (State.post_kept _ _ _ h))

theorem execTumblerRx_kept (t : Nat) (path : TwinPath) (m : Tumbler) (s : State) : Answers (Kept s) (execTumblerRx t path m s) :=
  have h := kept_at s t
  have hin (u : State) (hu : Kept s u) : Kept s (if u.seesPeer then u else { u with twn := { u.twn with seenSeq := [] } }) := .ite hu (.upd hu rfl)
  .next (.ite (State.receive_kept _ _ _ _ _ (fun _ hu => .upd hu rfl) h) (State.twinReceive_kept _ _ _ (fun u hu =>
    State.planStart_kept _ (State.refChange_kept _ (State.startJoin_kept _ _ (State.peerReturns_kept _ _ (State.peerYields_kept _ _
      (State.peerChecks_kept _ _ (.upd (State.setPath_kept _ _ _ (.ite (hin u hu) (State.twnEvt_kept _ _ (hin u hu)))) rfl))))))) h))

theorem execTumblerMiss_kept (t : Nat) (path : TwinPath) (s : State) : Answers (Kept s) (execTumblerMiss t path s) :=
  have h := kept_at s t
  .next (.ite h (.ite (State.losePath_kept _ _ (State.missOne_kept _ _ h)) (State.missOne_kept _ _ h)))

theorem execMirrorRx_kept (t seq : Nat) (path : TwinPath) (m : Mirror) (s : State) : Answers (Kept s) (execMirrorRx t seq path m s) :=
  have h := kept_at s t
  .next (State.twinReceive_kept _ _ _ (fun _ hu => .ite hu (State.unlessSeen_kept _ _ _ _ (fun _ hu => State.takeMirror_kept _ _ hu)
    (State.sendTwin_kept _ _ _ hu))) h)

theorem execAckRx_kept (t seq : Nat) (path : TwinPath) (mseq : Nat) (s : State) : Answers (Kept s) (execAckRx t seq path mseq s) :=
  have h := kept_at s t
  .next (State.twinReceive_kept _ _ _ (fun _ hu => State.unlessSeen_kept _ _ _ _ (fun _ hu => .upd hu rfl) hu) h)

theorem execMirrorRetx_kept (t : Nat) (s : State) : Answers (Kept s) (execMirrorRetx t s) :=
  have h := kept_at s t
  .next (.ite (.fold h (fun _ _ hu => State.resend_kept _ _ hu)) h)

theorem execRelayRx_kept (t seq : Nat) (path : TwinPath) (m : TwinMsg) (s : State) : Answers (Kept s) (execRelayRx t seq path m s) := by
  have h := kept_at s t
  refine .next (State.twinReceive_kept _ _ _ (fun _ hu => State.unlessSeen_kept _ _ _ _ (fun _ hu => ?_) hu) h)
  split
  · exact State.relayed_kept _ _ _ _ _ _ hu
  · exact State.relayAnswer_kept _ _ _ _ _ hu
  · exact hu

theorem execCheckRx_kept (t seq : Nat) (path : TwinPath) (c : Check) (s : State) : Answers (Kept s) (execCheckRx t seq path c s) :=
  have h := kept_at s t
  .next (State.twinReceive_kept _ _ _ (fun _ hu => State.unlessSeen_kept _ _ _ _ (fun _ hu => .ite hu (State.compareChecks_kept _ _
    (.upd hu rfl))) hu) h)

theorem execVerdictRx_kept (t seq : Nat) (path : TwinPath) (n : Nat) (clean : Bool) (s : State) :
    Answers (Kept s) (execVerdictRx t seq path n clean s) :=
  have h := kept_at s t
  .next (State.twinReceive_kept _ _ _ (fun _ hu => State.unlessSeen_kept _ _ _ _ (fun _ hu => .ite hu (State.actOnVerdict_kept _ _
    (.upd hu rfl))) hu) h)

theorem execVerdictTimeout_kept (t : Nat) (s : State) : Answers (Kept s) (execVerdictTimeout t s) := by
  have h := kept_at s t
  refine .next ?_
  split
  · exact .ite (State.actOnVerdict_kept _ _ h) h
  · exact h

theorem execSnapshotSend_kept (t : Nat) (s : State) : Answers (Kept s) (execSnapshotSend t s) := by
  have h := kept_at s t
  refine .next ?_
  split
  · exact .ite h (State.sendSnapshot_kept _ _ (.upd h rfl))
  · exact h

theorem execTwinWaitExpiry_kept (t : Nat) (s : State) : Answers (Kept s) (execTwinWaitExpiry t s) :=
  have h := kept_at s t
  .next (.ite (State.planAt_kept _ _ _ h) h)

theorem execJoinReqSend_kept (t : Nat) (s : State) : Answers (Kept s) (execJoinReqSend t s) :=
  have h := kept_at s t
  .next (.ite (.upd h rfl) h)

theorem execJoinFailTimeout_kept (t : Nat) (s : State) : Answers (Kept s) (execJoinFailTimeout t s) := by
  have h := kept_at s t
  refine .next ?_
  split
  · exact .ite (State.joinFail_kept _ h) h
  · exact h

theorem execAutoJoinRetry_kept (t : Nat) (s : State) : Answers (Kept s) (execAutoJoinRetry t s) := by
  have h := kept_at s t
  refine .next ?_
  split
  · exact .ite h (.ite (State.rejoin_kept _ h) (State.planStart_kept _ (.upd h rfl)))
  · exact h

/-! Machine/Boundary. -/

theorem execCorFadeEnd_kept (s : State) : Answers (Kept s) (execCorFadeEnd s) :=
  .next (.ite (State.corEnds_kept _ _ (.refl _)) (.refl _))

theorem execRouteHingeEnd_kept (s : State) : Answers (Kept s) (execRouteHingeEnd s) :=
  .next (.ite (State.routeEnds_kept _ _ (.refl _)) (.refl _))

/-- A tick boundary acts on a module that renders. -/
theorem execTickBoundary_kept (s : State) : Answers (Kept s) (execTickBoundary s) := by
  have hm := State.applyMoves_kept _ (kept_at s (s.nsOfSample (16 * (s.tick + 1))))
  refine .next ?_
  split
  · exact .refl _
  rename_i ht
  simp only [Bool.or_eq_true, not_or, Bool.not_eq_true', Bool.not_eq_false] at ht
  obtain ⟨hticks, -⟩ := ht
  have hr := ticking_rendering hticks
  exact .ite (State.takeYield_kept _ (.upd hm rfl)) (.ite (State.stopTick_kept _ _ hm) (State.applyBoundary_kept _ _ hr (.upd hm rfl)))

theorem execObjStale_kept (flow : Nat) (s : State) : Answers (Kept s) (execObjStale flow s) := by
  refine .next ?_
  split
  · exact .refl _
  · exact .ite (.refl _) (.ite (State.objEvt_kept _ _ (State.onOpen_kept _ _ _ (.upd (.refl _) rfl))) (State.onOpen_kept _ _ _ (.upd
    (.refl _) rfl)))

theorem execStartBoundary_kept (s : State) : Answers (Kept s) (execStartBoundary s) := by
  refine .next ?_
  split
  · exact .refl _
  next n _ =>
    have h := kept_at s (s.nsOfSample (16 * n))
    exact .ite (.refl _) (.ite (State.takeYield_kept _ h) (.ite (.upd h rfl) (State.enterRender_kept _ _ h)))

/-! Machine/Dram. -/

theorem execDramTrainingStep_kept (t ch : Nat) (ok : Bool) (s : State) : Answers (Kept s) (execDramTrainingStep t ch ok s) := by
  have h := kept_at s t
  refine .next (.ite h (.ite (.ite h ?_) (.ite (.ite h ?_) h)))
  · split
    · exact State.trainTime_kept _ (.upd h rfl)
  · split
    · exact State.trainTime_kept _ (.upd h rfl)

theorem execWckTrack_kept (t : Nat) (beyond : Bool) (s : State) : Answers (Kept s) (execWckTrack t beyond s) :=
  have h := kept_at s t
  .next (.ite (.upd h rfl) h)

theorem execMr4Read_kept (t rate : Nat) (s : State) : Answers (Kept s) (execMr4Read t rate s) :=
  have h := kept_at s t
  .next (.ite (.upd h rfl) h)

theorem execRefreshDue_kept (t ch : Nat) (demand : Bool) (ahead : Nat) (s : State) :
    Answers (Kept s) (execRefreshDue t ch demand ahead s) := by
  have h := kept_at s t
  refine .next (.ite h ?_)
  split
  have hd {c : Prop} [Decidable c] {u v : DdrSt} : Kept s (if c then { s.at t with ddr := u } else { s.at t with ddr := v }) :=
    .ite (.upd h rfl) (.upd h rfl)
  exact .ite (.upd hd rfl) hd

theorem execDramScrub_kept (t : Nat) (c : LineCheck) (s : State) : Answers (Kept s) (execDramScrub t c s) :=
  have h := kept_at s t
  have hb := Kept.fold h fun _ e hu => State.badLine_kept _ _ e hu
  .next (.ite h (.ite (.upd hb rfl) hb))

theorem execRequestPromote_kept (t n : Nat) (s : State) : Answers (Kept s) (execRequestPromote t n s) :=
  have h := kept_at s t
  .next (.ite (.upd h rfl) h)

theorem execFabricTimeout_kept (t : Nat) (e : FabErr) (s : State) : Answers (Kept s) (execFabricTimeout t e s) :=
  have h := kept_at s t
  .next (.ite h (State.fabErr_kept _ _ h))

/-! Machine/Egress. -/

theorem execDcWindowEnd_kept (t : Nat) (s : State) : Answers (Kept s) (execDcWindowEnd t s) :=
  have h := kept_at s t
  .next (.ite (State.dcJudge_kept _ h) h)

theorem execEgressReadout_kept (t : Nat) (s : State) : Answers (Kept s) (execEgressReadout t s) :=
  have h := kept_at s t
  .next (.ite (State.yieldOut_kept _ h) (.ite (State.readBlock_kept _ h) h))

theorem execDbltParityCheck_kept (t : Nat) (c : SettingsCheck) (s : State) : Answers (Kept s) (execDbltParityCheck t c s) :=
  have h := kept_at s t
  .next (.ite h (.fold (.ite h (.upd h rfl)) (fun _ _ hu => .ite hu (State.selfFault_kept _ (State.logFault_kept _ _ _ _ _
    (State.countCheck_kept _ _ (State.dbltEvt_kept _ _ (State.setDbFeed_kept _ _ _ hu))))))))

/-! Machine/Gates. -/

theorem execGateIdle_kept (t g : Nat) (s : State) : Answers (Kept s) (execGateIdle t g s) :=
  have h := kept_at s t
  .next (.ite (State.settleGate_kept _ _ (State.setGate_kept _ _ _ h)) h)

theorem execGateCloseTimeout_kept (t g : Nat) (s : State) : Answers (Kept s) (execGateCloseTimeout t g s) :=
  have h := kept_at s t
  have hg : Kept s ((s.at t).onGate g _) := State.onGate_kept _ _ _ h
  .next (.ite h (State.settleGate_kept _ _ (.ite (State.pwrEvt_kept _ _ (.upd (.upd hg rfl) rfl)) (.upd hg rfl))))

end Sys2Proof.Machine
end

section
/-! SUPPORT. What every command keeps, what a reset leaves, and the two invariants of the deadbolt's lock. -/

set_option Elab.async false

namespace Sys2Proof.Machine

/-! A snapshot (R320). -/

theorem State.twinReceive_eq (s : State) (path : TwinPath) (f : State → State) :
    s.twinReceive path f = s.twinReceive path id ∨ s.twinReceive path f = f (s.twinReceive path id) := by
  unfold State.twinReceive State.receive
  dsimp only
  split_ifs <;> simp

theorem State.unlessSeen_eq (s : State) (ty seq : Nat) (f : State → State) :
    s.unlessSeen ty seq f = s.unlessSeen ty seq id ∨ s.unlessSeen ty seq f = f (s.unlessSeen ty seq id) := by
  unfold State.unlessSeen
  split_ifs <;> simp

/-- A snapshot is passed over, or a joiner that renders loads it. -/
theorem execSnapshotRx_cases (t seq : Nat) (x : Snapshot) (s : State) :
    Answers (fun v => Kept s v ∨ ∃ u j, Kept s u ∧ u.rendering = true ∧ v = u.loadSnap x j) (execSnapshotRx t seq x s) := by
  have hr (u : State) (hu : Kept s u) : Kept s (u.twinReceive .hasp id) := State.twinReceive_kept _ _ _ (fun _ h => h) hu
  have hn (u : State) (hu : Kept s u) : Kept s (u.unlessSeen 7 seq id) := State.unlessSeen_kept _ _ _ _ (fun _ h => h) hu
  have h1 := hr _ (kept_at s t)
  have h2 := hn _ h1
  refine .next ?_
  rcases State.twinReceive_eq (s.at t) .hasp _ with e | e <;> rw [e]
  · exact .inl h1
  rcases State.unlessSeen_eq ((s.at t).twinReceive .hasp id) 7 seq _ with e | e <;> rw [e]
  · exact .inl h2
  split
  next j _ =>
    split
    next hc =>
      simp only [Bool.and_eq_true] at hc
      obtain ⟨⟨⟨⟨-, hren⟩, -⟩, -⟩, -⟩ := hc
      exact .inr ⟨_, j, h2, hren, rfl⟩
    · exact .inl h2
  · exact .inl h2

theorem execSnapshotRx_kept (t seq : Nat) (x : Snapshot) (s : State) (hx : Snapshot.wf x = true) : Answers (Kept s) (execSnapshotRx t seq x s) :=
  (execSnapshotRx_cases t seq x s).mono fun _ h => by
    rcases h with h | ⟨u, j, hu, hr, rfl⟩
    · exact h
    · exact hu.trans (State.loadSnap_kept u x j hr hx (.refl u))

/-! Every command. -/

/-- The three events that end in a reset: the pin, the end of SYS_RESET's delay, and the last bring-up step (R363). -/
def endsInReset : Instr → Bool
  | .resetPin _ | .sysResetExec _ | .bringupStep _ => true
  | _ => false

theorem isReset_of_endsInReset {c : Instr} (h : endsInReset c = true) :
    (∃ n, c = .resetPin n) ∨ (∃ n, c = .sysResetExec n) ∨ ∃ n, c = .bringupStep n := by
  cases c with
  | resetPin n => exact .inl ⟨n, rfl⟩
  | sysResetExec n => exact .inr (.inl ⟨n, rfl⟩)
  | bringupStep n => exact .inr (.inr ⟨n, rfl⟩)
  | _ => cases h

/-- A snapshot that the command carries holds byte stores in canonical form. -/
def carriesWf : Instr → Bool
  | .snapshotRx _ _ x => Snapshot.wf x
  | _ => true

/-- The command of a keyway row is one of the module's commands. -/
theorem keywayRow_mem {i : Instr} {c : Cmd} {h : Hdr} {p : Bytes} (hk : keywayRow i = some (c, h, p)) : c ∈ allCmds := by
  cases i <;> cases hk <;> simp only [allCmds, List.cons_append, List.nil_append, List.mem_cons, eq_self, true_or, or_true]

theorem keyway_kept (c : Cmd) (h : Hdr) (p : Bytes) (s : State) (hc : c.Kept) : Answers (Kept s) (keyway c h p s) :=
  .next (keywayOp_kept _ _ _ _ _ (fun _ e => by cases e; exact hc) (.refl s))

/-- Every row that is no keyway command, and ends in no reset, keeps what `Kept` says. -/
theorem eventRow_kept (c : Instr) (s : State) (hk : keywayRow c = none) (hr : endsInReset c = false) (hx : carriesWf c = true) :
    Answers (Kept s) (exec c s) := by
  have hw (t a v : Nat) : Kept s (hostRegWrite t a v s) := hostRegWrite_kept _ _ _ _ (.refl s)
  have hb (t off : Nat) (d : Bytes) : Kept s ((s.at t).bar2Write off d) := State.bar2Write_kept _ _ _ (kept_at s t)
  cases c with
  | unknownOpcode => exact execUnknownOpcode_kept _ _ _ s
  | padSkip => exact execPadSkip_kept _ _ s
  | cmdFetchError => exact execCmdFetchError_kept _ s
  | mgmtShortDatagram => exact execMgmtShortDatagram_kept _ s
  | mgmtDenied => exact execMgmtDenied_kept _ _ _ s
  | mgmtRepeat => exact execMgmtRepeat_kept _ _ _ s
  | cmdRingEnable => exact .next (hw _ _ _)
  | cmdRingDisable => exact .next (hw _ _ _)
  | rplRingEnable => exact .next (hw _ _ _)
  | rplRingDisable => exact .next (hw _ _ _)
  | keyRingCfgWrite => exact .next (.ite (hw _ _ _) (.refl _))
  | keyCmdPiWrite => exact .next (hw _ _ _)
  | keyRplCiWrite => exact .next (hw _ _ _)
  | replyRingSpace => exact execReplyRingSpace_kept _ s
  | keyIrqTimer => exact execKeyIrqTimer_kept _ s
  | w1cClear => exact .next (.ite (hw _ _ _) (.refl _))
  | registerWrite => exact execRegisterWrite_kept _ _ _ _ s
  | rndClrMin => exact .next (hw _ _ _)
  | panClrMax => exact .next (hw _ _ _)
  | dispClrMax => exact .next (hw _ _ _)
  | intgClrTjmax => exact .next (hw _ _ _)
  | ddrClrMax => exact .next (hw _ _ _)
  | pwrClrMinmax => exact .next (hw _ _ _)
  | tapKctlWrite => exact .next (hw _ _ _)
  | tapInjWrite => exact .next (.ite (hw _ _ _) (.refl _))
  | tapTestEnWrite => exact .next (hw _ _ _)
  | dbltRegWrite => exact .next (.ite (hw _ _ _) (.refl _))
  | imgWindowWrite => exact .next (.ite (.refl _) (hb _ _ _))
  | corWindowWrite => exact .next (.ite (.refl _) (hb _ _ _))
  | layoutWindowWrite => exact .next (.ite (.refl _) (hb _ _ _))
  | routeWindowWrite => exact .next (.ite (.refl _) (hb _ _ _))
  | roWindowWrite => exact .next (.ite (.refl _) (hb _ _ _))
  | hostRxEnable => exact .next (hw _ _ _)
  | hostTxEnable => exact .next (hw _ _ _)
  | hostTxDisable => exact .next (hw _ _ _)
  | hostRxPiWrite => exact execHostRxPiWrite_kept _ _ _ s
  | hostTxPiWrite => exact execHostTxPiWrite_kept _ _ _ _ s
  | wdogKick => exact execWdogKick_kept _ s
  | watchdogExpiry => exact execWatchdogExpiry_kept _ s
  | perst => exact execPerst_kept _ _ _ s
  | drainRelease => exact execDrainRelease_kept _ _ s
  | wakePin => exact execWakePin_kept _ s
  | deepWakeTimer => exact execDeepWakeTimer_kept _ s
  | frameStbEdge => exact execFrameStbEdge_kept _ _ s
  | strobeSilent => exact execStrobeSilent_kept _ s
  | feedSwitchB => exact execFeedSwitchB_kept _ s
  | feedBFailReturn => exact execFeedBFailReturn_kept _ s
  | feedReturnA => exact execFeedReturnA_kept _ s
  | holdupCarry => exact execHoldupCarry_kept _ s
  | holdupEnd => exact execHoldupEnd_kept _ _ _ s
  | holdupExhausted => exact execHoldupExhausted_kept _ s
  | feedQualified => exact execFeedQualified_kept _ _ _ s
  | railFault => exact execRailFault_kept _ _ s
  | railRetry => exact execRailRetry_kept _ s
  | powerMonitorSample => exact execPowerMonitorSample_kept _ _ _ _ _ _ s
  | feedExerciseEnd => exact execFeedExerciseEnd_kept _ s
  | xtalFail => exact execXtalFail_kept _ s
  | pllRefLoss => exact execPllRefLoss_kept _ _ s
  | pllRelock => exact execPllRelock_kept _ _ s
  | freqMonWindow => exact execFreqMonWindow_kept _ _ _ s
  | muxSwitch => exact execMuxSwitch_kept _ _ _ _ s
  | muxForcedSwitch => exact execMuxForcedSwitch_kept _ _ _ s
  | gateIdle => exact execGateIdle_kept _ _ s
  | gateCloseTimeout => exact execGateCloseTimeout_kept _ _ s
  | tempSample => exact execTempSample_kept _ _ s
  | linkChange => exact execLinkChange_kept _ _ _ s
  | st2110Packet => exact execSt2110Packet_kept _ s
  | sadmPacket => exact execSadmPacket_kept _ _ s
  | ptpSync => exact execPtpSync_kept _ s
  | ptpFollowUp => exact execPtpFollowUp_kept _ s
  | ptpDelayResp => exact execPtpDelayResp_kept _ s
  | ptpAnnounce => exact execPtpAnnounce_kept _ s
  | ptpDelayReqSend => exact execPtpDelayReqSend_kept _ _ _ s
  | announceTimeout => exact execAnnounceTimeout_kept _ _ s
  | syncTimeout => exact execSyncTimeout_kept _ s
  | ptpPortSwitch => exact execPtpPortSwitch_kept _ s
  | arpFrame => exact execArpFrame_kept _ _ _ _ _ _ _ s
  | arpRetry => exact execArpRetry_kept _ _ _ s
  | icmpEcho => exact execIcmpEcho_kept _ s
  | igmpQuery => exact execIgmpQuery_kept _ _ _ _ s
  | igmpRepeat => exact execIgmpRepeat_kept _ s
  | igmpLeave => exact execIgmpLeave_kept _ s
  | lldpFrame => exact execLldpFrame_kept _ _ _ _ s
  | pauseFrame => exact execPauseFrame_kept _ _ _ s
  | pauseQuantaEnd => exact execPauseQuantaEnd_kept _ _ s
  | droppedFrame => exact execDroppedFrame_kept _ _ _ s
  | hostRxFrame => exact execHostRxFrame_kept _ _ _ s
  | frameLaunch => exact execFrameLaunch_kept _ _ s
  | mediaPacketLaunch => exact execMediaPacketLaunch_kept _ _ s
  | sadmRelaySend => exact execSadmRelaySend_kept _ _ s
  | tumblerSend => exact execTumblerSend_kept _ _ s
  | tumblerRx => exact execTumblerRx_kept _ _ _ s
  | tumblerMiss => exact execTumblerMiss_kept _ _ s
  | mirrorRx => exact execMirrorRx_kept _ _ _ _ s
  | ackRx => exact execAckRx_kept _ _ _ _ s
  | mirrorRetx => exact execMirrorRetx_kept _ s
  | relayRx => exact execRelayRx_kept _ _ _ _ s
  | checkRx => exact execCheckRx_kept _ _ _ _ s
  | verdictRx => exact execVerdictRx_kept _ _ _ _ _ s
  | verdictTimeout => exact execVerdictTimeout_kept _ s
  | snapshotRx => exact execSnapshotRx_kept _ _ _ s hx
  | twinWaitExpiry => exact execTwinWaitExpiry_kept _ s
  | joinReqSend => exact execJoinReqSend_kept _ s
  | snapshotSend => exact execSnapshotSend_kept _ s
  | joinFailTimeout => exact execJoinFailTimeout_kept _ s
  | autoJoinRetry => exact execAutoJoinRetry_kept _ s
  | startBoundary => exact execStartBoundary_kept s
  | tickBoundary => exact execTickBoundary_kept s
  | objStale => exact execObjStale_kept _ s
  | corFadeEnd => exact execCorFadeEnd_kept s
  | routeHingeEnd => exact execRouteHingeEnd_kept s
  | dacSpanSwitch => exact execDacSpanSwitch_kept _ s
  | dacSpanFadeUp => exact execDacSpanFadeUp_kept _ s
  | dacSpanDone => exact execDacSpanDone_kept _ s
  | modulatorReset => exact execModulatorReset_kept _ _ s
  | ingressDeadline => exact execIngressDeadline_kept _ s
  | nominalDeadline => exact execNominalDeadline_kept _ s
  | shedWiden => exact execShedWiden_kept _ s
  | unitSubmit => exact execUnitSubmit_kept _ _ _ s
  | submitRetry => exact execSubmitRetry_kept _ s
  | unitDispatch => exact execUnitDispatch_kept _ s
  | unitCommit => exact execUnitCommit_kept _ _ s
  | unitEndNoCommit => exact execUnitEndNoCommit_kept _ _ s
  | geometryBankComplete => exact execGeometryBankComplete_kept _ s
  | unitFault => exact execUnitFault_kept _ _ _ _ s
  | budgetInterrupt => exact execBudgetInterrupt_kept _ _ s
  | haltRequest => exact execHaltRequest_kept _ _ s
  | haltRelease => exact execHaltRelease_kept _ _ s
  | egressReadout => exact execEgressReadout_kept _ s
  | dcWindowEnd => exact execDcWindowEnd_kept _ s
  | dbltParityCheck => exact execDbltParityCheck_kept _ _ s
  | yieldTakeEffect => exact execYieldTakeEffect_kept _ s
  | calDecisionRound => exact execCalDecisionRound_kept s
  | calAlignStart => exact execCalAlignStart_kept _ _ _ s
  | calBlockAbandon => exact execCalBlockAbandon_kept _ _ _ s
  | captureNotLive => exact execCaptureNotLive_kept _ _ s
  | sleepEntryStep => exact execSleepEntryStep_kept _ s
  | wakeStep => exact execWakeStep_kept _ s
  | deepEntryStep => exact execDeepEntryStep_kept _ s
  | pwrQueuedStart => exact execPwrQueuedStart_kept _ s
  | bootAwaitImage => exact execBootAwaitImage_kept _ s
  | imgVerifyDone => exact execImgVerifyDone_kept _ _ s
  | imgLoadDone => exact execImgLoadDone_kept _ s
  | engineSelftestDone => exact execEngineSelftestDone_kept _ _ s
  | firmwareReady => exact execFirmwareReady_kept _ s
  | dramTrainingStep => exact execDramTrainingStep_kept _ _ _ s
  | wckTrack => exact execWckTrack_kept _ _ s
  | mr4Read => exact execMr4Read_kept _ _ s
  | refreshDue => exact execRefreshDue_kept _ _ _ _ s
  | dramScrub => exact execDramScrub_kept _ _ s
  | requestPromote => exact execRequestPromote_kept _ _ s
  | fabricTimeout => exact execFabricTimeout_kept _ _ s
  | feedFail => exact execFeedFail_kept _ _ s
  | resetPinRelease => exact execResetPinRelease_kept _ _ _ s
  | dacClampOpen => exact execDacClampOpen_kept _ s
  | lowPowerIdle => exact execLowPowerIdle_kept _ _ s
  | rxFcsError => exact execRxFcsError_kept _ _ s
  | resetPin | sysResetExec | bringupStep => cases hr
  | _ => cases hk

/-- Every command but the three that end in a reset keeps what `Kept` says. -/
theorem exec_kept (c : Instr) (s : State) (hr : endsInReset c = false) (hx : carriesWf c = true) : Answers (Kept s) (exec c s) := by
  cases hk : keywayRow c with
  | some r => rw [exec_keyway hk]; exact keyway_kept _ _ _ _ (allCmds_kept (keywayRow_mem hk))
  | none => exact eventRow_kept c s hk hr hx

/-- The module has been reset: what a reset leaves of a state reached from `s` (R363). -/
def Reset (s t : State) : Prop := ∃ u src, Kept s u ∧ t = u.resetTo src

theorem Reset.cleared {s t : State} (h : Reset s t) : t.DbltCleared := by
  obtain ⟨u, src, -, rfl⟩ := h
  exact ⟨rfl, rfl⟩

/-- No tick runs right after a reset: the mode is COLD (R360). -/
theorem Reset.not_rendering {s t : State} (h : Reset s t) : t.rendering = false := by
  obtain ⟨u, src, -, rfl⟩ := h
  rfl

/-- The reset pin: bring-up from step 3 where power is off, and a reset otherwise. -/
theorem execResetPin_cases (n : Nat) (s : State) : Answers (fun t => Kept s t ∨ Reset s t) (execResetPin n s) := by
  have h := kept_at s n
  have hp : Kept s { s.at n with pwr := { (s.at n).pwr with resetLow := true } } := .upd h rfl
  refine .next ?_
  dsimp only
  split
  · exact .inl h
  split
  · exact .inl hp
  split
  · exact .inl (State.startBring_kept _ _ _ hp)
  · exact .inr ⟨_, 2, hp, rfl⟩

theorem execSysResetExec_cases (n : Nat) (s : State) : Answers (fun t => Kept s t ∨ Reset s t) (execSysResetExec n s) := by
  have h := kept_at s n
  refine .next ?_
  split
  · split
    · exact .inr ⟨_, 3, State.abortDue_kept _ h, rfl⟩
    · exact .inl h
  · exact .inl h

theorem execBringupStep_cases (n : Nat) (s : State) : Answers (fun t => Kept s t ∨ Reset s t) (execBringupStep n s) := by
  have h := kept_at s n
  refine .next ?_
  split
  · exact .inl h
  split
  · exact .inl h
  split
  · exact .inr ⟨_, _, h, rfl⟩
  · exact .inl (.upd h rfl)

/-- An event that ends in a reset resets the module, or its time has not come. -/
theorem exec_reset (c : Instr) (s : State) (hc : endsInReset c = true) : Answers (fun t => Kept s t ∨ Reset s t) (exec c s) := by
  cases c with
  | resetPin n => exact execResetPin_cases n s
  | sysResetExec n => exact execSysResetExec_cases n s
  | bringupStep n => exact execBringupStep_cases n s
  | _ => cases hc

/-! A snapshot whose byte stores are in any form. -/

/-- What every command but the three keeps, whatever it carries: `Kept` without the form of the byte stores. -/
def Guarded (s t : State) : Prop :=
  t.pending = s.pending ∧ (s.dblt.locked = true → t.dblt.locked = true ∧ t.dblt.settings = s.dblt.settings) ∧
    (s.DbltSafe → t.DbltSafe) ∧ (t.dblt.locked = true ∨ (t.rendering = true → s.rendering = true))

theorem Kept.guarded {s t : State} (h : Kept s t) : Guarded s t := by
  obtain ⟨hp, hl, hd, -, hr⟩ := h
  exact ⟨hp, hl, hd, hr⟩

theorem Guarded.trans {a b c : State} (h : Guarded a b) (k : Guarded b c) : Guarded a c := by
  obtain ⟨h1, h2, h3, h4⟩ := h
  obtain ⟨k1, k2, k3, k4⟩ := k
  refine ⟨k1.trans h1, fun l => ⟨(k2 (h2 l).1).1, (k2 (h2 l).1).2.trans (h2 l).2⟩, k3 ∘ h3, ?_⟩
  rcases h4 with h4 | h4
  · exact .inl (k2 h4).1
  · exact k4.imp_right fun k r => h4 (k r)

/-- An update of neither the queue, the deadbolt's settings and lock, nor the mode. -/
theorem Guarded.upd {s t : State} (h : Guarded s t) {pd nw tk sy ke bo pw cl pt ma mb mm ha ne ob pa rt rn co ca ta di it db tw da dd fa sc od ou fr}
    (hp : pd = t.pending) (hs : (DbltSt.settings db, DbltSt.locked db, SysSt.mode sy) = (t.dblt.settings, t.dblt.locked, t.sys.mode)) :
    Guarded s (State.mk pd nw tk sy ke bo pw cl pt ma mb mm ha ne ob pa rt rn co ca ta di it db tw da dd fa sc od ou fr) := by
  simp only [Prod.mk.injEq] at hs
  obtain ⟨hset, hlock, hmode⟩ := hs
  refine h.trans ⟨hp, fun l => ⟨hlock.trans l, hset⟩, fun hd => ?_, .inr fun r => ?_⟩
  · unfold State.DbltSafe State.DbltInRange State.dbltGet at *
    rwa [hset]
  · unfold State.rendering at *
    rwa [← hmode]

theorem State.loadSnap_guarded (s : State) (x : Snapshot) (j : JoinSt) (hr : s.rendering = true) : Guarded s (s.loadSnap x j) := by
  unfold State.loadSnap
  dsimp only
  refine Guarded.trans ?_ (State.drain_kept _ (.refl _)).guarded
  refine Guarded.upd (Kept.guarded ?_) rfl rfl
  exact State.setMode_kept' _ _ hr (State.snapFlows_kept _ _ (State.stopEngines_kept _ (.fold (.refl s) fun _ _ h => State.ingest_kept _ _ h)))

/-- Every command but the three that end in a reset guards the deadbolt, the queue and the mode. -/
theorem exec_guarded (c : Instr) (s : State) (hr : endsInReset c = false) : Answers (Guarded s) (exec c s) := by
  cases hx : carriesWf c with
  | true => exact (exec_kept c s hr hx).mono fun _ h => h.guarded
  | false =>
    cases c with
    | snapshotRx t seq x =>
      refine (execSnapshotRx_cases t seq x s).mono fun _ h => ?_
      rcases h with h | ⟨u, j, hu, hur, rfl⟩
      · exact h.guarded
      · exact hu.guarded.trans (State.loadSnap_guarded u x j hur)
    | _ => cases hx

/-- Settles O41: a command that ends in no reset keeps the settings of a locked deadbolt, and one that does clears them, or does not act
yet. -/
theorem lockedSettingsStayUntilReset : Obligations.LockedSettingsStayUntilReset := by
  intro c s t hl h
  cases hr : endsInReset c with
  | false =>
    obtain ⟨-, hkeep, -⟩ := exec_guarded c s hr t h
    exact .inl (hkeep hl)
  | true =>
    rcases exec_reset c s hr t h with ⟨-, hkeep, -⟩ | hres
    · exact .inl (hkeep hl)
    · exact .inr ⟨isReset_of_endsInReset hr, hres.cleared⟩

/-- What a command leaves meets the lock rule of the rendering modes, if what it found did. -/
theorem exec_rendering_locked {c : Instr} {s t : State} (hs : s.rendering = true → s.dblt.locked = true) (h : exec c s = .next t)
    (ht : t.rendering = true) : t.dblt.locked = true := by
  have hg : Guarded s t := by
    cases hr : endsInReset c with
    | false => exact exec_guarded c s hr t h
    | true =>
      rcases exec_reset c s hr t h with hk | hres
      · exact hk.guarded
      · exact absurd ht (by simp [hres.not_rendering])
  obtain ⟨-, hkeep, -, hlock | hmode⟩ := hg
  · exact hlock
  · exact (hkeep (hs (hmode ht))).1

/-- Settles O42: a rendering mode comes from one, or with the lock, and the lock goes with a reset alone. -/
theorem renderingModesAreLocked : Obligations.RenderingModesAreLocked := by
  intro s t hs h ht
  unfold step at h
  split at h
  · cases h; exact hs ht
  next c rest _ => exact exec_rendering_locked (s := { s with pending := rest }) hs h ht

end Sys2Proof.Machine
end

section
/-! SUPPORT. A write of ones to an event register (R15, R542). -/

set_option Elab.async false

namespace Sys2Proof.Machine

/-- `a` is the event register of block `blk`, which starts at `b`: host-class, and no setting of the deadbolt. -/
def isEvtOf (a b blk : Nat) : Bool :=
  isEvtReg a && (bar0Block a).map (·.1) == some b && !(blk == 23 && (dbltDflt (a - b)).isSome) && hostReg blk (a - b)

/-- W1C_CLEAR of an event register that answers is the host write of that register. -/
theorem w1cClear_open {t a b blk x : Nat} {s v : State} (he : isEvtOf a b blk = true) (hv : v = s.at t) (hw : v.writable a blk = true) :
    exec (.w1cClear t a x) s = .next (hostWrite v blk (a - b) x) := by
  simp only [isEvtOf, Bool.and_eq_true, beq_iff_eq, Bool.not_eq_true'] at he
  obtain ⟨⟨⟨hevt, hbase⟩, hsetting⟩, hhost⟩ := he
  subst hv
  have hset : ¬ ((decide (blk = 23) && (dbltDflt (a - b)).isSome) = true) := by simpa using hsetting
  show Host.Outcome.next (if isEvtReg a then hostRegWrite t a x s else s) = _
  rw [if_pos hevt, hostRegWrite, pcieWrite_writable _ _ _ _ _ hw hbase, State.writeReg, if_neg hset, if_pos hhost]

theorem isEvtOf_engine : ∀ k, k < 34 → isEvtOf (0x200004 + 0x1000 * k) 0x200000 19 = true := by decide

theorem hostWrite_tap (s : State) (off v : Nat) : hostWrite s 19 off v = tapWrite s off v := rfl

/-- The event register of an engine. -/
theorem tapWrite_evt (s : State) (k v : Nat) (hk : k < 34) :
    tapWrite s (0x200004 + 0x1000 * k - 0x200000) v = s.onEngine k fun e => { e with evt := w1c e.evt (wd v) } := by
  have hdiv : (0x200004 + 0x1000 * k - 0x200000) / 0x1000 = k := by omega
  rw [tapWrite, if_neg (by omega), if_neg (by omega), if_pos (by omega), hdiv]

/-- Settles O14: every event register is a host-class register of its block, whose write clears the bits written as 1. -/
theorem eventBitsClearByWritingOne : Obligations.EventBitsClearByWritingOne := by
  refine ⟨?sys, ?key, ?pwr, ?clk, ?ptm, ?macA, ?macB, ?macM, ?hasp, ?disp, ?intg, ?twn, ?rnd, ?obj, ?pan, ?rte, ?cor, ?cal, ?ddr, ?fab,
    ?dac, ?dblt, ?engine⟩
  case sys => exact fun t x s v hv hw => w1cClear_open (b := 0) (by decide) hv hw
  case key => exact fun t x s v hv hw => w1cClear_open (b := 0x10000) (by decide) hv hw
  case pwr => exact fun t x s v hv hw => w1cClear_open (b := 0x30000) (by decide) hv hw
  case clk => exact fun t x s v hv hw => w1cClear_open (b := 0x40000) (by decide) hv hw
  case ptm => exact fun t x s v hv hw => w1cClear_open (b := 0x50000) (by decide) hv hw
  case macA => exact fun t x s v hv hw => w1cClear_open (b := 0x60000) (by decide) hv hw
  case macB => exact fun t x s v hv hw => w1cClear_open (b := 0x70000) (by decide) hv hw
  case macM => exact fun t x s v hv hw => w1cClear_open (b := 0x80000) (by decide) hv hw
  case hasp => exact fun t x s v hv hw => w1cClear_open (b := 0x90000) (by decide) hv hw
  case disp => exact fun t x s v hv hw => w1cClear_open (b := 0xA0000) (by decide) hv hw
  case intg => exact fun t x s v hv hw => w1cClear_open (b := 0xB0000) (by decide) hv hw
  case twn => exact fun t x s v hv hw => w1cClear_open (b := 0xC0000) (by decide) hv hw
  case rnd => exact fun t x s v hv hw => w1cClear_open (b := 0x100000) (by decide) hv hw
  case obj => exact fun t x s v hv hw => w1cClear_open (b := 0x110000) (by decide) hv hw
  case pan => exact fun t x s v hv hw => w1cClear_open (b := 0x120000) (by decide) hv hw
  case rte => exact fun t x s v hv hw => w1cClear_open (b := 0x130000) (by decide) hv hw
  case cor => exact fun t x s v hv hw => w1cClear_open (b := 0x140000) (by decide) hv hw
  case cal => exact fun t x s v hv hw => w1cClear_open (b := 0x150000) (by decide) hv hw
  case ddr => exact fun t x s v hv hw => w1cClear_open (b := 0x300000) (by decide) hv hw
  case fab => exact fun t x s v hv hw => w1cClear_open (b := 0x310000) (by decide) hv hw
  case dac => exact fun t x s v hv hw => w1cClear_open (b := 0x320000) (by decide) hv hw
  case dblt => exact fun t x s v hv hw => w1cClear_open (b := 0x330000) (by decide) hv hw
  case engine =>
    intro t x k s v hv hk hw
    rw [w1cClear_open (isEvtOf_engine k hk) hv hw, hostWrite_tap, tapWrite_evt v k x hk]
    rfl

end Sys2Proof.Machine
end

section
/-! SUPPORT. Who writes the deadbolt (R11, R292): no host register write but that of a setting touches it, and a setting is written in
STAGED alone. -/

set_option Elab.async false

namespace Sys2Proof.Machine

/-! What the host's register writes call leaves the deadbolt as it is. -/

@[simp] theorem State.nextTwinSeq_dblt (s : State) (ty : Nat) : (s.nextTwinSeq ty).2.dblt = s.dblt := rfl

@[simp] theorem State.post_dblt (s : State) (port : Nat) (f : TxFrame) : (s.post port f).dblt = s.dblt := by
  unfold State.post; split_ifs <;> simp

@[simp] theorem State.postOn_dblt (s : State) (path : TwinPath) (seq : Nat) (m : TwinMsg) (n : Nat) : (s.postOn path seq m n).dblt = s.dblt := by
  unfold State.postOn; cases path <;> dsimp only <;> split_ifs <;> simp

@[simp] theorem State.postTwin_dblt (s : State) (seq : Nat) (m : TwinMsg) (n : Nat) : (s.postTwin seq m n).dblt = s.dblt := by
  unfold State.postTwin; split_ifs <;> simp

theorem State.sendTwin_dblt (s : State) (m : TwinMsg) (n : Nat) : (s.sendTwin m n).dblt = s.dblt :=
  (State.postTwin_dblt ..).trans (State.nextTwinSeq_dblt s m.type)

@[simp] theorem State.sendReply_dblt (s : State) (src : CmdSrc) (r : Reply) : (s.sendReply src r).dblt = s.dblt := by
  cases src with
  | relay n => exact State.sendTwin_dblt ..
  | _ => rw [State.sendReply_frame _ _ _ (by simp)]

theorem State.settleReplies_dblt (n : Nat) (s : State) : (State.settleReplies n s).dblt = s.dblt := by
  induction n generalizing s with
  | zero => rfl
  | succ n ih =>
    unfold State.settleReplies
    split
    · rw [ih]; simp
    · split
      · rw [ih]; simp
      · rfl

@[simp] theorem State.sendFreed_dblt (s : State) : s.sendFreed.dblt = s.dblt := State.settleReplies_dblt ..

/-- A fold of steps that leave the deadbolt alone leaves it alone. -/
theorem foldl_dblt {β : Type} {f : State → β → State} (hf : ∀ s x, (f s x).dblt = s.dblt) (l : List β) (s : State) :
    (l.foldl f s).dblt = s.dblt := by
  induction l generalizing s with
  | nil => rfl
  | cons x l ih => exact (ih _).trans (hf s x)

@[simp] theorem State.dropWaiting_dblt (s : State) : s.dropWaiting.dblt = s.dblt :=
  foldl_dblt (fun s r => by simp) _ _

@[simp] theorem State.badCfg_dblt (s : State) : s.badCfg.dblt = s.dblt := rfl

@[simp] theorem State.badIndex_dblt (s : State) : s.badIndex.dblt = s.dblt := rfl

@[simp] theorem State.setCmdEn_dblt (s : State) (on : Bool) : (s.setCmdEn on).dblt = s.dblt := by
  unfold State.setCmdEn; split_ifs <;> simp

@[simp] theorem State.setRplEn_dblt (s : State) (on : Bool) : (s.setRplEn on).dblt = s.dblt := by
  unfold State.setRplEn; split_ifs <;> simp

@[simp] theorem State.writeCmdPi_dblt (s : State) (v : Nat) : (s.writeCmdPi v).dblt = s.dblt := by
  unfold State.writeCmdPi; split_ifs <;> simp

@[simp] theorem State.writeRplCi_dblt (s : State) (v : Nat) : (s.writeRplCi v).dblt = s.dblt := by
  unfold State.writeRplCi; dsimp only; split_ifs <;> simp

@[simp] theorem keyWrite_dblt (s : State) (off v : Nat) : (keyWrite s off v).dblt = s.dblt := by
  simp only [keyWrite, apply_ite State.dblt, State.badCfg_dblt, State.setRplEn_dblt, State.setCmdEn_dblt, State.writeCmdPi_dblt,
    State.writeRplCi_dblt, ite_self]

@[simp] theorem State.abortTx_dblt (s : State) : s.abortTx.dblt = s.dblt := by
  unfold State.abortTx
  exact (foldl_dblt (f := fun s (f : TxFrame) => s.txDone (f.slot.getD 0) 0 false true) (fun _ _ => rfl) _ _).trans (by simp)

@[simp] theorem State.setRxEn_dblt (s : State) (on : Bool) : (s.setRxEn on).dblt = s.dblt := by
  unfold State.setRxEn; dsimp only; split_ifs <;> simp

@[simp] theorem State.setTxEn_dblt (s : State) (on : Bool) : (s.setTxEn on).dblt = s.dblt := by
  unfold State.setTxEn; dsimp only; split_ifs <;> simp

@[simp] theorem State.postRx_dblt (s : State) (v : Nat) (slots : List Bytes) : (s.postRx v slots).dblt = s.dblt := by
  unfold State.postRx; dsimp only; split_ifs <;> rfl

@[simp] theorem State.postTx_dblt (s : State) (v : Nat) (slots frames : List Bytes) : (s.postTx v slots frames).dblt = s.dblt := by
  unfold State.postTx; dsimp only; split_ifs <;> simp

@[simp] theorem macWrite_dblt (s : State) (port off v : Nat) : (macWrite s port off v).dblt = s.dblt := by
  cases hr : ringCfg s.net.hrx (off - 0x104) v <;> cases ht : ringCfg s.net.htx (off - 0x118) v <;>
    simp only [macWrite, hr, ht, apply_ite State.dblt, State.onMac_frame, State.wdiscard_frame, State.setTxEn_dblt, State.setRxEn_dblt,
      State.postRx_dblt, State.postTx_dblt, ite_self]

@[simp] theorem tapWrite_dblt (s : State) (off v : Nat) : (tapWrite s off v).dblt = s.dblt := by
  simp only [tapWrite, State.writeTestEn, State.writeKctl, State.writeInj, apply_ite State.dblt, State.onEngine_frame, ite_self]

@[simp] theorem State.clrDispMax_dblt (s : State) : s.clrDispMax.dblt = s.dblt := rfl

@[simp] theorem hostWrite_settings (s : State) (blk off v : Nat) : (hostWrite s blk off v).dblt.settings = s.dblt.settings := by
  simp only [hostWrite, apply_ite State.dblt, apply_ite DbltSt.settings, keyWrite_dblt, State.onGate_frame, macWrite_dblt,
    State.clrDispMax_dblt, tapWrite_dblt, ite_self]

/-! A host write and the settings. -/

/-- Outside STAGED, or with the lock set, the write of a setting is counted and changes none. -/
theorem State.dbltPcie_settings {s : State} (h : s.sys.mode ≠ .staged ∨ s.dblt.locked = true) (off v : Nat) :
    (s.dbltPcie off v).dblt.settings = s.dblt.settings := by
  unfold State.dbltPcie
  rw [if_neg (by simpa using fun hm => h.resolve_left (not_not.2 hm))]

theorem State.pcieWrite_settings {s : State} (h : s.sys.mode ≠ .staged ∨ s.dblt.locked = true) (a v be : Nat) :
    (s.pcieWrite a v be).dblt.settings = s.dblt.settings := by
  unfold State.pcieWrite State.writeReg
  split
  · rfl
  split
  · simp
  split
  · split_ifs
    · exact State.dbltPcie_settings h ..
    · simp
    · simp
  · rfl
  · simp
  · rfl

/-! Refusals. -/

/-- A command whose own rules refuse it with a status and nothing else. -/
theorem refuses_of_run {c : Cmd} {mk : Hdr → Bytes → Instr} {pre : CmdIn → State → Prop} {st : Status}
    (hk : ∀ h p, keywayRow (mk h p) = some (c, h, p)) (hr : ∀ i u, pre i u → c.run i u = .refuse st []) : Refuses c mk pre st := by
  intro h p s ha hp
  rw [exec_keyway (hk h p)]
  exact keyway_refuse c h p s st [] ha (hr _ _ hp)

theorem dbltWriteRun_badMode {i : CmdIn} {u : State} (h : u.sys.mode ≠ .staged ∨ u.dblt.locked = true) :
    dbltWriteRun i u = .refuse .badMode [] := by
  unfold dbltWriteRun
  rw [if_pos (by simpa using h)]
  rfl

/-- The settings lie in the deadbolt's block. -/
theorem dbltDflt_lt {off : Nat} (h : (dbltDflt off).isSome) : off < 0x10000 := by
  by_contra hge
  have hat : regAt off [(0xC, 0x01044914), (0x10, 0), (0x14, 0), (0x18, 0)] = none := by
    simp only [regAt, Option.map_eq_none_iff, List.find?_eq_none, List.mem_cons, List.not_mem_nil, or_false, beq_iff_eq]
    rintro e (rfl | rfl | rfl | rfl) <;> dsimp only <;> omega
  have harr (base n : Nat) (f : Nat → Nat) (hn : base + 4 * n ≤ 0x10000) : regArr off base 4 n f = none := by
    unfold regArr; rw [if_neg (by omega)]
  simp [dbltDflt, hat, harr, regOr] at h

/-- The deadbolt's block is the last of BAR0, and those before it end where it begins or earlier. -/
theorem bar0Block_dblt {off : Nat} (h : off < 0x10000) : bar0Block (0x330000 + off) = some (0x330000, 0x10000, 2, 13, 23) := by
  have hbefore : ∀ b ∈ bar0Blocks.dropLast, b.1 + b.2.1 ≤ 0x330000 := by decide
  have hnone : bar0Blocks.dropLast.find? (fun b => decide (b.1 ≤ 0x330000 + off ∧ 0x330000 + off < b.1 + b.2.1)) = none :=
    List.find?_eq_none.2 fun b hb => by have := hbefore b hb; rw [decide_eq_true_iff]; omega
  rw [bar0Block, show bar0Blocks = bar0Blocks.dropLast ++ [(0x330000, 0x10000, 2, 13, 23)] from rfl, List.find?_append, hnone, Option.none_or]
  exact List.find?_cons_of_pos (decide_eq_true (by dsimp only; omega))

/-- A setting takes REG_WRITE in an unlocked STAGED alone. -/
theorem regWritable_setting {s : State} (h : s.sys.mode ≠ .staged ∨ s.dblt.locked = true) {off : Nat} (ho : (dbltDflt off).isSome) :
    s.regWritable (0x330000 + off) = false := by
  unfold State.regWritable
  rw [bar0Block_dblt (dbltDflt_lt ho)]
  have e : 0x330000 + off - 0x330000 = off := by omega
  dsimp only
  rw [e, if_pos (by simp [ho] : (decide (23 = 23) && (dbltDflt off).isSome) = true)]
  split_ifs
  · rfl
  · simpa using fun hm => h.resolve_left (not_not.2 hm)

theorem regWriteRun_denied {i : CmdIn} {u : State} (hz : zeroAt i.body 6 2 = true) (ha : rd32 i.body 0 % 4 = 0) (h1 : 1 ≤ rd16 i.body 4)
    (h64 : rd16 i.body 4 ≤ 64) {k off : Nat} (hk : k < rd16 i.body 4) (hoff : rd32 i.body 0 + 4 * k = 0x330000 + off)
    (ho : (dbltDflt off).isSome)
    (hm : u.sys.mode ≠ .staged ∨ u.dblt.locked = true ∧
      ∀ k, k < rd16 i.body 4 → badSetting (rd32 i.body 0 + 4 * k) (rd32 i.body (8 + 4 * k)) = false) :
    regWriteRun i u = .refuse .denied [] := by
  have hform : ¬ ((!zeroAt i.body 6 2 || rd32 i.body 0 % 4 != 0 || decide (rd16 i.body 4 = 0) || decide (64 < rd16 i.body 4)) = true) := by
    simp [hz, ha]; omega
  have hvals : ¬ ((u.sys.mode == .staged && (List.range (rd16 i.body 4)).any fun k =>
      badSetting (rd32 i.body 0 + 4 * k) (rd32 i.body (8 + 4 * k))) = true) := by
    rcases hm with hm | ⟨-, hgood⟩
    · simp [hm]
    · simpa using fun _ => hgood
  have hdenied : ((List.range (rd16 i.body 4)).any fun k => !u.regWritable (rd32 i.body 0 + 4 * k)) = true :=
    List.any_eq_true.2 ⟨k, List.mem_range.2 hk, by simp [hoff, regWritable_setting (hm.imp_right And.left) ho]⟩
  unfold regWriteRun
  dsimp only
  rw [if_neg hform, if_neg hvals, if_pos hdenied]
  rfl

/-- Settles O60: the register writes by the lock and the mode, the two commands by their own rules, the start and the lock's end by what
every command guards. -/
theorem hostWritesSettingsOnlyInStaged : Obligations.HostWritesSettingsOnlyInStaged := by
  refine ⟨?pcie, ?dbltWrite, ?regWrite, ?start, ?unlock⟩
  case pcie =>
    intro t a v be s u h hu
    have hw (x b : Nat) : ((s.at t).pcieWrite x v b).dblt.settings = s.dblt.settings := State.pcieWrite_settings h ..
    rcases hu with hu | hu
    · cases hu; exact hw ..
    · have e : u = if (dbltDflt a).isSome then hostRegWrite t (0x330000 + a) v s else s := by cases hu; rfl
      rw [e]
      split_ifs
      · exact hw ..
      · rfl
  case dbltWrite => exact refuses_of_run (fun _ _ => rfl) fun _ _ => dbltWriteRun_badMode
  case regWrite =>
    refine refuses_of_run (fun _ _ => rfl) fun i u h => ?_
    obtain ⟨hz, ha, h1, h64, ⟨k, off, hk, hoff, ho⟩, hm⟩ := h
    exact regWriteRun_denied hz ha h1 h64 hk hoff ho hm
  case start =>
    intro s u h hs hu
    obtain ⟨-, -, -, -, hlock | hmode⟩ := execStartBoundary_kept s u h
    · exact hlock
    · exact absurd (hmode hu) (by simp [hs])
  case unlock =>
    intro c s t hl h hopen
    rcases lockedSettingsStayUntilReset c s t hl h with ⟨hlock, -⟩ | ⟨hc, -⟩
    · exact absurd hlock (by simp [hopen])
    · exact hc

end Sys2Proof.Machine
end

section
/-! SUPPORT. The read-out of one block stays under the ceiling (R42, R295, R299, R302): each feed's block is written once, after the
ceiling, and what follows the ceiling brings a sample nearer to zero. -/

set_option Elab.async false

namespace Sys2Proof.Machine

/-! What the read-out calls leaves the deadbolt as it is, or its settings and feeds. -/

@[simp] theorem State.decideYield_dblt (s : State) (reason : Nat) : (s.decideYield reason).dblt = s.dblt := by
  unfold State.decideYield; split_ifs <;> rfl

@[simp] theorem State.selfFault_dblt (s : State) : s.selfFault.dblt = s.dblt := by
  unfold State.selfFault; dsimp only; split_ifs <;> simp

@[simp] theorem State.underrun_dblt (s : State) (f : Nat) : (s.underrun f).dblt = s.dblt := by
  unfold State.underrun; simp

@[simp] theorem State.snapFeeds_dblt (s : State) : s.snapFeeds.dblt = s.dblt := by
  unfold State.snapFeeds; split
  · split_ifs <;> rfl
  · rfl

@[simp] theorem State.dacOut_dblt (s : State) (n : Nat) : (s.dacOut n).dblt = s.dblt := by
  unfold State.dacOut
  split_ifs
  · rfl
  · exact foldl_dblt (f := fun w c => w.emit (.dac c (w.dacBlock c n))) (fun _ _ => rfl) (List.range 16) s

theorem State.probeActs_feeds (s : State) (f n : Nat) :
    (s.probeActs f n).dblt.settings = s.dblt.settings ∧ (s.probeActs f n).dblt.feeds = s.dblt.feeds := by
  unfold State.probeActs
  split_ifs
  · exact ⟨rfl, rfl⟩
  · dsimp only; split <;> exact ⟨rfl, rfl⟩

/-! A fade brings a sample nearer to zero. -/

theorem State.fadeOne_natAbs (s : State) (x : Int) : (s.fadeOne x).1.natAbs ≤ x.natAbs := by
  have h : min 0 x ≤ (s.fadeOne x).1 ∧ (s.fadeOne x).1 ≤ max 0 x := State.freeRange_bounds s _ _ (by omega)
  omega

/-- A faded block leaves the deadbolt, and stays within every bound of the samples that it fades. -/
theorem State.fadeAll_within (s : State) {c : Nat} {xs : List Int} (hx : ∀ x ∈ xs, x.natAbs ≤ c) :
    (s.fadeAll xs).2.dblt = s.dblt ∧ ∀ y ∈ (s.fadeAll xs).1, y.natAbs ≤ c := by
  unfold State.fadeAll
  refine List.foldlRecOn xs _ (motive := fun acc : List Int × State => acc.2.dblt = s.dblt ∧ ∀ y ∈ acc.1, y.natAbs ≤ c)
    ⟨rfl, by simp⟩ ?_
  rintro ⟨ys, w⟩ ⟨hw, hys⟩ x hmem
  refine ⟨hw, fun y hy => ?_⟩
  rcases List.mem_append.1 hy with hy | hy
  · exact hys y hy
  · rw [List.mem_singleton.1 hy]
    exact (w.fadeOne_natAbs x).trans (hx x hmem)

theorem State.fadeAll_dblt (s : State) (xs : List Int) : (s.fadeAll xs).2.dblt = s.dblt := by
  unfold State.fadeAll
  exact List.foldlRecOn xs _ (motive := fun acc : List Int × State => acc.2.dblt = s.dblt) rfl fun _ hw _ _ => hw

theorem State.ceilFeed_within (s : State) (f : Nat) (xs : List Int) :
    ∀ y ∈ (s.ceilFeed f xs).1, y.natAbs ≤ s.dbltGet (0x1000 + 4 * f) := by
  intro y hy
  obtain ⟨x, -, rfl⟩ := List.mem_map.1 (show y ∈ xs.map (clampI _ _) from hy)
  have := clampI_bounds (s.dbltGet (0x1000 + 4 * f)) x
  omega

/-! The running state of the feeds. -/

/-- The table of the deadbolt's feeds is in canonical form. -/
def State.FeedsWf (s : State) : Prop := tabWf (fun _ => DbFeed.reset) s.dblt.feeds = true

theorem State.dbltGet_congr {s t : State} (h : t.dblt.settings = s.dblt.settings) (off : Nat) : t.dbltGet off = s.dbltGet off := by
  unfold State.dbltGet; rw [h]

/-- `t` differs from `s`, as far as the deadbolt's settings and feeds go, in the running state of feed `f` alone. -/
structure OnFeed (f : Nat) (s t : State) : Prop where
  settings : t.dblt.settings = s.dblt.settings
  wf : s.FeedsWf → t.FeedsWf
  others : s.FeedsWf → ∀ g, g ≠ f → t.dbFeed g = s.dbFeed g

/-- Every sample of the feed's last block lies within ±`c`. -/
def State.OutWithin (s : State) (f c : Nat) : Prop := ∀ y ∈ (s.dbFeed f).out, y.natAbs ≤ c

theorem OnFeed.refl (f : Nat) (s : State) : OnFeed f s s := ⟨rfl, id, fun _ _ _ => rfl⟩

theorem OnFeed.trans {f : Nat} {s t u : State} (h : OnFeed f s t) (k : OnFeed f t u) : OnFeed f s u :=
  ⟨k.settings.trans h.settings, k.wf ∘ h.wf, fun hs g hg => (k.others (h.wf hs) g hg).trans (h.others hs g hg)⟩

theorem State.dbFeed_setDbFeed {s : State} (h : s.FeedsWf) (f g : Nat) (c : DbFeed) :
    (s.setDbFeed f c).dbFeed g = if g = f then c else s.dbFeed g := tabGet_tabSet' h f c g

theorem OnFeed.setDbFeed (s : State) (f : Nat) (c : DbFeed) : OnFeed f s (s.setDbFeed f c) where
  settings := rfl
  wf h := tabSet_wf (d := fun _ => DbFeed.reset) f c h
  others h g hg := by rw [State.dbFeed_setDbFeed h, if_neg hg]

/-- A state with the same settings and feeds. -/
theorem OnFeed.same {s t : State} (f : Nat) (hs : t.dblt.settings = s.dblt.settings) (hf : t.dblt.feeds = s.dblt.feeds) : OnFeed f s t where
  settings := hs
  wf h := by unfold State.FeedsWf; rw [hf]; exact h
  others _ g _ := by unfold State.dbFeed; rw [hf]

/-- A write of feed `f` in a state with the settings and feeds of `s`: its block is the one written. -/
theorem OnFeed.written {s u : State} {f k : Nat} {c : DbFeed} (hs : u.dblt.settings = s.dblt.settings) (hf : u.dblt.feeds = s.dblt.feeds)
    (hc : ∀ y ∈ c.out, y.natAbs ≤ k) : OnFeed f s (u.setDbFeed f c) ∧ (s.FeedsWf → (u.setDbFeed f c).OutWithin f k) := by
  have hsame := OnFeed.same f hs hf
  refine ⟨hsame.trans (.setDbFeed u f c), fun h => ?_⟩
  unfold State.OutWithin
  rw [State.dbFeed_setDbFeed (hsame.wf h), if_pos rfl]
  exact hc

/-! One feed. -/

/-- A block that stands in the cushion: the ceiling is the last stage, and an underrun's fade in comes after it. -/
theorem State.passFeed_within (s : State) (f : Nat) (b : CushBlk) :
    OnFeed f s (s.passFeed f b) ∧ (s.FeedsWf → (s.passFeed f b).OutWithin f (s.dbltGet (0x1000 + 4 * f))) := by
  unfold State.passFeed
  dsimp only
  generalize hu : (if (guardBlock _ _ _ _ _).2 then _ else _ : State) = u
  generalize (guardBlock _ _ _ _ _).1 = y
  have hsame : u.dblt.settings = s.dblt.settings ∧ u.dblt.feeds = s.dblt.feeds := by
    rw [← hu]
    split_ifs <;> exact State.probeActs_feeds ..
  obtain ⟨hset, hfeeds⟩ := hsame
  obtain ⟨-, hcset, -, hcfeeds⟩ := State.ceilFeed_frame u f y
  have hceil : ∀ z ∈ (u.ceilFeed f y).1, z.natAbs ≤ s.dbltGet (0x1000 + 4 * f) :=
    State.dbltGet_congr hset _ ▸ u.ceilFeed_within f y
  split_ifs
  · obtain ⟨hfade, hout⟩ := State.fadeAll_within (u.ceilFeed f y).2 hceil
    exact OnFeed.written (by rw [hfade, hcset, hset]) (by rw [hfade, hcfeeds, hfeeds]) hout
  · exact OnFeed.written (by rw [hcset, hset]) (by rw [hcfeeds, hfeeds]) hceil

theorem natAbs_le_of_mem_zeros {n k : Nat} : ∀ y ∈ List.replicate n (0 : Int), y.natAbs ≤ k := by
  intro y hy
  simp [List.eq_of_mem_replicate hy]

/-- A block that the cushion does not hold: zeros, or a fade that passes the ceiling. -/
theorem State.missFeed_within (s : State) (f : Nat) :
    OnFeed f s (s.missFeed f) ∧ (s.FeedsWf → (s.missFeed f).OutWithin f (s.dbltGet (0x1000 + 4 * f))) := by
  unfold State.missFeed
  dsimp only
  split_ifs
  · exact OnFeed.written rfl rfl natAbs_le_of_mem_zeros
  · generalize hfade : State.fadeAll _ _ = r
    have hr : r.2.dblt = s.dblt := by rw [← hfade, State.fadeAll_dblt, State.underrun_dblt]
    obtain ⟨-, hcset, -, hcfeeds⟩ := State.ceilFeed_frame r.2 f r.1
    refine OnFeed.written (by rw [hcset, hr]) (by rw [hcfeeds, hr]) ?_
    exact State.dbltGet_congr (congrArg DbltSt.settings hr) _ ▸ r.2.ceilFeed_within f r.1

/-- The deadbolt's part of the read-out of a feed's block: all but the record of the samples sent. -/
def State.readOut (s : State) (f n : Nat) : State :=
  let u := match s.cushionBlock f n with
    | none => s.missFeed f
    | some b => if (s.dbFeed f).held then s else s.passFeed f b
  if (s.dbFeed f).held then
    u.setDbFeed f { u.dbFeed f with under := (u.dbFeed f).under && (u.cushionBlock f n).isNone, last := 0, out := List.replicate 16 0 }
  else u

theorem State.readFeed_dblt (s : State) (f n : Nat) : (s.readFeed f n).dblt = (s.readOut f n).dblt := by
  unfold State.readFeed State.readOut
  cases s.cushionBlock f n with
  | none => rfl
  | some b => rfl

theorem State.readOut_within (s : State) (f n : Nat) :
    OnFeed f s (s.readOut f n) ∧ (s.FeedsWf → (s.readOut f n).OutWithin f (s.dbltGet (0x1000 + 4 * f))) := by
  unfold State.readOut
  cases hheld : (s.dbFeed f).held with
  | true =>
    simp only [if_true]
    generalize hu : (match s.cushionBlock f n with | none => s.missFeed f | some _ => s) = u
    have hon : OnFeed f s u := by
      rw [← hu]
      split
      · exact (s.missFeed_within f).1
      · exact .refl f s
    obtain ⟨hw, hout⟩ := OnFeed.written (s := u) (u := u) (f := f) (k := s.dbltGet (0x1000 + 4 * f))
      (c := { u.dbFeed f with under := (u.dbFeed f).under && (u.cushionBlock f n).isNone, last := 0, out := List.replicate 16 0 })
      rfl rfl natAbs_le_of_mem_zeros
    exact ⟨hon.trans hw, hout ∘ hon.wf⟩
  | false =>
    simp only [Bool.false_eq_true, if_false]
    split
    · exact s.missFeed_within f
    · exact s.passFeed_within f _

/-- The block of a feed, and no other feed's, is read out, within the ceiling of the feed. -/
theorem State.readFeed_within (s : State) (f n : Nat) :
    OnFeed f s (s.readFeed f n) ∧ (s.FeedsWf → (s.readFeed f n).OutWithin f (s.dbltGet (0x1000 + 4 * f))) := by
  have hd := s.readFeed_dblt f n
  obtain ⟨hon, hout⟩ := s.readOut_within f n
  refine ⟨hon.trans (.same f (by rw [hd]) (by rw [hd])), fun h => ?_⟩
  unfold State.OutWithin State.dbFeed
  rw [hd]
  exact hout h

/-! Every feed. -/

/-- The settings stay, and so does the canonical form of the feeds' table. -/
def FeedsKept (s t : State) : Prop := t.dblt.settings = s.dblt.settings ∧ (s.FeedsWf → t.FeedsWf)

theorem FeedsKept.trans {s t u : State} (h : FeedsKept s t) (k : FeedsKept t u) : FeedsKept s u :=
  ⟨k.1.trans h.1, k.2 ∘ h.2⟩

theorem OnFeed.feedsKept {f : Nat} {s t : State} (h : OnFeed f s t) : FeedsKept s t := ⟨h.settings, h.wf⟩

theorem State.dcJudge_feedsKept (s : State) : FeedsKept s s.dcJudge := by
  unfold State.dcJudge
  dsimp only
  split
  · exact ⟨rfl, id⟩
  · refine List.foldlRecOn _ _ (motive := FeedsKept s) ⟨rfl, id⟩ fun w hw f _ => hw.trans ?_
    generalize DbFeed.dcEnd _ _ _ = r
    split_ifs
    · exact (OnFeed.setDbFeed w f _).feedsKept.trans ⟨rfl, id⟩
    · exact (OnFeed.setDbFeed w f _).feedsKept

/-- Feeds read out one after the other: the block of each lies within its ceiling. -/
theorem readFeeds_within (n : Nat) (l : List Nat) (s : State) (hs : s.FeedsWf) :
    (l.foldl (fun w f => w.readFeed f n) s).dblt.settings = s.dblt.settings ∧
    ∀ f, (f ∈ l ∨ s.OutWithin f (s.dbltGet (0x1000 + 4 * f))) →
      (l.foldl (fun w f => w.readFeed f n) s).OutWithin f (s.dbltGet (0x1000 + 4 * f)) := by
  induction l generalizing s with
  | nil => exact ⟨rfl, fun f h => h.resolve_left List.not_mem_nil⟩
  | cons k l ih =>
    obtain ⟨hon, hk⟩ := s.readFeed_within k n
    obtain ⟨hset, hall⟩ := ih (s.readFeed k n) (hon.wf hs)
    refine ⟨hset.trans hon.settings, fun f hf => ?_⟩
    rw [List.foldl_cons, ← State.dbltGet_congr hon.settings]
    refine hall f ?_
    rw [State.dbltGet_congr hon.settings]
    by_cases hfk : f = k
    · exact .inr (hfk ▸ hk hs)
    · refine hf.imp (fun hm => (List.mem_cons.1 hm).resolve_left hfk) fun ho => ?_
      unfold State.OutWithin
      rw [hon.others hs f hfk]
      exact ho

theorem State.snapFeeds_rate (s : State) : s.snapFeeds.rnd.rate96 = s.rnd.rate96 := by
  unfold State.snapFeeds
  split
  · split_ifs <;> rfl
  · rfl

theorem State.dcJudge_rate (s : State) : s.dcJudge.rnd.rate96 = s.rnd.rate96 := by
  unfold State.dcJudge
  dsimp only
  split
  · rfl
  · refine List.foldlRecOn _ _ (motive := fun w : State => w.rnd.rate96 = s.rnd.rate96) rfl fun w hw f _ => ?_
    split_ifs <;> exact hw

theorem State.snapFeeds_feedsKept (s : State) : FeedsKept s s.snapFeeds := by
  unfold FeedsKept State.FeedsWf
  rw [State.snapFeeds_dblt]
  exact ⟨rfl, id⟩

/-- What a read-out leaves of the deadbolt: the feeds read out one after the other, in the state whose windows are judged. -/
theorem State.readBlock_dblt {s w : State} (hw : s.dcJudge.snapFeeds = w) :
    s.readBlock.dblt = ((List.range (feedCount w.rnd.rate96)).foldl (fun u f => u.readFeed f w.rnd.nextOut) w).dblt := by
  subst hw
  exact State.dacOut_dblt ..

/-- After a read-out the block of every feed of the rate in force lies within its ceiling, and the settings are unchanged. -/
theorem State.readBlock_within {s : State} (h : s.FeedsWf) : s.readBlock.dblt.settings = s.dblt.settings ∧
    ∀ f, f < feedCount s.rnd.rate96 → s.readBlock.OutWithin f (s.readBlock.dbltGet (0x1000 + 4 * f)) := by
  obtain ⟨hkept, hwf⟩ := s.dcJudge_feedsKept.trans s.dcJudge.snapFeeds_feedsKept
  have hrate : s.dcJudge.snapFeeds.rnd.rate96 = s.rnd.rate96 := by rw [State.snapFeeds_rate, State.dcJudge_rate]
  generalize hw : s.dcJudge.snapFeeds = w at hkept hwf hrate
  obtain ⟨hset, hall⟩ := readFeeds_within w.rnd.nextOut (List.range (feedCount w.rnd.rate96)) w (hwf h)
  have hdblt := State.readBlock_dblt hw
  have hblock : s.readBlock.dblt.settings = w.dblt.settings := by rw [hdblt, hset]
  refine ⟨hblock.trans hkept, fun f hf => ?_⟩
  rw [State.dbltGet_congr hblock]
  unfold State.OutWithin State.dbFeed
  rw [hdblt]
  exact hall f (.inl (List.mem_range.2 (hrate ▸ hf)))

theorem execEgressReadout_due {t : Nat} {s : State} (hm : (s.at t).sys.mode ≠ .yielded) (ht : (s.at t).ticking = true)
    (hd : (s.at t).readoutDue = true) : execEgressReadout t s = .next (s.at t).readBlock := by
  unfold execEgressReadout
  dsimp only
  rw [if_neg hm, ht, hd]
  rfl

/-- Settles O57: the windows' judgement and the monitor channels leave the settings, and each feed's block is written within its
ceiling. -/
theorem readoutStaysUnderTheCeiling : Obligations.ReadoutStaysUnderTheCeiling := by
  intro t s u hwf hu hmode htick hdue
  obtain rfl : (s.at t).readBlock = u := Host.Outcome.next.inj ((execEgressReadout_due hmode htick hdue).symm.trans hu)
  exact State.readBlock_within (s := s.at t) hwf

end Sys2Proof.Machine
end

section
/-! SUPPORT. The commands that set the module up, load its image, start it and pause it (R44 to R48, R294, R375 to R381): each of
them is what its own rules answer. -/

set_option Elab.async false

namespace Sys2Proof.Machine

/-! From a command's own rules to its statement. -/

/-- A command whose own rules execute it at once. -/
theorem completes_of_run {c : Cmd} {mk : Hdr → Bytes → Instr} {pre : CmdIn → State → Prop} {eff : CmdIn → State → State × Bytes}
    (hk : ∀ h p, keywayRow (mk h p) = some (c, h, p))
    (hr : ∀ i u, pre i u → c.run i u = .done (eff i u).1 (eff i u).2 (u.tick + 1)) : Completes c mk pre eff := by
  intro h p s ha hp
  rw [exec_keyway (hk h p)]
  exact keyway_done c h p s _ _ _ ha (hr _ _ hp)

/-- A command whose own rules execute it at once, without a payload and within its tick. -/
theorem completes_of_ok {c : Cmd} {mk : Hdr → Bytes → Instr} {pre : CmdIn → State → Prop} {eff : CmdIn → State → State}
    (hk : ∀ h p, keywayRow (mk h p) = some (c, h, p)) (ht : ∀ i u, (eff i u).tick = u.tick)
    (hr : ∀ i u, pre i u → c.run i u = .ok (eff i u)) : Completes c mk pre fun i u => (eff i u, []) :=
  completes_of_run hk fun i u hp => by rw [hr i u hp, Verdict.ok, ht]

/-- A command whose own rules accept it for a boundary. -/
theorem defers_of_run {c : Cmd} {mk : Hdr → Bytes → Instr} {pre : CmdIn → State → Nat → Prop} {eff : CmdIn → State → Nat → State}
    (hk : ∀ h p, keywayRow (mk h p) = some (c, h, p))
    (hr : ∀ i u n, pre i u n → c.run i u = .defer (eff i u n) n) : Defers c mk pre eff := by
  intro h p s n ha hp hdue
  rw [exec_keyway (hk h p)]
  exact keyway_defer c h p s _ _ ha (hr _ _ _ hp) hdue

/-- A command that is not mirrored in, and that its own rules refuse. -/
theorem refuses_of_ownRun {c : Cmd} {mk : Hdr → Bytes → Instr} {pre : CmdIn → State → Prop} {st : Status}
    (hk : ∀ h p, keywayRow (mk h p) = some (c, h, p)) (hr : ∀ i u, i.mirror = none → pre i u → c.run i u = .refuse st []) :
    Refuses c mk pre st := by
  intro h p s ha hp
  rw [exec_keyway (hk h p)]
  exact keyway_refuse c h p s st [] ha (hr _ _ rfl hp)

/-! RENDER_CONFIG. -/

theorem renderConfigRun_ok {i : CmdIn} {u : State} (hm : u.sys.mode = .staged) (hr : rd8 i.body 0 ≤ 1) (hz : zeroAt i.body 1 3 = true) :
    renderConfigRun i u = .ok (if (rd8 i.body 0 == 1) = u.rnd.rate96 then u
      else { u.rateReset with rnd := { u.rnd with rate96 := rd8 i.body 0 == 1 } }) := by
  unfold renderConfigRun
  rw [if_neg (by simp [hm]), if_neg (by simp [hz]; omega)]
  dsimp only
  by_cases h : (rd8 i.body 0 == 1) = u.rnd.rate96
  · rw [if_pos h, if_pos (beq_iff_eq.2 h)]
  · rw [if_neg h, if_neg (by simpa using h)]
    rfl

/-! DBLT_WRITE and DBLT_READ. -/

theorem dbltRange_any {p : Bytes} {q : Nat → Bool} (h : ∀ k < rd16 p 4 / 4, q (rd32 p 0 + 4 * k) = false) :
    (dbltRange p).any q = false := by
  simpa [dbltRange] using h

/-- The offsets of a write stand beside their values. -/
theorem dbltRange_zip (p : Bytes) :
    (dbltRange p).zip ((List.range (dbltRange p).length).map fun k => rd32 p (8 + 4 * k)) =
      (List.range (rd16 p 4 / 4)).map fun k => (rd32 p 0 + 4 * k, rd32 p (8 + 4 * k)) := by
  simp only [dbltRange, List.length_map, List.length_range]
  exact List.zip_map'

theorem dbltWriteRun_ok {i : CmdIn} {u : State} (hm : u.sys.mode = .staged) (hl : u.dblt.locked = false) (hf : dbltForm i.body = true)
    (hs : ∀ k < rd16 i.body 4 / 4, (dbltDflt (rd32 i.body 0 + 4 * k)).isSome = true ∧
      dbltInRange (rd32 i.body 0 + 4 * k) (rd32 i.body (8 + 4 * k)) = true) :
    dbltWriteRun i u = .ok ((List.range (rd16 i.body 4 / 4)).foldl
      (fun v k => v.dbltSet (rd32 i.body 0 + 4 * k) (rd32 i.body (8 + 4 * k))) u) := by
  have hsetting : (dbltRange i.body).any (fun o => (dbltDflt o).isNone) = false :=
    dbltRange_any fun k hk => by simpa [Option.isSome_iff_ne_none] using (hs k hk).1
  have hrange : ((List.range (rd16 i.body 4 / 4)).map fun k => (rd32 i.body 0 + 4 * k, rd32 i.body (8 + 4 * k))).any
      (fun e => !dbltInRange e.1 e.2) = false := by
    simpa using fun k hk => (hs k hk).2
  unfold dbltWriteRun
  rw [if_neg (by simp [hm, hl]), if_neg (by simp [hf])]
  dsimp only
  rw [if_neg (by simp [hsetting]), dbltRange_zip, if_neg (by simp [hrange]), List.foldl_map]

theorem dbltReadRun_done {i : CmdIn} {u : State} (hf : dbltForm i.body = true)
    (hv : ∀ k < rd16 i.body 4 / 4, (dbltView u (rd32 i.body 0 + 4 * k)).isSome = true)
    (hc : u.bar0Code (0x330000 + rd32 i.body 0) = some 0 ∨ u.bar0Code (0x330000 + rd32 i.body 0) = none) :
    dbltReadRun i u = .done u
      (((List.range (rd16 i.body 4 / 4)).map fun k => leB 4 ((dbltView u (rd32 i.body 0 + 4 * k)).getD 0)).flatten) (u.tick + 1) := by
  have hany : (dbltRange i.body).any (fun o => (dbltView u o).isNone) = false :=
    dbltRange_any fun k hk => by simpa [Option.isSome_iff_ne_none] using hv k hk
  have hmap : (dbltRange i.body).map (fun o => leB 4 ((dbltView u o).getD 0)) =
      (List.range (rd16 i.body 4 / 4)).map fun k => leB 4 ((dbltView u (rd32 i.body 0 + 4 * k)).getD 0) := List.map_map ..
  unfold dbltReadRun
  rw [if_neg (by simp [hf])]
  dsimp only
  rw [if_neg (by simp [hany]), hmap]
  rcases hc with hc | hc
  · rw [hc]; rfl
  · rw [hc]

/-! The download. -/

theorem imgBeginRun_ok {i : CmdIn} {u : State} (hm : u.sys.mode = .awaitImage) (hz : zeroAt i.body 4 4 = true)
    (hlo : 0xA2764 ≤ rd32 i.body 0) (hhi : rd32 i.body 0 ≤ 0x2000000) (hlate : u.boot.late = false) (hd : u.dramOk = true) :
    imgBeginRun i u = .ok { u with boot := { u.boot with
      state := .receiving, result := 0, offset := 0, received := 0, size := rd32 i.body 0, badLine := none } } := by
  unfold imgBeginRun
  dsimp only
  rw [if_neg (by simp [hm]), if_neg (by simp [hz]; omega), if_neg (by simp [hlate]), if_neg (by simp [hd])]

theorem imgDataRun_ok {i : CmdIn} {u : State} (hm : u.sys.mode = .awaitImage) (hs : u.boot.state = .receiving)
    (hz : zeroAt i.body 6 2 = true) (hlo : 1 ≤ rd16 i.body 4) (hhi : rd16 i.body 4 ≤ 1424)
    (hsize : rd32 i.body 0 + rd16 i.body 4 ≤ u.boot.size) (hlate : u.boot.late = false) (hd : u.dramOk = true) :
    imgDataRun i u = .ok { u with boot := { u.boot with
      staging := memFill u.boot.staging (rd32 i.body 0) (slice i.body 8 (rd16 i.body 4))
      received := (u.boot.received + rd16 i.body 4) % 2 ^ 32
      badLine := u.boot.badLine.filter fun l => !(decide (rd32 i.body 0 ≤ l) && decide (l + 64 ≤ rd32 i.body 0 + rd16 i.body 4)) } } := by
  unfold imgDataRun
  dsimp only
  rw [if_neg (by simp [hm]), if_neg (by simp [hd]), if_neg (by simp [BootSt.idle, hs]), if_neg (by simp [hz]; omega),
    if_neg (by simp [hlate])]

theorem imgEndRun_ok {i : CmdIn} {u : State} (hm : u.sys.mode = .awaitImage) (hs : u.boot.state = .receiving)
    (hb : u.boot.badLine = none) (hd : u.dramOk = true) :
    imgEndRun i u = .ok { u with boot := { u.boot with state := .verifying } } := by
  unfold imgEndRun
  rw [if_neg (by simp [hm]), if_neg (by simp [hd]), if_neg (by simp [BootSt.idle, hs]), if_neg (by simp [hb]),
    if_neg (by simp [BootSt.late, hs, BootState.num])]

/-! STAGE_COMMIT and STAGE_RETURN. -/

theorem stageCommitRun_ok {i : CmdIn} {u : State} (hm : u.sys.mode = .staged)
    (he : rd32 i.body 0 = 0 ∨ rd32 i.body 0 = u.dblt.digest.toNat) (hc : u.cannotRender = false) :
    stageCommitRun i u = .ok (State.enterLocking { u with
      twn := { u.twn with digest := u.twnDigest, stateDigest := u.twnStateDigest, frozen := true }
      pwr := { u.pwr with fromPaused := false } }) := by
  unfold stageCommitRun
  dsimp only
  rw [if_neg (by simp [hm]), if_neg (by simpa [or_iff_not_imp_left] using he), if_neg (by simp [hc])]

theorem stageReturnRun_ok {i : CmdIn} {u : State} (hm : u.sys.mode = .locking) :
    stageReturnRun i u = .ok (State.setMode { u with
      ptm := u.ptm.acquire, twn := { u.twn with ready := false, frozen := false }, rnd := { u.rnd with startAt := none } } .staged) := by
  unfold stageReturnRun
  rw [if_neg (by simp [hm])]

/-! None of them moves the tick. -/

theorem foldl_dbltSet_tick (l : List Nat) (a v : Nat → Nat) (u : State) : (l.foldl (fun w k => w.dbltSet (a k) (v k)) u).tick = u.tick :=
  List.foldlRecOn l _ (motive := fun w : State => w.tick = u.tick) rfl fun _ hw _ _ => hw

theorem State.enterLocking_tick (u : State) : u.enterLocking.tick = u.tick := by
  unfold State.enterLocking
  simp

/-- Settles O2: each command by what its own rules answer where the spec admits it. -/
theorem setupCommandsComplete : Obligations.SetupCommandsComplete := by
  refine ⟨?renderConfig, ?dbltWrite, ?dbltRead, ?imgBegin, ?imgData, ?imgEnd, ?imgStatus, ?stageCommit, ?stageReturn⟩
  case renderConfig =>
    exact completes_of_ok (fun _ _ => rfl) (fun _ _ => by split_ifs <;> rfl) fun i u ⟨hm, hr, hz⟩ => renderConfigRun_ok hm hr hz
  case dbltWrite =>
    exact completes_of_ok (fun _ _ => rfl) (fun _ _ => foldl_dbltSet_tick ..) fun i u ⟨hm, hl, hf, hs⟩ => dbltWriteRun_ok hm hl hf hs
  case dbltRead => exact completes_of_run (fun _ _ => rfl) fun i u ⟨hf, hv, hc⟩ => dbltReadRun_done hf hv hc
  case imgBegin =>
    exact completes_of_ok (fun _ _ => rfl) (fun _ _ => rfl) fun i u ⟨hm, hz, hlo, hhi, hlate, hd⟩ =>
      imgBeginRun_ok hm hz hlo hhi hlate hd
  case imgData =>
    exact completes_of_ok (fun _ _ => rfl) (fun _ _ => rfl) fun i u ⟨hm, hs, hz, hlo, hhi, hsize, hlate, hd⟩ =>
      imgDataRun_ok hm hs hz hlo hhi hsize hlate hd
  case imgEnd =>
    exact completes_of_ok (fun _ _ => rfl) (fun _ _ => rfl) fun i u ⟨hm, hs, hb, hd⟩ =>
      imgEndRun_ok (i := i) hm hs hb hd
  case imgStatus => exact completes_of_run (fun _ _ => rfl) fun _ _ _ => rfl
  case stageCommit =>
    exact completes_of_ok (fun _ _ => rfl) (fun _ _ => State.enterLocking_tick _) fun i u ⟨hm, he, hc⟩ => stageCommitRun_ok hm he hc
  case stageReturn => exact completes_of_ok (fun _ _ => rfl) (fun _ _ => by simp) fun i u hm => stageReturnRun_ok (i := i) hm

/-! PAUSE and RESUME. -/

/-- Where the request is accepted it waits for the boundary that its WHEN resolves to (R44, R46). -/
theorem pauseRun_defer {r : Bool} {i : CmdIn} {u : State} {n : Nat} (hp : u.pausable = true) (hb : u.boundary i u.firstNext = .ok n) :
    pauseRun r i u = .defer (u.setPause { resume := r, tick := n, ref := i.ref }) n := by
  unfold pauseRun
  rw [if_neg (by simp [hp]), hb]

theorem pauseRun_badMode {r : Bool} {i : CmdIn} {u : State} (hi : i.mirror = none) (hp : u.pausable = false) :
    pauseRun r i u = .refuse .badMode [] := by
  unfold pauseRun
  rw [if_pos (by simp [hi, hp])]
  rfl

theorem pauseRun_late {r : Bool} {i : CmdIn} {u : State} (hp : u.pausable = true) (hb : u.boundary i u.firstNext = .late) :
    pauseRun r i u = .refuse .late [] := by
  unfold pauseRun
  rw [if_neg (by simp [hp]), hb]
  rfl

/-- Settles O3: PAUSE and RESUME share their rules, by what their boundary is. -/
theorem pauseResumeAccepted : Obligations.PauseResumeAccepted := by
  refine ⟨?pause, ?pauseBadMode, ?pauseLate, ?resume, ?resumeBadMode, ?resumeLate⟩
  case pause => exact defers_of_run (fun _ _ => rfl) fun i u n ⟨hp, hb⟩ => pauseRun_defer hp hb
  case pauseBadMode => exact refuses_of_ownRun (fun _ _ => rfl) fun i u hi hp => pauseRun_badMode hi hp
  case pauseLate => exact refuses_of_ownRun (fun _ _ => rfl) fun i u _ ⟨hp, hb⟩ => pauseRun_late hp hb
  case resume => exact defers_of_run (fun _ _ => rfl) fun i u n ⟨hp, hb⟩ => pauseRun_defer hp hb
  case resumeBadMode => exact refuses_of_ownRun (fun _ _ => rfl) fun i u hi hp => pauseRun_badMode hi hp
  case resumeLate => exact refuses_of_ownRun (fun _ _ => rfl) fun i u _ ⟨hp, hb⟩ => pauseRun_late hp hb

end Sys2Proof.Machine
end

section
/-! SUPPORT. What a host register write does (R252, R255, R256, R502, R540, R541): the answer of the bar decides whether it acts, and
the class of its register what it changes. -/

set_option Elab.async false

namespace Sys2Proof.Machine

/-! The answers of the bar. -/

theorem State.wdiscard_eq (v : State) :
    v.wdiscard = { v with sys := { v.sys with wdiscardCnt := v.sys.wdiscardCnt + 1, evt := v.sys.evt ||| 2 } } := rfl

/-- A whole write that is answered OK is the write of its register, by class. -/
theorem State.pcieWrite_ok {v : State} {a x be b len d g blk : Nat} (hup : v.pcieUp = true) (hbe : be % 16 = 15)
    (hc : v.bar0Code a = some 0) (hb : bar0Block a = some (b, len, d, g, blk)) : v.pcieWrite a x be = v.writeReg blk (a - b) x := by
  unfold State.pcieWrite
  rw [hup, hbe, hc, hb]
  rfl

theorem State.pcieWrite_partial {v : State} {a x be : Nat} (hup : v.pcieUp = true) (hbe : be % 16 ≠ 15) :
    v.pcieWrite a x be = v.wdiscard := by
  unfold State.pcieWrite
  rw [hup, if_neg (by decide), if_pos (by simpa using hbe)]

theorem State.pcieWrite_error {v : State} {a x be c : Nat} (hup : v.pcieUp = true) (hbe : be % 16 = 15)
    (hc : v.bar0Code a = some c) (h0 : c ≠ 0) :
    v.pcieWrite a x be = v.fabErr { addr := a, hi := 0xB0, master := 12, id := 0, write := true, code := c, ts := v.ts32 } := by
  obtain ⟨c, rfl⟩ := Nat.exists_eq_succ_of_ne_zero h0
  unfold State.pcieWrite
  rw [hup, hbe, hc]
  cases bar0Block a <;> rfl

theorem State.pcieWrite_held {v : State} {a x be b len d g blk : Nat} (hup : v.pcieUp = true) (hbe : be % 16 = 15)
    (hc : v.bar0Code a = none) (hb : bar0Block a = some (b, len, d, g, blk)) :
    v.pcieWrite a x be =
      { v with clk := { v.clk with held := v.clk.held ++ [{ gate := g, addr := a, val := x, data := none }] } } := by
  unfold State.pcieWrite
  rw [hup, hbe, hc, hb]
  rfl

/-! The classes of registers. -/

theorem State.writeReg_notSetting {v : State} {blk off x : Nat} (h : blk = 23 → dbltDflt off = none) :
    v.writeReg blk off x = if hostReg blk off then hostWrite v blk off x else v.wdiscard := by
  unfold State.writeReg
  rw [if_neg]
  simpa using h

/-- `a` is a host-class register of block `blk`, which starts at `b`, and no setting of the deadbolt. -/
def isHostOf (a b blk : Nat) : Bool :=
  (bar0Block a).map (·.1) == some b && !(blk == 23 && (dbltDflt (a - b)).isSome) && hostReg blk (a - b)

/-- The write of a whole dword of a host-class register that answers. -/
theorem hostRegWrite_open {t a b blk x : Nat} {s v : State} (he : isHostOf a b blk = true) (hv : v = s.at t)
    (hw : v.writable a blk = true) : hostRegWrite t a x s = hostWrite v blk (a - b) x := by
  simp only [isHostOf, Bool.and_eq_true, beq_iff_eq, Bool.not_eq_true'] at he
  obtain ⟨⟨hbase, hsetting⟩, hhost⟩ := he
  subst hv
  rw [hostRegWrite, pcieWrite_writable _ _ _ _ _ hw hbase, State.writeReg_notSetting (by simpa using hsetting), if_pos hhost]

/-! The engines' registers (R252, R255). -/

/-- The slots that a value of TAP_KCTL enables (R255). -/
def kctlOn (x : Nat) : List Nat := (List.range 4).filter fun i => bit (x % 16) i

/-- The program slot of a number. -/
def TapSt.kslot (t : TapSt) (i : Nat) : KSlot := getD' t.kslots i { loaded := false, disabledOvr := false, budget := 0, overruns := 0 }

theorem State.writeKctl_eq (v : State) (x : Nat) :
    v.writeKctl x =
      if (kctlOn x).any (fun i => !(v.tap.kslot i).loaded) ||
          decide ((if v.rnd.rate96 then 4096 else 8192) < sumN ((kctlOn x).map fun i => (v.tap.kslot i).budget)) then
        { v with tap := { v.tap with refused := true } }
      else if v.ticking then { v with tap := { v.tap with enPend := some (x % 16), refused := v.tap.refused && !bit x 8 } }
      else { v with tap := { v.tap with en := x % 16, enPend := none, refused := v.tap.refused && !bit x 8 } } := rfl

theorem State.writeKctl_fits {v : State} {x : Nat} (hl : (kctlOn x).all (fun i => (v.tap.kslot i).loaded) = true)
    (hb : sumN ((kctlOn x).map fun i => (v.tap.kslot i).budget) ≤ (if v.rnd.rate96 then 4096 else 8192)) :
    v.writeKctl x =
      if v.ticking then { v with tap := { v.tap with enPend := some (x % 16), refused := v.tap.refused && !bit x 8 } }
      else { v with tap := { v.tap with en := x % 16, enPend := none, refused := v.tap.refused && !bit x 8 } } := by
  have hany : (kctlOn x).any (fun i => !(v.tap.kslot i).loaded) = false := by
    rw [List.any_eq_not_all_not]
    simpa using hl
  rw [State.writeKctl_eq, hany, if_neg (by simpa using hb)]

theorem State.writeKctl_unloaded {v : State} {x i : Nat} (hi : i < 4) (hx : bit (x % 16) i = true) (hl : (v.tap.kslot i).loaded = false) :
    v.writeKctl x = { v with tap := { v.tap with refused := true } } := by
  have hany : (kctlOn x).any (fun i => !(v.tap.kslot i).loaded) = true :=
    List.any_eq_true.2 ⟨i, List.mem_filter.2 ⟨List.mem_range.2 hi, hx⟩, by simp [hl]⟩
  rw [State.writeKctl_eq, hany, Bool.true_or, if_pos rfl]

theorem State.writeInj_eq (v : State) (k x : Nat) :
    v.writeInj k x = v.onEngine k fun e => { e with inj := BitVec.ofNat 32 (x % 2 ^ (if v.tap.testEn then 11 else 10)) } := by
  unfold State.writeInj
  cases v.tap.testEn
  · have h : x % 2 ^ 11 % 2 ^ 10 = x % 2 ^ 10 := Nat.mod_mod_of_dvd x (by decide)
    simp only [Bool.false_eq_true, if_false, h, wd]
  · rfl

theorem isHostOf_inj : ∀ k, k < 34 → isHostOf (0x20001C + 0x1000 * k) 0x200000 19 = true := by decide

theorem tapWrite_inj (v : State) (k x : Nat) (hk : k < 34) : tapWrite v (0x20001C + 0x1000 * k - 0x200000) x = v.writeInj k x := by
  have hdiv : (0x20001C + 0x1000 * k - 0x200000) / 0x1000 = k := by omega
  rw [tapWrite, if_neg (by omega), if_neg (by omega), if_neg (by omega), if_pos (by omega), hdiv]

theorem State.writeTestEn_staged {v : State} {x : Nat} (hx : bit x 0 = true) (hm : v.sys.mode = .staged) :
    v.writeTestEn x = { v with tap := { v.tap with testEn := true } } := by
  rw [State.writeTestEn, if_pos (by simp [hx, hm])]

theorem State.writeTestEn_notStaged {v : State} {x : Nat} (hm : v.sys.mode ≠ .staged) : v.writeTestEn x = v := by
  rw [State.writeTestEn, if_neg (by simp [hm])]

/-- Settles O15: a REGISTER_WRITE by the answer of the bar and the class of its register, and each other row by the effect of its
register. -/
theorem hostRegisterWritesAct : Obligations.HostRegisterWritesAct := by
  refine ⟨?host, ?notHost, ?partialWrite, ?error, ?held, ?scratch, ?rndMin, ?panMax, ?dispMax, ?tjMax, ?ddrMax, ?pwrMinmax, ?kctlIdle,
    ?kctlTicking, ?kctlUnloaded, ?inj, ?testEn, ?testEnLate⟩
  case host =>
    rintro t a x be b blk g d len s v rfl hup hbe hc hb hset hhost
    exact congrArg _ ((State.pcieWrite_ok hup hbe hc hb).trans ((State.writeReg_notSetting hset).trans (if_pos hhost)))
  case notHost =>
    rintro t a x be b blk g d len s v rfl hup hbe hc hb hset hhost
    exact congrArg _ ((State.pcieWrite_ok hup hbe hc hb).trans ((State.writeReg_notSetting hset).trans (if_neg (by simp [hhost]))))
  case partialWrite =>
    rintro t a x be s v rfl hup hbe
    exact congrArg _ (State.pcieWrite_partial hup hbe)
  case error =>
    rintro t a x be c s v rfl hup hbe hc h0
    exact congrArg _ (State.pcieWrite_error hup hbe hc h0)
  case held =>
    rintro t a x be b blk g d len s v rfl hup hbe hc hb
    exact congrArg _ (State.pcieWrite_held hup hbe hc hb)
  case scratch =>
    intro t x s v hv hw
    exact congrArg _ (hostRegWrite_open (b := 0) (by decide) hv hw)
  case rndMin =>
    intro t x s v hv hw hx
    exact congrArg _ ((hostRegWrite_open (b := 0x100000) (by decide) hv hw).trans (if_pos hx))
  case panMax =>
    intro t x s v hv hw hx
    exact congrArg _ ((hostRegWrite_open (b := 0x120000) (by decide) hv hw).trans (if_pos hx))
  case dispMax =>
    intro t x s v hv hw hx
    exact congrArg _ ((hostRegWrite_open (b := 0xA0000) (by decide) hv hw).trans (if_pos hx))
  case tjMax =>
    intro t x s v hv hw hx
    exact congrArg _ ((hostRegWrite_open (b := 0xB0000) (by decide) hv hw).trans (if_pos hx))
  case ddrMax =>
    intro t x s v hv hw hx
    exact congrArg _ ((hostRegWrite_open (b := 0x300000) (by decide) hv hw).trans (if_pos hx))
  case pwrMinmax =>
    intro t x s v hv hw hx
    exact congrArg _ ((hostRegWrite_open (b := 0x30000) (by decide) hv hw).trans (if_pos hx))
  case kctlIdle =>
    intro t x s v hv hw ht hl hb
    exact congrArg _ ((hostRegWrite_open (b := 0x200000) (by decide) hv hw).trans
      ((State.writeKctl_fits hl hb).trans (if_neg (by simp [ht]))))
  case kctlTicking =>
    intro t x s v hv hw ht hl hb
    exact congrArg _ ((hostRegWrite_open (b := 0x200000) (by decide) hv hw).trans ((State.writeKctl_fits hl hb).trans (if_pos ht)))
  case kctlUnloaded =>
    intro t x i s v hv hw hi hx hl
    exact congrArg _ ((hostRegWrite_open (b := 0x200000) (by decide) hv hw).trans (State.writeKctl_unloaded hi hx hl))
  case inj =>
    intro t k x s v hv hk hw
    show Host.Outcome.next (if k < 34 then hostRegWrite t (0x20001C + 0x1000 * k) x s else s) = _
    rw [if_pos hk, hostRegWrite_open (isHostOf_inj k hk) hv hw, hostWrite_tap, tapWrite_inj v k x hk, State.writeInj_eq]
  case testEn =>
    intro t x s v hv hw hx hm
    exact congrArg _ ((hostRegWrite_open (b := 0x200000) (by decide) hv hw).trans (State.writeTestEn_staged hx hm))
  case testEnLate =>
    intro t x s v hv hw hm
    exact congrArg _ ((hostRegWrite_open (b := 0x200000) (by decide) hv hw).trans (State.writeTestEn_notStaged hm))

end Sys2Proof.Machine
end

section
/-! SUPPORT. Slots and work dispatch (R30 to R38, R242 to R269): how a submission is answered, and what an event does to the unit that
an engine runs. -/

set_option Elab.async false

namespace Sys2Proof.Machine

/-! The render slot. -/

theorem execIngressDeadline_opens {t : Nat} {s : State} {x : OpenTick} (hx : (s.at t).openTick (s.at t).rnd.nextIn = some x)
    (ht : (s.at t).ticking = true) (hd : 16 * (s.at t).rnd.nextIn + 16 + (s.at t).rte.ingress ≤ (s.at t).sampleNow) :
    execIngressDeadline t s = .next ((s.at t).slotOpens x) := by
  unfold execIngressDeadline
  dsimp only
  rw [hx]
  exact congrArg _ (if_pos (by simpa [ht] using hd))

theorem execNominalDeadline_late {t : Nat} {s : State} {x : OpenTick} (hx : ((s.at t).rnd.open_.find? fun x => !x.late) = some x)
    (ht : (s.at t).ticking = true) (hd : (s.at t).deadline x.tick ≤ (s.at t).sampleNow) :
    execNominalDeadline t s = .next ((s.at t).tickLate x.tick) := by
  unfold execNominalDeadline
  dsimp only
  rw [hx]
  exact congrArg _ (if_pos (by simp [ht, hd]))

theorem execShedWiden_widens {t : Nat} {s : State} {x : OpenTick} (hx : ((s.at t).rnd.open_.find? fun x => x.late) = some x)
    (hl : (s.at t).schedLate = true) :
    execShedWiden t s = .next (let v := s.at t
      let g := max v.rnd.largest (v.lateness x.tick)
      State.setShed { v with rnd := { v.rnd with largest := g } } (max v.rnd.shed (shedMask g))) := by
  unfold execShedWiden
  dsimp only
  rw [hx]
  exact congrArg _ (if_neg (by simp [hl]))

/-! Submission (R258 to R261). -/

theorem State.occupancy_submitAt (v : State) (core c : Nat) : (v.submitAt core).occupancy c = v.occupancy c := by
  unfold State.submitAt State.occupancy
  dsimp only
  split_ifs <;> rfl

theorem State.submit_bad {v : State} {core : Nat} {d : Bytes} (h : descOk d = false) :
    v.submit core d = ((v.dispEvt 5).logOpen 16 6).decideYield 4 := by
  rw [State.submit, if_pos (by simp [h])]

theorem State.submit_taken {v : State} {core : Nat} {d : Bytes} (h : descOk d = true)
    (ho : v.occupancy (kindClass (parseDesc d).kind) < classRoom (kindClass (parseDesc d).kind)) :
    v.submit core d = v.takeUnit (parseDesc d) := by
  rw [State.submit, if_neg (by simp [h])]
  exact if_neg (by omega)

theorem State.submit_full {v : State} {core : Nat} {d : Bytes} (h : descOk d = true)
    (ho : classRoom (kindClass (parseDesc d).kind) ≤ v.occupancy (kindClass (parseDesc d).kind)) :
    v.submit core d = v.refuseUnit core d (kindClass (parseDesc d).kind == 0) := by
  rw [State.submit, if_neg (by simp [h])]
  exact if_pos ho

/-- A submission that is no customer unit's reaches the dispatcher. -/
theorem execUnitSubmit_vendor {t core : Nat} {d : Bytes} {s : State} (hr : (s.at t).dispRuns = true)
    (hk : descOk d = false ∨ (parseDesc d).kind ≠ 3) : execUnitSubmit t core d s = .next (((s.at t).submitAt core).submit core d) := by
  have hkrn : (descOk d && (parseDesc d).kind == 3) = false := by
    rcases hk with hk | hk <;> simp [hk]
  unfold execUnitSubmit
  dsimp only
  rw [hkrn, hr]
  rfl

/-- The tick of a customer unit is the last of its slot and shard (R253). -/
def State.noteKrn (v : State) (d : Desc) : State :=
  { v with disp := { v.disp with krnNext := tabSet 0 v.disp.krnNext (32 * d.slot + d.shard) (d.tick + 1) } }

theorem State.occupancy_noteKrn (v : State) (d : Desc) (c : Nat) : (v.noteKrn d).occupancy c = v.occupancy c := rfl

/-- The submission of a customer unit that the firmware makes is noted for its slot and shard, and reaches the dispatcher. -/
theorem execUnitSubmit_krn {t core : Nat} {d : Bytes} {s : State} (hr : (s.at t).dispRuns = true) (hd : descOk d = true)
    (hk : (parseDesc d).kind = 3) (hs : (s.at t).submitsKrn (parseDesc d) = true) :
    execUnitSubmit t core d s = .next ((((s.at t).submitAt core).noteKrn (parseDesc d)).submit core d) := by
  have hkrn : (descOk d && (parseDesc d).kind == 3) = true := by simp [hd, hk]
  unfold execUnitSubmit
  dsimp only
  rw [hkrn, hr, hs]
  rfl

theorem execUnitSubmit_notMade {t core : Nat} {d : Bytes} {s : State} (hd : descOk d = true)
    (hk : (parseDesc d).kind = 3) (hs : (s.at t).submitsKrn (parseDesc d) = false) : execUnitSubmit t core d s = .next (s.at t) := by
  unfold execUnitSubmit
  dsimp only
  rw [if_pos (by simp [hd, hk, hs])]

/-! Selection (R266). -/

/-- The free engines take their turns in ascending order: `f` is what the turn of one engine does. -/
theorem execUnitDispatch_eq {t : Nat} {s : State} {f : State → Nat → State} (hr : (s.at t).dispRuns = true)
    (hnone : ∀ w k, w.choose k = none → f w k = w) (hsome : ∀ w k u, w.choose k = some u → f w k = w.dispatch k u) :
    execUnitDispatch t s = .next ((List.range 34).foldl f (s.at t).rouse) := by
  unfold execUnitDispatch
  dsimp only
  rw [if_neg (by simp [hr])]
  congr 2
  funext w k
  cases hc : w.choose k with
  | none => exact (hnone w k hc).symm
  | some u => exact (hsome w k u hc).symm

/-! The unit that an engine runs (R242, R249 to R254). -/

theorem State.onRunning_run {v : State} {k : Nat} {u : QUnit} (f : QUnit → State → State) (hu : v.unitOn k = some u)
    (hr : v.dispRuns = true) (he : (v.engine k).st = .run) : v.onRunning k f = f u v := by
  unfold State.onRunning
  rw [hu]
  exact if_pos (by simp [hr, he])

theorem State.endOn_vendor {v : State} {k : Nat} {u : QUnit} (hu : v.unitOn k = some u) (hr : v.dispRuns = true)
    (he : (v.engine k).st = .run) (hk : u.d.kind ≠ 3) (commit : Bool) : v.endOn k commit = v.vendorEnds k u commit := by
  rw [State.endOn, State.onRunning_run _ hu hr he, if_neg hk]

theorem State.endOn_krn {v : State} {k : Nat} {u : QUnit} (hu : v.unitOn k = some u) (hr : v.dispRuns = true)
    (he : (v.engine k).st = .run) (hk : u.d.kind = 3) (commit : Bool) : v.endOn k commit = v.krnStops k u := by
  rw [State.endOn, State.onRunning_run _ hu hr he, if_pos hk]

theorem State.vendorEnds_ends {v : State} {k : Nat} {u : QUnit} (hi : injFires (v.engine k).inj.toNat u.d.kind = false)
    (hl : v.overLimit k u = false) (commit : Bool) : v.vendorEnds k u commit = (v.freeStalls k).unitEnds k u commit := by
  unfold State.vendorEnds
  dsimp only
  rw [if_neg (by simp [hi]), if_neg (by simp [hl])]

theorem State.vendorEnds_armed {v : State} {k : Nat} {u : QUnit} (hi : injFires (v.engine k).inj.toNat u.d.kind = true) (commit : Bool) :
    v.vendorEnds k u commit = v.vendorFails k u (bits (v.engine k).inj.toNat 1 0) := if_pos hi

theorem State.vendorEnds_over {v : State} {k : Nat} {u : QUnit} (hi : injFires (v.engine k).inj.toNat u.d.kind = false)
    (hl : v.overLimit k u = true) (commit : Bool) : v.vendorEnds k u commit = v.vendorFails k u 4 := by
  unfold State.vendorEnds
  dsimp only
  rw [if_neg (by simp [hi]), if_pos hl]

theorem State.krnStops_done {v : State} {k : Nat} {u : QUnit} {c : TapCpu} {commit : Bool} (h : v.krnRun k u.d = .done c commit) :
    v.krnStops k u = (v.krnEnds k u.d c commit).unitEnds k u commit := by
  unfold State.krnStops
  rw [h]

theorem State.krnStops_overrun {v : State} {k : Nat} {u : QUnit} {c : TapCpu} (h : v.krnRun k u.d = .overrun c) :
    v.krnStops k u = (v.cpuStops k c).krnOverrun k u := by
  unfold State.krnStops
  rw [h]

/-- END with COMMIT: the unit ends, and the ring pass that it lets run is checked. -/
theorem execUnitCommit_eq {t : Nat} {e : UnitEnd} {s : State} {u : QUnit} (hu : (s.at t).unitOn e.engine = some u) :
    execUnitCommit t e s = .next (let w := (s.at t).endOn e.engine true
      if u.d.kind = 0 && !(s.at t).ringFired u.d.tick u.d.arg && w.ringFired u.d.tick u.d.arg then
        (e.ring.filter fun k => k == 1 || k == 2).foldl State.ringFault w else w) := by
  unfold execUnitCommit
  dsimp only
  rw [hu]

theorem execUnitFault_check {t k kind : Nat} {f : FaultSite} {s : State} {u : QUnit} (hu : (s.at t).unitOn k = some u)
    (hr : (s.at t).dispRuns = true) (he : ((s.at t).engine k).st = .run) (hk : u.d.kind ≠ 3) (h1 : 1 ≤ kind) (h3 : kind ≤ 3) :
    execUnitFault t k kind f s = .next (((s.at t).freeStalls k).unitFails k u kind f.addr f.lane) := by
  rw [execUnitFault, State.onRunning_run _ hu hr he, if_neg (by simp [hk]), if_neg (by omega), if_pos ⟨h1, h3⟩, if_neg hk]

theorem execUnitFault_pair {t k : Nat} {f : FaultSite} {s : State} {u : QUnit} (hu : (s.at t).unitOn k = some u)
    (hr : (s.at t).dispRuns = true) (he : ((s.at t).engine k).st = .run) (hk : u.d.kind = 0) :
    execUnitFault t k 5 f s = .next ((s.at t).pairParity k u f.addr) := by
  rw [execUnitFault, State.onRunning_run _ hu hr he, if_neg (by simp [hk]), if_pos rfl, if_pos hk]

/-! Budgets and HALT (R242 to R244, R254). -/

theorem execBudgetInterrupt_over {t k : Nat} {s : State} {u : QUnit} (hu : (s.at t).unitOn k = some u)
    (hr : (s.at t).dispRuns = true) (he : ((s.at t).engine k).st = .run) (hl : (s.at t).overLimit k u = true) :
    execBudgetInterrupt t k s = .next (if u.d.kind = 3 then (s.at t).krnStops k u else (s.at t).vendorFails k u 4) := by
  rw [execBudgetInterrupt, State.onRunning_run _ hu hr he, if_neg (by simp [hl])]

theorem execBudgetInterrupt_within {t k : Nat} {s : State} {u : QUnit} (hu : (s.at t).unitOn k = some u)
    (hr : (s.at t).dispRuns = true) (he : ((s.at t).engine k).st = .run) (hl : (s.at t).overLimit k u = false) :
    execBudgetInterrupt t k s = .next (s.at t) := by
  rw [execBudgetInterrupt, State.onRunning_run _ hu hr he, if_pos (by simp [hl])]

/-! The geometry engine (R32, R122). -/

theorem execGeometryBankComplete_eq {g : GeomDone} {s : State} {n t0 : Nat} (hb : (s.at g.t).pan.building = some (n, t0))
    (hr : (s.at g.t).dispRuns = true) :
    execGeometryBankComplete g s = .next
      (let v := s.at g.t
       let b := v.buildGeom n
       let w := (g.faults.filter fun k => k == 1 || k == 2).foldl State.geomFault (v.geomEvents b)
       let d := min 0x3FFFF (v.now - t0)
       (State.geomKick { w with pan := { w.pan with
         pairs := b.pairs, norm := b.norm, first := false, ready := some n, building := none, geomLast := d, geomMax := max w.pan.geomMax d } }).rouse) := by
  unfold execGeometryBankComplete
  dsimp only
  rw [hb]
  exact congrArg _ (if_neg (by simp [hr]))

/-- Settles O31: the slot's rows by their deadlines, a submission by its descriptor and its class, an END, a fault and a budget by the
unit that runs. -/
theorem slotsAndDispatchAct : Obligations.SlotsAndDispatchAct := by
  refine ⟨?ingress, ?nominal, ?shed, ?badDesc, ?taken, ?full, ?krnTaken, ?krnNotMade, ?retry, ?dispatch, ?commit, ?endNoCommit, ?armed,
    ?limit, ?krnCommit, ?krnEnd, ?fault, ?pairFault, ?budgetVendor, ?budgetKrn, ?budgetWithin, ?halt, ?haltClosed, ?release, ?geometry⟩
  case ingress =>
    rintro t s x v rfl hx ht hd
    exact execIngressDeadline_opens hx ht hd
  case nominal =>
    rintro t s x v rfl hx ht hd
    exact execNominalDeadline_late hx ht hd
  case shed =>
    rintro t s x v rfl hx hl
    exact execShedWiden_widens hx hl
  case badDesc =>
    rintro t core d s v rfl hr hd
    exact (execUnitSubmit_vendor hr (.inl hd)).trans (congrArg _ (State.submit_bad hd))
  case taken =>
    rintro t core d s v rfl hr hd hk ho
    exact (execUnitSubmit_vendor hr (.inr hk)).trans (congrArg _ (State.submit_taken hd (by rwa [State.occupancy_submitAt])))
  case full =>
    rintro t core d s v rfl hr hd hk ho
    exact (execUnitSubmit_vendor hr (.inr hk)).trans (congrArg _ (State.submit_full hd (by rwa [State.occupancy_submitAt])))
  case krnTaken =>
    rintro t core d s v rfl hr hd hk hs ho
    have hroom : (((s.at t).submitAt core).noteKrn (parseDesc d)).occupancy (kindClass (parseDesc d).kind) <
        classRoom (kindClass (parseDesc d).kind) := by
      rw [State.occupancy_noteKrn, State.occupancy_submitAt, hk]
      exact ho
    exact (execUnitSubmit_krn hr hd hk hs).trans (congrArg _ (State.submit_taken hd hroom))
  case krnNotMade =>
    rintro t core d s v rfl - hd hk hs
    exact execUnitSubmit_notMade hd hk hs
  case retry =>
    rintro t s v rfl hr
    exact congrArg _ (if_pos hr)
  case dispatch =>
    rintro t s v rfl hr
    exact execUnitDispatch_eq hr (fun w k h => by rw [h]) fun w k u h => by rw [h]
  case commit =>
    rintro t e s u v rfl hu hr he hk hi hl
    have hend := (State.endOn_vendor hu hr he hk true).trans (State.vendorEnds_ends hi hl true)
    rw [← hend]
    exact execUnitCommit_eq hu
  case endNoCommit =>
    rintro t k s u v rfl hu hr he hk hi hl
    exact congrArg _ ((State.endOn_vendor hu hr he hk false).trans (State.vendorEnds_ends hi hl false))
  case armed =>
    rintro t k s u v rfl hu hr he hk hi
    exact congrArg _ ((State.endOn_vendor hu hr he hk false).trans (State.vendorEnds_armed hi false))
  case limit =>
    rintro t k s u v rfl hu hr he hk hi hl
    exact congrArg _ ((State.endOn_vendor hu hr he hk false).trans (State.vendorEnds_over hi hl false))
  case krnCommit =>
    rintro t k l s u c commit v rfl hu hr he hk hc
    have hend := (State.endOn_krn hu hr he hk true).trans (State.krnStops_done hc)
    rw [← hend]
    exact (execUnitCommit_eq (e := { engine := k, ring := l }) hu).trans (congrArg _ (if_neg (by simp [hk])))
  case krnEnd =>
    rintro t k s u c commit v rfl hu hr he hk hc
    exact congrArg _ ((State.endOn_krn hu hr he hk false).trans (State.krnStops_done hc))
  case fault =>
    rintro t k kind f s u v rfl hu hr he hk h1 h3
    exact execUnitFault_check hu hr he hk h1 h3
  case pairFault =>
    rintro t k f s u v rfl hu hr he hk
    exact execUnitFault_pair hu hr he hk
  case budgetVendor =>
    rintro t k s u v rfl hu hr he hl hk
    exact (execBudgetInterrupt_over hu hr he hl).trans (congrArg _ (if_neg hk))
  case budgetKrn =>
    rintro t k s u c v rfl hu hr he hl hk hc
    exact (execBudgetInterrupt_over hu hr he hl).trans (congrArg _ ((if_pos hk).trans (State.krnStops_overrun hc)))
  case budgetWithin =>
    rintro t k s u v rfl hu hr he hl
    exact execBudgetInterrupt_within hu hr he hl
  case halt =>
    rintro t k s v rfl ht he
    exact congrArg _ (if_pos (Bool.and_eq_true_iff.2 ⟨ht, by simp [he]⟩))
  case haltClosed =>
    rintro t k s v rfl ht
    exact congrArg _ (if_neg (by rw [ht]; simp))
  case release =>
    rintro t k s v rfl he
    exact congrArg _ (if_pos (by simp [he]))
  case geometry =>
    rintro g s n t0 v rfl hb hr
    exact execGeometryBankComplete_eq hb hr

end Sys2Proof.Machine
end

section
/-! SUPPORT. The commands that carry a metadata block (R61 to R88) and SOUND_SPEED (R124): each block command by its parameters and its
block, and SOUND_SPEED by what it writes at once. -/

set_option Elab.async false

namespace Sys2Proof.Machine

/-! The parameters and the block of each form. -/

/-- A length in samples in range (R92). -/
theorem le_rampMax {n : Nat} : n ≤ rampMax ↔ n ≤ 1048560 := .rfl

theorem gainOk_iff {b : Bytes} : gainOk b = true ↔ rd8 b 2 < 3 ∧ rd8 b 3 = 0 ∧ rd32 b 8 ≤ 1048560 := by
  simp [gainOk, le_rampMax, and_assoc]

/-- An object's ramp counts ticks, so that its unit is 1 (R78). -/
theorem gainBlk_one (b : Bytes) (x : Blk) : gainBlk 1 b x = { x with
    mute := if rd8 b 2 = 1 then some true else if rd8 b 2 = 2 then some false else none
    gain := if rd8 b 2 = 0 then some (rdS32 b 4) else none
    ramp := max 1 (rd32 b 8 / 16) } := by
  rw [gainBlk, rampTicks, Nat.one_mul]

/-- Each zone of OBJ_ZONES by its index (R86). -/
theorem zonesOf_all {b : Bytes} (h : ∀ k < rd8 b 2, (zoneAt b k).ok = true) : (zonesOf b).all Zone.ok = true := by
  simpa [zonesOf] using h

/-- Settles O4: the ten commands share one rule, so each is its form's parameters and block. -/
theorem objectBlockCommandsComplete : Obligations.ObjectBlockCommandsComplete := by
  refine ⟨?objBind, ?objSource, ?objMove, ?objGain, ?objSpread, ?objZones, ?objLayouts, ?objAtten, ?bedGain, ?bedBind⟩
  case objBind => exact block_completes _ _ _ _ _ _ (fun _ _ _ => rfl) (fun _ h => Bool.and_eq_true_iff.2 h) fun _ _ => rfl
  case objSource => exact block_completes _ _ _ _ _ _ (fun _ _ _ => rfl) (fun _ h => by simpa using h) fun _ _ => rfl
  case objMove => exact block_completes _ _ _ _ _ _ (fun _ _ _ => rfl) (fun _ h => by simpa [le_rampMax, and_assoc] using h) fun _ _ => rfl
  case objGain => exact block_completes _ _ _ _ _ _ (fun _ _ _ => rfl) (fun _ h => gainOk_iff.2 h) gainBlk_one
  case objSpread => exact block_completes _ _ _ _ _ _ (fun _ _ _ => rfl) (fun _ h => by simpa [le_rampMax, and_assoc] using h) fun _ _ => rfl
  case objZones =>
    exact block_completes _ _ _ _ _ _ (fun _ _ _ => rfl)
      (fun _ ⟨hn, hr, hz⟩ => by simp [hn, hr, zonesOf_all hz]) fun _ _ => rfl
  case objLayouts => exact block_completes _ _ _ _ _ _ (fun _ _ _ => rfl) (fun _ h => h) fun _ _ => rfl
  case objAtten => exact block_completes _ _ _ _ _ _ (fun _ _ _ => rfl) (fun _ h => decide_eq_true h) fun _ _ => rfl
  case bedGain => exact block_completes _ _ _ _ _ _ (fun _ _ _ => rfl) (fun _ h => gainOk_iff.2 h) fun _ _ => rfl
  case bedBind => exact block_completes _ _ _ _ _ _ (fun _ _ _ => rfl) (fun _ h => Bool.and_eq_true_iff.2 h) fun _ _ => rfl

/-! SOUND_SPEED. -/

/-- The parameters that SOUND_SPEED admits (R124, R126): a WAVEFRONT layout, a speed and a ramp in range. -/
def SoundSpeedAdmitted (i : CmdIn) (u : State) : Prop :=
  rd8 i.body 0 < 16 ∧ zeroAt i.body 1 3 = true ∧ 300000 ≤ rd32 i.body 4 ∧ rd32 i.body 4 ≤ 380000 ∧
    1 ≤ rd32 i.body 8 ∧ rd32 i.body 8 ≤ 65535 ∧ (layoutRec u.pan.image (rd8 i.body 0)).count ≠ 0 ∧
    (layoutRec u.pan.image (rd8 i.body 0)).method = 2

theorem soundSpeedRun_admitted {i : CmdIn} {u : State} (h : SoundSpeedAdmitted i u) :
    soundSpeedRun i u = scheduled i u (u.soundNow (rd8 i.body 0) (rd32 i.body 4)) (fun n => u.schedule n i) := by
  obtain ⟨hl, hz, hc, hc', hr, hr', hn, hm⟩ := h
  unfold soundSpeedRun
  dsimp only
  rw [if_neg (by simp [inRange, hz, hn, hm]; omega)]

/-- In STAGED and LOCKING the speed acts at once, and PAN_SOUND shows it at once (R560; log 136). -/
theorem soundSpeed_completes_now :
    Completes soundSpeedCmd .soundSpeed (fun i u => SoundSpeedAdmitted i u ∧ u.staged = true)
      (fun i u => (u.soundNow (rd8 i.body 0) (rd32 i.body 4), [])) :=
  completes_of_ok (fun _ _ => rfl) (fun _ _ => rfl) fun _ _ ⟨ha, hs⟩ => (soundSpeedRun_admitted ha).trans (if_pos hs)

/-- STAGED with layout 0 a WAVEFRONT layout of one feed, a packet waiting on the command ring, and PAN_SOUND as reset leaves it. -/
def wavefrontInStaged : State :=
  { State.reset with
    sys := { SysSt.reset with mode := .staged }
    boot := { BootSt.reset with state := .done }
    key := { KeySt.reset with cmdEn := true, cmdSize := 64, cmdPi := 32 }
    pan := { PanSt.reset with image := [(0x42, 1), (0x44, 2)] } }

/-- A SOUND_SPEED packet of the command ring, and its parameters: layout 0, 300,000 mm/s, a ramp of one tick. -/
def soundSpeedHdr : Hdr := { src := .pcie, t := 1000, tag := 1, length := 12, flags := 0, when := 0 }

def soundSpeedBody : Bytes := leB 4 0 ++ leB 4 300000 ++ leB 4 1

theorem accepted_wavefrontInStaged : accepted soundSpeedCmd soundSpeedHdr soundSpeedBody wavefrontInStaged = true := by
  decide +kernel

theorem admitted_wavefrontInStaged :
    SoundSpeedAdmitted (inputOf soundSpeedCmd soundSpeedHdr soundSpeedBody wavefrontInStaged)
        (taken 0x304 soundSpeedHdr soundSpeedBody wavefrontInStaged) ∧
      (taken 0x304 soundSpeedHdr soundSpeedBody wavefrontInStaged).staged = true := by
  unfold SoundSpeedAdmitted
  decide +kernel

/-- Refutes O5 in its clause on SOUND_SPEED in STAGED and LOCKING: the clause has the layout's speed of sound alone change, where the
model's PAN_SOUND follows at once too (log 136). For layout 0 and 300,000 mm/s PAN_SOUND becomes 300,000; the clause leaves it at 0. -/
theorem not_sceneAndLayoutCommandsComplete : ¬ Obligations.SceneAndLayoutCommandsComplete := by
  unfold Obligations.SceneAndLayoutCommandsComplete
  rintro ⟨-, -, -, -, -, -, hclaim, -, -⟩
  have ha := accepted_wavefrontInStaged
  have hmodel := soundSpeed_completes_now _ _ _ ha admitted_wavefrontInStaged
  obtain ⟨⟨hl, hz, hc, hc', hr, hr', hn, hm⟩, hs⟩ := admitted_wavefrontInStaged
  have hstated := hclaim _ _ _ ha ⟨hl, hz, hc, hc', hr, hr', hn, hm, hs⟩
  have hseen := congrArg (fun t : State => t.pan.soundSeen) (Host.Outcome.next.inj (hmodel.symm.trans hstated))
  exact absurd hseen (by decide +kernel)

end Sys2Proof.Machine
end

section
/-! SUPPORT. The byte stores stay in canonical form (R97, R148, R376), and the 80-bit word of a pair-store entry is the entry (R103). -/

namespace Sys2Proof.Machine

/-! Byte stores. -/

/-- A well-formed command carries no store out of canonical form: the snapshot is the one command that carries stores. -/
theorem carriesWf_of_wf {c : Instr} (hc : c.wf = true) : carriesWf c = true := by
  cases c with
  | snapshotRx t seq x =>
    simp only [Instr.wf, Bool.and_eq_true] at hc
    obtain ⟨-, hx⟩ := hc
    exact hx
  | _ => rfl

/-- A reset empties every store (R363). -/
theorem Reset.storesOk {s t : State} (h : Reset s t) : t.StoresOk = true := by
  obtain ⟨u, src, -, rfl⟩ := h
  rfl

theorem Kept.storesOk {s t : State} (h : Kept s t) (hs : s.StoresOk = true) : t.StoresOk = true := by
  obtain ⟨-, -, -, hstores, -⟩ := h
  exact hstores hs

theorem exec_storesOk {c : Instr} {s t : State} (hs : s.StoresOk = true) (hc : c.wf = true) (h : exec c s = .next t) :
    t.StoresOk = true := by
  cases hr : endsInReset c with
  | false => exact (exec_kept c s hr (carriesWf_of_wf hc) t h).storesOk hs
  | true =>
    rcases exec_reset c s hr t h with hkept | hreset
    · exact hkept.storesOk hs
    · exact hreset.storesOk

/-- Settles O43: a command that ends in no reset keeps the form of every store, and a reset empties the stores. -/
theorem storesStayCanonical : Obligations.StoresStayCanonical := by
  intro s t hs hwf h
  unfold step at h
  split at h
  · cases h; exact hs
  next c rest hp =>
    rw [hp] at hwf
    exact exec_storesOk (s := { s with pending := rest }) hs hwf h

/-! Pair-store entries. -/

/-- The word of an entry, field above field: each field's width is the place value of what lies above it. -/
theorem PairEntry.enc_eq (e : PairEntry) :
    e.enc = e.dE % 2 ^ 26 + 2 ^ 26 * (e.dS % 2 ^ 26 + 2 ^ 26 * (e.gE % 2 ^ 14 + 2 ^ 14 * (e.gS % 2 ^ 14))) := by
  unfold PairEntry.enc
  omega

theorem PairEntry.enc_lt (e : PairEntry) : e.enc < 2 ^ 80 := by
  rw [PairEntry.enc_eq]
  omega

/-- Decoding gives back what of each field fits its place. -/
theorem PairEntry.dec_enc (e : PairEntry) :
    PairEntry.dec e.enc = { dE := e.dE % 2 ^ 26, dS := e.dS % 2 ^ 26, gE := e.gE % 2 ^ 14, gS := e.gS % 2 ^ 14 } := by
  rw [PairEntry.enc_eq, PairEntry.dec, PairEntry.mk.injEq]
  refine ⟨?_, ?_, ?_, ?_⟩ <;> omega

/-- An entry whose fields fit their places loses nothing to them. -/
theorem PairEntry.dec_enc_of_fits {e : PairEntry} (hdE : e.dE < 2 ^ 26) (hdS : e.dS < 2 ^ 26) (hgE : e.gE < 2 ^ 14) (hgS : e.gS < 2 ^ 14) :
    PairEntry.dec e.enc = e := by
  rw [PairEntry.dec_enc, Nat.mod_eq_of_lt hdE, Nat.mod_eq_of_lt hdS, Nat.mod_eq_of_lt hgE, Nat.mod_eq_of_lt hgS]

/-- The four fields cover all 80 bits. -/
theorem PairEntry.enc_dec {n : Nat} (hn : n < 2 ^ 80) : (PairEntry.dec n).enc = n := by
  rw [PairEntry.enc_eq, PairEntry.dec]
  dsimp only
  omega

/-- Settles O52: the four fields are the digits of the 80-bit word. -/
theorem pairEntriesRoundTrip : Obligations.PairEntriesRoundTrip :=
  ⟨fun e hdE hdS hgE hgS => ⟨PairEntry.dec_enc_of_fits hdE hdS hgE hgS, e.enc_lt⟩, fun _ hn => PairEntry.enc_dec hn⟩

end Sys2Proof.Machine
end

section
/-! SUPPORT. The routing commands (R130 to R156): each of them is what its own rules answer where the spec admits it. -/

set_option Elab.async false

namespace Sys2Proof.Machine

/-! From a command's own rules to its statement. -/

/-- A command whose own rules schedule it for a boundary. -/
theorem completesFor_of_run {c : Cmd} {mk : Hdr → Bytes → Instr} {pre : CmdIn → State → Nat → Prop} {eff : CmdIn → State → Nat → State}
    (hk : ∀ h p, keywayRow (mk h p) = some (c, h, p))
    (hr : ∀ i u n, pre i u n → c.run i u = .done (eff i u n) [] n) : CompletesFor c mk pre eff := by
  intro h p s n ha hp
  rw [exec_keyway (hk h p)]
  exact keyway_done c h p s _ _ _ ha (hr _ _ _ hp)

theorem scheduled_now {i : CmdIn} {u now : State} {later : Nat → State} (hs : u.staged = true) :
    scheduled i u now later = .ok now := if_pos hs

theorem scheduled_later {i : CmdIn} {u now : State} {later : Nat → State} {n : Nat} (hs : u.staged = false)
    (hb : u.boundary i u.firstCut = .ok n) : scheduled i u now later = .done (later n) [] n := by
  unfold scheduled
  rw [if_neg (by simp [hs]), hb]

/-- No tick runs in STAGED. -/
theorem State.not_staged_of_rendering {u : State} (h : u.rendering = true) : u.sys.mode ≠ .staged := by
  intro hm
  rw [State.rendering, hm] at h
  cases h

/-! ROUTE_MODE and XP_MAP. -/

/-- A change of mode clears the gain slots and both banks (R147), and makes bank 0 current (log 137). -/
theorem routeModeRun_ok {i : CmdIn} {u : State} (hm : u.sys.mode = .staged) (hr : rd8 i.body 0 ≤ 1) (hz : zeroAt i.body 1 3 = true) :
    routeModeRun i u = .ok (if (rd8 i.body 0 == 1) = u.rte.graph then u
      else { u with rte := { u.rte with
        graph := rd8 i.body 0 == 1, bank := 0, prog0 := [], prog1 := [], gains := [], scale := [], target := [], lines := [], nodeOut := [] } }) := by
  unfold routeModeRun
  rw [if_neg (by simp [hm]), if_neg (by simp [hz]; omega)]
  dsimp only
  by_cases h : (rd8 i.body 0 == 1) = u.rte.graph
  · rw [if_pos h, if_pos (beq_iff_eq.2 h)]
  · rw [if_neg h, if_neg (by simpa using h)]

theorem xpMapRun_ok {i : CmdIn} {u : State} (hm : u.sys.mode = .staged) (hg : u.rte.graph = false)
    (hsrc : ∀ k < 128, rd16 i.body (2 * k) = 0xFFFF ∨ plainBus u.rnd.rate96 (rd16 i.body (2 * k)) = true)
    (hdst : ∀ k < 128, rd16 i.body (256 + 2 * k) = 0xFFFF ∨ rd16 i.body (256 + 2 * k) < feedCount u.rnd.rate96)
    (hd : distinct (((List.range 128).map fun k => rd16 i.body (256 + 2 * k)).filter (· != 0xFFFF)) = true) :
    xpMapRun i u = .ok { u with rte := { u.rte with
      xpSrc := tabFill 0xFFFF [] 0 ((List.range 128).map fun k => rd16 i.body (2 * k))
      xpDst := tabFill 0xFFFF [] 0 ((List.range 128).map fun k => rd16 i.body (256 + 2 * k)) } } := by
  have hbuses : (((List.range 128).map fun k => rd16 i.body (2 * k)).all fun b => b == 0xFFFF || plainBus u.rnd.rate96 b) = true := by
    rw [List.all_map, List.all_eq_true]
    exact fun k hk => by simpa using hsrc k (List.mem_range.1 hk)
  have hfeeds : (((List.range 128).map fun k => rd16 i.body (256 + 2 * k)).all fun f =>
      f == 0xFFFF || decide (f < feedCount u.rnd.rate96)) = true := by
    rw [List.all_map, List.all_eq_true]
    exact fun k hk => by simpa using hdst k (List.mem_range.1 hk)
  unfold xpMapRun
  dsimp only
  rw [if_neg (by simp [hm, hg]), hbuses, hfeeds, hd, if_neg (by decide)]

/-! ROUTE_GAIN. -/

/-- The parameters that ROUTE_GAIN admits (R133): 1 to 64 entries, each of a gain slot. -/
def RouteGainAdmitted (b : Bytes) : Prop :=
  1 ≤ rd8 b 0 ∧ rd8 b 0 ≤ 64 ∧ zeroAt b 1 3 = true ∧
    ∀ k < rd8 b 0, rd16 b (4 + 8 * k) < 16384 ∧ zeroAt b (6 + 8 * k) 2 = true

theorem routeGainRun_admitted {i : CmdIn} {u : State} (h : RouteGainAdmitted i.body) :
    routeGainRun i u = scheduled i u
      ((List.range (rd8 i.body 0)).foldl
        (fun v k => v.setGainSlot v.rte.bank (rd16 i.body (4 + 8 * k)) (Ramp.at (rdS32 i.body (8 + 8 * k)))) u)
      fun n => { u with ord := u.ord + 1, rte := { u.rte with gainPend := u.rte.gainPend ++ [(n, u.ord, routeGains i.body)] } } := by
  obtain ⟨hlo, hhi, hz, hk⟩ := h
  have hentries : ((List.range (rd8 i.body 0)).all fun k =>
      decide (rd16 i.body (4 + 8 * k) < 16384) && zeroAt i.body (6 + 8 * k) 2) = true := by
    rw [List.all_eq_true]
    exact fun k hm => by simpa using hk k (List.mem_range.1 hm)
  unfold routeGainRun
  dsimp only
  rw [hentries, hz, if_neg (by simp [hlo, hhi]), routeGains, List.foldl_map]

theorem foldl_setGainSlot_tick (l : List Nat) (a : Nat → Nat) (r : Nat → Ramp) (u : State) :
    (l.foldl (fun v k => v.setGainSlot v.rte.bank (a k) (r k)) u).tick = u.tick :=
  List.foldlRecOn l _ (motive := fun w : State => w.tick = u.tick) rfl fun _ hw _ _ => hw

/-! ROUTE_WRITE and ROUTE_COMMIT. -/

theorem routeWriteRun_ok {i : CmdIn} {u : State} (hg : u.rte.graph = true) (hlo : 1 ≤ rd16 i.body 4) (hhi : rd16 i.body 4 ≤ 1024)
    (hlen : rd32 i.body 0 + rd16 i.body 4 ≤ routeLen) (hz : zeroAt i.body 6 2 = true) (hf : u.rte.frozen = false) :
    routeWriteRun i u = .ok { u with rte := { u.rte with
      staging := memFill u.rte.staging (rd32 i.body 0) (slice i.body 8 (rd16 i.body 4)) } } := by
  unfold routeWriteRun
  rw [if_neg (by simp [hg]), if_neg (by simp [stageOk, hlo, hhi, hlen, hz]), if_neg (by simp [hf])]

/-- A mirrored ROUTE_COMMIT is not checked again; any other is checked by `routeCheck` (R148, R316). -/
theorem routeCommit_checked {i : CmdIn} {u : State} (hc : routeCheck u.rnd.rate96 u.rte.staging = none) :
    (if i.mirror.isSome then none else routeCheck u.rnd.rate96 u.rte.staging) = none := by
  rw [hc, ite_self]

theorem routeCommitRun_ok {i : CmdIn} {u : State} (hm : u.sys.mode = .staged) (hg : u.rte.graph = true)
    (hc : routeCheck u.rnd.rate96 u.rte.staging = none)
    (hcost : (routeScan u.rnd.rate96 u.rte.staging).cost ≤ routeBudget u.rnd.rate96) :
    routeCommitRun i u = .ok (u.loadProg u.rte.bank) := by
  unfold routeCommitRun
  dsimp only
  rw [if_neg (by simp [hm, hg]), routeCommit_checked hc]
  dsimp only
  rw [if_pos (by simp [hm]), if_neg (by omega)]

theorem routeCommitRun_defer {i : CmdIn} {u : State} {n : Nat} (hr : u.rendering = true) (hm : u.sys.mode ≠ .sweep)
    (hg : u.rte.graph = true) (hc : routeCheck u.rnd.rate96 u.rte.staging = none) (hf : fadeOk (rd32 i.body 0) = true)
    (hd : (routeScan u.rnd.rate96 u.rte.staging).maxDelay ≤ rd32 i.body 0) (hb : u.boundary i u.firstCut = .ok n)
    (hcost : u.costNext + (routeScan u.rnd.rate96 u.rte.staging).cost ≤ routeBudget u.rnd.rate96) :
    routeCommitRun i u = .defer (u.setRoutePend { tick := n, fade := rd32 i.body 0, ref := i.ref }) n := by
  unfold routeCommitRun
  dsimp only
  rw [if_neg (by simp [hm, hg, hr]), routeCommit_checked hc]
  dsimp only
  rw [if_neg (by simpa using State.not_staged_of_rendering hr), if_neg (by simp [hf]; omega), hb]
  dsimp only
  rw [if_neg (by simp; omega)]

theorem State.loadProg_tick (u : State) (b : Nat) : (u.loadProg b).tick = u.tick := rfl

/-! BED_ALIGN and LAT_QUERY. -/

theorem bedAlignRun_ok {i : CmdIn} {u : State} (hm : u.sys.mode = .staged) (hb : rd16 i.body 0 < 128) (hd : rd16 i.body 2 ≤ 2047) :
    bedAlignRun i u = .ok { u with rte := { u.rte with align := tabSet 3 u.rte.align (rd16 i.body 0) (rd16 i.body 2) } } := by
  unfold bedAlignRun
  rw [if_neg (by simp [hm]), if_neg (by simp; omega)]

/-- The smallest and the largest content of the paths of LAT_QUERY and their number, with the feed's bulk delay (R156; log 68). -/
def State.latSpan (u : State) (kind num f : Nat) : Nat × Nat × Nat :=
  let bulk := 256 * corDelay u.cor.longMask u.cor.records (u.feedCor f).bank f
  match u.latPaths kind num f with
  | some (a, b, n) => (a + bulk, b + bulk, n)
  | none => (0xFFFFFFFF, 0xFFFFFFFF, 0)

/-- The fixed part of LAT_QUERY: to the monitor DAC, or to an egress flow (R156). -/
def State.latFixed (u : State) (b : Bytes) : Nat :=
  if rd8 b 1 = 1 then u.fixedDac else 64 + u.ingress + frLen u.rnd.rate96 (u.flowOut (rd16 b 6))

/-- The output of LAT_QUERY exists: the monitor DAC, or an egress flow that carries the feed (R156). -/
def State.latOutputOk (u : State) (b : Bytes) : Bool :=
  if rd8 b 1 = 1 then rd16 b 6 == 0
  else decide (rd16 b 6 < 1024) && frOn (u.flowOut (rd16 b 6)) && frKind (u.flowOut (rd16 b 6)) == 0 &&
    (foFeeds (u.flowOut (rd16 b 6))).contains (rd16 b 4)

/-- The source and the feed of LAT_QUERY exist (R156). -/
def LatSourceOk (b : Bytes) (r96 : Bool) : Prop :=
  rd8 b 0 ≤ 2 ∧ rd16 b 2 < (if rd8 b 0 = 1 then 128 else objCount r96) ∧ rd16 b 4 < feedCount r96

/-- The payload of LAT_QUERY for a fixed part. -/
def State.latPayload (u : State) (fixed kind num f : Nat) : Bytes :=
  leB 4 fixed ++ leB 4 (24 * b2n (u.asyncSource kind num)) ++ leB 4 (u.latSpan kind num f).1 ++ leB 4 (u.latSpan kind num f).2.1 ++
    leB 4 (u.latSpan kind num f).2.2

theorem latQueryRun_done {i : CmdIn} {u : State} {fixed : Nat} (hs : LatSourceOk i.body u.rnd.rate96) (hto : rd8 i.body 1 ≤ 1)
    (ho : u.latOutputOk i.body = true) (hfixed : u.latFixed i.body = fixed) :
    latQueryRun i u = .done u (u.latPayload fixed (rd8 i.body 0) (rd16 i.body 2) (rd16 i.body 4)) (u.tick + 1) := by
  subst hfixed
  obtain ⟨hkind, hnum, hfeed⟩ := hs
  have hok : ¬ (!(decide (rd8 i.body 0 ≤ 2 ∧ rd8 i.body 1 ≤ 1 ∧
      rd16 i.body 2 < (if rd8 i.body 0 = 1 then 128 else objCount u.rnd.rate96) ∧ rd16 i.body 4 < feedCount u.rnd.rate96) &&
        u.latOutputOk i.body)) = true := by
    simp [hkind, hto, hnum, hfeed, ho]
  unfold latQueryRun State.latPayload State.latSpan
  dsimp only
  cases u.latPaths (rd8 i.body 0) (rd16 i.body 2) (rd16 i.body 4) <;> exact if_neg hok

theorem latQueryRun_dac {i : CmdIn} {u : State} (hs : LatSourceOk i.body u.rnd.rate96) (hto : rd8 i.body 1 = 1) (hz : rd16 i.body 6 = 0) :
    latQueryRun i u = .done u (u.latPayload u.fixedDac (rd8 i.body 0) (rd16 i.body 2) (rd16 i.body 4)) (u.tick + 1) :=
  latQueryRun_done hs (by omega) (by simp [State.latOutputOk, hto, hz]) (if_pos hto)

theorem latQueryRun_flow {i : CmdIn} {u : State} (hs : LatSourceOk i.body u.rnd.rate96) (hto : rd8 i.body 1 = 0)
    (hf : rd16 i.body 6 < 1024) (hon : frOn (u.flowOut (rd16 i.body 6)) = true) (hk : frKind (u.flowOut (rd16 i.body 6)) = 0)
    (hc : (foFeeds (u.flowOut (rd16 i.body 6))).contains (rd16 i.body 4) = true) :
    latQueryRun i u = .done u (u.latPayload (64 + u.ingress + frLen u.rnd.rate96 (u.flowOut (rd16 i.body 6)))
      (rd8 i.body 0) (rd16 i.body 2) (rd16 i.body 4)) (u.tick + 1) := by
  have ho : u.latOutputOk i.body = true := by
    rw [State.latOutputOk, if_neg (by omega), hon, hk, hc]
    simp [hf]
  exact latQueryRun_done hs (by omega) ho (if_neg (by omega))

/-- Settles O6: each command by what its own rules answer where the spec admits it. -/
theorem routingCommandsComplete : Obligations.RoutingCommandsComplete := by
  refine ⟨?routeMode, ?xpMap, ?routeGainNow, ?routeGainLater, ?routeWrite, ?routeCommitNow, ?routeCommitLater, ?bedAlign, ?latDac, ?latFlow⟩
  case routeMode =>
    exact completes_of_ok (fun _ _ => rfl) (fun _ _ => by split_ifs <;> rfl) fun i u ⟨hm, hr, hz⟩ => routeModeRun_ok hm hr hz
  case xpMap =>
    exact completes_of_ok (fun _ _ => rfl) (fun _ _ => rfl) fun i u ⟨hm, hg, hsrc, hdst, hd⟩ => xpMapRun_ok hm hg hsrc hdst hd
  case routeGainNow =>
    exact completes_of_ok (fun _ _ => rfl) (fun _ _ => foldl_setGainSlot_tick ..) fun i u ⟨hlo, hhi, hz, hk, hs⟩ =>
      (routeGainRun_admitted ⟨hlo, hhi, hz, hk⟩).trans (scheduled_now hs)
  case routeGainLater =>
    exact completesFor_of_run (fun _ _ => rfl) fun i u n ⟨hlo, hhi, hz, hk, hs, hb⟩ =>
      (routeGainRun_admitted ⟨hlo, hhi, hz, hk⟩).trans (scheduled_later hs hb)
  case routeWrite =>
    exact completes_of_ok (fun _ _ => rfl) (fun _ _ => rfl) fun i u ⟨hg, hlo, hhi, hlen, hz, hf⟩ =>
      routeWriteRun_ok hg hlo hhi hlen hz hf
  case routeCommitNow =>
    exact completes_of_ok (fun _ _ => rfl) (fun _ _ => State.loadProg_tick ..) fun i u ⟨hm, hg, hc, hcost⟩ =>
      routeCommitRun_ok (i := i) hm hg hc hcost
  case routeCommitLater =>
    exact defers_of_run (fun _ _ => rfl) fun i u n ⟨hr, hm, hg, hc, hf, hd, hb, hcost⟩ =>
      routeCommitRun_defer hr hm hg hc hf hd hb hcost
  case bedAlign => exact completes_of_ok (fun _ _ => rfl) (fun _ _ => rfl) fun i u ⟨hm, hb, hd⟩ => bedAlignRun_ok hm hb hd
  case latDac =>
    exact completes_of_run (fun _ _ => rfl) fun i u ⟨hkind, hnum, hfeed, ho, hz⟩ => latQueryRun_dac ⟨hkind, hnum, hfeed⟩ ho hz
  case latFlow =>
    exact completes_of_run (fun _ _ => rfl) fun i u ⟨hkind, hnum, hfeed, ho, hf, hon, hk, hc⟩ =>
      latQueryRun_flow ⟨hkind, hnum, hfeed⟩ ho hf hon hk hc

end Sys2Proof.Machine
end

section
/-! SUPPORT. The writes through the BAR2 windows (R148, R178, R376, R544): an open window passes a write to its store, and the byte
stores take exactly the bytes written. -/

set_option Elab.async false

namespace Sys2Proof.Machine

/-! A write that is answered OK. -/

theorem State.bar2Write_open {v : State} {off : Nat} {d : Bytes} (h : v.windowOpen off = true) :
    v.bar2Write off d = v.bar2Store off d := by
  obtain ⟨hup, hc⟩ : v.pcieUp = true ∧ v.bar2Code off = some 0 := by simpa [State.windowOpen] using h
  unfold State.bar2Write
  rw [hup, hc]
  rfl

/-! The store of each window. -/

theorem State.bar2Store_img {v : State} {off : Nat} {d : Bytes} (h : off < 0x2000000) : v.bar2Store off d = v.imgStore off d := if_pos h

theorem State.bar2Store_cor {v : State} {off : Nat} {d : Bytes} (h : off < 0x2000000) :
    v.bar2Store (0x2000000 + off) d = corWindow (d.length + 1) off d v := by
  rw [State.bar2Store, if_neg (by omega), if_pos (by omega), Nat.add_sub_cancel_left]

theorem State.bar2Store_layout {v : State} {off : Nat} {d : Bytes} (h : off < 0x100000) :
    v.bar2Store (0x4800000 + off) d = v.layoutStore off d := by
  rw [State.bar2Store, if_neg (by omega), if_neg (by omega), if_pos (by omega), Nat.add_sub_cancel_left]

theorem State.bar2Store_route {v : State} {off : Nat} {d : Bytes} (h : off < 0x100000) :
    v.bar2Store (0x4900000 + off) d = v.routeStore off d := by
  rw [State.bar2Store, if_neg (by omega), if_neg (by omega), if_neg (by omega), if_pos (by omega), Nat.add_sub_cancel_left]

theorem State.bar2Store_readOnly {v : State} {off : Nat} {d : Bytes} (h : 0x4000000 ≤ off ∧ off < 0x4800000 ∨ 0x4A00000 ≤ off) :
    v.bar2Store off d = v.wdiscard := by
  rw [State.bar2Store, if_neg (by omega), if_neg (by omega), if_neg (by omega), if_neg (by omega)]

/-! The commands over an open window. -/

theorem exec_imgWindowWrite_open {t off : Nat} {d : Bytes} {s : State} (ho : off < 0x2000000) (hl : off + d.length ≤ 0x2000000)
    (hw : (s.at t).windowOpen off = true) : exec (.imgWindowWrite t off d) s = .next ((s.at t).imgStore off d) :=
  congrArg _ ((if_neg (by omega)).trans ((State.bar2Write_open hw).trans (State.bar2Store_img ho)))

theorem exec_corWindowWrite_open {t off : Nat} {d : Bytes} {s : State} (hl : off + d.length ≤ 0x1860000)
    (hw : (s.at t).windowOpen (0x2000000 + off) = true) :
    exec (.corWindowWrite t off d) s = .next (corWindow (d.length + 1) off d (s.at t)) :=
  congrArg _ ((if_neg (by omega)).trans ((State.bar2Write_open hw).trans (State.bar2Store_cor (by omega))))

theorem exec_layoutWindowWrite_open {t off : Nat} {d : Bytes} {s : State} (ho : off < 0x84440) (hl : off + d.length ≤ 0x84440)
    (hw : (s.at t).windowOpen (0x4800000 + off) = true) :
    exec (.layoutWindowWrite t off d) s = .next ((s.at t).layoutStore off d) :=
  congrArg _ ((if_neg (by omega)).trans ((State.bar2Write_open hw).trans (State.bar2Store_layout (by omega))))

theorem exec_routeWindowWrite_open {t off : Nat} {d : Bytes} {s : State} (ho : off < 0x30440) (hl : off + d.length ≤ 0x30440)
    (hw : (s.at t).windowOpen (0x4900000 + off) = true) :
    exec (.routeWindowWrite t off d) s = .next ((s.at t).routeStore off d) :=
  congrArg _ ((if_neg (by omega)).trans ((State.bar2Write_open hw).trans (State.bar2Store_route (by omega))))

theorem exec_roWindowWrite_open {t off : Nat} {d : Bytes} {s : State} (ho : 0x4000000 ≤ off ∧ off < 0x4800000 ∨ 0x4A00000 ≤ off)
    (hw : (s.at t).windowOpen off = true) : exec (.roWindowWrite t off d) s = .next (s.at t).wdiscard :=
  congrArg _ ((if_neg (by omega)).trans ((State.bar2Write_open hw).trans (State.bar2Store_readOnly ho)))

/-! The bytes stored. -/

/-- The bytes of a run read back as written. -/
theorem memGet_memFill_inside {m : Memory} (h : Memory.wf m = true) (a : Nat) (bs : Bytes) {k : Nat} (hk : k < bs.length) :
    memGet (memFill m a bs) (a + k) = getD' bs k 0 := by
  rw [memGet_memFill h, if_pos (by omega), Nat.add_sub_cancel_left]

/-- The bytes outside a run stay. -/
theorem memGet_memFill_outside {m : Memory} (h : Memory.wf m = true) {a x : Nat} {bs : Bytes} (hx : ¬ (a ≤ x ∧ x < a + bs.length)) :
    memGet (memFill m a bs) x = memGet m x := by
  rw [memGet_memFill h, if_neg hx]

/-- A write that leaves the run filled into the store leaves its bytes, and the other bytes as they were. -/
theorem exists_memory_of_memFill {r : Result} {f : Memory → State} {m : Memory} {off : Nat} {d : Bytes}
    (h : r = .next (f (memFill m off d))) :
    ∃ m' : Memory, r = .next (f m') ∧ (Memory.wf m = true → ∀ k < d.length, memGet m' (off + k) = getD' d k 0) ∧
      (Memory.wf m = true → Memory.wf m' = true ∧ ∀ a, ¬ (off ≤ a ∧ a < off + d.length) → memGet m' a = memGet m a) :=
  ⟨memFill m off d, h, fun hm _ hk => memGet_memFill_inside hm off d hk,
    fun hm => ⟨memFill_wf off d hm, fun _ ha => memGet_memFill_outside hm ha⟩⟩

/-! A correction write within one record. -/

theorem corWindow_nil (n a : Nat) (v : State) : corWindow n a [] v = v := by
  cases n <;> rfl

/-- One record is stored whole or discarded whole (R178). -/
theorem corWindow_oneRecord {n a : Nat} {d : Bytes} {v : State} (hd : d ≠ []) (hr : a % 0xC30000 % 0x4100 + d.length ≤ 0x4100) :
    corWindow (n + 1) a d v =
      if decide (a % 0xC30000 / 0x4100 < feedCount v.rnd.rate96) && v.corWritable (a / 0xC30000) (a % 0xC30000 / 0x4100) then
        v.corStore a (a % 0xC30000 / 0x4100) d
      else { v with cor := { v.cor with wdiscardCnt := v.cor.wdiscardCnt + 1 } } := by
  have hroom : d.length ≤ 0x4100 - a % 0xC30000 % 0x4100 := by omega
  rw [corWindow, if_neg (by simpa using hd)]
  dsimp only
  rw [List.take_of_length_le hroom, List.drop_of_length_le hroom, corWindow_nil]

/-- A writable record of a feed that the rate has takes the bytes. -/
theorem corWindow_stored {n a : Nat} {d : Bytes} {v : State} (hd : d ≠ []) (hr : a % 0xC30000 % 0x4100 + d.length ≤ 0x4100)
    (hf : a % 0xC30000 / 0x4100 < feedCount v.rnd.rate96) (hw : v.corWritable (a / 0xC30000) (a % 0xC30000 / 0x4100) = true) :
    corWindow (n + 1) a d v = v.corStore a (a % 0xC30000 / 0x4100) d := by
  rw [corWindow_oneRecord hd hr, if_pos (by simp [hf, hw])]

/-- A record that is not writable, or of a feed that the rate does not have (log 139), is discarded and counted. -/
theorem corWindow_discarded {n a : Nat} {d : Bytes} {v : State} (hd : d ≠ []) (hr : a % 0xC30000 % 0x4100 + d.length ≤ 0x4100)
    (hno : feedCount v.rnd.rate96 ≤ a % 0xC30000 / 0x4100 ∨ v.corWritable (a / 0xC30000) (a % 0xC30000 / 0x4100) = false) :
    corWindow (n + 1) a d v = { v with cor := { v.cor with wdiscardCnt := v.cor.wdiscardCnt + 1 } } := by
  rw [corWindow_oneRecord hd hr, if_neg (by rcases hno with hno | hno <;> simp [hno])]

/-- Settles O17: an open window passes the write to its store, which takes the bytes or counts the discard. -/
theorem windowWritesStoreTheirBytes : Obligations.WindowWritesStoreTheirBytes := by
  refine ⟨?img, ?imgDiscard, ?layout, ?layoutDiscard, ?route, ?routeDiscard, ?cor, ?corDiscard, ?readOnly⟩
  case img =>
    rintro t off d s v rfl ho hl hw hs
    exact exists_memory_of_memFill (f := fun m => { s.at t with boot := { (s.at t).boot with staging := m } })
      ((exec_imgWindowWrite_open ho hl hw).trans (congrArg _ (if_pos hs)))
  case imgDiscard =>
    rintro t off d s v rfl ho hl hw hs
    exact (exec_imgWindowWrite_open ho hl hw).trans (congrArg _ (if_neg hs))
  case layout =>
    rintro t off d s v rfl ho hl hw hm
    exact exists_memory_of_memFill (f := fun m => { s.at t with pan := { (s.at t).pan with staging := m } })
      ((exec_layoutWindowWrite_open ho hl hw).trans (congrArg _ (if_pos hm)))
  case layoutDiscard =>
    rintro t off d s v rfl ho hl hw hm
    exact (exec_layoutWindowWrite_open ho hl hw).trans (congrArg _ ((if_neg hm).trans (State.wdiscard_eq _)))
  case route =>
    rintro t off d s v rfl ho hl hw hf
    exact exists_memory_of_memFill (f := fun m => { s.at t with rte := { (s.at t).rte with staging := m } })
      ((exec_routeWindowWrite_open ho hl hw).trans (congrArg _ (if_neg (Bool.eq_false_iff.1 hf))))
  case routeDiscard =>
    rintro t off d s v rfl ho hl hw hf
    exact (exec_routeWindowWrite_open ho hl hw).trans (congrArg _ (if_pos hf))
  case cor =>
    rintro t off d s v rfl hl hw hd hr hfeed hcw
    exact (exec_corWindowWrite_open hl hw).trans (congrArg _ (corWindow_stored hd hr hfeed hcw))
  case corDiscard =>
    rintro t off d s v rfl hl hw hd hr hno
    exact (exec_corWindowWrite_open hl hw).trans (congrArg _ (corWindow_discarded hd hr hno))
  case readOnly =>
    rintro t off d s v rfl ho hw
    exact (exec_roWindowWrite_open ho hw).trans (congrArg _ (State.wdiscard_eq _))

end Sys2Proof.Machine
end

section
/-! SUPPORT. The feed-correction commands (R165 to R185): each of them is what its own rules answer where the spec admits it. -/

set_option Elab.async false

namespace Sys2Proof.Machine

/-! COR_WRITE. -/

theorem State.corStore_tick (u : State) (a f : Nat) (d : Bytes) : (u.corStore a f d).tick = u.tick := rfl

/-- The bytes of a COR_WRITE that lie in the named feed's own record (R178). -/
def corOwnBytes (p : Bytes) : Nat := min (rd16 p 8) (0x4100 - rd32 p 4)

/-- What COR_WRITE stores: the feed's own record takes what lies below 0x4100, the partner's record of a long feed the rest (R178). -/
def State.corWritten (u : State) (p : Bytes) : State :=
  let f := rd16 p 0
  let b := (u.feedCor f).incoming
  let k := corOwnBytes p
  let v := if k = 0 then u else u.corStore (corAddr b f (rd32 p 4)) f (slice p 12 k)
  if rd16 p 8 ≤ k then v else v.corStore (corAddr b (f + 1) (rd32 p 4 + k - 0x4000)) f (slice p (12 + k) (rd16 p 8 - k))

theorem State.corWritten_tick (u : State) (p : Bytes) : (u.corWritten p).tick = u.tick := by
  unfold State.corWritten
  dsimp only
  split_ifs <;> rfl

/-- An offset from 0x4100 on leaves no byte for the feed's own record. -/
theorem ite_corOwnBytes (p : Bytes) :
    (if rd32 p 4 < 0x4100 then min (rd16 p 8) (0x4100 - rd32 p 4) else 0) = corOwnBytes p := by
  unfold corOwnBytes
  split_ifs <;> omega

theorem corWriteRun_ok {i : CmdIn} {u : State} (hfeed : u.corFeedOk (rd16 i.body 0) = true) (hz : zeroAt i.body 2 2 = true)
    (hlo : 1 ≤ rd16 i.body 8) (hhi : rd16 i.body 8 ≤ 1024) (hz' : zeroAt i.body 10 2 = true)
    (htop : rd32 i.body 4 + rd16 i.body 8 ≤ (if isLong u.cor.longMask (rd16 i.body 0) then 0x8100 else 0x4100))
    (hfree : u.corFrozen (rd16 i.body 0) = false) : corWriteRun i u = .ok (u.corWritten i.body) := by
  unfold corWriteRun
  dsimp only
  rw [if_neg (by simp [hfeed, hz, hz', htop]; omega), if_neg (by simp [hfree]), ite_corOwnBytes]
  rfl

/-! COR_HINGE. -/

/-- The feeds of a COR_HINGE. -/
abbrev hingeFeeds (p : Bytes) : List Nat := maskFeeds (rdLE p 8 96) 768

/-- The feeds that COR_HINGE admits (R179): at least one, each of which a correction command may name. -/
def State.HingeAdmitted (u : State) (p : Bytes) : Prop :=
  zeroAt p 4 4 = true ∧ hingeFeeds p ≠ [] ∧ (∀ f ∈ hingeFeeds p, u.corFeedOk f = true) ∧ u.hingeFail (hingeFeeds p) = none

/-- In STAGED the incoming banks are current at once (R182). A mirrored COR_HINGE does not check them again, and any other finds that
they pass (R169, R316). -/
theorem corHingeRun_done {i : CmdIn} {u : State} (h : u.HingeAdmitted i.body) (hm : u.sys.mode = .staged) :
    corHingeRun i u = .done (u.corSwap (hingeFeeds i.body)) (leB 8 (2 ^ 64 - 1) ++ leB 4 0) (u.tick + 1) := by
  obtain ⟨hz, hne, hok, hpass⟩ := h
  unfold corHingeRun
  dsimp only
  rw [if_neg (by simp [hm]), if_neg (by simpa [hm, hz, hne] using hok), hpass, ite_self]
  exact if_pos (by simp [hm])

/-- Otherwise the request becomes pending, in place of those whose feeds it contains (R180). -/
theorem corHingeRun_defer {i : CmdIn} {u : State} {n : Nat} (h : u.HingeAdmitted i.body) (hr : u.rendering = true)
    (hfade : fadeOk (rd32 i.body 0) = true) (hb : u.boundary i u.firstHinge = .ok n)
    (hmeets : ∀ r ∈ u.cor.pend, r.meets (hingeFeeds i.body) = true → r.inside (hingeFeeds i.body) = true)
    (hroom : (u.cor.pend.filter fun r => !r.inside (hingeFeeds i.body)).length < 64) :
    corHingeRun i u = .defer (((u.cor.pend.filter fun r => r.inside (hingeFeeds i.body)).foldl State.corSupersede u).corRequest
      (hingeFeeds i.body) n (rd32 i.body 0) none i.ref) n := by
  obtain ⟨hz, hne, hok, hpass⟩ := h
  have hm := State.not_staged_of_rendering hr
  have hsplit := List.length_eq_length_filter_add (l := u.cor.pend) fun r => r.inside (hingeFeeds i.body)
  have hmix : (u.cor.pend.any fun r => r.meets (hingeFeeds i.body) && !r.inside (hingeFeeds i.body)) = false := by
    simpa using hmeets
  unfold hingeFeeds at *
  unfold corHingeRun
  dsimp only
  rw [if_neg (by simp [hr]), if_neg (by simpa [hfade, hz, hne] using hok), hpass, ite_self]
  dsimp only
  rw [if_neg (by simpa using hm), hb]
  dsimp only
  rw [if_neg (by simp [hmix]), if_neg (by simp; omega)]

/-! COR_GAIN. -/

/-- The parameters that COR_GAIN admits (R165): 1 to 64 entries, each of a feed that a correction command may name. -/
def State.CorGainAdmitted (u : State) (p : Bytes) : Prop :=
  1 ≤ rd8 p 0 ∧ rd8 p 0 ≤ 64 ∧ zeroAt p 1 3 = true ∧
    ∀ k < rd8 p 0, u.corFeedOk (rd16 p (4 + 8 * k)) = true ∧ zeroAt p (6 + 8 * k) 2 = true

/-- A feed's gain at once: the gain and the gain that COR_QUERY shows. -/
def State.setFeedGain (u : State) (f : Nat) (g : Int) : State := u.onFeedCor f fun c => { c with gain := Ramp.at g, gainSeen := g }

theorem corGainRun_admitted {i : CmdIn} {u : State} (h : u.CorGainAdmitted i.body) :
    corGainRun i u = scheduled i u
      ((List.range (rd8 i.body 0)).foldl (fun v k => v.setFeedGain (rd16 i.body (4 + 8 * k)) (rdS32 i.body (8 + 8 * k))) u)
      fun n => { u with ord := u.ord + 1, cor := { u.cor with gainPend := u.cor.gainPend ++ [(n, u.ord, corGains i.body)] } } := by
  obtain ⟨hlo, hhi, hz, hk⟩ := h
  have hentries : ((List.range (rd8 i.body 0)).all fun k =>
      u.corFeedOk (rd16 i.body (4 + 8 * k)) && zeroAt i.body (6 + 8 * k) 2) = true := by
    simpa using hk
  unfold corGainRun
  dsimp only
  rw [hentries, hz, if_neg (by simp [hlo, hhi]), corGains, List.foldl_map]
  rfl

theorem foldl_setFeedGain_tick (l : List Nat) (f : Nat → Nat) (g : Nat → Int) (u : State) :
    (l.foldl (fun v k => v.setFeedGain (f k) (g k)) u).tick = u.tick :=
  List.foldlRecOn l _ (motive := fun w : State => w.tick = u.tick) rfl fun _ hw _ _ => hw

/-! COR_LONG. -/

/-- Pair `m` of feeds at the identity: the records of its two feeds in both banks, and their biquads at rest (R167). -/
def State.forgetPair (u : State) (m : Nat) : State :=
  let clear (c : FeedCor) : FeedCor := (c.clearBiq 0).clearBiq 1
  let w := { u with cor := { u.cor with records := corForget (corForget u.cor.records (2 * m)) (2 * m + 1) } }
  (w.onFeedCor (2 * m) clear).onFeedCor (2 * m + 1) clear

/-- The pairs whose long state a mask changes. -/
def State.longChanged (u : State) (mask : Nat) : List Nat :=
  (List.range 384).filter fun m => bit mask m != bit u.cor.longMask m

/-- What COR_LONG does: the changed pairs return to the identity, and the mask is the new one (R167). -/
def State.setLongMask (u : State) (mask : Nat) : State :=
  let v := (u.longChanged mask).foldl State.forgetPair u
  { v with cor := { v.cor with longMask := mask } }

theorem State.setLongMask_tick (u : State) (mask : Nat) : (u.setLongMask mask).tick = u.tick :=
  List.foldlRecOn (u.longChanged mask) State.forgetPair (motive := fun w : State => w.tick = u.tick) rfl fun _ hw _ _ => hw

/-- The mask of long feeds names only feeds of the rate: 192 pairs at 96 kHz, and 384, as many as it has bits, at 48 kHz. -/
theorem longMask_inRate {r96 : Bool} {mask : Nat} (h : r96 = true → mask < 2 ^ 192) :
    (decide (feedCount r96 / 2 < 384) && decide (2 ^ 192 ≤ mask)) = false := by
  cases r96 with
  | false => rfl
  | true => exact Bool.and_eq_false_iff.2 (.inr (decide_eq_false (Nat.not_le.2 (h rfl))))

/-- Where the spec admits COR_LONG the changed pairs return to the identity; the current bank and the host-dirty state stay (log 127). -/
theorem corLongRun_ok {i : CmdIn} {u : State} (hm : u.sys.mode = .staged) (hmask : u.rnd.rate96 = true → rdLE i.body 0 48 < 2 ^ 192)
    (hfree : ∀ m < 384, bit (rdLE i.body 0 48) m ≠ bit u.cor.longMask m →
      foldOf u.cor.folds (2 * m) = none ∧ foldOf u.cor.folds (2 * m + 1) = none) :
    corLongRun i u = .ok (u.setLongMask (rdLE i.body 0 48)) := by
  have hgroups : ((List.range 384).filter fun m => bit (rdLE i.body 0 48) m != bit u.cor.longMask m).any
      (fun m => (foldOf u.cor.folds (2 * m)).isSome || (foldOf u.cor.folds (2 * m + 1)).isSome) = false := by
    simpa using hfree
  unfold corLongRun
  dsimp only
  rw [if_neg (by simp [hm]), longMask_inRate hmask, if_neg Bool.false_ne_true, hgroups, if_neg Bool.false_ne_true]
  rfl

/-! COR_FOLD. -/

/-- The target and the members of a fold group, in the order of the packet. -/
def foldFeeds (p : Bytes) : List Nat := rd16 p 2 :: (List.range (rd8 p 1)).map fun k => rd16 p (4 + 2 * k)

theorem corFoldRun_delete {i : CmdIn} {u : State} (hm : u.sys.mode = .staged) (hg : rd8 i.body 0 < 64) (hn : rd8 i.body 1 = 0) :
    corFoldRun i u = .ok { u with cor := { u.cor with folds := tabSet none u.cor.folds (rd8 i.body 0) none } } := by
  unfold corFoldRun
  dsimp only
  rw [if_neg (by simp [hm]), hn, if_neg (by simp [hg]), if_pos rfl]

/-- Every feed of a group exists, lies in the target's shard, and belongs to no other group (R171). -/
theorem corFoldRun_define {i : CmdIn} {u : State} (hm : u.sys.mode = .staged) (hg : rd8 i.body 0 < 64) (hlo : 1 ≤ rd8 i.body 1)
    (hhi : rd8 i.body 1 ≤ (if u.rnd.rate96 then 11 else 23))
    (hfeeds : ∀ f ∈ foldFeeds i.body, u.corFeedOk f = true ∧
      shardOfFeed u.rnd.rate96 f = shardOfFeed u.rnd.rate96 (rd16 i.body 2) ∧
      ((foldOf u.cor.folds f).all fun g => g.1 == rd8 i.body 0) = true)
    (hd : distinct (foldFeeds i.body) = true) :
    corFoldRun i u = .ok { u with cor := { u.cor with
      folds := tabSet none u.cor.folds (rd8 i.body 0)
        (some { target := rd16 i.body 2, members := (List.range (rd8 i.body 1)).map fun k => rd16 i.body (4 + 2 * k) }) } } := by
  have hadmits {ok : Bool} (h : ok = true) :
      ¬ (decide (64 ≤ rd8 i.body 0) || decide ((if u.rnd.rate96 then 11 else 23) < rd8 i.body 1) || (rd8 i.body 1 != 0 && !ok)) = true := by
    simpa [h, hg] using hhi
  unfold foldFeeds at *
  unfold corFoldRun
  dsimp only
  rw [if_neg (by simp [hm]), hd, Bool.and_true, if_neg (hadmits (List.all_eq_true.2 fun f hf => ?admitted)), if_neg (by omega)]
  case admitted =>
    obtain ⟨hok, hshard, hown⟩ := hfeeds f hf
    rw [hok, hshard]
    cases hgroup : foldOf u.cor.folds f with
    | none => simp
    | some g => simpa [hgroup] using hown

/-! COR_QUERY. -/

theorem corQueryRun_done {i : CmdIn} {u : State} (hf : rd16 i.body 0 < feedCount u.rnd.rate96) (hz : zeroAt i.body 2 2 = true) :
    corQueryRun i u = .done u (leB 4 (u.corStat (rd16 i.body 0)) ++ leI 4 (u.feedCor (rd16 i.body 0)).gainSeen ++
      leB 8 (match u.cor.pend.find? fun r => r.feeds.contains (rd16 i.body 0) with
        | some r => r.start
        | none => 2 ^ 64 - 1)) (u.tick + 1) := by
  unfold corQueryRun
  exact if_neg (by simp [hf, hz])

/-- Settles O7: each command by what its own rules answer where the spec admits it. -/
theorem correctionCommandsComplete : Obligations.CorrectionCommandsComplete := by
  refine ⟨?write, ?hingeNow, ?hingeLater, ?gainNow, ?gainLater, ?long, ?foldDelete, ?foldDefine, ?query⟩
  case write =>
    exact completes_of_ok (fun _ _ => rfl) (fun _ _ => State.corWritten_tick ..) fun i u ⟨hfeed, hz, hlo, hhi, hz', htop, hfree⟩ =>
      corWriteRun_ok hfeed hz hlo hhi hz' htop hfree
  case hingeNow =>
    exact completes_of_run (fun _ _ => rfl) fun i u ⟨hm, hz, hne, hok, hpass⟩ => by
      dsimp only
      exact corHingeRun_done ⟨hz, hne, hok, hpass⟩ hm
  case hingeLater =>
    exact defers_of_run (fun _ _ => rfl) fun i u n ⟨hr, _, hfade, hz, hne, hok, hpass, hb, hmeets, hroom⟩ =>
      corHingeRun_defer ⟨hz, hne, hok, hpass⟩ hr hfade hb hmeets hroom
  case gainNow =>
    exact completes_of_ok (fun _ _ => rfl) (fun _ _ => foldl_setFeedGain_tick ..) fun i u ⟨hlo, hhi, hz, hk, hs⟩ =>
      (corGainRun_admitted ⟨hlo, hhi, hz, hk⟩).trans (scheduled_now hs)
  case gainLater =>
    exact completesFor_of_run (fun _ _ => rfl) fun i u n ⟨hlo, hhi, hz, hk, hs, hb⟩ =>
      (corGainRun_admitted ⟨hlo, hhi, hz, hk⟩).trans (scheduled_later hs hb)
  case long =>
    exact completes_of_ok (fun _ _ => rfl) (fun i u => State.setLongMask_tick u (rdLE i.body 0 48)) fun i u ⟨hm, hmask, hfree⟩ =>
      corLongRun_ok hm hmask hfree
  case foldDelete =>
    exact completes_of_ok (fun _ _ => rfl) (fun _ _ => rfl) fun i u ⟨hm, hg, hn⟩ => corFoldRun_delete hm hg hn
  case foldDefine =>
    exact completes_of_ok (fun _ _ => rfl) (fun _ _ => rfl) fun i u ⟨hm, hg, hlo, hhi, hfeeds, hd⟩ =>
      corFoldRun_define hm hg hlo hhi hfeeds hd
  case query => exact completes_of_run (fun _ _ => rfl) fun i u ⟨hf, hz⟩ => corQueryRun_done hf hz

end Sys2Proof.Machine
end

section
/-! SUPPORT. The calibration commands (R191 to R219): each of them is scheduled with the one effect that its opcode has at a boundary,
where the spec admits it. -/

set_option Elab.async false

namespace Sys2Proof.Machine

/-! What a calibration command does leaves the tick. -/

theorem State.capBind_tick (u : State) (p : Bytes) : (u.capBind p).tick = u.tick := by
  unfold State.capBind
  dsimp only
  split_ifs <;> rfl

theorem State.unenroll_tick (u : State) (f : Nat) : (u.unenroll f).tick = u.tick := by
  unfold State.unenroll
  split
  · rfl
  · exact List.foldlRecOn _ _ (motive := fun w : State => w.tick = u.tick) rfl fun _ hw _ _ => hw

theorem State.enrollOne_tick (u : State) (n : Nat) (e : Nat × Nat × Nat × Nat) : (u.enrollOne n e).tick = u.tick := by
  unfold State.enrollOne
  dsimp only
  split_ifs
  · exact State.unenroll_tick ..
  · split
    · split_ifs <;> rfl
    · split <;> rfl

theorem foldl_enrollOne_tick (l : List Nat) (n : Nat) (e : Nat → Nat × Nat × Nat × Nat) (u : State) :
    (l.foldl (fun v k => v.enrollOne n (e k)) u).tick = u.tick :=
  List.foldlRecOn l _ (motive := fun w : State => w.tick = u.tick) rfl fun _ hw _ _ => (State.enrollOne_tick ..).trans hw

theorem State.baselineAt_tick (u : State) (n : Nat) (p : Bytes) : (u.baselineAt n p).tick = u.tick := by
  unfold State.baselineAt
  refine List.foldlRecOn _ _ (motive := fun w : State => w.tick = u.tick) rfl fun _ hw _ _ => ?_
  split <;> exact hw

theorem State.vetoAt_tick (u : State) (n seq : Nat) : (u.vetoAt n seq).tick = u.tick := by
  unfold State.vetoAt
  dsimp only
  split
  · rfl
  · split_ifs
    · split <;> rfl
    · split <;> rfl
    · rfl

theorem State.calModeAt_tick (u : State) (op : Nat) (p : Bytes) : (u.calModeAt op p).tick = u.tick := by
  unfold State.calModeAt
  dsimp only
  split_ifs <;> simp

theorem State.calAt_tick (u : State) (op n : Nat) (p : Bytes) : (u.calAt op n p).tick = u.tick := by
  unfold State.calAt
  split_ifs
  · exact State.capBind_tick ..
  · exact foldl_enrollOne_tick ..
  · rfl
  · exact State.baselineAt_tick ..
  · exact State.vetoAt_tick ..
  · exact State.calModeAt_tick ..

/-! From a command's own rules to its statement. -/

/-- A calibration command that its own rules schedule has the effect of its opcode, at once or at its boundary. -/
theorem calCompletes_of_run {op : Nat} {len : Nat → Bytes → Bool} {run : CmdIn → State → Verdict} {mk : Hdr → Bytes → Instr}
    {ok : CmdIn → State → Prop} {eff : CmdIn → State → State}
    (hk : ∀ h p, keywayRow (mk h p) = some (calCmd op len run, h, p))
    (hr : ∀ i u, ok i u → run i u = scheduled i u (u.calAt i.op u.tick i.body) fun n => u.schedule n i)
    (he : ∀ i u, u.calAt op u.tick i.body = eff i u) : CalCompletes (calCmd op len run) mk ok eff :=
  cal_completes _ op len run rfl mk ok eff (fun h p s => exec_keyway (hk h p) s) (fun i u _ => hr i u) fun i u hop _ => by
    rw [hop, ← he i u]
    exact ⟨rfl, State.calAt_tick ..⟩

theorem calRun_admitted {ok : CmdIn → State → Bool} {i : CmdIn} {u : State} (h : ok i u = true) :
    calRun ok i u = scheduled i u (u.calAt i.op u.tick i.body) fun n => u.schedule n i :=
  if_neg (by simp [h])

/-- A mode command waits for its boundary: no mode that one starts from is STAGED or LOCKING (R216, R560). -/
theorem calModeRun_done {m : Mode} {ok : CmdIn → State → Bool} {i : CmdIn} {u : State} {n : Nat} (hm : u.sys.mode = m)
    (hstaged : (m == .staged || m == .locking) = false) (hok : ok i u = true) (hb : u.boundary i u.firstCut = .ok n) :
    calModeRun m ok i u = .done (u.schedule n i) [] n := by
  unfold calModeRun
  rw [if_neg (by simp [hm]), calRun_admitted hok, scheduled_later (by rw [State.staged, hm, hstaged]) hb]

/-! The parameters of each command. -/

/-- A captured flow is an enabled audio flow locked to media time, and has the channel (R199). -/
theorem capOk_of_params {i : CmdIn} {u : State} (hc : rd8 i.body 0 < 64) (hch : rd8 i.body 4 < 64) (hr : rd8 i.body 1 = 0)
    (hz : zeroAt i.body 5 3 = true)
    (hflow : rd16 i.body 2 = 0xFFFF ∨ rd16 i.body 2 < 1024 ∧
      (let r := tabGet [] (u.flowsAt (u.calBound i)) (rd16 i.body 2)
       frOn r = true ∧ frKind r = 0 ∧ fiAsync r = false ∧ rd8 i.body 4 < frNch r)) : capOk i u = true := by
  unfold capOk
  dsimp only at hflow ⊢
  rw [Bool.and_eq_true]
  refine ⟨by simp [hc, hch, hr, hz], ?_⟩
  rcases hflow with hnone | ⟨hf, hon, hkind, hasync, hnch⟩
  · simp [hnone]
  · simp [hf, hon, hkind, hasync, hnch]

theorem enrollParams_of_params {i : CmdIn} {u : State} (hlo : 1 ≤ rd8 i.body 0) (hhi : rd8 i.body 0 ≤ 64)
    (hz : zeroAt i.body 1 3 = true) (hk : ∀ k < rd8 i.body 0, u.enrollOk (u.calBound i) (enrollAt i.body k) = true) : enrollParams i u = true := by
  have hentries : ((List.range (rd8 i.body 0)).all fun k => u.enrollOk (u.calBound i) (enrollAt i.body k)) = true := by
    simpa using hk
  unfold enrollParams
  dsimp only
  rw [hentries]
  simp [hlo, hhi, hz]

/-- The parameters that CAL_POLICY admits (R219). -/
def PolicyAdmitted (p : Bytes) : Prop :=
  inRange 1200 4000 (rdS16 p 0) = true ∧ inRange (-9000) (-5400) (rdS16 p 2) = true ∧ inRange (-900) 0 (rdS16 p 4) = true ∧
    inRange 0 600 (rdS16 p 6) = true ∧ inRange 10 600 (rdS16 p 8) = true ∧ inRange 1 300 (rdS16 p 10) = true ∧
    inRange 600 6000 (rdS16 p 12) = true ∧ inRange 0 3000 (rdS16 p 14) = true ∧ inRange 300 3000 (rdS16 p 16) = true ∧
    (1 ≤ rd8 p 18 ∧ rd8 p 18 ≤ 64) ∧ rd8 p 19 = 0 ∧ (1 ≤ rd16 p 20 ∧ rd16 p 20 ≤ 600) ∧ (10 ≤ rd16 p 22 ∧ rd16 p 22 ≤ 3600) ∧
    (1000 ≤ rd16 p 24 ∧ rd16 p 24 ≤ 60000) ∧ fadeOk (rd16 p 26) = true ∧ (10 ≤ rd16 p 28 ∧ rd16 p 28 ≤ 3600) ∧
    ∀ b < 8, inRange 0 2000 (rdS16 p (32 + 2 * b)) = true

theorem policyOk_of_admitted {p : Bytes} (h : PolicyAdmitted p) : policyOk p = true := by
  obtain ⟨hmargin, hceil, hgmin, hgmax, hrate, hdead, hconf, hqblk, hsuspect, hnavg, hz, hperiod, hhold, hlead, hfade,
    hage, hbands⟩ := h
  have hk : ((List.range 8).map fun b => rdS16 p (32 + 2 * b)).all (inRange 0 2000) = true := by
    simpa using hbands
  unfold policyOk policyOf
  dsimp only
  rw [hmargin, hceil, hgmin, hgmax, hrate, hdead, hconf, hqblk, hsuspect, hz, hfade, hk]
  simp [inRange, hnavg, hperiod, hhold, hlead, hage]

theorem baselineOk_of_params {i : CmdIn} {u : State} (hm : rd8 i.body 0 ≤ 2) (hr : rd8 i.body 1 = 0)
    (hz : rd8 i.body 0 = 1 ∨ zeroAt i.body 4 16 = true)
    (hfeed : if rd16 i.body 2 = 0xFFFF then rd8 i.body 0 ≠ 1 else u.enrolledAt (rd16 i.body 2) (u.calBound i) = true) :
    baselineOk i u = true := by
  unfold baselineOk
  dsimp only
  rw [Bool.and_eq_true]
  refine ⟨by simpa [hm, hr] using hz, ?_⟩
  split_ifs at hfeed ⊢ with hall
  · simpa using hfeed
  · exact hfeed

/-- A PENDING adoption, and a DONE one that may still be reverted, may be vetoed (R214). -/
theorem calVetoRun_admitted {i : CmdIn} {u : State} {r : CalReport} (hr : u.report (rd32 i.body 0) = some r)
    (hs : r.status = 0 ∨ u.revertible r = true) :
    calVetoRun i u = scheduled i u (u.calAt i.op u.tick i.body) fun n => u.schedule n i := by
  have hmay : ¬ (r.status != 0 && !u.revertible r) = true := by
    rcases hs with hs | hs <;> simp [hs]
  unfold calVetoRun
  rw [hr]
  dsimp only
  rw [if_neg hmay, ite_self]
  exact calRun_admitted rfl

theorem calReportRun_done {i : CmdIn} {u : State} {r : CalReport} (hr : u.report (rd32 i.body 0) = some r) :
    calReportCmd.run i u = .done u r.bytes (u.tick + 1) := by
  unfold calReportCmd
  dsimp only
  rw [hr]

theorem calQueryRun_done {i : CmdIn} {u : State} (hf : rd16 i.body 0 < feedCount u.rnd.rate96) (hz : zeroAt i.body 2 2 = true) :
    calQueryRun i u = .done u (u.calSeen (rd16 i.body 0)) (u.tick + 1) := by
  unfold calQueryRun
  exact if_neg (by simp [hf, hz])

/-- Settles O8: each command by what its own rules answer where the spec admits it. -/
theorem calibrationCommandsComplete : Obligations.CalibrationCommandsComplete := by
  refine ⟨?capture, ?enroll, ?policy, ?baseline, ?veto, ?start, ?stop, ?sweepStart, ?sweepStop, ?report, ?query⟩
  case capture =>
    exact calCompletes_of_run (fun _ _ => rfl) (fun i u ⟨hc, hch, hr, hz, hflow⟩ => calRun_admitted (capOk_of_params hc hch hr hz hflow))
      fun _ _ => rfl
  case enroll =>
    exact calCompletes_of_run (fun _ _ => rfl) (fun i u ⟨hlo, hhi, hz, hk⟩ => calRun_admitted (enrollParams_of_params hlo hhi hz hk))
      fun _ _ => rfl
  case policy =>
    exact calCompletes_of_run (fun _ _ => rfl) (fun i u h => calRun_admitted (policyOk_of_admitted h)) fun _ _ => rfl
  case baseline =>
    exact calCompletes_of_run (fun _ _ => rfl) (fun i u ⟨hm, hr, hz, hfeed⟩ => calRun_admitted (baselineOk_of_params hm hr hz hfeed))
      fun _ _ => rfl
  case veto =>
    exact calCompletes_of_run (fun _ _ => rfl) (fun i u ⟨r, hr, hs⟩ => calVetoRun_admitted hr hs) fun _ _ => rfl
  case start => exact completesFor_of_run (fun _ _ => rfl) fun i u n ⟨hm, hb⟩ => calModeRun_done hm rfl rfl hb
  case stop => exact completesFor_of_run (fun _ _ => rfl) fun i u n ⟨hm, hb⟩ => calModeRun_done hm rfl rfl hb
  case sweepStart =>
    exact completesFor_of_run (fun _ _ => rfl) fun i u n ⟨hm, hlevel, hz, hb⟩ =>
      calModeRun_done hm rfl (Bool.and_eq_true_iff.2 ⟨hlevel, hz⟩) hb
  case sweepStop => exact completesFor_of_run (fun _ _ => rfl) fun i u n ⟨hm, hb⟩ => calModeRun_done hm rfl rfl hb
  case report =>
    refine completes_of_run (fun _ _ => rfl) fun i u ⟨r, hr⟩ => ?_
    rw [hr]
    exact calReportRun_done hr
  case query => exact completes_of_run (fun _ _ => rfl) fun i u ⟨hf, hz⟩ => calQueryRun_done hf hz

end Sys2Proof.Machine
end

section
/-! SUPPORT. The events of calibration (R202 to R218): each of them acts where its conditions hold, and the round is held by the twin
that decides. -/

set_option Elab.async false

namespace Sys2Proof.Machine

/-! Blocks (R202, R203). -/

theorem execCalAlignStart_aligns {t f b : Nat} {s : State} {c : CalFeed} (hf : (s.at t).calFeed f = some c)
    (ht : (s.at t).ticking = true) (hl : (s.at t).dispatchable 1 = true) (hstop : c.stopped = false)
    (hdue : (s.at t).blockDue c b = true) (hnew : (s.at t).cal.aligned.contains (f, b) = false)
    (hlost : (s.at t).blockLost c b = false) (hin : (s.at t).blockIn c b = true) :
    execCalAlignStart t f b s = .next ((s.at t).alignBlock f c b) := by
  unfold execCalAlignStart
  dsimp only
  rw [hf]
  dsimp only
  rw [ht, hl, hstop, hdue, hnew, hlost, hin]
  rfl

theorem execCalBlockAbandon_abandons {t f b : Nat} {s : State} {c : CalFeed} (hf : (s.at t).calFeed f = some c)
    (hdue : (s.at t).blockDue c b = true) (hlost : (s.at t).blockLost c b = true) :
    execCalBlockAbandon t f b s = .next ((s.at t).abandonBlock f b) := by
  unfold execCalBlockAbandon
  dsimp only
  rw [hf]
  dsimp only
  rw [hdue, hlost]
  rfl

/-! Capture channels (R215). -/

/-- A channel that is no longer live is recorded as CAL_EVT bit 4. -/
theorem execCaptureNotLive_ends {t ch : Nat} {s : State} (hlive : ((s.at t).cap ch).live = true)
    (hlast : ((s.at t).cap ch).last.all (fun l => decide (l + 100000000 ≤ (s.at t).now)) = true) :
    execCaptureNotLive t ch s = .next (let v := s.at t
      State.calEvt { v with cal := { v.cal with caps := tabSet CapChan.reset v.cal.caps ch { v.cap ch with live := false } } } 4) :=
  congrArg _ (if_pos (Bool.and_eq_true_iff.2 ⟨hlive, hlast⟩))

/-! The decision round (R208, R218). -/

/-- The round of boundary `s.tick`: each enrolled feed in turn, and what the twin's tick shows of them afterwards. -/
def State.decisionRound (s : State) : State :=
  let w := ((s.cal.feeds.filter fun e => e.2.isSome).map (·.1)).foldl (fun w f => w.roundFeed s.tick f)
    { s with cal := { s.cal with lastRound := some s.tick } }
  w.onOpen s.tick fun o => { o with cal := { o.cal with feeds := w.cal.feeds, lastSeq := w.cal.lastSeq } }

theorem execCalDecisionRound_holds {s : State} (hm : s.sys.mode = .liveProbe) (ht : s.ticking = true) (hh : s.holdsRounds = true)
    (hr : s.cal.lastRound ≠ some s.tick) (hp : 16 * s.tick % (s.cal.policy.period * s.fs) = 0) :
    execCalDecisionRound s = .next s.decisionRound :=
  congrArg _ (if_neg (by simp [hm, ht, hh, hr, hp]))

/-- No round outside LIVE_PROBE, in a twin that does not decide, or twice at one boundary. -/
theorem execCalDecisionRound_idle {s : State} (h : s.sys.mode ≠ .liveProbe ∨ s.holdsRounds = false ∨ s.cal.lastRound = some s.tick) :
    execCalDecisionRound s = .next s := by
  refine congrArg _ (if_pos ?_)
  rcases h with hm | hh | hr
  · simp [hm]
  · simp [hh]
  · simp [hr]

/-- Settles O33: each event by what it does where its conditions hold. -/
theorem calibrationEventsAct : Obligations.CalibrationEventsAct := by
  refine ⟨?align, ?abandon, ?notLive, ?round, ?noRound⟩
  case align =>
    rintro t f b s c v rfl hf ht hl hstop hdue hnew hlost hin
    exact execCalAlignStart_aligns hf ht hl hstop hdue hnew hlost hin
  case abandon =>
    rintro t f b s c v rfl hf hdue hlost
    exact execCalBlockAbandon_abandons hf hdue (decide_eq_true hlost)
  case notLive =>
    rintro t ch s v rfl hlive hlast
    exact execCaptureNotLive_ends hlive hlast
  case round =>
    intro s hm ht hh hr hp
    exact execCalDecisionRound_holds hm ht hh hr hp
  case noRound =>
    intro s h
    exact execCalDecisionRound_idle h

end Sys2Proof.Machine
end

section
/-! SUPPORT. The deadbolt's settings stand in their ranges from reset on (R291, R292, R549, R550): every command keeps them there, and a
reset puts them back to the values of their registers. -/

set_option Elab.async false

namespace Sys2Proof.Machine

/-! A deadbolt without listed settings. -/

/-- Without a listed setting every register of the deadbolt reads as at reset, inside its range. -/
theorem State.DbltCleared.dbltSafe {s : State} (h : s.DbltCleared) : s.DbltSafe := by
  obtain ⟨hset, -⟩ := h
  refine ⟨by rw [hset]; rfl, fun off ho => ?_⟩
  rw [State.dbltGet_congr (s := State.reset) hset]
  exact reset_inRange off ho

/-- Every command keeps the deadbolt safe: those that end in no reset guard it, and a reset clears it. -/
theorem exec_dbltSafe {c : Instr} {s t : State} (hs : s.DbltSafe) (h : exec c s = .next t) : t.DbltSafe := by
  cases hr : endsInReset c with
  | false =>
    obtain ⟨-, -, hsafe, -⟩ := exec_guarded c s hr t h
    exact hsafe hs
  | true =>
    rcases exec_reset c s hr t h with ⟨-, -, hsafe, -, -⟩ | hres
    · exact hsafe hs
    · exact hres.cleared.dbltSafe

/-- Settles O39: the settings are those of a cleared deadbolt, the byte stores are empty, and the mode is COLD. -/
theorem resetMeetsTheInvariants : Obligations.ResetMeetsTheInvariants := by
  have hcleared : State.reset.DbltCleared := ⟨rfl, rfl⟩
  have hcold : State.reset.rendering = false := rfl
  exact ⟨hcleared.dbltSafe, rfl, fun hr => absurd hr (by simp [hcold])⟩

/-- Settles O40: a step idles, or runs the front command, which keeps the deadbolt safe. -/
theorem deadboltStaysSafe : Obligations.DeadboltStaysSafe := by
  intro s t hs h
  unfold step at h
  split at h
  · cases h; exact hs
  next c rest _ => exact exec_dbltSafe (s := { s with pending := rest }) hs h

end Sys2Proof.Machine
end

section
/-! SUPPORT. The port guards over many frames (R301): the tokens of a media port pay for what passes, and time refills them up to the
bucket's size. -/

set_option Elab.async false

namespace Sys2Proof.Machine

/-! The bucket of a media port. -/

theorem State.tokens_le (s : State) (port : Nat) : s.tokens port ≤ 65536 * 8000 := Nat.min_le_left _ _

theorem State.bwCap_congr {s t : State} (h : t.dblt.settings = s.dblt.settings) (port : Nat) : t.bwCap port = s.bwCap port :=
  State.dbltGet_congr h _

/-- Tokens that are set to no more than the port holds are its tokens. -/
theorem State.tokens_setTokens {s : State} {port tok : Nat} (h : tok ≤ s.tokens port) : (s.setTokens port tok).tokens port = tok := by
  have hfull := h.trans (s.tokens_le port)
  unfold State.tokens State.setTokens
  split_ifs <;> simp [Nat.min_eq_right hfull]

theorem State.setTokens_bwCap (s : State) (port tok p : Nat) : (s.setTokens port tok).bwCap p = s.bwCap p :=
  State.bwCap_congr (by unfold State.setTokens; dsimp only; split_ifs <;> rfl) p

theorem State.wlDrop_bwCap (s : State) (port p : Nat) : (s.wlDrop port).bwCap p = s.bwCap p :=
  State.bwCap_congr (by unfold State.wlDrop; dsimp only; split_ifs <;> rfl) p

theorem State.capDrop_bwCap (s : State) (port p : Nat) : (s.capDrop port).bwCap p = s.bwCap p :=
  State.bwCap_congr (by unfold State.capDrop; dsimp only; split_ifs <;> rfl) p

/-- What a port's tokens are computed from. -/
theorem State.tokens_congr {s t : State} (hset : t.dblt.settings = s.dblt.settings) (hnow : t.now = s.now)
    (hbuckets : (t.dblt.tokA, t.dblt.fillA, t.dblt.tokB, t.dblt.fillB) = (s.dblt.tokA, s.dblt.fillA, s.dblt.tokB, s.dblt.fillB))
    (port : Nat) : t.tokens port = s.tokens port := by
  simp only [Prod.mk.injEq] at hbuckets
  obtain ⟨htokA, hfillA, htokB, hfillB⟩ := hbuckets
  unfold State.tokens
  rw [State.bwCap_congr hset, hnow, htokA, hfillA, htokB, hfillB]

theorem State.wlDrop_tokens (s : State) (port p : Nat) : (s.wlDrop port).tokens p = s.tokens p := by
  unfold State.wlDrop
  dsimp only
  split_ifs <;> exact State.tokens_congr rfl rfl rfl p

theorem State.capDrop_tokens (s : State) (port p : Nat) : (s.capDrop port).tokens p = s.tokens p := by
  unfold State.capDrop
  dsimp only
  split_ifs <;> exact State.tokens_congr rfl rfl rfl p

/-- In the time that passes a bucket takes no more tokens than the cap admits. -/
theorem State.tokens_at_le (s : State) (t port : Nat) :
    (s.at t).tokens port ≤ s.tokens port + s.bwCap port * ((s.at t).now - s.now) := by
  have hnow : s.now ≤ (s.at t).now := Nat.le_max_left _ _
  have key (full tok fill : Nat) : min full (tok + s.bwCap port * ((s.at t).now - fill)) ≤
      min full (tok + s.bwCap port * (s.now - fill)) + s.bwCap port * ((s.at t).now - s.now) := by
    have hsplit : s.bwCap port * ((s.at t).now - fill) ≤ s.bwCap port * (s.now - fill) + s.bwCap port * ((s.at t).now - s.now) := by
      rw [← Nat.mul_add]
      exact Nat.mul_le_mul_left _ (by omega)
    omega
  exact key _ _ _

/-! The guard, frame after frame. -/

/-- The guard of a capped port takes the tokens of what it passes, and neither moves time nor changes the cap. -/
theorem State.portGuard_pays {s : State} {port : Nat} (hp : port < 2) (hc : s.bwCap port ≠ 0) (dst dport len : Nat) (exempt : Bool)
    {g : Bool × State} (hg : s.portGuard port dst dport len exempt false = g) :
    (if g.1 then 8000 * len else 0) + g.2.tokens port ≤ s.tokens port ∧ g.2.now = s.now ∧ g.2.bwCap port = s.bwCap port := by
  unfold State.portGuard at hg
  rw [if_neg (by omega : ¬2 ≤ port)] at hg
  simp only [hc, Bool.false_eq_true, if_false] at hg
  split_ifs at hg with hwl hfew <;> subst hg
  · exact ⟨by simp [State.wlDrop_tokens], by simp, State.wlDrop_bwCap ..⟩
  · refine ⟨?_, by simp, (State.capDrop_bwCap ..).trans (State.setTokens_bwCap ..)⟩
    simp [State.capDrop_tokens, State.tokens_setTokens le_rfl]
  · refine ⟨?_, by simp, State.setTokens_bwCap ..⟩
    rw [State.tokens_setTokens (Nat.sub_le ..)]
    simp only [if_true]
    omega

/-- A frame, as its time, destination, length and exemption, is offered to the guard of a port: the state that follows, and the sum of
what has passed so far, in units of 1/8,000 byte. -/
def offerFrame (port : Nat) (a : State × Nat) (e : Nat × Nat × Nat × Nat × Bool) : State × Nat :=
  let g := (a.1.at e.1).portGuard port e.2.1 e.2.2.1 e.2.2.2.1 e.2.2.2.2 false
  (g.2, if g.1 then a.2 + 8000 * e.2.2.2.1 else a.2)

/-- Since `s`, what has passed and the tokens that are left are paid for by the tokens of `s` and the time that has passed. -/
structure Metered (s : State) (port : Nat) (a : State × Nat) : Prop where
  later : s.now ≤ a.1.now
  cap : a.1.bwCap port = s.bwCap port
  paid : a.2 + a.1.tokens port ≤ s.tokens port + s.bwCap port * (a.1.now - s.now)

theorem Metered.start (s : State) (port : Nat) : Metered s port (s, 0) := ⟨le_rfl, rfl, by simp⟩

theorem Metered.offerFrame {s : State} {port : Nat} {a : State × Nat} (h : Metered s port a) (hp : port < 2) (hc : s.bwCap port ≠ 0)
    (e : Nat × Nat × Nat × Nat × Bool) : Metered s port (offerFrame port a e) := by
  obtain ⟨hlater, hcap, hpaid⟩ := h
  have hrefill := a.1.tokens_at_le e.1 port
  have hnow : a.1.now ≤ (a.1.at e.1).now := Nat.le_max_left _ _
  have hsame : (a.1.at e.1).bwCap port = a.1.bwCap port := rfl
  unfold Machine.offerFrame
  generalize hg : (a.1.at e.1).portGuard port e.2.1 e.2.2.1 e.2.2.2.1 e.2.2.2.2 false = g
  obtain ⟨hpays, hgnow, hgcap⟩ := State.portGuard_pays hp (by rwa [hsame, hcap]) _ _ _ _ hg
  have htime : s.bwCap port * (a.1.now - s.now) + s.bwCap port * ((a.1.at e.1).now - a.1.now) =
      s.bwCap port * ((a.1.at e.1).now - s.now) := by
    rw [← Nat.mul_add]
    congr 1
    omega
  refine ⟨?_, ?_, ?_⟩
  · dsimp only; omega
  · exact hgcap.trans (hsame.trans hcap)
  · rw [hcap] at hrefill
    dsimp only
    rw [hgnow]
    split_ifs at hpays ⊢ <;> omega

/-- Settles O58: every frame offered keeps what has passed paid for, and no bucket holds more than its size. -/
theorem portCapBoundsThroughput : Obligations.PortCapBoundsThroughput := by
  intro s port frames hp hc
  have hmeter : Metered s port (frames.foldl (offerFrame port) (s, 0)) :=
    List.foldlRecOn frames _ (motive := Metered s port) (.start s port) fun _ ha e _ => ha.offerFrame hp hc e
  exact ⟨(Nat.le_add_right ..).trans hmeter.paid, State.tokens_le ..⟩

end Sys2Proof.Machine
end

section
/-! SUPPORT. The whitelist at a media port (R300): what the guard does with a frame by its destination, and what leaves the port. -/

set_option Elab.async false

namespace Sys2Proof.Machine

/-! The guard. -/

/-- With WL_EN set, a frame that is not exempt and has no entry is dropped and counted. -/
theorem State.portGuard_unlisted {s : State} {port dst dport : Nat} (hp : port < 2) (hen : bit (s.dbltGet 0x18) 0 = true)
    (hwl : s.whitelisted dst dport = false) (len : Nat) (ptp : Bool) :
    s.portGuard port dst dport len false ptp = (false, s.wlDrop port) := by
  unfold State.portGuard
  rw [if_neg (by omega : ¬2 ≤ port), if_pos (by simp [hen, hwl])]

/-- Without a cap, a frame that the whitelist does not stop passes and changes nothing. -/
theorem State.portGuard_passes {s : State} {port dst dport : Nat} {exempt : Bool}
    (hwl : bit (s.dbltGet 0x18) 0 = false ∨ s.whitelisted dst dport = true ∨ exempt = true) (hcap : s.bwCap port = 0) (len : Nat)
    (ptp : Bool) : s.portGuard port dst dport len exempt ptp = (true, s) := by
  have hlisted : ¬(bit (s.dbltGet 0x18) 0 && !exempt && !s.whitelisted dst dport) = true := by
    rcases hwl with h | h | h <;> simp [h]
  unfold State.portGuard
  rw [if_neg hlisted, if_pos hcap, ite_self]

/-! A frame that starts. -/

@[simp] theorem State.post_out (s : State) (port : Nat) (f : TxFrame) : (s.post port f).out = s.out := by
  unfold State.post; split_ifs <;> simp

theorem State.askArp_out (s : State) (port ip : Nat) : (s.askArp port ip).out = s.out := by
  unfold State.askArp
  dsimp only
  split
  · split_ifs <;> simp
  · simp

theorem State.noArp_out (s : State) (port dst : Nat) : (s.noArp port dst).out = s.out := by
  unfold State.noArp
  rw [State.askArp_out]
  simp

/-- A frame that the guard drops, or that stops before the guard, is the only thing that is recorded: it does not leave. -/
theorem State.startFrame_dropped {s u : State} {port : Nat} {f : TxFrame}
    (h : s.portGuard port f.dst f.dport (f.len (s.tagged f)) f.exempt f.ptp = (false, u)) (hu : u.out = s.out) :
    (s.startFrame port f).1 = false ∧ (s.startFrame port f).2.out = .dropped port f :: s.out := by
  unfold State.startFrame
  rw [h]
  split_ifs
  · exact ⟨rfl, congrArg _ (State.noArp_out ..)⟩
  · exact ⟨rfl, rfl⟩
  · exact ⟨rfl, congrArg _ hu⟩

/-- Settles O59: the guard by the whitelist and the cap, and a frame that it drops by what the port records. -/
theorem whitelistDropsWhatItDoesNotList : Obligations.WhitelistDropsWhatItDoesNotList := by
  refine ⟨?guard, ?frame, ?passes⟩
  case guard =>
    intro s dst dport len ptp hen hwl
    exact ⟨State.portGuard_unlisted (by decide) hen hwl len ptp, State.portGuard_unlisted (by decide) hen hwl len ptp⟩
  case frame =>
    intro s port f hp hen hwl hex
    have hguard : s.portGuard port f.dst f.dport (f.len (s.tagged f)) f.exempt f.ptp = (false, s.wlDrop port) := by
      rw [hex]
      exact State.portGuard_unlisted hp hen hwl _ _
    obtain ⟨hleft, hout⟩ := State.startFrame_dropped hguard (by simp)
    refine ⟨hleft, fun p src tci g ts hmem => ?_⟩
    rw [hout] at hmem
    exact (List.mem_cons.1 hmem).resolve_left Out.noConfusion
  case passes =>
    intro s port dst dport len exempt ptp _ hwl hcap
    exact State.portGuard_passes hwl hcap len ptp

end Sys2Proof.Machine
end

section
/-! SUPPORT. The stages of the deadbolt, sample by sample (R296 to R299): the probe cap and the DC mute run along the block, the rise guard
scales it as a whole, and the ceiling clamps each sample. -/

set_option Elab.async false

namespace Sys2Proof.Machine

/-! A stage that runs along the block and carries a state. -/

/-- What a stage emits for each sample, with the state that it carries along. -/
def runLane {σ : Type} (next : σ → Int → σ) (out : σ → Int → Int) : σ → List Int → List Int × σ
  | c, [] => ([], c)
  | c, x :: xs => (out (next c x) x :: (runLane next out (next c x) xs).1, (runLane next out (next c x) xs).2)

theorem foldl_runLane {σ : Type} (next : σ → Int → σ) (out : σ → Int → Int) (xs ys : List Int) (c : σ) :
    xs.foldl (fun (acc : List Int × σ) x => (acc.1 ++ [out (next acc.2 x) x], next acc.2 x)) (ys, c) =
      (ys ++ (runLane next out c xs).1, (runLane next out c xs).2) := by
  induction xs generalizing ys c with
  | nil => simp [runLane]
  | cons x xs ih => rw [List.foldl_cons, ih]; simp [runLane]

/-- Where every state keeps `ok` and every sample that comes of such a state is in `rel` to its source, so it is for the block. -/
theorem runLane_rel {σ : Type} {next : σ → Int → σ} {out : σ → Int → Int} {ok : σ → Prop} {rel : Int → Int → Prop}
    (hnext : ∀ c x, ok c → ok (next c x)) (hout : ∀ c x, ok c → rel x (out (next c x) x)) {c : σ} (hc : ok c) (xs : List Int) :
    ok (runLane next out c xs).2 ∧ List.Forall₂ rel xs (runLane next out c xs).1 := by
  induction xs generalizing c with
  | nil => exact ⟨hc, .nil⟩
  | cons x xs ih =>
    obtain ⟨hend, hrest⟩ := ih (hnext c x hc)
    exact ⟨hend, .cons (hout c x hc) hrest⟩

theorem forall_mem_of_forall₂ {p : Int → Prop} {xs ys : List Int} (h : List.Forall₂ (fun _ y => p y) xs ys) : ∀ y ∈ ys, p y := by
  induction h with
  | nil => simp
  | cons hy _ ih => exact List.forall_mem_cons.2 ⟨hy, ih⟩

/-! The probe cap (R296). -/

theorem capLane_fst (pcap : Nat) (blocked : Bool) (xs : List Int) :
    (capLane pcap blocked xs).1 = (runLane (fun b x => b || decide (pcap < x.natAbs)) (fun b x => if b then 0 else x) blocked xs).1 :=
  congrArg Prod.fst (foldl_runLane (fun b x => b || decide (pcap < x.natAbs)) (fun b x => if b then 0 else x) xs [] blocked)

/-- A probe sample that is added is one within PCAP, or zero. -/
theorem capLane_within (pcap : Nat) (blocked : Bool) (xs : List Int) :
    List.Forall₂ (fun _ y => y.natAbs ≤ pcap) xs (capLane pcap blocked xs).1 := by
  rw [capLane_fst]
  refine (runLane_rel (ok := fun _ => True) (fun _ _ _ => trivial) (fun b x _ => ?_) trivial xs).2
  split_ifs with hb
  · simp
  · simp only [Bool.or_eq_true, decide_eq_true_eq, not_or] at hb
    omega

/-! The DC mute (R297). -/

theorem muteLane_eq (falling rising : Bool) (m : Nat) (xs : List Int) :
    muteLane falling rising m xs = runLane (fun m _ => muteNext falling rising m) (fun m x => sar (x * m) 6) m xs :=
  foldl_runLane (fun m _ => muteNext falling rising m) (fun m x => sar (x * m) 6) xs [] m

theorem muteNext_le {m : Nat} (falling rising : Bool) (h : m ≤ 64) : muteNext falling rising m ≤ 64 := by
  unfold muteNext; split_ifs <;> omega

/-- A level of at most 64 of 64 parts does not enlarge a sample. -/
theorem sar_mute_natAbs {m : Nat} (h : m ≤ 64) (x : Int) : (sar (x * m) 6).natAbs ≤ x.natAbs := by
  unfold sar
  obtain ⟨n, rfl | rfl⟩ := x.eq_nat_or_neg
  · have hup : (n : Int) * m ≤ n * 64 := by exact_mod_cast Nat.mul_le_mul_left n h
    have hlo : 0 ≤ (n : Int) * m := by positivity
    omega
  · have hup : (n : Int) * m ≤ n * 64 := by exact_mod_cast Nat.mul_le_mul_left n h
    have hlo : 0 ≤ (n : Int) * m := by positivity
    rw [Int.neg_mul]
    omega

theorem muteLane_within (falling rising : Bool) {m : Nat} (h : m ≤ 64) (xs : List Int) :
    (muteLane falling rising m xs).2 ≤ 64 ∧ List.Forall₂ (fun x y => y.natAbs ≤ x.natAbs) xs (muteLane falling rising m xs).1 := by
  rw [muteLane_eq]
  exact runLane_rel (ok := (· ≤ 64)) (fun m _ hm => muteNext_le falling rising hm)
    (fun m x hm => sar_mute_natAbs (muteNext_le falling rising hm) x) h xs

/-! The rise guard (R298). -/

theorem foldl_max_le_iff (l : List Nat) (m a : Nat) : l.foldl max m ≤ a ↔ m ≤ a ∧ ∀ n ∈ l, n ≤ a := by
  induction l generalizing m with
  | nil => simp
  | cons n l ih => rw [List.foldl_cons, ih, max_le_iff, List.forall_mem_cons, and_assoc]

/-- The peak of a block is the least bound of its magnitudes. -/
theorem peakAbs_le_iff {xs : List Int} {a : Nat} : peakAbs xs ≤ a ↔ ∀ x ∈ xs, x.natAbs ≤ a := by
  simp [peakAbs, foldl_max_le_iff]

theorem natAbs_le_peakAbs {xs : List Int} {x : Int} (h : x ∈ xs) : x.natAbs ≤ peakAbs xs := peakAbs_le_iff.1 le_rfl x h

/-- The gain of a block with peak `p` takes every sample to within `a`. -/
theorem sar_gain_natAbs {a p : Nat} {x : Int} (hx : x.natAbs ≤ p) : (sar (x * (2 ^ 31 * a / p : Nat)) 31).natAbs ≤ a := by
  have hgain : x.natAbs * (2 ^ 31 * a / p) ≤ 2 ^ 31 * a :=
    (Nat.mul_le_mul_right _ hx).trans (Nat.mul_div_le ..)
  generalize 2 ^ 31 * a / p = g at hgain
  unfold sar
  obtain ⟨n, rfl | rfl⟩ := x.eq_nat_or_neg
  · have hup : (n : Int) * g ≤ 2 ^ 31 * a := by exact_mod_cast hgain
    have hlo : 0 ≤ (n : Int) * g := by positivity
    omega
  · have hup : (n : Int) * g ≤ 2 ^ 31 * a := by rw [Int.natAbs_neg] at hgain; exact_mod_cast hgain
    have hlo : 0 ≤ (n : Int) * g := by positivity
    rw [Int.neg_mul]
    omega

theorem guardBlock_within {rise : Nat} (h : rise ≠ 0) (ceil floor q : Nat) (xs : List Int) :
    ∀ y ∈ (guardBlock ceil floor rise q xs).1, y.natAbs ≤ guardLevel ceil floor rise q := by
  unfold guardBlock
  dsimp only
  split_ifs with hfits
  · have hp : peakAbs xs ≤ guardLevel ceil floor rise q := by simpa [h] using hfits
    exact fun y hy => (natAbs_le_peakAbs hy).trans hp
  · intro y hy
    obtain ⟨x, hx, rfl⟩ := List.mem_map.1 hy
    exact sar_gain_natAbs (natAbs_le_peakAbs hx)

theorem guardBlock_unchanged {ceil floor rise q : Nat} {xs : List Int}
    (h : rise = 0 ∨ ∀ x ∈ xs, x.natAbs ≤ guardLevel ceil floor rise q) : guardBlock ceil floor rise q xs = (xs, false) :=
  if_pos (by simpa using h.imp_right peakAbs_le_iff.2)

/-! The ceiling (R299). -/

theorem clampI_eq_self_iff (c : Nat) (x : Int) : clampI (-(c : Int)) c x = x ↔ x.natAbs ≤ c := by
  rw [← not_iff_not, ← ne_eq, clampI_ne_iff]
  omega

theorem ceilLane_within (c : Nat) (xs : List Int) : ∀ y ∈ (ceilLane c xs).1, -(c : Int) ≤ y ∧ y ≤ c := by
  intro y hy
  obtain ⟨x, -, rfl⟩ := List.mem_map.1 hy
  exact clampI_bounds c x

theorem ceilLane_unchanged {c : Nat} {xs : List Int} (h : ∀ x ∈ xs, x.natAbs ≤ c) : ceilLane c xs = (xs, 0) := by
  have hsame : ∀ x ∈ xs, clampI (-(c : Int)) c x = x := fun x hx => (clampI_eq_self_iff c x).2 (h x hx)
  unfold ceilLane
  rw [List.map_congr_left hsame, List.map_id', List.filter_eq_nil_iff.2 fun x hx => by simp [hsame x hx]]
  rfl

/-- Settles O55: each stage by what it does to a sample. -/
theorem deadboltStagesKeepTheirBounds : Obligations.DeadboltStagesKeepTheirBounds := by
  refine ⟨?cap, ?mute, ?guard, ?guardOff, ?guardFits, ?ceiling⟩
  case cap =>
    intro pcap blocked xs
    have h := capLane_within pcap blocked xs
    exact ⟨h.length_eq.symm, forall_mem_of_forall₂ h⟩
  case mute =>
    intro falling rising m xs hm
    obtain ⟨hend, h⟩ := muteLane_within falling rising hm xs
    exact ⟨hend, h.length_eq.symm, fun e he => (List.forall₂_iff_zip.1 h).2 he⟩
  case guard =>
    intro ceil floor rise q xs h
    exact guardBlock_within h ceil floor q xs
  case guardOff =>
    intro ceil floor q xs
    exact guardBlock_unchanged (.inl rfl)
  case guardFits =>
    intro ceil floor rise q xs h
    exact guardBlock_unchanged (.inr h)
  case ceiling =>
    intro c xs
    exact ⟨fun y hy => by have := ceilLane_within c xs y hy; omega, ceilLane_unchanged⟩

/-! The ceiling of a feed. -/

/-- What the ceiling clamps of a block is what lies outside ±`c`. -/
theorem ceilLane_snd (c : Nat) (xs : List Int) :
    (ceilLane c xs).2 = (xs.filter fun x => decide (x < -(c : Int) ∨ (c : Int) < x)).length := by
  simp only [ceilLane, clampI_ne_iff]

theorem State.ceilFeed_counts (s : State) (f : Nat) (xs : List Int) {n : Nat} (hn : (ceilLane (s.dbltGet (0x1000 + 4 * f)) xs).2 = n) :
    (s.ceilFeed f xs).2.dblt.ceilCnt = s.dblt.ceilCnt + BitVec.ofNat 32 n ∧
    (s.ceilFeed f xs).2.dblt.evt = if n = 0 then s.dblt.evt else setBit s.dblt.evt 4 := by
  unfold State.ceilFeed
  dsimp only
  rw [hn]
  split_ifs with h0
  · simp [h0]
  · exact ⟨rfl, rfl⟩

/-- Settles O56: the ceiling of a feed is that of its setting, and counts the samples that it clamps. -/
theorem ceilingClampsAndCounts : Obligations.CeilingClampsAndCounts := by
  intro s f xs
  obtain ⟨-, hset, -, hfeeds⟩ := s.ceilFeed_frame f xs
  obtain ⟨hcnt, hevt⟩ := s.ceilFeed_counts f xs (ceilLane_snd ..)
  exact ⟨rfl, ceilLane_within _ xs, hcnt, hevt, hset, hfeeds⟩

end Sys2Proof.Machine
end

section
/-! SUPPORT. A PCIe write of a deadbolt setting (R291, R292, R549): by the lock, the mode and the range of the value. -/

set_option Elab.async false

namespace Sys2Proof.Machine

/-! The settings and their digest. -/

theorem State.dbltDigest_congr {s t : State} (h : t.dblt.settings = s.dblt.settings) : t.dbltDigest = s.dbltDigest := by
  unfold State.dbltDigest
  rw [show t.dbltGet = s.dbltGet from funext (State.dbltGet_congr h)]

/-- A setting that is applied changes the settings, with their digest, and nothing else. -/
theorem State.dbltSet_eq (v : State) (off x : Nat) :
    v.dbltSet off x =
      { v with dblt := { v.dblt with settings := (v.dbltSet off x).dblt.settings, digest := (v.dbltSet off x).dbltDigest } } := by
  unfold State.dbltSet
  generalize tabSet (wd _) _ _ _ = settings
  have hfollows (d : Word) (hd : d = State.dbltDigest { v with dblt := { v.dblt with settings } }) :
      ({ v with dblt := { v.dblt with settings, digest := d } } : State) = { v with dblt := { v.dblt with
        settings, digest := State.dbltDigest { v with dblt := { v.dblt with settings, digest := d } } } } := by
    have hsame : State.dbltDigest { v with dblt := { v.dblt with settings, digest := d } } = d := (State.dbltDigest_congr rfl).trans hd.symm
    rw [hsame]
  exact hfollows _ rfl

/-- A setting's value is one word. -/
theorem lt_of_dbltInRange {off x : Nat} (h : dbltInRange off x = true) : x < 2 ^ 32 := by
  unfold dbltInRange at h
  split_ifs at h <;> simp only [decide_eq_true_eq] at h <;> omega

/-! The write. -/

/-- The write of a setting that answers is judged by the deadbolt. -/
theorem exec_dbltRegWrite {t off x : Nat} {s : State} (hset : (dbltDflt off).isSome = true)
    (hw : (s.at t).writable (0x330000 + off) 23 = true) : exec (.dbltRegWrite t off x) s = .next ((s.at t).dbltPcie off x) := by
  have hbase : (bar0Block (0x330000 + off)).map (·.1) = some 0x330000 := by rw [bar0Block_dblt (dbltDflt_lt hset)]; rfl
  show Host.Outcome.next (if (dbltDflt off).isSome then hostRegWrite t (0x330000 + off) x s else s) = _
  rw [if_pos hset, hostRegWrite, pcieWrite_writable _ _ _ _ _ hw hbase, Nat.add_sub_cancel_left, State.writeReg,
    if_pos (by simp [hset])]

theorem State.dbltPcie_inRange {v : State} {off x : Nat} (hm : v.sys.mode = .staged) (hl : v.dblt.locked = false)
    (hx : dbltInRange off x = true) : v.dbltPcie off x = v.dbltSet off x := by
  unfold State.dbltPcie
  rw [if_pos (by simp [hm, hl]), if_pos hx]

theorem State.dbltPcie_outOfRange {v : State} {off x : Nat} (hm : v.sys.mode = .staged) (hl : v.dblt.locked = false)
    (hx : dbltInRange off x = false) :
    v.dbltPcie off x = { v with dblt := { v.dblt with rangeCnt := v.dblt.rangeCnt + 1, evt := v.dblt.evt ||| 256 } } := by
  unfold State.dbltPcie
  rw [if_pos (by simp [hm, hl]), if_neg (by simp [hx])]
  rfl

theorem State.dbltPcie_locked {v : State} {off x : Nat} (h : v.sys.mode ≠ .staged ∨ v.dblt.locked = true) :
    v.dbltPcie off x = { v with dblt := { v.dblt with lockedWrCnt := v.dblt.lockedWrCnt + 1, evt := v.dblt.evt ||| 128 } } := by
  unfold State.dbltPcie
  rw [if_neg (by simpa using fun hm => h.resolve_left (not_not.2 hm))]
  rfl

/-- Settles O16: the deadbolt judges the write, and a setting that it applies reads as written. -/
theorem deadboltWritesStayInRange : Obligations.DeadboltWritesStayInRange := by
  refine ⟨?applied, ?outOfRange, ?locked⟩
  case applied =>
    rintro t off x s v rfl hset hw hm hl hx
    refine ⟨(s.at t).dbltSet off x, ?_, fun hsafe => ?_, State.dbltSet_eq .., fun hsafe o ho => ?_⟩
    · rw [exec_dbltRegWrite hset hw, State.dbltPcie_inRange hm hl hx]
    · rw [State.dbltGet_dbltSet _ _ _ _ hsafe.1, if_pos rfl, Nat.mod_eq_of_lt (lt_of_dbltInRange hx)]
    · rw [State.dbltGet_dbltSet _ _ _ _ hsafe.1, if_neg ho]
  case outOfRange =>
    rintro t off x s v rfl hset hw hm hl hx
    rw [exec_dbltRegWrite hset hw, State.dbltPcie_outOfRange hm hl hx]
  case locked =>
    rintro t off x s v rfl hset hw h
    rw [exec_dbltRegWrite hset hw, State.dbltPcie_locked h]

end Sys2Proof.Machine
end

section
/-! SUPPORT. The events of egress and the deadbolt (R286, R295, R297, R302). -/

set_option Elab.async false

namespace Sys2Proof.Machine

theorem execEgressReadout_yielded {t : Nat} {s : State} (hm : (s.at t).sys.mode = .yielded) :
    execEgressReadout t s = .next (s.at t).yieldOut := congrArg _ (if_pos hm)

theorem execDcWindowEnd_ticking {t : Nat} {s : State} (ht : (s.at t).ticking = true) :
    execDcWindowEnd t s = .next (s.at t).dcJudge := congrArg _ (if_pos ht)

/-! The check of the settings (R302). -/

/-- A feed whose settings fail is held at zero, unless it is held already. -/
def State.holdFeed (v : State) (f : Nat) : State :=
  if (v.dbFeed f).held then v
  else
    let w := ((v.setDbFeed f { v.dbFeed f with held := true }).dbltEvt 0).countCheck 1
    (w.logFault 15 w.selfOutcome 0x104 f).selfFault

/-- The words of the module's own settings that fail are counted. -/
def State.countWords (v : State) (n : Nat) : State :=
  if n = 0 then v else { v with intg := { v.intg with parityCnt := v.intg.parityCnt + wd n, evt := setBit v.intg.evt 0 } }

/-- While EGRESS has power, the check counts the words and holds the feeds of the rate in force. -/
theorem execDbltParityCheck_powered {t : Nat} {c : SettingsCheck} {s : State} (hd : (s.at t).domainOn 2 = true)
    (hp : (s.at t).unpowered = false) :
    execDbltParityCheck t c s =
      .next ((c.feeds.filter fun f => decide (f < feedCount ((s.at t).countWords c.words).rnd.rate96)).foldl State.holdFeed
        ((s.at t).countWords c.words)) := by
  unfold execDbltParityCheck
  dsimp only
  rw [if_neg (by simp [hd, hp])]
  rfl

/-- Settles O32: each event by what it does where its conditions hold. -/
theorem egressAndDeadboltEventsAct : Obligations.EgressAndDeadboltEventsAct := by
  refine ⟨?yielded, ?due, ?window, ?feed, ?words, ?clean⟩
  case yielded =>
    rintro t s v rfl hm
    exact execEgressReadout_yielded hm
  case due =>
    rintro t s v rfl hm ht hdue
    exact execEgressReadout_due hm ht hdue
  case window =>
    rintro t s v rfl ht
    exact execDcWindowEnd_ticking ht
  case feed =>
    rintro t f s v rfl hd hp hf hheld
    refine (execDbltParityCheck_powered hd hp).trans ?_
    have hin : [f].filter (fun f => decide (f < feedCount ((s.at t).countWords 0).rnd.rate96)) = [f] :=
      List.filter_eq_self.2 fun g hg => by rw [List.mem_singleton.1 hg]; exact decide_eq_true hf
    rw [hin]
    exact congrArg _ (if_neg (Bool.eq_false_iff.1 hheld))
  case words =>
    rintro t n s v rfl hd hp hn
    exact (execDbltParityCheck_powered hd hp).trans (congrArg _ (if_neg hn))
  case clean =>
    rintro t s v rfl hd hp
    exact execDbltParityCheck_powered hd hp

end Sys2Proof.Machine
end

section
/-! SUPPORT. The events of the DRAM controller and the bus matrix (R278, R284, R484 to R499): training and refresh are stated once for both
channels, and a failed line by what the other channel holds. -/

set_option Elab.async false

namespace Sys2Proof.Machine

/-! Training (R487). -/

/-- A channel's training: its next step, its attempts, the first step that failed, and whether it has ended well. -/
structure Training where
  next : Nat
  tries : Nat
  first : Nat
  trained : Bool

/-- The training of a channel. -/
def State.training (v : State) (ch : Nat) : Training :=
  if ch = 0 then ⟨v.ddr.next0, v.ddr.tries0, v.ddr.step0, v.ddr.trained0⟩
  else ⟨v.ddr.next1, v.ddr.tries1, v.ddr.step1, v.ddr.trained1⟩

/-- Replace the training of a channel. -/
def State.setTraining (v : State) (ch : Nat) (c : Training) : State :=
  { v with ddr :=
      if ch = 0 then { v.ddr with next0 := c.next, tries0 := c.tries, step0 := c.first, trained0 := c.trained }
      else { v.ddr with next1 := c.next, tries1 := c.tries, step1 := c.first, trained1 := c.trained } }

/-- The module trains its DRAM: it is in COLD, powered, and not held in reset. -/
structure State.Trains (v : State) : Prop where
  cold : v.sys.mode = .cold
  on : v.pwr.off = false
  released : v.pwr.resetLow = false

/-- What a channel's training is after its next step. -/
def Training.step (c : Training) (ok : Bool) : Training :=
  let r := trainStep ok c.next c.tries c.first
  { next := r.1, tries := r.2.1, first := r.2.2, trained := ok && r.1 == 10 }

theorem execDramTrainingStep_trains {t ch : Nat} {ok : Bool} {s v : State} (hv : v = s.at t) (h : v.Trains) (hch : ch < 2)
    (hnext : (v.training ch).next ≠ 10) :
    execDramTrainingStep t ch ok s = .next (v.setTraining ch ((v.training ch).step ok)).trainTime := by
  subst hv
  obtain ⟨(hcold : s.sys.mode = .cold), (hon : s.pwr.off = false), (hreleased : s.pwr.resetLow = false)⟩ := h
  obtain rfl | rfl : ch = 0 ∨ ch = 1 := by omega
  all_goals
    unfold execDramTrainingStep
    dsimp only
    rw [if_neg (by simp [hcold, hon, hreleased])]
  · exact congrArg _ (if_neg hnext)
  · exact congrArg _ (if_neg hnext)

/-- While a channel trains, the training time is not yet taken. -/
theorem State.trainTime_running {v : State} (h : v.ddr.next0 ≠ 10 ∨ v.ddr.next1 ≠ 10) : v.trainTime = v :=
  if_neg (by simpa [State.trainEnded] using fun h0 => h.resolve_left (not_not.2 h0))

/-- The training time is all that the end of training adds. -/
theorem State.trainTime_frame (v : State) : v.trainTime.sys = v.sys ∧ v.trainTime.dblt = v.dblt ∧
    ∀ ch, v.trainTime.training ch = v.training ch := by
  unfold State.trainTime
  split
  · exact ⟨rfl, rfl, fun _ => rfl⟩
  · exact ⟨rfl, rfl, fun _ => rfl⟩

theorem State.training_setTraining (v : State) (ch : Nat) (c : Training) : (v.setTraining ch c).training ch = c := by
  unfold State.training State.setTraining
  split_ifs <;> rfl

theorem State.setTraining_running {v : State} {ch : Nat} (hch : ch < 2) {c : Training} (hc : c.next ≠ 10) :
    (v.setTraining ch c).trainTime = v.setTraining ch c := by
  refine State.trainTime_running ?_
  obtain rfl | rfl : ch = 0 ∨ ch = 1 := by omega
  · exact .inl hc
  · exact .inr hc

/-- A step that ends well before the last goes on to the next. -/
theorem execDramTrainingStep_goesOn {t ch : Nat} {s v : State} (hv : v = s.at t) (h : v.Trains) (hch : ch < 2)
    (hnext : (v.training ch).next < 9) : execDramTrainingStep t ch true s = .next (v.setTraining ch { v.training ch with
      next := (v.training ch).next + 1
      tries := if (v.training ch).next = 0 then (v.training ch).tries + 1 else (v.training ch).tries
      trained := false }) := by
  have hstep : (v.training ch).step true = { v.training ch with
      next := (v.training ch).next + 1
      tries := if (v.training ch).next = 0 then (v.training ch).tries + 1 else (v.training ch).tries
      trained := false } := by
    have hlast : (v.training ch).next ≠ 9 := by omega
    simp [Training.step, trainStep, hlast]
  rw [execDramTrainingStep_trains hv h hch (by omega), hstep, State.setTraining_running hch (by dsimp only; omega)]

/-- A step after the first that fails in the first or second attempt starts the channel anew. -/
theorem execDramTrainingStep_restarts {t ch : Nat} {s v : State} (hv : v = s.at t) (h : v.Trains) (hch : ch < 2)
    (hnext : (v.training ch).next < 10) (h0 : (v.training ch).next ≠ 0) (htries : (v.training ch).tries < 3) :
    execDramTrainingStep t ch false s = .next (v.setTraining ch { v.training ch with
      next := 0
      first := if (v.training ch).first = 0 then (v.training ch).next + 1 else (v.training ch).first
      trained := false }) := by
  have hstep : (v.training ch).step false = { v.training ch with
      next := 0
      first := if (v.training ch).first = 0 then (v.training ch).next + 1 else (v.training ch).first
      trained := false } := by
    have hthird : ¬3 ≤ (v.training ch).tries := by omega
    simp [Training.step, trainStep, h0, hthird]
  rw [execDramTrainingStep_trains hv h hch (by omega), hstep, State.setTraining_running hch (by simp)]

/-- The last step, or the third failure, ends the training of the channel. -/
theorem execDramTrainingStep_ends {t ch : Nat} {ok : Bool} {s v : State} (hv : v = s.at t) (h : v.Trains) (hch : ch < 2)
    (hnext : (v.training ch).next ≠ 10) {c : Training} (hc : (v.training ch).step ok = c) :
    Leads (.dramTrainingStep t ch ok) s fun u => u.training ch = c ∧ u.sys = v.sys ∧ u.dblt = v.dblt := by
  obtain ⟨hsys, hdblt, htraining⟩ := State.trainTime_frame (v.setTraining ch c)
  refine ⟨_, execDramTrainingStep_trains hv h hch hnext, ?_⟩
  rw [hc]
  exact ⟨(htraining ch).trans (State.training_setTraining ..), hsys, hdblt⟩

/-- The last step of a channel, ended well, ends its training. -/
theorem execDramTrainingStep_trained {t ch : Nat} {s v : State} (hv : v = s.at t) (h : v.Trains) (hch : ch < 2)
    (h9 : (v.training ch).next = 9) : Leads (.dramTrainingStep t ch true) s fun u =>
      (u.training ch).next = 10 ∧ (u.training ch).trained = true ∧ u.sys = v.sys ∧ u.dblt = v.dblt := by
  obtain ⟨hnext, htrained⟩ : ((v.training ch).step true).next = 10 ∧ ((v.training ch).step true).trained = true := by
    simp [Training.step, trainStep, h9]
  obtain ⟨u, hu, hc, hsys, hdblt⟩ := execDramTrainingStep_ends hv h hch (by omega) rfl
  refine ⟨u, hu, ?_⟩
  beta_reduce
  rw [hc]
  exact ⟨hnext, htrained, hsys, hdblt⟩

/-- A failure in the third attempt ends the training of the channel. -/
theorem execDramTrainingStep_failed {t ch : Nat} {s v : State} (hv : v = s.at t) (h : v.Trains) (hch : ch < 2)
    (hnext : (v.training ch).next < 10) (h0 : (v.training ch).next ≠ 0) (htries : (v.training ch).tries = 3) :
    Leads (.dramTrainingStep t ch false) s fun u => (u.training ch).next = 10 ∧ (u.training ch).trained = false ∧
      (u.training ch).first = (if (v.training ch).first = 0 then (v.training ch).next + 1 else (v.training ch).first) ∧ u.sys = v.sys := by
  have hthird : (v.training ch).step false = { v.training ch with
      next := 10
      first := if (v.training ch).first = 0 then (v.training ch).next + 1 else (v.training ch).first
      trained := false } := by
    simp [Training.step, trainStep, h0, htries]
  obtain ⟨u, hu, hc, hsys, -⟩ := execDramTrainingStep_ends hv h hch (by omega) hthird
  refine ⟨u, hu, ?_⟩
  beta_reduce
  rw [hc]
  exact ⟨rfl, rfl, rfl, hsys⟩

/-! Refresh (R494, R495). -/

/-- The refresh debt of a channel. -/
def State.debt (v : State) (ch : Nat) : Int := if ch = 0 then v.ddr.debt0 else v.ddr.debt1

/-- Replace the refresh debt of a channel. -/
def State.setDebt (v : State) (ch : Nat) (d : Int) : State :=
  { v with ddr := if ch = 0 then { v.ddr with debt0 := d } else { v.ddr with debt1 := d } }

/-- A forced burst is counted. -/
def State.burst (v : State) (forced : Bool) : State :=
  if forced then { v with ddr := { v.ddr with forcedRef := v.ddr.forcedRef + 1, evt := setBit v.ddr.evt 2 } } else v

theorem execRefreshDue_runs {t ch ahead : Nat} {demand : Bool} {s v : State} (hv : v = s.at t) (hr : v.dramRuns = true) (hch : ch < 2)
    {d : Int} {forced : Bool} (hd : refreshDebt (v.debt ch) demand ahead = (d, forced)) :
    execRefreshDue t ch demand ahead s = .next ((v.setDebt ch d).burst forced) := by
  subst hv
  unfold State.debt at hd
  unfold execRefreshDue
  dsimp only
  rw [if_neg (by simp [hr, hch]), hd]
  obtain rfl | rfl : ch = 0 ∨ ch = 1 := by omega
  · rfl
  · rfl

theorem refreshDebt_owed {debt : Int} (h : debt ≠ 8) (demand : Bool) (ahead : Nat) :
    refreshDebt debt demand ahead = (if demand then debt + 1 else max (-8) (min (debt + 1) 0 - ahead), false) := by
  simp [refreshDebt, h]

theorem refreshDebt_full {debt : Int} (h : debt = 8) (demand : Bool) (ahead : Nat) :
    refreshDebt debt demand ahead = (if demand then 4 else max (-8) (-(ahead : Int)), true) := by
  simp [refreshDebt, h]

/-! Failed lines (R278, R284, R485). -/

/-- The end of a pass is counted. -/
def State.endPass (v : State) (pass : Bool) : State :=
  if pass then { v with ddr := { v.ddr with scrub := v.ddr.scrub + 1, evt := setBit v.ddr.evt 6 } } else v

/-- While the channels serve requests, the lines that the check reports are handled in turn. -/
theorem execDramScrub_runs {t : Nat} {c : LineCheck} {s v : State} (hv : v = s.at t) (hr : v.dramRuns = true) {bad : List LineFail}
    (hbad : (c.bad.filter fun e => decide (e.ch < 2) && (!c.pass || (duplicated e.addr && !e.merge))).eraseDups = bad) :
    execDramScrub t c s = .next ((bad.foldl (fun w e => w.badLine bad e) v).endPass c.pass) := by
  subst hv
  unfold execDramScrub
  dsimp only
  rw [if_neg (by simp [hr]), hbad]
  rfl

theorem line_start (line : Nat) : 64 * line / 64 * 64 = 64 * line := by omega

/-- A line fails on a channel, in a read that no master waits for. -/
def failsOn (ch line : Nat) : LineFail := { ch, addr := 64 * line, merge := false, req := none }

/-- A failed read of one line is handled, in a pass where the line lies in a duplicated region. -/
theorem scrubbed_failsOn {ch line : Nat} {pass : Bool} (hch : ch < 2) (h : pass = false ∨ duplicated (64 * line) = true) :
    ([failsOn ch line].filter fun e => decide (e.ch < 2) && (!pass || (duplicated e.addr && !e.merge))).eraseDups = [failsOn ch line] := by
  have hin : (decide ((failsOn ch line).ch < 2) &&
      (!pass || (duplicated (failsOn ch line).addr && !(failsOn ch line).merge))) = true := by
    rcases h with h | h
    · simp [failsOn, hch, h]
    · simp [failsOn, hch, h]
  rw [List.filter_cons, if_pos hin, List.filter_nil, List.eraseDups_cons]
  rfl

theorem scrubbed_both {line : Nat} {pass : Bool} (h : duplicated (64 * line) = true) :
    ([failsOn 0 line, failsOn 1 line].filter fun e => decide (e.ch < 2) && (!pass || (duplicated e.addr && !e.merge))).eraseDups =
      [failsOn 0 line, failsOn 1 line] := by
  simp [failsOn, h, List.eraseDups_cons]

/-- A line of a duplicated region that fails on channel 0 alone is repaired and logged. -/
theorem State.badLine_repaired (v : State) {line : Nat} (h : duplicated (64 * line) = true) :
    v.badLine [failsOn 0 line] (failsOn 0 line) =
      (v.lineFails 0).crcOnce.logFault 5 1 0x102 (64 * line) := by
  unfold State.badLine
  dsimp only
  rw [show (failsOn 0 line).addr = 64 * line from rfl, line_start, if_pos h]
  rfl

/-- A write of less than a line leaves a line that is held once poisoned. -/
theorem State.badLine_poisoned (v : State) {line : Nat} (h : duplicated (64 * line) = false) (bad : List LineFail) :
    v.badLine bad { ch := 0, addr := 64 * line, merge := true, req := none } =
      State.logFault { (v.lineFails 0).crcOnce with ddr := { (v.lineFails 0).ddr with
        poison := v.ddr.poison + 1, evt := setBit (v.lineFails 0).ddr.evt 7 } } 5 7 0x102 (64 * line) := by
  unfold State.badLine
  dsimp only
  rw [line_start, if_neg (by simp [h])]
  rfl

/-- A line of a duplicated region has failed on both channels: it is lost. -/
def State.loseLine (v : State) (a : Nat) : State :=
  let w := { v with intg := { v.intg with dramLostCnt := v.intg.dramLostCnt + 1, evt := setBit v.intg.evt 3 } }
  (w.logFault 6 w.selfOutcome 0x102 a).selfFault.zeroLine a

theorem failsOn_other (line : Nat) {ch : Nat} (h : ch < 2) :
    [failsOn 0 line, failsOn 1 line].any (fun x => x.ch == 1 - ch && x.addr / 64 * 64 == 64 * line) = true := by
  obtain rfl | rfl : ch = 0 ∨ ch = 1 := by omega
  · simp [failsOn, Nat.mul_comm]
  · simp [failsOn, Nat.mul_comm]

/-- A line that fails on both channels is lost once, and counted on each. -/
theorem State.badLine_lost (v : State) {line : Nat} (h : duplicated (64 * line) = true) :
    [failsOn 0 line, failsOn 1 line].foldl (fun w e => w.badLine [failsOn 0 line, failsOn 1 line] e) v =
      ((v.lineFails 0).loseLine (64 * line)).lineFails 1 := by
  have hfirst (w : State) : w.badLine [failsOn 0 line, failsOn 1 line] (failsOn 0 line) = (w.lineFails 0).loseLine (64 * line) := by
    unfold State.badLine
    dsimp only
    rw [show (failsOn 0 line).addr = 64 * line from rfl, line_start, if_pos h, failsOn_other line (show _ < 2 by simp [failsOn])]
    rfl
  have hsecond (w : State) : w.badLine [failsOn 0 line, failsOn 1 line] (failsOn 1 line) = w.lineFails 1 := by
    unfold State.badLine
    dsimp only
    rw [show (failsOn 1 line).addr = 64 * line from rfl, line_start, if_pos h, failsOn_other line (show _ < 2 by simp [failsOn])]
    rfl
  rw [List.foldl_cons, List.foldl_cons, List.foldl_nil, hfirst, hsecond]

theorem State.selfFault_frame (s : State) : s.selfFault.intg.selfCnt = s.intg.selfCnt + 1 ∧ s.selfFault.intg.head = s.intg.head ∧
    s.selfFault.intg.dramLostCnt = s.intg.dramLostCnt ∧ s.selfFault.ddr = s.ddr := by
  unfold State.selfFault State.decideYield
  dsimp only
  split_ifs <;> exact ⟨rfl, rfl, rfl, rfl⟩

theorem State.zeroLine_frame (s : State) (a : Nat) :
    (s.zeroLine a).intg = s.intg ∧ (s.zeroLine a).ddr = s.ddr ∧ (s.zeroLine a).dblt = s.dblt := by
  have hshadow (b : Nat) : (s.zeroShadow b).intg = s.intg ∧ (s.zeroShadow b).ddr = s.ddr ∧ (s.zeroShadow b).dblt = s.dblt := by
    simp only [State.zeroShadow, apply_ite State.intg, apply_ite State.ddr, apply_ite State.dblt, ite_self, and_self]
  unfold State.zeroLine
  split_ifs
  · simp only [State.zeroDelay, and_self]
  · exact hshadow _
  · split <;> exact ⟨rfl, rfl, rfl⟩
  · exact ⟨rfl, rfl, rfl⟩
  · exact ⟨rfl, rfl, rfl⟩

/-- A lost line is counted and logged, and is a self-fault; the controller and the deadbolt are as they were. -/
theorem State.loseLine_counts (v : State) (a : Nat) :
    (v.loseLine a).intg.dramLostCnt = v.intg.dramLostCnt + 1 ∧ (v.loseLine a).intg.selfCnt = v.intg.selfCnt + 1 ∧
    (v.loseLine a).intg.head = v.intg.head + 1 ∧ (v.loseLine a).ddr = v.ddr ∧ (v.loseLine a).dblt = v.dblt := by
  unfold State.loseLine
  dsimp only
  generalize hw : State.logFault _ _ _ _ _ = w
  obtain ⟨hintg, hddr, hdblt⟩ := State.zeroLine_frame w.selfFault a
  obtain ⟨hself, hhead, hlost, hddr'⟩ := State.selfFault_frame w
  rw [hintg, hddr, hdblt, hself, hhead, hlost, hddr', State.selfFault_dblt, ← hw]
  exact ⟨rfl, rfl, rfl, rfl, rfl⟩

/-! The other events. -/

theorem execWckTrack_runs {t : Nat} {beyond : Bool} {s v : State} (hv : v = s.at t) (hr : v.dramRuns = true) :
    execWckTrack t beyond s = .next { v with ddr := { v.ddr with evt := if beyond then setBit v.ddr.evt 5 else v.ddr.evt } } := by
  subst hv
  unfold execWckTrack
  dsimp only
  rw [hr]
  cases beyond <;> rfl

theorem execMr4Read_runs {t rate : Nat} {s v : State} (hv : v = s.at t) (hr : v.dramRuns = true) (hrate : rate ≤ 4) :
    execMr4Read t rate s = .next { v with ddr := { v.ddr with rate } } := by
  subst hv
  exact congrArg _ (if_pos (by rw [hr, decide_eq_true hrate]; rfl))

theorem execRequestPromote_runs {t n : Nat} {s v : State} (hv : v = s.at t) (hr : v.dramRuns = true) (hn : 1 ≤ n ∧ n ≤ 3) :
    execRequestPromote t n s = .next { v with ddr := { v.ddr with promote := v.ddr.promote + 1, evt := setBit v.ddr.evt 3 } } := by
  subst hv
  exact congrArg _ (if_pos (by rw [hr, decide_eq_true hn]; rfl))

theorem execFabricTimeout_powered {t : Nat} {e : FabErr} {s v : State} (hv : v = s.at t) (hp : v.unpowered = false) :
    execFabricTimeout t e s = .next (v.fabErr { e with code := 5, ts := v.ts32 }) := by
  subst hv
  exact congrArg _ (if_neg (Bool.eq_false_iff.1 hp))

/-- Settles O34: training and refresh by the channel, a failed line by its copies, and the other events by their conditions. -/
theorem dramAndFabricEventsAct : Obligations.DramAndFabricEventsAct := by
  refine ⟨?goesOn0, ?restarts0, ?trained0, ?failed0, ?goesOn1, ?restarts1, ?trained1, ?failed1, ?track, ?rate, ?owed0, ?full0, ?owed1, ?full1,
    ?pass, ?repairedPass, ?repaired, ?poisoned, ?lost, ?promote, ?timeout⟩
  case goesOn0 =>
    intro t s v hv hcold hon hrel hnext _
    exact execDramTrainingStep_goesOn (ch := 0) hv ⟨hcold, hon, hrel⟩ (by decide) hnext
  case goesOn1 =>
    intro t s v hv hcold hon hrel hnext _
    exact execDramTrainingStep_goesOn (ch := 1) hv ⟨hcold, hon, hrel⟩ (by decide) hnext
  case restarts0 =>
    intro t s v hv hcold hon hrel hnext h0 htries _
    exact execDramTrainingStep_restarts (ch := 0) hv ⟨hcold, hon, hrel⟩ (by decide) hnext h0 htries
  case restarts1 =>
    intro t s v hv hcold hon hrel hnext h0 htries _
    exact execDramTrainingStep_restarts (ch := 1) hv ⟨hcold, hon, hrel⟩ (by decide) hnext h0 htries
  case trained0 =>
    intro t s v hv hcold hon hrel h9
    exact execDramTrainingStep_trained (ch := 0) hv ⟨hcold, hon, hrel⟩ (by decide) h9
  case trained1 =>
    intro t s v hv hcold hon hrel h9
    exact execDramTrainingStep_trained (ch := 1) hv ⟨hcold, hon, hrel⟩ (by decide) h9
  case failed0 =>
    intro t s v hv hcold hon hrel hnext h0 htries
    exact execDramTrainingStep_failed (ch := 0) hv ⟨hcold, hon, hrel⟩ (by decide) hnext h0 htries
  case failed1 =>
    intro t s v hv hcold hon hrel hnext h0 htries
    exact execDramTrainingStep_failed (ch := 1) hv ⟨hcold, hon, hrel⟩ (by decide) hnext h0 htries
  case track => intro t beyond s v; exact execWckTrack_runs
  case rate => intro t rate s v; exact execMr4Read_runs
  case owed0 =>
    intro t demand ahead s v hv hr h8
    exact execRefreshDue_runs (ch := 0) hv hr (by decide) (refreshDebt_owed h8 demand ahead)
  case owed1 =>
    intro t demand ahead s v hv hr h8
    exact execRefreshDue_runs (ch := 1) hv hr (by decide) (refreshDebt_owed h8 demand ahead)
  case full0 =>
    intro t demand ahead s v hv hr h8
    exact execRefreshDue_runs (ch := 0) hv hr (by decide) (refreshDebt_full h8 demand ahead)
  case full1 =>
    intro t demand ahead s v hv hr h8
    exact execRefreshDue_runs (ch := 1) hv hr (by decide) (refreshDebt_full h8 demand ahead)
  case pass =>
    intro t s v hv hr
    exact execDramScrub_runs hv hr rfl
  case repairedPass =>
    intro t line s v hv hr hdup
    refine (execDramScrub_runs (c := { pass := true, bad := [failsOn 0 line] }) hv hr (scrubbed_failsOn (by decide) (.inr hdup))).trans ?_
    rw [List.foldl_cons, List.foldl_nil, State.badLine_repaired v hdup]
    rfl
  case repaired =>
    intro t line s v hv hr hdup
    refine (execDramScrub_runs (c := { pass := false, bad := [failsOn 0 line] }) hv hr (scrubbed_failsOn (by decide) (.inl rfl))).trans ?_
    rw [List.foldl_cons, List.foldl_nil, State.badLine_repaired v hdup]
    rfl
  case poisoned =>
    intro t line s v hv hr hdup
    refine ⟨_, execDramScrub_runs hv hr (bad := [{ ch := 0, addr := 64 * line, merge := true, req := none }]) (by simp [List.eraseDups_cons]), ?_⟩
    rw [List.foldl_cons, List.foldl_nil, State.badLine_poisoned v hdup]
    exact ⟨rfl, rfl, rfl, rfl, rfl, rfl⟩
  case lost =>
    intro t line s v hv hr hdup
    refine ⟨_, execDramScrub_runs (c := { pass := true, bad := [failsOn 0 line, failsOn 1 line] }) hv hr (scrubbed_both hdup), ?_⟩
    rw [State.badLine_lost v hdup]
    obtain ⟨hlost, hself, hhead, hddr, hdblt⟩ := (v.lineFails 0).loseLine_counts (64 * line)
    have hcrc1 : ((v.lineFails 0).loseLine (64 * line)).ddr.crc1 = v.ddr.crc1 := by rw [hddr]; rfl
    have hscrub : ((v.lineFails 0).loseLine (64 * line)).ddr.scrub = v.ddr.scrub := by rw [hddr]; rfl
    exact ⟨hlost, hself, hhead, congrArg DdrSt.crc0 hddr, congrArg (· + 1) hcrc1, congrArg (· + 1) hscrub, hdblt⟩
  case promote =>
    intro t n s v hv hr h1 h3
    exact execRequestPromote_runs hv hr ⟨h1, h3⟩
  case timeout => intro t e s v; exact execFabricTimeout_powered

end Sys2Proof.Machine
end

section
/-! SUPPORT. The commands that a mode or a state of the module rules out (R292, R348, R361, R376, R381, R97, R147, R216, R324, R472): the
rules of each of them begin with that test. -/

set_option Elab.async false

namespace Sys2Proof.Machine

/-! A test that comes first. -/

/-- A command whose rules begin with a test of the state. -/
theorem refuses_of_test {c : Cmd} {mk : Hdr → Bytes → Instr} {test : State → Bool} {rest : CmdIn → State → Verdict}
    (hk : ∀ h p, keywayRow (mk h p) = some (c, h, p)) (hr : ∀ i u, c.run i u = if test u then .no .badMode else rest i u)
    {pre : State → Prop} (hpre : ∀ u, pre u → test u = true) : Refuses c mk (fun _ u => pre u) .badMode :=
  refuses_of_run hk fun i u hp => (hr i u).trans (if_pos (hpre u hp))

/-- A command whose rules begin with the mode that it needs. -/
theorem refuses_outside {c : Cmd} {mk : Hdr → Bytes → Instr} {m : Mode} {rest : CmdIn → State → Verdict}
    (hk : ∀ h p, keywayRow (mk h p) = some (c, h, p)) (hr : ∀ i u, c.run i u = if u.sys.mode != m then .no .badMode else rest i u) :
    Refuses c mk (fun _ u => u.sys.mode ≠ m) .badMode :=
  refuses_of_test hk hr fun _ hm => bne_iff_ne.2 hm

/-- A calibration mode command that this module has received itself (R216). -/
theorem calMode_refuses {c : Cmd} {mk : Hdr → Bytes → Instr} {m : Mode} {ok : CmdIn → State → Bool}
    (hk : ∀ h p, keywayRow (mk h p) = some (c, h, p)) (hr : c.run = calModeRun m ok) : Refuses c mk (fun _ u => u.sys.mode ≠ m) .badMode :=
  refuses_of_ownRun hk fun i u hmir hm => by
    rw [hr, calModeRun, if_pos (by simp [hmir, hm])]
    rfl

/-! XP_MAP, DBLT_WRITE and PWR_WAKE. -/

theorem xpMap_refuses {pre : State → Prop} (h : ∀ u, pre u → u.sys.mode ≠ .staged ∨ u.rte.graph = true) :
    Refuses xpMapCmd .xpMap (fun _ u => pre u) .badMode :=
  refuses_of_test (fun _ _ => rfl) (fun _ _ => rfl) fun u hu => by simpa using h u hu

theorem dbltWrite_refuses {pre : State → Prop} (h : ∀ u, pre u → u.sys.mode ≠ .staged ∨ u.dblt.locked = true) :
    Refuses dbltWriteCmd .dbltWrite (fun _ u => pre u) .badMode :=
  refuses_of_run (fun _ _ => rfl) fun _ u hu => dbltWriteRun_badMode (h u hu)

theorem State.pwrRefusal_wake {u : State} (h : u.sys.mode ≠ .sleep) : u.pwrRefusal 0x912 = some .badMode := by
  simp [State.pwrRefusal, h]

/-- Outside SLEEP, while no transition runs or waits, there is nothing to wake. -/
theorem pwrRun_wake_badMode {ok : Bytes → Bool} {i : CmdIn} {u : State} (hop : i.op = 0x912) (htrans : u.pwr.trans = 0)
    (hqueued : u.pwr.queued = none) (hm : u.sys.mode ≠ .sleep) : pwrRun ok i u = .refuse .badMode [] := by
  unfold pwrRun
  dsimp only
  rw [if_pos (by simp [htrans, hqueued]), hop, State.pwrRefusal_wake hm]
  rfl

theorem pwrWake_refuses :
    Refuses pwrWakeCmd .pwrWake (fun _ u => u.pwr.trans = 0 ∧ u.pwr.queued = none ∧ u.sys.mode ≠ .sleep) .badMode := by
  rintro h p s ha ⟨htrans, hqueued, hm⟩
  rw [exec_keyway (i := .pwrWake h p) rfl]
  exact keyway_refuse pwrWakeCmd h p s .badMode [] ha 
    (pwrRun_wake_badMode (ok := fun _ => true) (i := inputOf pwrWakeCmd h p s) rfl htrans hqueued hm)

/-- Settles O49: each command's rules begin with the test that refuses it. -/
theorem modeRulesRefuseWithBadMode : Obligations.ModeRulesRefuseWithBadMode := by
  refine ⟨?renderConfig, ?dbltWrite, ?stageCommit, ?sceneXform, ?layoutWrite, ?layoutLoad, ?routeMode, ?xpMap, ?bedAlign, ?corLong, ?corFold,
    ?vlanSet, ?flowOutSet, ?ptpConfig, ?sceneTime, ?dacConfig, ?twinConfig, ?stageReturn, ?imgBegin, ?imgData, ?imgEnd, ?twinJoin,
    ?calStart, ?calStop, ?sweepStart, ?sweepStop, ?pwrWake, ?routeWrite, ?xpMapGraph, ?dbltWriteLocked⟩
  case dbltWrite => exact dbltWrite_refuses fun _ => .inl
  case dbltWriteLocked => exact dbltWrite_refuses fun _ => .inr
  case xpMap => exact xpMap_refuses fun _ => .inl
  case xpMapGraph => exact xpMap_refuses fun _ => .inr
  case twinJoin => exact refuses_of_test (fun _ _ => rfl) (fun _ _ => rfl) fun _ h => bne_iff_ne.2 h
  case routeWrite => exact refuses_of_test (fun _ _ => rfl) (fun _ _ => rfl) fun _ h => by simp [h]
  case calStart | calStop | sweepStart | sweepStop => exact calMode_refuses (fun _ _ => rfl) rfl
  case pwrWake => exact pwrWake_refuses
  case renderConfig | stageCommit | sceneXform | layoutWrite | layoutLoad | routeMode | bedAlign | corLong | corFold | vlanSet | flowOutSet |
      ptpConfig | sceneTime | dacConfig | twinConfig | stageReturn | imgBegin | imgData | imgEnd =>
    exact refuses_outside (fun _ _ => rfl) fun _ _ => rfl

end Sys2Proof.Machine
end

section
/-! SUPPORT. A follower relays a mirrored command that passes the head checks (R316, R348). -/

set_option Elab.async false

namespace Sys2Proof.Machine

/-- Checks 1 to 4 of R348 hold. -/
theorem headCheck_passes {u : State} {c : Cmd} {length flags : Nat} {p : Bytes} (him : (u.imageRuns || c.boot) = true)
    (hlen : c.len length p = true) (hfl : flags / 4 = 0) (huse : c.uses = true → flags % 4 ≠ 3) :
    headCheck u (some c) true length flags p = none := by
  have himage : ¬ ((!u.imageRuns && !c.boot) = true) := by rw [← Bool.not_or, him]; decide
  have hflags : ¬ ((flags / 4 != 0 || (c.uses && flags % 4 == 3)) = true) := by simpa [hfl] using huse
  unfold headCheck
  dsimp only
  rw [if_neg himage, hlen, if_neg hflags]
  rfl

theorem handle_relays {u : State} {c : Cmd} {h : Hdr} {p : Bytes} (hc : headCheck u (some c) true h.length h.flags p = none)
    (hrelay : (c.mirrored && u.rendering && u.follows) = true) :
    handle (some c) c.op true h p u =
      u.relayOut c h.flags h.when p { src := h.src, opcode := c.op, tag := h.tag, aseq := u.key.aseq.toNat } := by
  unfold handle
  rw [hc]
  exact if_pos hrelay

/-- Settles O47: the head checks pass, and a follower hands what passes them to the decider. -/
theorem followersRelayMirroredCommands : Obligations.FollowersRelayMirroredCommands := by
  intro i c h p s hrow hdelivered u him hlen hfl huse hmir hrend hfollows
  rw [exec_keyway hrow, keyway_handle c h p s hdelivered,
    handle_relays (headCheck_passes him hlen hfl huse) (by rw [hmir, hrend, hfollows]; rfl)]
  rfl

end Sys2Proof.Machine
end

section
/-! SUPPORT. What the twins' messages leave alone as they enter a queue: the tick and the twin's own state (R309, R310). -/

set_option Elab.async false

namespace Sys2Proof.Machine

@[simp] theorem State.post_frame (v : State) (port : Nat) (f : TxFrame) : (v.post port f).tick = v.tick ∧ (v.post port f).twn = v.twn := by
  unfold State.post
  split_ifs <;> simp

@[simp] theorem State.postOn_frame (v : State) (path : TwinPath) (seq : Nat) (m : TwinMsg) (n : Nat) :
    (v.postOn path seq m n).tick = v.tick ∧ (v.postOn path seq m n).twn = v.twn := by
  unfold State.postOn
  cases path <;> dsimp only <;> split_ifs <;> simp

@[simp] theorem State.postTwin_frame (v : State) (seq : Nat) (m : TwinMsg) (n : Nat) :
    (v.postTwin seq m n).tick = v.tick ∧ (v.postTwin seq m n).twn = v.twn := by
  unfold State.postTwin
  split_ifs <;> simp

end Sys2Proof.Machine
end

section
/-! SUPPORT. The monitor, clock and twin commands (R305, R324, R328, R457, R506, R511, R514 to R516, R521): each of them is what its own
rules answer where the spec admits it. -/

set_option Elab.async false

namespace Sys2Proof.Machine

/-! DAC_CONFIG and DAC_MAP. -/

/-- FRAME as a strobe source needs scene time (R511). -/
theorem dacConfigRun_ok {i : CmdIn} {u : State} (hm : u.sys.mode = .staged) (h0 : rd8 i.body 0 ≤ 1) (h1 : rd8 i.body 1 ≤ 1)
    (hz : zeroAt i.body 2 2 = true) (hscene : rd8 i.body 0 = 1 ∨ rd8 i.body 1 = 1 → u.ptm.scene.isSome = true) :
    dacConfigRun i u = .ok { u with dac := { u.dac with frame0 := rd8 i.body 0 == 1, frame1 := rd8 i.body 1 == 1 } } := by
  have hframe : (u.ptm.scene.isNone && (rd8 i.body 0 == 1 || rd8 i.body 1 == 1)) = false := by
    cases hs : u.ptm.scene with
    | some _ => rfl
    | none => simpa [hs] using hscene
  unfold dacConfigRun
  dsimp only
  rw [if_neg (by simp [hm]), hframe, if_neg (by simp [hz]; omega)]

/-- The parameters that DAC_MAP admits (R506): 1 to 16 channels, each with a feed of the rate in force or none. -/
def DacMapAdmitted (r96 : Bool) (b : Bytes) : Prop :=
  1 ≤ rd8 b 0 ∧ rd8 b 0 ≤ 16 ∧ zeroAt b 1 3 = true ∧
    ∀ k < rd8 b 0, rd8 b (4 + 4 * k) < 16 ∧ rd8 b (5 + 4 * k) = 0 ∧ (rd16 b (6 + 4 * k) = 0xFFFF ∨ rd16 b (6 + 4 * k) < feedCount r96)

/-- Entry `k` of DAC_MAP without a cross-fade: its channel plays the feed it names, or none. -/
def State.dacMapEntry (u : State) (b : Bytes) (k : Nat) : State :=
  u.onDac (rd8 b (4 + 4 * k)) fun x =>
    { x with feed := if rd16 b (6 + 4 * k) = 0xFFFF then none else some (rd16 b (6 + 4 * k)), old := [] }

theorem State.dacMapAt_none (u : State) (b : Bytes) :
    u.dacMapAt none b = (List.range (rd8 b 0)).foldl (fun v k => v.dacMapEntry b k) u := by
  unfold State.dacMapAt dacMaps
  rw [List.foldl_map]
  rfl

theorem foldl_dacMapEntry_tick (l : List Nat) (b : Bytes) (u : State) : (l.foldl (fun v k => v.dacMapEntry b k) u).tick = u.tick :=
  List.foldlRecOn l _ (motive := fun w : State => w.tick = u.tick) rfl fun _ hw _ _ => hw

theorem dacMapRun_admitted {i : CmdIn} {u : State} (h : DacMapAdmitted u.rnd.rate96 i.body) :
    dacMapRun i u = scheduled i u ((List.range (rd8 i.body 0)).foldl (fun v k => v.dacMapEntry i.body k) u) fun n => u.schedule n i := by
  obtain ⟨hlo, hhi, hz, hk⟩ := h
  have hentries : ((List.range (rd8 i.body 0)).all fun k =>
      decide (rd8 i.body (4 + 4 * k) < 16) && rd8 i.body (5 + 4 * k) == 0
        && (rd16 i.body (6 + 4 * k) == 0xFFFF || decide (rd16 i.body (6 + 4 * k) < feedCount u.rnd.rate96))) = true :=
    List.all_eq_true.2 fun k hmem => by simpa [and_assoc] using hk k (List.mem_range.1 hmem)
  unfold dacMapRun
  dsimp only
  rw [hentries, hz, if_neg (by simp [hlo, hhi]), State.dacMapAt_none]

/-! DAC_SPAN. -/

theorem State.setSpan_tick (u : State) (mask span : Nat) : (u.setSpan mask span).tick = u.tick :=
  List.foldlRecOn _ _ (motive := fun w : State => w.tick = u.tick) rfl fun _ hw _ _ => hw

/-- The parameters that DAC_SPAN admits (R514). -/
theorem dacSpan_params {b : Bytes} (hmask : rd16 b 0 ≠ 0) (hspan : rd8 b 2 ≤ 2) (hz : rd8 b 3 = 0) :
    ¬ ((decide (rd16 b 0 = 0) || decide (2 < rd8 b 2) || rd8 b 3 != 0) = true) := by
  simp [hmask, hz]; omega

/-- Clamped outputs switch at once (R517). -/
theorem dacSpanRun_ok {i : CmdIn} {u : State} (hmask : rd16 i.body 0 ≠ 0) (hspan : rd8 i.body 2 ≤ 2) (hz : rd8 i.body 3 = 0)
    (hs : u.staged = true) : dacSpanRun i u = .ok (u.setSpan (rd16 i.body 0) (rd8 i.body 2)) := by
  unfold dacSpanRun
  dsimp only
  rw [if_neg (dacSpan_params hmask hspan hz), if_pos hs]

/-- The pending span changes whose channels a mask contains. -/
def State.spansInside (u : State) (mask : Nat) : List SpanReq :=
  (u.dac.reqs.filter fun r => r.phase == 0).filter fun r => maskInside r.mask mask

/-- A change of running outputs becomes pending, in place of those it contains (R514, R515). -/
def State.spanRequest (u : State) (r : SpanReq) : State :=
  let v := (u.spansInside r.mask).foldl State.spanSupersede u
  { v with dac := { v.dac with reqs := v.dac.reqs ++ [r] } }

theorem dacSpanRun_defer {i : CmdIn} {u : State} {n : Nat} (hmask : rd16 i.body 0 ≠ 0) (hspan : rd8 i.body 2 ≤ 2) (hz : rd8 i.body 3 = 0)
    (hs : u.staged = false) (hb : u.boundary i u.firstCut = .ok n)
    (hinside : ∀ r ∈ u.dac.reqs, r.phase = 0 → masksMeet r.mask (rd16 i.body 0) = true → maskInside r.mask (rd16 i.body 0) = true) :
    dacSpanRun i u = .defer (u.spanRequest
      { mask := rd16 i.body 0, span := rd8 i.body 2, start := n, ref := i.ref, phase := 0, switched := false }) n := by
  have hbusy : ((u.dac.reqs.filter fun r => r.phase == 0).any fun r =>
      masksMeet r.mask (rd16 i.body 0) && !maskInside r.mask (rd16 i.body 0)) = false := by
    simpa using hinside
  unfold dacSpanRun
  dsimp only
  rw [if_neg (dacSpan_params hmask hspan hz), if_neg (by simp [hs]), hb]
  dsimp only
  rw [if_neg (by simp [hbusy])]
  rfl

/-! TWIN_CONFIG. -/

/-- The ranges of TWIN_CONFIG hold (R328). -/
theorem twinConfigOk_of_params {b : Bytes} (h0 : rd8 b 0 ≤ 1) (h1 : rd8 b 1 ≤ 1) (h2 : rd8 b 2 ≤ 1) (h3 : rd8 b 3 = 0)
    (hwait : rd16 b 4 ≤ 60) (hport : 1024 ≤ rd16 b 6) (hlo : 224 * 2 ^ 24 ≤ rdBE b 24 4) (hhi : rdBE b 24 4 < 240 * 2 ^ 24)
    (hz : zeroAt b 28 4 = true) : twinConfigOk b = true := by
  unfold twinConfigOk
  dsimp only
  rw [decide_eq_true ⟨h0, h1, h2, h3, hwait, hport⟩, decide_eq_true ⟨hlo, hhi⟩, hz]
  rfl

theorem twinConfigRun_ok {i : CmdIn} {u : State} (hm : u.sys.mode = .staged) (hok : twinConfigOk i.body = true) :
    twinConfigRun i u = .ok { u with twn := { (if rd8 i.body 0 = 1 then u.twn
          else { u.twn with haspUp := false, netaUp := false, netbUp := false, missHasp := 0, missA := 0, missB := 0 }) with
        id := rd8 i.body 1, autoJoin := rd8 i.body 2 == 1, wait := rd16 i.body 4, port := rd16 i.body 6, seed := rd64 i.body 8
        peerA := rdBE i.body 16 4, peerB := rdBE i.body 20 4, group := rdBE i.body 24 4
        state := if rd8 i.body 0 = 1 then .seeking else .off } } := by
  unfold twinConfigRun
  dsimp only
  rw [if_neg (by simp [hm]), if_neg (by simp [hok])]

/-! TWIN_JOIN. -/

theorem State.mirrorOut_tick (u : State) (n : Nat) (a : MirAct) (len : Nat) : (u.mirrorOut n a len).tick = u.tick :=
  (State.postTwin_frame ..).1

/-- A twin's start is a choice of its boundary, what the partner is told of it, and an event. -/
theorem State.planTwin_tick (u : State) (m : Tumbler) : (u.planTwin m).tick = u.tick := by
  unfold State.planTwin
  dsimp only
  split_ifs
  any_goals rfl
  exact State.mirrorOut_tick ..

theorem State.planStart_tick (u : State) : u.planStart.tick = u.tick := by
  have hready : (if u.twn.ready then u else { u with twn := { u.twn with ready := true, readyAt := u.now } }).tick = u.tick := by
    split_ifs <;> rfl
  unfold State.planStart
  split
  · rfl
  split
  · rfl
  generalize (if u.twn.ready then u else { u with twn := { u.twn with ready := true, readyAt := u.now } }) = w at hready ⊢
  dsimp only
  split
  · exact hready
  split
  · exact (State.planTwin_tick ..).trans hready
  · exact hready

theorem twinJoinRun_seeking {i : CmdIn} {u : State} (hs : u.twn.state = .seeking) (hup : u.twn.haspUp = true) :
    twinJoinRun i u = .ok (if u.rendering then State.rejoin { u with twn := { u.twn with want := true, retryAt := none } }
      else State.planStart { u with twn := { u.twn with want := true, retryAt := none } }) := by
  unfold twinJoinRun
  rw [if_neg (by simp [hs]), if_neg (by simp [hup])]
  rfl

/-- Settles O10: each command by what its own rules answer where the spec admits it. -/
theorem monitorAndTwinCommandsComplete : Obligations.MonitorAndTwinCommandsComplete := by
  refine ⟨?dacConfig, ?dacMapNow, ?dacMapLater, ?dacSpanNow, ?dacSpanLater, ?dacQuery, ?clkQuery, ?twinConfig, ?joinNow, ?joinAtStart, ?twinQuery⟩
  case dacConfig =>
    exact completes_of_ok (fun _ _ => rfl) (fun _ _ => rfl) fun i u ⟨hm, h0, h1, hz, hscene⟩ => dacConfigRun_ok hm h0 h1 hz hscene
  case dacMapNow =>
    exact completes_of_ok (fun _ _ => rfl) (fun i u => foldl_dacMapEntry_tick _ i.body u) fun i u ⟨hlo, hhi, hz, hk, hs⟩ =>
      (dacMapRun_admitted ⟨hlo, hhi, hz, hk⟩).trans (scheduled_now hs)
  case dacMapLater =>
    exact completesFor_of_run (fun _ _ => rfl) fun i u n ⟨hlo, hhi, hz, hk, hs, hb⟩ =>
      (dacMapRun_admitted ⟨hlo, hhi, hz, hk⟩).trans (scheduled_later hs hb)
  case dacSpanNow =>
    exact completes_of_ok (fun _ _ => rfl) (fun _ _ => State.setSpan_tick ..) fun i u ⟨hmask, hspan, hz, hs⟩ =>
      dacSpanRun_ok hmask hspan hz hs
  case dacSpanLater =>
    exact defers_of_run (fun _ _ => rfl) fun i u n ⟨hmask, hspan, hz, hs, hb, hinside⟩ =>
      dacSpanRun_defer hmask hspan hz hs hb hinside
  case dacQuery => exact completes_of_run (fun _ _ => rfl) fun _ _ _ => rfl
  case clkQuery => exact completes_of_run (fun _ _ => rfl) fun _ _ _ => rfl
  case twinConfig =>
    exact completes_of_ok (fun _ _ => rfl) (fun _ _ => rfl) fun i u ⟨hm, h0, h1, h2, h3, hwait, hport, hlo, hhi, hz⟩ =>
      twinConfigRun_ok hm (twinConfigOk_of_params h0 h1 h2 h3 hwait hport hlo hhi hz)
  case joinNow =>
    exact completes_of_ok (fun _ _ => rfl) (fun _ _ => rfl) fun i u ⟨hs, hup, hr⟩ => by
      rw [show twinJoinCmd.run i u = _ from twinJoinRun_seeking (i := i) hs hup, if_pos hr]
      rfl
  case joinAtStart =>
    exact completes_of_ok (fun _ _ => rfl) (fun _ u => State.planStart_tick _) fun i u ⟨hs, hup, hr⟩ => by
      rw [show twinJoinCmd.run i u = _ from twinJoinRun_seeking (i := i) hs hup, if_neg (by simp [hr])]
  case twinQuery => exact completes_of_run (fun _ _ => rfl) fun _ _ _ => rfl

end Sys2Proof.Machine
end

section
/-! SUPPORT. The twins' messages and timers (R309 to R326, R385): what a served path hands on, what the numbers of messages discard, and
what each timer does once it is due. -/

set_option Elab.async false

namespace Sys2Proof.Machine

/-! Messages that arrive. -/

theorem State.portOpen_of_serves {v : State} {port : Nat} (h : v.portServes port = true) : v.portOpen port = true :=
  (Bool.and_eq_true_iff.1 h).1

/-- An untagged frame on an open port whose protocol is served is counted and handled. -/
theorem State.receive_served {v : State} {port : Nat} (ho : v.portOpen port = true) (f : State → State) :
    v.receive port 0 true f = f (v.rxCount port) := by
  have hvid : (v.rxCount port).vidKnown 0 = true := by simp [State.vidKnown]
  unfold State.receive
  dsimp only
  rw [if_neg (by simp [ho]), if_neg (by simp), if_neg (by simp [hvid]), if_pos rfl]

/-- A twin message on a path that serves is counted and handled (R309, R369). -/
theorem State.twinReceive_served {v : State} {p : TwinPath} (hserves : v.portServes p.port = true) (hon : v.twinOn = true)
    (f : State → State) : v.twinReceive p f = f (v.rxCount p.port) := by
  unfold State.twinReceive
  rw [hserves, hon]
  exact State.receive_served (State.portOpen_of_serves hserves) f

/-- The number of a message is kept, with the last 65,536 (log 108). -/
def State.noteSeen (v : State) (ty q : Nat) : State :=
  { v with twn := { v.twn with seenSeq := ((ty, q) :: v.twn.seenSeq).take 65536 } }

theorem State.unlessSeen_new {v : State} {ty q : Nat} (h : v.twn.seenSeq.contains (ty, q) = false) (f : State → State) :
    v.unlessSeen ty q f = f (v.noteSeen ty q) := if_neg (by rw [h]; decide)

theorem State.unlessSeen_seen {v : State} {ty q : Nat} (h : v.twn.seenSeq.contains (ty, q) = true) (f : State → State) :
    v.unlessSeen ty q f = v := if_pos h

/-- The state in which a message is handled whose number is new: counted and noted. -/
def State.heard (v : State) (p : TwinPath) (ty q : Nat) : State := (v.rxCount p.port).noteSeen ty q

@[simp] theorem State.heard_frame (v : State) (p : TwinPath) (ty q : Nat) : (v.heard p ty q).tick = v.tick ∧ (v.heard p ty q).sys = v.sys ∧
    (v.heard p ty q).twn.state = v.twn.state ∧ (v.heard p ty q).twn.join = v.twn.join ∧
    (v.heard p ty q).twn.checking = v.twn.checking := by
  simp [State.heard, State.noteSeen]

/-- A message whose number is new is handled. -/
theorem State.twinReceive_new {v : State} {p : TwinPath} {ty q : Nat} (hserves : v.portServes p.port = true) (hon : v.twinOn = true)
    (hnew : v.twn.seenSeq.contains (ty, q) = false) (f : State → State) :
    v.twinReceive p (fun w => w.unlessSeen ty q f) = f (v.heard p ty q) := by
  rw [State.twinReceive_served hserves hon]
  exact State.unlessSeen_new (by simpa using hnew) f

/-! Messages that leave. -/

/-- What a twin sends leaves the numbers it has received. -/
theorem State.sendTwin_seenSeq (v : State) (m : TwinMsg) (n : Nat) : (v.sendTwin m n).twn.seenSeq = v.twn.seenSeq := by
  simp [State.sendTwin, State.nextTwinSeq]

theorem execTumblerSend_serves {t : Nat} {p : TwinPath} {s v : State} (hv : v = s.at t) (hon : v.twinOn = true)
    (hserves : v.portServes p.port = true) :
    execTumblerSend t p s = .next (v.post p.port
      (.made 4 (if p = .hasp then v.haspPeer else v.twn.group) v.twn.port (.twin p 0 24 (.tumbler v.tumbler.bytes)))) := by
  unfold execTumblerSend
  rw [← hv]
  dsimp only
  rw [if_neg (by simp [hon, hserves])]

theorem length_leB (k n : Nat) : (leB k n).length = k := by
  induction k generalizing n with
  | zero => rfl
  | succ k ih => rw [leB, List.length_cons, ih]

theorem Tumbler.length_bytes (m : Tumbler) : m.bytes.length = 24 := by
  simp only [Tumbler.bytes, List.length_append, length_leB]

/-! Tumblers. -/

/-- A tumbler's contents are judged in the state that knows its path to be up (R311 to R313, R318, R324, R325). -/
def State.judgeTumbler (w : State) (m : Tumbler) : State :=
  ((((w.peerChecks m).peerYields m).peerReturns m).startJoin m).refChange.planStart

theorem execTumblerRx_serves {t : Nat} {p : TwinPath} {m : Tumbler} {s v : State} (hv : v = s.at t) (hserves : v.portServes p.port = true)
    (hon : v.twinOn = true) (him : p = .hasp → v.imageRuns = true) :
    execTumblerRx t p m s = .next
      (let w := v.rxCount p.port
       let w := if w.seesPeer then w else { w with twn := { w.twn with seenSeq := [] } }
       let w := (if w.pathUp p then w else w.twnEvt 1).setPath p true
       State.judgeTumbler { w with twn := { w.twn with peer := some m } } m) := by
  unfold execTumblerRx
  rw [← hv]
  dsimp only
  rw [if_neg (by simpa using him), State.twinReceive_served hserves hon]
  rfl

theorem execTumblerRx_noImage {t : Nat} {m : Tumbler} {s v : State} (hv : v = s.at t) (ho : v.portOpen 3 = true)
    (him : v.imageRuns = false) :
    execTumblerRx t .hasp m s = .next
      (let w := v.rxCount 3
       { w with twn := { w.twn with logged := (m :: w.twn.logged).take 64 } }) := by
  unfold execTumblerRx
  rw [← hv]
  dsimp only
  rw [if_pos (by simp [him]), State.receive_served ho]

/-- A missed interval leaves the paths that are up. -/
theorem State.pathUp_missOne (v : State) (p : TwinPath) : (v.missOne p).pathUp p = v.pathUp p := by
  cases p <;> rfl

theorem execTumblerMiss_on {t : Nat} {p : TwinPath} {s v : State} (hv : v = s.at t) (hon : v.twinOn = true) :
    execTumblerMiss t p s =
      .next (if v.pathUp p && (v.missOne p).missedOut p then (v.missOne p).losePath p else v.missOne p) := by
  unfold execTumblerMiss
  rw [← hv]
  dsimp only
  rw [if_neg (by simp [hon]), State.pathUp_missOne]

/-! Mirror records. -/

/-- The decider takes no record; the other twin acknowledges each, and takes it once (R317). -/
theorem execMirrorRx_serves {t q : Nat} {p : TwinPath} {m : Mirror} {s v : State} (hv : v = s.at t) (hserves : v.portServes p.port = true)
    (hon : v.twinOn = true) :
    execMirrorRx t q p m s = .next (if v.twn.decider then v.rxCount p.port
      else ((v.rxCount p.port).sendTwin (.ack m.mseq) 8).unlessSeen 2 q fun w => w.takeMirror m) := by
  unfold execMirrorRx
  rw [← hv]
  dsimp only
  rw [State.twinReceive_served hserves hon]
  simp

/-! Checks and verdicts. -/

/-- A check is kept and compared while this twin checks, or a join is in progress (R322). -/
theorem execCheckRx_compares {t q : Nat} {p : TwinPath} {c : Check} {s v : State} (hv : v = s.at t) (hserves : v.portServes p.port = true)
    (hon : v.twinOn = true) (hnew : v.twn.seenSeq.contains (4, q) = false) (hchecks : (v.twn.checking || v.twn.join.isSome) = true) :
    execCheckRx t q p c s = .next (let w := v.heard p 4 q
      State.compareChecks { w with twn := { w.twn with theirs := w.twn.theirs ++ [c] } } c.tick) := by
  have hkeeps : ¬ ((!(v.heard p 4 q).twn.checking && (v.heard p 4 q).twn.join.isNone) = true) := by
    obtain ⟨-, -, -, hjoin, hchecking⟩ := v.heard_frame p 4 q
    rw [hjoin, hchecking, ← Option.not_isSome, ← Bool.not_or, hchecks]
    decide
  unfold execCheckRx
  rw [← hv]
  dsimp only
  rw [State.twinReceive_new hserves hon hnew, if_neg hkeeps]

/-- In LOCKSTEP a verdict is acted on (R322). -/
theorem execVerdictRx_acts {t q n : Nat} {p : TwinPath} {clean : Bool} {s v : State} (hv : v = s.at t)
    (hserves : v.portServes p.port = true) (hon : v.twinOn = true) (hnew : v.twn.seenSeq.contains (5, q) = false)
    (hst : v.twn.state = .lockstep) :
    execVerdictRx t q p n clean s = .next (let w := v.heard p 5 q
      State.actOnVerdict { w with twn := { w.twn with peerVerdict := some (n, clean) } } false) := by
  unfold execVerdictRx
  rw [← hv]
  dsimp only
  rw [State.twinReceive_new hserves hon hnew, if_neg (by simp [hst])]

/-! Timers. -/

theorem execVerdictTimeout_due {t n t0 : Nat} {clean : Bool} {s v : State} (hv : v = s.at t)
    (hverdict : v.twn.verdict = some (n, clean, t0)) (hd : v.twn.decider = true) (hdue : t0 + 1000000 ≤ v.now) :
    execVerdictTimeout t s = .next (v.actOnVerdict true) := by
  unfold execVerdictTimeout
  rw [← hv]
  dsimp only
  rw [hverdict]
  exact congrArg _ (if_pos (by rw [hd, decide_eq_true hdue]; rfl))

theorem execTwinWaitExpiry_due {t : Nat} {s v : State} (hv : v = s.at t) (hm : v.sys.mode = .locking) (hst : v.twn.state = .seeking)
    (hready : v.twn.ready = true) (hlock : v.timeLocked = true) (hstart : v.rnd.startAt = none) (hbars : v.peerBars = false)
    (hwaits : v.peerWaits = true) (hdue : v.twn.readyAt + v.twn.wait * 1000000000 ≤ v.now) :
    execTwinWaitExpiry t s = .next (v.planAt v.now .alone) := by
  unfold execTwinWaitExpiry
  rw [← hv]
  dsimp only
  rw [if_pos (by simp [hm, hst, hready, hlock, hstart, hbars, hwaits, hdue])]

theorem execJoinReqSend_due {t : Nat} {s v : State} (hv : v = s.at t) (hst : v.twn.state = .joining) (hr : v.rendering = true)
    (hj : v.twn.join = none) (hdue : 16 * v.rnd.startS + v.fs / 5 ≤ v.sampleNow) :
    execJoinReqSend t s = .next { v with twn := { v.twn with joinReq := true } } := by
  unfold execJoinReqSend
  rw [← hv]
  dsimp only
  rw [if_pos (by simp [hst, hr, hj, hdue])]

theorem execJoinFailTimeout_due {t : Nat} {s v : State} {j : JoinSt} (hv : v = s.at t) (hj : v.twn.join = some j) (hm : j.matched = 0)
    (hdue : 16 * j.k + 10 * v.fs ≤ v.sampleNow) : execJoinFailTimeout t s = .next v.joinFail := by
  unfold execJoinFailTimeout
  rw [← hv]
  dsimp only
  rw [hj]
  exact congrArg _ (if_pos (by simp [hm, hdue]))

/-- A twin that renders asks to join again, and any other plans its start (R326). -/
theorem execAutoJoinRetry_due {t r : Nat} {s v : State} (hv : v = s.at t) (hr : v.twn.retryAt = some r) (hdue : r ≤ v.now)
    (hst : v.twn.state = .seeking) (hauto : v.twn.autoJoin = true) :
    execAutoJoinRetry t s =
      .next (if v.rendering then v.rejoin else State.planStart { v with twn := { v.twn with retryAt := none } }) := by
  unfold execAutoJoinRetry
  rw [← hv]
  dsimp only
  rw [hr]
  exact congrArg _ (if_neg (by simp [hst, hauto, hdue]))

/-! Snapshots. -/

/-- Past the boundary K the snapshot leaves as it was taken. -/
theorem execSnapshotSend_sends {t : Nat} {s v : State} {x : Snapshot} {j : JoinSt} (hv : v = s.at t) (hx : v.rnd.joinSnap = some x)
    (hj : v.twn.join = some j) (hup : v.twn.haspUp = true) (hout : x.tick < v.rnd.nextOut) (hlast : x.tick ≤ v.rnd.lastTick + 1) :
    execSnapshotSend t s = .next (State.sendSnapshot
      { v with rnd := { v.rnd with joinSnap := none }, twn := { v.twn with join := some { j with snap := true } } } x) := by
  unfold execSnapshotSend
  rw [← hv]
  dsimp only
  rw [hx, hj]
  dsimp only
  rw [if_neg (by simp [hup]; omega), if_neg (by omega)]

/-- The joiner that stands before the boundary of the snapshot loads it, once. -/
theorem execSnapshotRx_loads {t q : Nat} {x : Snapshot} {s v : State} {j : JoinSt} (hv : v = s.at t) (hserves : v.portServes 3 = true)
    (hon : v.twinOn = true) (hnew : v.twn.seenSeq.contains (7, q) = false) (hj : v.twn.join = some j)
    (hst : v.twn.state = .joining) (hr : v.rendering = true) (hs : j.snap = false) (hk : x.tick = j.k) (ht : v.tick + 1 = j.k) :
    execSnapshotRx t q x s = .next ((v.heard .hasp 7 q).loadSnap x j) := by
  have hjoin : (v.heard .hasp 7 q).twn.join = some j := by simpa using hj
  have hrenders : v.sys.mode.renders = true := hr
  have hstands : ((v.heard .hasp 7 q).twn.state = .joining && (v.heard .hasp 7 q).rendering && !j.snap && x.tick == j.k &&
      (v.heard .hasp 7 q).tick + 1 == j.k) = true := by
    simp [State.rendering, hst, hrenders, hs, hk, ht]
  unfold execSnapshotRx
  rw [← hv]
  dsimp only
  rw [State.twinReceive_new (p := .hasp) hserves hon hnew, hjoin]
  exact congrArg _ (if_pos hstands)

/-- Settles O28: each event by what its path hands on, or by its timer being due. -/
theorem twinEventsAct : Obligations.TwinEventsAct := by
  refine ⟨?tumblerSend, Tumbler.length_bytes, ?tumblerRx, ?tumblerLogged, ?miss, ?pathLost, ?mirrorDecider, ?mirrorNew, ?mirrorSeen, ?ack,
    ?retx, ?retxIdle, ?relay, ?answer, ?check, ?verdict, ?verdictTimeout, ?snapshotSend, ?snapshotRx, ?waitExpiry, ?joinReq, ?joinFail,
    ?retryRendering, ?retryStart⟩
  case tumblerSend => exact fun t p s v hv hon hserves => execTumblerSend_serves hv hon hserves
  case tumblerRx => exact fun t p m s v hv hserves hon him => execTumblerRx_serves hv hserves hon him
  case tumblerLogged => exact fun t m s v hv ho him => execTumblerRx_noImage hv ho him
  case miss =>
    exact fun t p s v hv hon hstays => (execTumblerMiss_on hv hon).trans (congrArg _ (if_neg (by rw [hstays]; decide)))
  case pathLost =>
    exact fun t p s v hv hon hup hout => (execTumblerMiss_on hv hon).trans (congrArg _ (if_pos (by rw [hup, hout]; rfl)))
  case mirrorDecider =>
    exact fun t q p m s v hv hserves hon hd => (execMirrorRx_serves hv hserves hon).trans (congrArg _ (if_pos hd))
  case mirrorNew =>
    intro t q p m s v hv hserves hon hd hnew
    have htake := State.unlessSeen_new (v := (v.rxCount p.port).sendTwin (.ack m.mseq) 8) (q := q)
      (by simpa [State.sendTwin_seenSeq] using hnew) fun w => w.takeMirror m
    exact (execMirrorRx_serves hv hserves hon).trans (congrArg _ ((if_neg (by rw [hd]; decide)).trans htake))
  case mirrorSeen =>
    intro t q p m s v hv hserves hon hd hseen
    have hdiscard := State.unlessSeen_seen (v := (v.rxCount p.port).sendTwin (.ack m.mseq) 8) (q := q)
      (by simpa [State.sendTwin_seenSeq] using hseen) fun w => w.takeMirror m
    exact (execMirrorRx_serves hv hserves hon).trans (congrArg _ ((if_neg (by rw [hd]; decide)).trans hdiscard))
  case ack =>
    intro t q p m s v hv hserves hon hnew
    subst hv
    exact congrArg Host.Outcome.next (State.twinReceive_new hserves hon hnew _)
  case retx =>
    intro t s v hv hon hsees
    subst hv
    exact congrArg Host.Outcome.next (if_pos (by rw [hon, hsees]; rfl))
  case retxIdle =>
    intro t s v hv hidle
    subst hv
    exact congrArg Host.Outcome.next (if_neg (by rw [hidle]; decide))
  case relay =>
    intro t q p n op body fl when s v hv hserves hon hnew
    subst hv
    exact congrArg Host.Outcome.next (State.twinReceive_new hserves hon hnew _)
  case answer =>
    intro t q p n st pl d s v hv hserves hon hnew
    subst hv
    exact congrArg Host.Outcome.next (State.twinReceive_new hserves hon hnew _)
  case check => exact fun t q p c s v hv hserves hon hnew hchecks => execCheckRx_compares hv hserves hon hnew hchecks
  case verdict => exact fun t q p n clean s v hv hserves hon hnew hst => execVerdictRx_acts hv hserves hon hnew hst
  case verdictTimeout => exact fun t s n clean t0 v hv hverdict hd hdue => execVerdictTimeout_due hv hverdict hd hdue
  case snapshotSend => exact fun t s x j v hv hx hj hup hout hlast => execSnapshotSend_sends hv hx hj hup hout hlast
  case snapshotRx =>
    exact fun t q x s j v hv hserves hon hnew hj hst hr hs hk ht => execSnapshotRx_loads hv hserves hon hnew hj hst hr hs hk ht
  case waitExpiry =>
    exact fun t s v hv hm hst hready hlock hstart hbars hwaits hdue =>
      execTwinWaitExpiry_due hv hm hst hready hlock hstart hbars hwaits hdue
  case joinReq => exact fun t s v hv hst hr hj hdue => execJoinReqSend_due hv hst hr hj hdue
  case joinFail => exact fun t s j v hv hj hm hdue => execJoinFailTimeout_due hv hj hm hdue
  case retryRendering =>
    exact fun t s r v hv hr hdue hst hauto hrend => (execAutoJoinRetry_due hv hr hdue hst hauto).trans (congrArg _ (if_pos hrend))
  case retryStart =>
    exact fun t s r v hv hr hdue hst hauto hrend =>
      (execAutoJoinRetry_due hv hr hdue hst hauto).trans (congrArg _ (if_neg (by rw [hrend]; decide)))

end Sys2Proof.Machine
end

section
/-! SUPPORT. A step and the queue of waiting commands (R334, R347): every command answers a next state, and none of them touches the queue. -/

namespace Sys2Proof.Machine

/-- Settles O35: the two branches of a step. -/
theorem stepRunsTheFrontCommand : Obligations.StepRunsTheFrontCommand := by
  refine ⟨fun c rest s hq => ?_, fun s hq => ?_⟩ <;> rw [step, hq]

/-- Settles O36: by cases on the command, whose meaning is a next state outright; what its conditions decide is which one. -/
theorem everyCommandAnswersANextState : Obligations.EveryCommandAnswersANextState := by
  intro c s
  cases c <;> exact ⟨_, rfl⟩

/-- A command that ends in a reset hands the queue on as well (R363). -/
theorem Reset.pending {s t : State} (h : Reset s t) : t.pending = s.pending := by
  obtain ⟨u, src, hu, rfl⟩ := h
  obtain ⟨hp, -⟩ := hu
  exact hp

/-- Settles O37: a command that ends in no reset guards the queue, and a reset hands it on. -/
theorem commandsLeaveTheQueue : Obligations.CommandsLeaveTheQueue := by
  intro c s t h
  cases hr : endsInReset c with
  | false =>
    obtain ⟨hp, -⟩ := exec_guarded c s hr t h
    exact hp
  | true =>
    rcases exec_reset c s hr t h with ⟨hp, -⟩ | hres
    · exact hp
    · exact hres.pending

end Sys2Proof.Machine
end

section
/-! SUPPORT. The order of the head checks (R348): each of the first four refuses alone once those before it hold, and then the modes. -/

namespace Sys2Proof.Machine

/-! Checks 1 to 4, each where those before it hold. -/

theorem headCheck_noImage {u : State} {c : Cmd} {length flags : Nat} {p : Bytes} (him : u.imageRuns = false) (hb : c.boot = false) :
    headCheck u (some c) true length flags p = some .noImage := by
  have himage : (!u.imageRuns && !c.boot) = true := by rw [him, hb]; decide
  unfold headCheck
  dsimp only
  rw [if_pos himage]
  rfl

/-- Check 1 holds: the image runs, or the command needs none. -/
theorem not_noImage {u : State} {c : Cmd} (h : (u.imageRuns || c.boot) = true) : ¬ ((!u.imageRuns && !c.boot) = true) := by
  rw [← Bool.not_or, h]
  decide

theorem headCheck_badLength {u : State} {c : Cmd} {length flags : Nat} {p : Bytes} (him : (u.imageRuns || c.boot) = true)
    (hlen : c.len length p = false) : headCheck u (some c) true length flags p = some .badLength := by
  unfold headCheck
  dsimp only
  rw [if_neg (not_noImage him), hlen]
  rfl

theorem headCheck_badParam {u : State} {c : Cmd} {length flags : Nat} {p : Bytes} (him : (u.imageRuns || c.boot) = true)
    (hlen : c.len length p = true) (hfl : flags / 4 ≠ 0 ∨ c.uses = true ∧ flags % 4 = 3) :
    headCheck u (some c) true length flags p = some .badParam := by
  have hflags : (flags / 4 != 0 || (c.uses && flags % 4 == 3)) = true := by simpa using hfl
  unfold headCheck
  dsimp only
  rw [if_neg (not_noImage him), hlen, if_pos hflags]
  rfl

/-! What a refusal does. -/

/-- A head check that fails refuses the packet with its status. -/
theorem keyway_headRefused {c : Cmd} {h : Hdr} {p : Bytes} {s : State} {st : Status} (hd : delivered c.op h p s = true)
    (hc : headCheck (taken c.op h p s) (some c) true h.length h.flags p = some st) :
    keyway c h p s = .next (refusedWith c h p s st []) := by
  rw [keyway_handle c h p s hd, handle, hc]
  rfl

/-- Past the head checks, a command that the module decides itself is refused in YIELDED and SLEEP (R286, R474). -/
theorem keyway_modeRefused {c : Cmd} {h : Hdr} {p : Bytes} {s : State} (hd : delivered c.op h p s = true)
    (hc : headCheck (taken c.op h p s) (some c) true h.length h.flags p = none)
    (hown : (c.mirrored && (taken c.op h p s).rendering && (taken c.op h p s).follows) = false)
    (hm : modeCheck (taken c.op h p s) c = false) : keyway c h p s = .next (refusedWith c h p s .badMode []) := by
  rw [keyway_handle c h p s hd, handle, hc]
  dsimp only
  rw [hown, if_neg (by decide), runCmd, hm]
  rfl

/-- Settles O44: the head checks one by one, and the modes behind them. -/
theorem headChecksComeInOrder : Obligations.HeadChecksComeInOrder := by
  intro i c h p s hrow hd u
  rw [exec_keyway hrow]
  refine ⟨fun him hb => ?noImage, fun him => ⟨fun hlen => ?badLength, fun hlen => ⟨fun hfl => ?badParam, fun hfl huse hown hm => ?badMode⟩⟩⟩
  case noImage => exact keyway_headRefused hd (headCheck_noImage him hb)
  case badLength => exact keyway_headRefused hd (headCheck_badLength him hlen)
  case badParam => exact keyway_headRefused hd (headCheck_badParam him hlen hfl)
  case badMode => exact keyway_modeRefused hd (headCheck_passes him hlen hfl huse) hown hm

end Sys2Proof.Machine
end

section
/-! SUPPORT. The registers of the command and reply rings (R333 to R345, R546): one equation a register, and what discarding the held
replies leaves. -/

namespace Sys2Proof.Machine

/-! The registers, one equation each. -/

theorem State.badIndex_eq (v : State) : v.badIndex = { v with key := { v.key with evt := v.key.evt ||| 1 } } := rfl

/-- KEY_CTL with its two enables. -/
theorem keyWrite_ctl (v : State) (cmd rpl : Bool) :
    keyWrite v 0 (flags [cmd, rpl]) =
      if cmd && !v.key.cmdEn && !ringSizeOk v.key.cmdSize || rpl && !v.key.rplEn && !ringSizeOk v.key.rplSize then v.badCfg
      else (v.setCmdEn cmd).setRplEn rpl := by
  cases cmd <;> cases rpl <;> rfl

theorem keyWrite_cmdBaseLo (v : State) (x : Nat) :
    keyWrite v 0x10 x = if v.key.cmdEn || x % 4096 != 0 then v.badCfg else { v with key := { v.key with cmdBaseLo := wd x } } := rfl

theorem keyWrite_cmdBaseHi (v : State) (x : Nat) :
    keyWrite v 0x14 x = if v.key.cmdEn then v.badCfg else { v with key := { v.key with cmdBaseHi := wd x } } := rfl

theorem keyWrite_cmdSize (v : State) (x : Nat) :
    keyWrite v 0x18 x = if v.key.cmdEn || !ringSizeOk x then v.badCfg else { v with key := { v.key with cmdSize := x } } := rfl

theorem keyWrite_cmdPi (v : State) (x : Nat) : keyWrite v 0x1C x = v.writeCmdPi (x % 65536) := rfl

theorem keyWrite_rplBaseLo (v : State) (x : Nat) :
    keyWrite v 0x30 x = if v.key.rplEn || x % 4096 != 0 then v.badCfg else { v with key := { v.key with rplBaseLo := wd x } } := rfl

theorem keyWrite_rplBaseHi (v : State) (x : Nat) :
    keyWrite v 0x34 x = if v.key.rplEn then v.badCfg else { v with key := { v.key with rplBaseHi := wd x } } := rfl

theorem keyWrite_rplSize (v : State) (x : Nat) :
    keyWrite v 0x38 x = if v.key.rplEn || !ringSizeOk x then v.badCfg else { v with key := { v.key with rplSize := x } } := rfl

theorem keyWrite_rplCi (v : State) (x : Nat) : keyWrite v 0x40 x = v.writeRplCi (x % 65536) := rfl

/-! The rows that write them. -/

theorem isHostOf_key : ∀ off ∈ [0, 0x10, 0x14, 0x18, 0x1C, 0x30, 0x34, 0x38, 0x40], isHostOf (0x10000 + off) 0x10000 1 = true := by decide

/-- The write of a register of the rings that answers. -/
theorem hostRegWrite_key {t off x : Nat} {s v : State} (ho : off ∈ [0, 0x10, 0x14, 0x18, 0x1C, 0x30, 0x34, 0x38, 0x40]) (hv : v = s.at t)
    (hw : v.writable (0x10000 + off) 1 = true) : hostRegWrite t (0x10000 + off) x s = keyWrite v off x := by
  rw [hostRegWrite_open (isHostOf_key off ho) hv hw, Nat.add_sub_cancel_left]
  rfl

/-- A write to a base or size register that answers does what its register does. -/
theorem exec_ringCfg {t off x : Nat} {s v u : State} (ho : off ∈ [0x10, 0x14, 0x18, 0x30, 0x34, 0x38]) (hv : v = s.at t)
    (hw : v.writable (0x10000 + off) 1 = true) (hu : keyWrite v off x = u) : exec (.keyRingCfgWrite t off x) s = .next u := by
  have hkey : off ∈ [0, 0x10, 0x14, 0x18, 0x1C, 0x30, 0x34, 0x38, 0x40] := by
    simp only [List.mem_cons, List.not_mem_nil, or_false] at ho ⊢
    omega
  show Host.Outcome.next (if _ then _ else _) = _
  rw [if_pos (List.contains_iff_mem.2 ho), hostRegWrite_key hkey hv hw, hu]

/-! The enables. -/

theorem State.setCmdEn_same (v : State) : v.setCmdEn v.key.cmdEn = v := if_pos (beq_self_eq_true _)

theorem State.setRplEn_same (v : State) : v.setRplEn v.key.rplEn = v := if_pos (beq_self_eq_true _)

theorem State.setCmdEn_off (v : State) : v.setCmdEn false = { v with key := { v.key with cmdEn := false } } := by
  cases h : v.key.cmdEn with
  | false => rw [← h, State.setCmdEn_same]
  | true => rw [State.setCmdEn, h]; rfl

theorem State.setCmdEn_on {v : State} (hoff : v.key.cmdEn = false) (hsize : ringSizeOk v.key.cmdSize = true) :
    v.setCmdEn true = { v with key := { v.key with cmdEn := true, cmdPi := 0, cmdCi := 0, fetchStopped := false } } := by
  rw [State.setCmdEn, hoff, hsize]
  rfl

theorem State.setRplEn_on {v : State} (hoff : v.key.rplEn = false) (hsize : ringSizeOk v.key.rplSize = true) :
    v.setRplEn true = { v with key := { v.key with rplEn := true, rplPi := 0, rplCi := 0, phase := true } } := by
  rw [State.setRplEn, hoff, hsize]
  rfl

theorem State.setRplEn_off {v : State} (hon : v.key.rplEn = true) :
    v.setRplEn false = (State.dropWaiting { v with key := { v.key with rplEn := false } }).sendFreed := by
  rw [State.setRplEn, hon]
  rfl

/-- The write of the command ring's enable leaves the reply ring's as it is. -/
theorem keyWrite_cmdEn {v : State} {on : Bool} (h : on = true → v.key.cmdEn = false → ringSizeOk v.key.cmdSize = true) :
    keyWrite v 0 (flags [on, v.key.rplEn]) = (v.setCmdEn on).setRplEn v.key.rplEn := by
  rw [keyWrite_ctl, if_neg]
  simpa using h

/-- The write of the reply ring's enable leaves the command ring's as it is. -/
theorem keyWrite_rplEn {v : State} {on : Bool} (h : on = true → v.key.rplEn = false → ringSizeOk v.key.rplSize = true) :
    keyWrite v 0 (flags [v.key.cmdEn, on]) = v.setRplEn on := by
  rw [keyWrite_ctl, if_neg, State.setCmdEn_same]
  simpa using h

/-! The indexes. -/

theorem State.writeCmdPi_inside {v : State} {x : Nat} (hen : v.key.cmdEn = true) (hx : x < v.key.cmdSize) :
    v.writeCmdPi x = { v with key := { v.key with cmdPi := x } } := by
  rw [State.writeCmdPi, hen, if_neg (by decide), if_neg (by omega)]

theorem State.writeCmdPi_outside {v : State} {x : Nat} (hen : v.key.cmdEn = true) (hx : v.key.cmdSize ≤ x) : v.writeCmdPi x = v.badIndex := by
  rw [State.writeCmdPi, hen, if_neg (by decide), if_pos hx]

theorem State.writeRplCi_inside {v : State} {x : Nat} (hen : v.key.rplEn = true) (hin : x < v.key.rplSize)
    (hpi : (x + v.key.rplSize - v.key.rplCi) % v.key.rplSize ≤ (v.key.rplPi + v.key.rplSize - v.key.rplCi) % v.key.rplSize) :
    v.writeRplCi x = { v with key := { v.key with rplCi := x } } := by
  unfold State.writeRplCi
  dsimp only
  rw [hen, if_neg (by decide), if_neg (by simpa using ⟨hin, hpi⟩)]

theorem State.writeRplCi_outside {v : State} {x : Nat} (hen : v.key.rplEn = true) (hout : v.key.rplSize ≤ x ∨
      (v.key.rplPi + v.key.rplSize - v.key.rplCi) % v.key.rplSize < (x + v.key.rplSize - v.key.rplCi) % v.key.rplSize) :
    v.writeRplCi x = v.badIndex := by
  unfold State.writeRplCi
  dsimp only
  rw [hen, if_neg (by decide), if_pos (by simpa using hout)]

/-! The held replies (R345). -/

theorem State.dropReply_key (v : State) (r : Reply) : (v.dropReply r).key.waiting = v.key.waiting ∧
    (v.dropReply r).key.rplDropCnt = v.key.rplDropCnt + 1 ∧ (v.dropReply r).key.evt = v.key.evt ||| 8 := by
  unfold State.dropReply State.replied
  dsimp only
  split_ifs <;> exact ⟨rfl, rfl, rfl⟩

theorem foldl_dropReply_key (l : List Reply) (v : State) : (l.foldl State.dropReply v).key.waiting = v.key.waiting ∧
    (l.foldl State.dropReply v).key.rplDropCnt = v.key.rplDropCnt + wd l.length ∧
    (l.foldl State.dropReply v).key.evt = if l = [] then v.key.evt else v.key.evt ||| 8 := by
  induction l generalizing v with
  | nil => exact ⟨rfl, (BitVec.add_zero _).symm, rfl⟩
  | cons r l ih =>
    obtain ⟨hw, hc, he⟩ := State.dropReply_key v r
    obtain ⟨iw, ic, ie⟩ := ih (v.dropReply r)
    refine ⟨iw.trans hw, ?_, ?_⟩
    · have hlen : wd (l.length + 1) = 1 + wd l.length := (BitVec.ofNat_add ..).trans (BitVec.add_comm ..)
      rw [List.foldl_cons, ic, hc, List.length_cons, hlen, BitVec.add_assoc]
    · rw [List.foldl_cons, ie, he, BitVec.or_assoc, BitVec.or_self, ite_self, if_neg (List.cons_ne_nil r l)]

/-- Settles O13: each row is the write of its register, and each register takes its value under the condition of its equation. -/
theorem ringRegistersAct : Obligations.RingRegistersAct := by
  refine ⟨?cmdOn, ?cmdOnSize, ?cmdOff, ?rplOn, ?rplOnSize, ?rplOff, ?cmdBaseLo, ?cmdBaseHi, ?rplBaseLo, ?rplBaseHi, ?cmdSize, ?cmdSizeBad,
    ?rplSize, ?rplSizeBad, ?cmdBaseLoAlign, ?rplBaseLoAlign, ?cmdBaseLoBusy, ?cmdBaseHiBusy, ?rplBaseLoBusy, ?rplBaseHiBusy, ?cmdPi,
    ?cmdPiBad, ?rplCi, ?rplCiBad, ?dropWaiting⟩
  case cmdOn =>
    rintro t s v rfl hw hoff hsize
    refine congrArg _ ((hostRegWrite_key (off := 0) (by decide) rfl hw).trans ?_)
    exact (keyWrite_cmdEn fun _ _ => hsize).trans ((congrArg (State.setRplEn · _) (State.setCmdEn_on hoff hsize)).trans
      (State.setRplEn_same _))
  case cmdOnSize =>
    rintro t s v rfl hw hoff hsize
    refine congrArg _ ((hostRegWrite_key (off := 0) (by decide) rfl hw).trans ((keyWrite_ctl ..).trans (if_pos ?_)))
    rw [hoff, hsize]
    rfl
  case cmdOff =>
    rintro t s v rfl hw
    refine congrArg _ ((hostRegWrite_key (off := 0) (by decide) rfl hw).trans ?_)
    exact (keyWrite_cmdEn (on := false) nofun).trans ((congrArg (State.setRplEn · _) (State.setCmdEn_off _)).trans (State.setRplEn_same _))
  case rplOn =>
    rintro t s v rfl hw hoff hsize
    refine congrArg _ ((hostRegWrite_key (off := 0) (by decide) rfl hw).trans ?_)
    exact (keyWrite_rplEn fun _ _ => hsize).trans (State.setRplEn_on hoff hsize)
  case rplOnSize =>
    rintro t s v rfl hw hoff hsize
    refine congrArg _ ((hostRegWrite_key (off := 0) (by decide) rfl hw).trans ((keyWrite_ctl ..).trans (if_pos ?_)))
    rw [hoff, hsize]
    exact Bool.or_true _
  case rplOff =>
    rintro t s v rfl hw hon
    refine congrArg _ ((hostRegWrite_key (off := 0) (by decide) rfl hw).trans ?_)
    exact (keyWrite_rplEn (on := false) nofun).trans (State.setRplEn_off hon)
  case cmdBaseLo =>
    intro t x s v hv hw hoff hx
    exact exec_ringCfg (off := 0x10) (by decide) hv hw ((keyWrite_cmdBaseLo v x).trans (if_neg (by simp [hoff, hx])))
  case cmdBaseHi =>
    intro t x s v hv hw hoff
    exact exec_ringCfg (off := 0x14) (by decide) hv hw ((keyWrite_cmdBaseHi v x).trans (if_neg (by simp [hoff])))
  case rplBaseLo =>
    intro t x s v hv hw hoff hx
    exact exec_ringCfg (off := 0x30) (by decide) hv hw ((keyWrite_rplBaseLo v x).trans (if_neg (by simp [hoff, hx])))
  case rplBaseHi =>
    intro t x s v hv hw hoff
    exact exec_ringCfg (off := 0x34) (by decide) hv hw ((keyWrite_rplBaseHi v x).trans (if_neg (by simp [hoff])))
  case cmdSize =>
    intro t x s v hv hw hoff hx
    exact exec_ringCfg (off := 0x18) (by decide) hv hw ((keyWrite_cmdSize v x).trans (if_neg (by simp [hoff, hx])))
  case cmdSizeBad =>
    intro t x s v hv hw hbad
    exact exec_ringCfg (off := 0x18) (by decide) hv hw ((keyWrite_cmdSize v x).trans (if_pos (by simpa using hbad)))
  case rplSize =>
    intro t x s v hv hw hoff hx
    exact exec_ringCfg (off := 0x38) (by decide) hv hw ((keyWrite_rplSize v x).trans (if_neg (by simp [hoff, hx])))
  case rplSizeBad =>
    intro t x s v hv hw hbad
    exact exec_ringCfg (off := 0x38) (by decide) hv hw ((keyWrite_rplSize v x).trans (if_pos (by simpa using hbad)))
  case cmdBaseLoAlign =>
    intro t x s v hv hw hx
    exact exec_ringCfg (off := 0x10) (by decide) hv hw ((keyWrite_cmdBaseLo v x).trans (if_pos (by simp [hx])))
  case rplBaseLoAlign =>
    intro t x s v hv hw hx
    exact exec_ringCfg (off := 0x30) (by decide) hv hw ((keyWrite_rplBaseLo v x).trans (if_pos (by simp [hx])))
  case cmdBaseLoBusy =>
    intro t x s v hv hw hon
    exact exec_ringCfg (off := 0x10) (by decide) hv hw ((keyWrite_cmdBaseLo v x).trans (if_pos (by simp [hon])))
  case cmdBaseHiBusy =>
    intro t x s v hv hw hon
    exact exec_ringCfg (off := 0x14) (by decide) hv hw ((keyWrite_cmdBaseHi v x).trans (if_pos hon))
  case rplBaseLoBusy =>
    intro t x s v hv hw hon
    exact exec_ringCfg (off := 0x30) (by decide) hv hw ((keyWrite_rplBaseLo v x).trans (if_pos (by simp [hon])))
  case rplBaseHiBusy =>
    intro t x s v hv hw hon
    exact exec_ringCfg (off := 0x34) (by decide) hv hw ((keyWrite_rplBaseHi v x).trans (if_pos hon))
  case cmdPi =>
    intro t x s v hv hw hen hx hin
    refine congrArg _ ((hostRegWrite_key (off := 0x1C) (by decide) hv hw).trans ?_)
    rw [keyWrite_cmdPi, Nat.mod_eq_of_lt hx, State.writeCmdPi_inside hen hin]
  case cmdPiBad =>
    intro t x s v hv hw hen hx hout
    refine congrArg _ ((hostRegWrite_key (off := 0x1C) (by decide) hv hw).trans ?_)
    rw [keyWrite_cmdPi, Nat.mod_eq_of_lt hx, State.writeCmdPi_outside hen hout, State.badIndex_eq]
  case rplCi =>
    intro t x s v hv hw hen hx hin hpi
    refine congrArg _ ((hostRegWrite_key (off := 0x40) (by decide) hv hw).trans ?_)
    rw [keyWrite_rplCi, Nat.mod_eq_of_lt hx, State.writeRplCi_inside hen hin hpi]
  case rplCiBad =>
    intro t x s v hv hw hen hx hbad
    refine congrArg _ ((hostRegWrite_key (off := 0x40) (by decide) hv hw).trans ?_)
    rw [keyWrite_rplCi, Nat.mod_eq_of_lt hx, State.writeRplCi_outside hen hbad, State.badIndex_eq]
  case dropWaiting =>
    intro v
    obtain ⟨hw, hc, he⟩ := foldl_dropReply_key v.key.waiting { v with key := { v.key with waiting := [] } }
    exact ⟨hw, hc, fun hne => he.trans (if_neg hne)⟩

end Sys2Proof.Machine
end

section
/-! SUPPORT. A reply that is written to the ring (R338 to R342): which slots leave for host memory, and what becomes of the indexes. -/

namespace Sys2Proof.Machine

/-! What leaves for host memory. -/

/-- Between `s` and `t` the module has written to host memory only runs of bytes that satisfy `P`, by address and contents. -/
def Leaves (P : Nat → Bytes → Prop) (s t : State) : Prop := ∃ new, t.out = new ++ s.out ∧ ∀ a b, Out.host a b ∈ new → P a b

theorem Leaves.of_out {P : Nat → Bytes → Prop} {s t : State} (h : t.out = s.out) : Leaves P s t := ⟨[], h, nofun⟩

theorem Leaves.trans {P : Nat → Bytes → Prop} {s t u : State} (h : Leaves P s t) (k : Leaves P t u) : Leaves P s u := by
  obtain ⟨l, hl, hP⟩ := h
  obtain ⟨m, hm, hQ⟩ := k
  refine ⟨m ++ l, by rw [hm, hl, List.append_assoc], fun a b hab => ?_⟩
  rcases List.mem_append.1 hab with hab | hab
  · exact hQ a b hab
  · exact hP a b hab

theorem Leaves.mono {P Q : Nat → Bytes → Prop} {s t : State} (h : Leaves P s t) (hPQ : ∀ a b, P a b → Q a b) : Leaves Q s t := by
  obtain ⟨l, hl, hP⟩ := h
  exact ⟨l, hl, fun a b hab => hPQ a b (hP a b hab)⟩

theorem Leaves.emit {P : Nat → Bytes → Prop} {o : Out} (s : State) (h : ∀ a b, o = .host a b → P a b) : Leaves P s (s.emit o) :=
  ⟨[o], rfl, fun a b hab => h a b (List.mem_singleton.1 hab).symm⟩

/-- The run of bytes stands inside `[lo, hi)`. -/
def Within (lo hi a : Nat) (b : Bytes) : Prop := lo ≤ a ∧ a + b.length ≤ hi

/-- Every part of an entry stands inside the entry. -/
theorem State.putEntry_leaves (s : State) (a : Nat) (b : Bytes) : Leaves (Within a (a + b.length)) s (s.putEntry a b) := by
  have part (s : State) (w : Nat × Bytes) (hw : w.2 ≠ [] → w.1 + w.2.length ≤ b.length) :
      Leaves (Within a (a + b.length)) s (if w.2.isEmpty then s else s.emit (.host (a + w.1) w.2)) := by
    split
    · exact .of_out rfl
    · next hne =>
      have := hw (by simpa using hne)
      exact .emit s fun x c h => by cases h; exact ⟨by omega, by omega⟩
  unfold State.putEntry
  simp only [List.foldl]
  refine .trans (.trans (part _ (64, b.drop 64) fun hne => ?_) (part _ (16, (b.take 64).drop 16) fun hne => ?_)) (part _ (0, b.take 16) fun _ => ?_)
  · have := List.length_pos_iff.2 hne
    simp only [List.length_drop] at this ⊢
    omega
  · have := List.length_pos_iff.2 hne
    simp only [List.length_drop, List.length_take] at this ⊢
    omega
  · simp only [List.length_take]
    omega

/-- The interrupt and the reset's delay that a written reply can start touch neither the ring nor host memory. -/
theorem State.irq_replied_leaves (P : Nat → Bytes → Prop) (s : State) (r : Reply) : Leaves P s (s.irq.replied r) := by
  have hirq : Leaves P s s.irq := by
    unfold State.irq
    dsimp only
    split
    · exact .trans (.of_out rfl) (.emit _ nofun)
    · exact .of_out rfl
  exact hirq.trans (.of_out (by rw [State.replied_only]))

theorem State.irq_replied_key (s : State) (r : Reply) : (s.irq.replied r).key.rplPi = s.key.rplPi ∧
    (s.irq.replied r).key.rplCi = s.key.rplCi ∧ (s.irq.replied r).key.rplEn = s.key.rplEn := by
  unfold State.irq State.replied
  dsimp only
  split_ifs <;> exact ⟨rfl, rfl, rfl⟩

/-! Entries and slots. -/

theorem Reply.length_bytes (r : Reply) (phase : Bool) : (r.bytes phase).length = 16 + r.payload.length := by
  simp only [Reply.bytes, List.length_append, length_leB]

theorem length_padBytes (phase : Bool) (len : Nat) : (padBytes phase len).length = 16 := by
  simp only [padBytes, List.length_append, length_leB]

theorem length_le_slotsOf (n : Nat) : 16 + n ≤ 64 * slotsOf n := by
  unfold slotsOf ceilDiv
  omega

/-- Where slot `k` of the reply ring begins. -/
def State.rplSlot (s : State) (k : Nat) : Nat := s.key.rplBaseLo.toNat + 2 ^ 32 * s.key.rplBaseHi.toNat + 64 * k

/-- Free slots: those before KEY_RPL_CI, with one kept empty (R342). -/
def State.rplFree (s : State) : Nat := (s.key.rplCi + s.key.rplSize - s.key.rplPi - 1) % s.key.rplSize

/-- The slots that a PAD covers before an entry of `n` slots: those left to the ring's end, where they do not suffice (R341). -/
def State.rplPad (s : State) (n : Nat) : Nat := if s.key.rplSize < s.key.rplPi + n then s.key.rplSize - s.key.rplPi else 0

/-- The reply stands in the next slots. -/
def State.putNext (s : State) (r : Reply) : State :=
  let u := s.putEntry (s.rplSlot s.key.rplPi) (r.bytes s.key.phase)
  let pi := (s.key.rplPi + slotsOf r.payload.length) % s.key.rplSize
  { u with key := { u.key with rplPi := pi, phase := if pi = 0 then !s.key.phase else s.key.phase } }

/-- The reply stands in the ring's first slots, behind a PAD in the next one (R341). -/
def State.putWrapped (s : State) (r : Reply) : State :=
  let n := slotsOf r.payload.length
  let u := (s.putEntry (s.rplSlot 0) (r.bytes (!s.key.phase))).putEntry (s.rplSlot s.key.rplPi) (padBytes s.key.phase (64 * s.rplPad n - 16))
  { u with key := { u.key with rplPi := n, phase := !s.key.phase } }

theorem State.ringPut_eq (s : State) (r : Reply) :
    s.ringPut r =
      let n := slotsOf r.payload.length
      if s.rplFree < s.rplPad n + n then none
      else if s.rplPad n = 0 then some ((s.putNext r).irq.replied r) else some ((s.putWrapped r).irq.replied r) := by
  unfold State.ringPut State.putNext State.putWrapped State.rplFree State.rplPad State.rplSlot ringAddr
  dsimp only

/-- A reply that is written stands in the next slots, or in the first ones behind a PAD; either way in free ones. -/
theorem State.ringPut_cases {s t : State} {r : Reply} (h : s.ringPut r = some t) :
    s.rplPad (slotsOf r.payload.length) + slotsOf r.payload.length ≤ s.rplFree ∧
      (s.rplPad (slotsOf r.payload.length) = 0 ∧ t = (s.putNext r).irq.replied r ∨
        s.rplPad (slotsOf r.payload.length) ≠ 0 ∧ t = (s.putWrapped r).irq.replied r) := by
  rw [State.ringPut_eq] at h
  dsimp only at h
  split_ifs at h with hfull hpad
  · exact ⟨not_lt.1 hfull, .inl ⟨hpad, (Option.some.inj h).symm⟩⟩
  · exact ⟨not_lt.1 hfull, .inr ⟨hpad, (Option.some.inj h).symm⟩⟩

theorem State.putEntry_key (s : State) (a : Nat) (b : Bytes) : (s.putEntry a b).key = s.key := by rw [State.putEntry_only]

theorem State.putNext_key (s : State) (r : Reply) :
    (s.putNext r).key.rplPi = (s.key.rplPi + slotsOf r.payload.length) % s.key.rplSize ∧ (s.putNext r).key.rplCi = s.key.rplCi ∧
      (s.putNext r).key.rplEn = s.key.rplEn := by
  simp only [State.putNext, State.putEntry_key, and_self]

theorem State.putWrapped_key (s : State) (r : Reply) :
    (s.putWrapped r).key.rplPi = slotsOf r.payload.length ∧ (s.putWrapped r).key.rplCi = s.key.rplCi ∧
      (s.putWrapped r).key.rplEn = s.key.rplEn := by
  simp only [State.putWrapped, State.putEntry_key, and_self]

/-- An entry that stands in `n` slots leaves by these slots. -/
theorem State.putEntry_slots (s u : State) (k n : Nat) (b : Bytes) (hlen : b.length ≤ 64 * n) :
    Leaves (Within (s.rplSlot k) (s.rplSlot (k + n))) u (u.putEntry (s.rplSlot k) b) :=
  (u.putEntry_leaves _ b).mono fun a c h => by
    unfold Within State.rplSlot at *
    omega

theorem State.putNext_leaves (s : State) (r : Reply) :
    Leaves (Within (s.rplSlot s.key.rplPi) (s.rplSlot (s.key.rplPi + slotsOf r.payload.length))) s (s.putNext r) :=
  (s.putEntry_slots s _ _ _ ((r.length_bytes _).trans_le (length_le_slotsOf _))).trans (.of_out (by unfold State.putNext; dsimp only))

theorem State.putWrapped_leaves (s : State) (r : Reply) :
    Leaves (fun a b => Within (s.rplSlot 0) (s.rplSlot (0 + slotsOf r.payload.length)) a b ∨
      Within (s.rplSlot s.key.rplPi) (s.rplSlot (s.key.rplPi + 1)) a b) s (s.putWrapped r) := by
  have hfirst := s.putEntry_slots s 0 _ (r.bytes !s.key.phase) ((r.length_bytes _).trans_le (length_le_slotsOf _))
  have hpad := s.putEntry_slots (s.putEntry (s.rplSlot 0) (r.bytes !s.key.phase)) s.key.rplPi 1
    (padBytes s.key.phase (64 * s.rplPad (slotsOf r.payload.length) - 16)) (by rw [length_padBytes]; omega)
  exact ((hfirst.mono fun _ _ => .inl).trans (hpad.mono fun _ _ => .inr)).trans (.of_out (by unfold State.putWrapped; dsimp only))

/-- Writing a reply leaves KEY_RPL_CI and the ring's enable. -/
theorem State.ringPut_key {s t : State} {r : Reply} (h : s.ringPut r = some t) : t.key.rplCi = s.key.rplCi ∧ t.key.rplEn = s.key.rplEn := by
  obtain ⟨-, ⟨-, rfl⟩ | ⟨-, rfl⟩⟩ := State.ringPut_cases h
  · obtain ⟨-, hci, hen⟩ := State.irq_replied_key (s.putNext r) r
    obtain ⟨-, kci, ken⟩ := s.putNext_key r
    exact ⟨hci.trans kci, hen.trans ken⟩
  · obtain ⟨-, hci, hen⟩ := State.irq_replied_key (s.putWrapped r) r
    obtain ⟨-, kci, ken⟩ := s.putWrapped_key r
    exact ⟨hci.trans kci, hen.trans ken⟩

/-! Slots as distances from KEY_RPL_PI. -/

theorem ringDist_of_le {k pi size : Nat} (h : pi ≤ k) (hk : k < size) : (k + size - pi) % size = k - pi := by
  rw [show k + size - pi = k - pi + size by omega, Nat.add_mod_right, Nat.mod_eq_of_lt (by omega)]

theorem ringDist_of_lt {k pi size : Nat} (h : k < pi) (hpi : pi < size) : (k + size - pi) % size = k + size - pi :=
  Nat.mod_eq_of_lt (by omega)

/-- A run of bytes inside slots `lo` to `hi` touches no other slot. -/
theorem Within.slot {s : State} {lo hi a k : Nat} {b : Bytes} (h : Within (s.rplSlot lo) (s.rplSlot hi) a b)
    (hlo : a < s.rplSlot (k + 1)) (hhi : s.rplSlot k < a + b.length) : lo ≤ k ∧ k < hi := by
  unfold Within State.rplSlot at *
  omega

theorem Within.ring {s : State} {lo hi size a : Nat} {b : Bytes} (h : Within (s.rplSlot lo) (s.rplSlot hi) a b) (hsize : hi ≤ size) :
    s.rplSlot 0 ≤ a ∧ a + b.length ≤ s.rplSlot size := by
  unfold Within State.rplSlot at *
  omega

/-- The run of bytes stands inside the reply ring and touches free slots alone. -/
def State.InFreeSlots (s : State) (a : Nat) (b : Bytes) : Prop :=
  s.rplSlot 0 ≤ a ∧ a + b.length ≤ s.rplSlot s.key.rplSize ∧
    ∀ k, k < s.key.rplSize → a < s.rplSlot (k + 1) → s.rplSlot k < a + b.length →
      (k + s.key.rplSize - s.key.rplPi) % s.key.rplSize < s.rplFree

theorem State.rplFree_lt {s : State} (h : s.key.rplPi < s.key.rplSize) : s.rplFree < s.key.rplSize := Nat.mod_lt _ (by omega)

/-- Slots from KEY_RPL_PI on, as many as are free. -/
theorem State.inFreeSlots_next {s : State} {n a : Nat} {b : Bytes} (hend : s.key.rplPi + n ≤ s.key.rplSize) (hn : n ≤ s.rplFree)
    (h : Within (s.rplSlot s.key.rplPi) (s.rplSlot (s.key.rplPi + n)) a b) : s.InFreeSlots a b := by
  obtain ⟨hin, hout⟩ := h.ring hend
  refine ⟨hin, hout, fun k hk hlo hhi => ?_⟩
  obtain ⟨h1, h2⟩ := h.slot hlo hhi
  rw [ringDist_of_le h1 hk]
  omega

/-- Slots from the ring's begin on, which follow those up to its end. -/
theorem State.inFreeSlots_first {s : State} {n a : Nat} {b : Bytes} (hpi : s.key.rplPi < s.key.rplSize)
    (hn : s.key.rplSize - s.key.rplPi + n ≤ s.rplFree) (h : Within (s.rplSlot 0) (s.rplSlot n) a b) : s.InFreeSlots a b := by
  have hfree := State.rplFree_lt hpi
  obtain ⟨hin, hout⟩ := h.ring (size := s.key.rplSize) (by omega)
  refine ⟨hin, hout, fun k hk hlo hhi => ?_⟩
  obtain ⟨-, h2⟩ := h.slot hlo hhi
  rw [ringDist_of_lt (by omega) hpi]
  omega

/-- A reply that is written leaves KEY_RPL_PI inside the ring, and stands in free slots alone. -/
theorem State.ringPut_inFreeSlots {s t : State} {r : Reply} (hpi : s.key.rplPi < s.key.rplSize) (h : s.ringPut r = some t) :
    t.key.rplPi < s.key.rplSize ∧ Leaves s.InFreeSlots s t := by
  have hfree := State.rplFree_lt hpi
  obtain ⟨hroom, hcase⟩ := State.ringPut_cases h
  have hpad : s.rplPad (slotsOf r.payload.length) =
      if s.key.rplSize < s.key.rplPi + slotsOf r.payload.length then s.key.rplSize - s.key.rplPi else 0 := rfl
  rcases hcase with ⟨hz, rfl⟩ | ⟨hnz, rfl⟩
  · have hend : s.key.rplPi + slotsOf r.payload.length ≤ s.key.rplSize := by split_ifs at hpad <;> omega
    obtain ⟨hpi', -⟩ := State.irq_replied_key (s.putNext r) r
    obtain ⟨kpi, -⟩ := s.putNext_key r
    refine ⟨by rw [hpi', kpi]; exact Nat.mod_lt _ (by omega), ?_⟩
    exact ((s.putNext_leaves r).mono fun a b => State.inFreeSlots_next hend (by omega)).trans (State.irq_replied_leaves _ _ r)
  · have hwrap : s.rplPad (slotsOf r.payload.length) = s.key.rplSize - s.key.rplPi := by split_ifs at hpad <;> omega
    obtain ⟨hpi', -⟩ := State.irq_replied_key (s.putWrapped r) r
    obtain ⟨kpi, -⟩ := s.putWrapped_key r
    refine ⟨by rw [hpi', kpi]; omega, ((s.putWrapped_leaves r).mono fun a b hab => ?_).trans (State.irq_replied_leaves _ _ r)⟩
    rcases hab with hab | hab
    · rw [Nat.zero_add] at hab
      exact State.inFreeSlots_first hpi (by omega) hab
    · exact State.inFreeSlots_next (n := 1) (by omega) (by omega) hab

/-- Settles O53: a reply that is written stands in free slots of the ring, and KEY_RPL_PI follows it. -/
theorem replyWritesStayInFreeSlots : Obligations.ReplyWritesStayInFreeSlots := by
  intro s r t hpi _ h
  obtain ⟨hpi', new, hout, hnew⟩ := State.ringPut_inFreeSlots hpi h
  obtain ⟨hci, -⟩ := State.ringPut_key h
  exact ⟨hpi', hci, new, hout, hnew⟩

end Sys2Proof.Machine
end

section
/-! SUPPORT. The events of the two command transports (R334 to R348, R356, R359): what a packet without a command of the table meets on its
way, how held replies go, and the reset that follows SYS_RESET. -/

namespace Sys2Proof.Machine

/-! The two transports. -/

theorem pciePacket_ready {c : Option Cmd} {op : Nat} {h : Hdr} {p : Bytes} {v : State} (hr : v.ringReady = true) :
    pciePacket c op h p v = handle c op (v.ringFramed h.length) h (slice p 0 h.length)
      (v.ringAdvance (if v.ringFramed h.length then slotsOf h.length else 1)).giveAseq := by
  rw [pciePacket, hr]
  rfl

/-- A datagram that fits its frame is taken, while no gate holds a command (R351, R387). -/
theorem mgmtPacket_taken {c : Option Cmd} {op : Nat} {h : Hdr} {ip port : Nat} {p : Bytes} {v : State} (ho : v.mgmtOpen = true)
    (hm : v.midway = false) (hp : p.length ≤ 1440) : mgmtPacket c op h ip port p v = mgmtTake c op h ip port p (v.rxCount 2) := by
  have hm' : (v.rxCount 2).midway = false := hm
  unfold mgmtPacket
  dsimp only
  rw [ho, if_neg (by decide), if_neg (udpLen_fits _ hp), hm', if_neg (by decide)]

theorem mgmtTake_denied {c : Option Cmd} {op : Nat} {h : Hdr} {ip port : Nat} {p : Bytes} {u : State} (ha : u.allowed ip = false) :
    mgmtTake c op h ip port p u = u.deny op h ip port := by
  rw [mgmtTake, ha]
  rfl

theorem mgmtTake_repeated {c : Option Cmd} {op : Nat} {h : Hdr} {ip port : Nat} {p : Bytes} {u : State} {e : Stored}
    (ha : u.allowed ip = true) (hr : u.repeated ip port (packetBytes op h p) = some e) :
    mgmtTake c op h ip port p u = u.replay op h e := by
  rw [mgmtTake, ha, hr]
  rfl

/-- A new datagram is kept, and its length is checked before anything else (R346). -/
theorem mgmtTake_new {c : Option Cmd} {op : Nat} {h : Hdr} {ip port : Nat} {p : Bytes} {u : State} (ha : u.allowed ip = true)
    (hr : u.repeated ip port (packetBytes op h p) = none) :
    mgmtTake c op h ip port p u =
      let u := u.giveAseq.storeCmd ip port (packetBytes op h p)
      if h.length ≠ p.length then
        u.countRefusal.answer { src := h.src, opcode := op, tag := h.tag, aseq := u.key.aseq.toNat } .badLength false false []
      else handle c op (decide (p.length ≤ 1440)) h p u := by
  rw [mgmtTake, ha, hr]
  dsimp only
  rw [if_neg (by decide)]
  simp only [bne_iff_ne]

/-! A packet without a command of the table (R348, R356). -/

theorem handle_noCommand (op : Nat) (framed : Bool) (h : Hdr) (p : Bytes) (u : State) :
    handle none op framed h p u =
      u.countRefusal.answer { src := h.src, opcode := op, tag := h.tag, aseq := u.key.aseq.toNat }
        (if u.imageRuns then .badOpcode else .noImage) false false [] := by
  unfold handle headCheck
  cases u.imageRuns <;> rfl

theorem execUnknownOpcode_pcie {h : Hdr} {op : Nat} {p : Bytes} {s v : State} (hv : v = s.at h.t) (hsrc : h.src = .pcie)
    (hop : opcodes.contains op = false) (h0 : op ≠ 0) (hr : v.ringReady = true) :
    execUnknownOpcode h op p s = .next
      (let u := (v.ringAdvance (if v.ringFramed h.length then slotsOf h.length else 1)).giveAseq
       u.countRefusal.answer { src := .pcie, opcode := op, tag := h.tag, aseq := u.key.aseq.toNat }
         (if v.imageRuns then .badOpcode else .noImage) false false []) := by
  have hnew : ¬ ((opcodes.contains op || (op == 0 && h.src == .pcie)) = true) := by rw [hop]; simp [h0]
  rw [execUnknownOpcode, if_neg hnew, keywayOp, ← hv]
  dsimp only
  rw [hsrc]
  dsimp only
  rw [pciePacket_ready hr, handle_noCommand, hsrc]
  rfl

theorem execUnknownOpcode_mgmt {h : Hdr} {op ip port : Nat} {p : Bytes} {s v : State} (hv : v = s.at h.t) (hsrc : h.src = .mgmt ip port)
    (hop : opcodes.contains op = false) (ho : v.mgmtOpen = true) (ha : v.allowed ip = true)
    (hr : (v.rxCount 2).repeated ip port (packetBytes op h p) = none) (hm : v.midway = false) (hp : p.length ≤ 1440) :
    execUnknownOpcode h op p s = .next
      (let u := ((v.rxCount 2).giveAseq).storeCmd ip port (packetBytes op h p)
       u.countRefusal.answer { src := .mgmt ip port, opcode := op, tag := h.tag, aseq := u.key.aseq.toNat }
         (if h.length ≠ p.length then .badLength else if v.imageRuns then .badOpcode else .noImage) false false []) := by
  have hnew : ¬ ((opcodes.contains op || (op == 0 && h.src == .pcie)) = true) := by rw [hop, hsrc]; simp
  have him : (((v.rxCount 2).giveAseq).storeCmd ip port (packetBytes op h p)).imageRuns = v.imageRuns := by simp [State.imageRuns]
  rw [execUnknownOpcode, if_neg hnew, keywayOp, ← hv]
  dsimp only
  rw [hsrc]
  dsimp only
  rw [mgmtPacket_taken ho hm hp, mgmtTake_new (u := v.rxCount 2) ha hr, hsrc]
  dsimp only
  rw [handle_noCommand, hsrc, him]
  split_ifs <;> rfl

/-! Replies that wait for room (R343). -/

theorem State.at_of_le {s : State} {t : Nat} (h : t ≤ s.now) : s.at t = s := by
  rw [State.at, max_eq_left h]

/-- The oldest held reply that fits is written, and the others follow it. -/
theorem execReplyRingSpace_fits {t : Nat} {s u : State} {r : Reply} {rest : List Reply} (hen : (s.at t).key.rplEn = true)
    (hw : (s.at t).key.waiting = r :: rest) (hput : (s.at t).ringPut r = some u) :
    execReplyRingSpace t s = execReplyRingSpace t { u with key := { u.key with waiting := rest } } := by
  obtain ⟨-, hen'⟩ := State.ringPut_key hput
  have hnow : u.now = max s.now t := by rw [State.ringPut_frame hput]; rfl
  have hat : State.at { u with key := { u.key with waiting := rest } } t = { u with key := { u.key with waiting := rest } } :=
    State.at_of_le (by show t ≤ u.now; omega)
  unfold execReplyRingSpace
  rw [hat]
  dsimp only
  rw [if_pos hen, if_pos (hen'.trans hen), hw, List.length_cons, State.flushReplies, hw]
  dsimp only
  rw [hput]

/-- Where no held reply can be written, only what waited for one goes. -/
theorem execReplyRingSpace_full {t : Nat} {s v : State} (hv : v = s.at t)
    (h : v.key.waiting = [] ∨ ∃ r rest, v.key.rplEn = true ∧ v.key.waiting = r :: rest ∧ v.ringPut r = none) :
    execReplyRingSpace t s = .next v.sendFreed := by
  have hflush : State.flushReplies v.key.waiting.length v = v := by
    rcases h with hw | ⟨r, rest, -, hw, hput⟩
    · rw [hw]; rfl
    · rw [hw, List.length_cons, State.flushReplies, hw]
      dsimp only
      rw [hput]
  unfold execReplyRingSpace
  rw [← hv]
  dsimp only
  rw [hflush, ite_self]

/-! The other events. -/

/-- Two changes of a port's MAC are one. -/
theorem State.onMac_onMac (v : State) (port : Nat) (f g : MacSt → MacSt) : (v.onMac port f).onMac port g = v.onMac port fun m => g (f m) := by
  rw [State.onMac, State.onMac, State.mac_setMac, State.onMac]
  unfold State.setMac
  split_ifs <;> rfl

theorem execMgmtShortDatagram_drops {t : Nat} {s v : State} (hv : v = s.at t) (ho : v.mgmtOpen = true) :
    execMgmtShortDatagram t s = .next (v.onMac 2 fun m => { m with rxFrame := m.rxFrame + 1, rxDrop := m.rxDrop + 1 }) := by
  unfold execMgmtShortDatagram
  rw [← hv]
  dsimp only
  rw [ho, if_neg (by decide), State.rxDropped, State.rxCount, State.onMac_onMac]

/-- A PAD in slot 0 is a packet without a command (R334). -/
theorem execPadSkip_first {t tag : Nat} {s v : State} (hv : v = s.at t) (hr : v.ringReady = true) (hci : v.key.cmdCi = 0) :
    execPadSkip t tag s = .next
      (let u := (v.ringAdvance 1).giveAseq
       u.countRefusal.answer { src := .pcie, opcode := 0, tag, aseq := u.key.aseq.toNat } .badOpcode false false []) := by
  unfold execPadSkip
  rw [← hv]
  dsimp only
  rw [hr, if_neg (by decide), if_pos hci]

theorem execPadSkip_wraps {t tag : Nat} {s v : State} (hv : v = s.at t) (hr : v.ringReady = true) (hci : v.key.cmdCi ≠ 0) :
    execPadSkip t tag s = .next { v with key := { v.key with cmdCi := 0 } } := by
  unfold execPadSkip
  rw [← hv]
  dsimp only
  rw [hr, if_neg (by decide), if_neg hci]

theorem execMgmtDenied_denies {h : Hdr} {op ip port : Nat} {p : Bytes} {s v : State} (hv : v = s.at h.t) (hsrc : h.src = .mgmt ip port)
    (ho : v.mgmtOpen = true) (ha : v.allowed ip = false) (hm : v.midway = false) (hp : p.length ≤ 1440) :
    execMgmtDenied h op p s = .next ((v.rxCount 2).deny op h ip port) := by
  unfold execMgmtDenied
  rw [← hv]
  dsimp only
  rw [hsrc]
  dsimp only
  rw [if_pos (by rw [ho, ha]; rfl), mgmtPacket_taken ho hm hp, mgmtTake_denied (u := v.rxCount 2) ha]

theorem execMgmtRepeat_replays {h : Hdr} {op ip port : Nat} {p : Bytes} {s v : State} {e : Stored} (hv : v = s.at h.t)
    (hsrc : h.src = .mgmt ip port) (ho : v.mgmtOpen = true) (ha : v.allowed ip = true)
    (hr : v.repeated ip port (packetBytes op h p) = some e) (hm : v.midway = false) (hp : p.length ≤ 1440) :
    execMgmtRepeat h op p s = .next ((v.rxCount 2).replay op h e) := by
  unfold execMgmtRepeat
  rw [← hv]
  dsimp only
  rw [hsrc]
  dsimp only
  rw [if_pos (by rw [ho, ha]; rfl), hr]
  dsimp only
  rw [mgmtPacket_taken ho hm hp, mgmtTake_repeated (u := v.rxCount 2) ha hr]

/-- A repeat is answered with the reply that the command has had, or with its being in progress (R346). -/
theorem State.replay_eq (u : State) (op : Nat) (h : Hdr) (e : Stored) :
    u.replay op h e = State.mgmtSend { u with key := { u.key with repeatCnt := u.key.repeatCnt + 1 } } e.ip e.port
      (match e.reply with
        | some r => { r with replay := true }
        | none => { tag := h.tag, status := .inProgress, opcode := op, deferred := false, relayed := false, replay := true,
                    payload := [], aseq := e.aseq }) := by
  unfold State.replay
  cases e.reply <;> rfl

theorem execKeyIrqTimer_due {t t0 : Nat} {s v : State} (hv : v = s.at t) (hf : v.key.irqFirst = some t0) (hon : v.key.irqTimer ≠ 0)
    (hdue : t0 + 1000 * v.key.irqTimer ≤ v.now) :
    execKeyIrqTimer t s = .next (State.emit { v with key := { v.key with irqSince := 0, irqFirst := none } } .msix) := by
  unfold execKeyIrqTimer
  rw [← hv]
  dsimp only
  rw [hf]
  dsimp only
  rw [if_pos (by simpa using ⟨hon, hdue⟩)]

theorem execSysResetExec_due {t r : Nat} {s v : State} (hv : v = s.at t) (hr : v.key.resetAt = some r) (hdue : r ≤ v.now) :
    execSysResetExec t s = .next (v.abortDue.resetTo 3) := by
  unfold execSysResetExec
  rw [← hv]
  dsimp only
  rw [hr]
  exact congrArg _ (if_pos hdue)

/-- Settles O12: each event by the path that its packet takes, or by the conditions of its timer. -/
theorem transportEventsAct : Obligations.TransportEventsAct := by
  refine ⟨?unknownPcie, ?unknownMgmt, ?padWraps, ?padFirst, ?fetchError, ?short, ?denied, ?repeated, ?spaceFits, ?spaceFull, ?irqTimer,
    ?sysReset⟩
  case unknownPcie => exact fun h op p s v hv hsrc hop h0 hr => execUnknownOpcode_pcie hv hsrc hop h0 hr
  case unknownMgmt => exact fun h op p s ip port v hv hsrc hop ho ha hr hm hp => execUnknownOpcode_mgmt hv hsrc hop ho ha hr hm hp
  case padWraps => exact fun t tag s v hv hr hci => execPadSkip_wraps hv hr hci
  case padFirst => exact fun t tag s v hv hr hci => execPadSkip_first hv hr hci
  case fetchError =>
    rintro t s v rfl hr
    exact congrArg Host.Outcome.next (if_neg (by rw [hr]; decide))
  case short => exact fun t s v hv ho => execMgmtShortDatagram_drops hv ho
  case denied => exact fun h op p s ip port v hv hsrc ho ha hm hp => execMgmtDenied_denies hv hsrc ho ha hm hp
  case repeated =>
    intro h op p s ip port e v hv hsrc ho ha hr hm hp
    exact (execMgmtRepeat_replays hv hsrc ho ha hr hm hp).trans (congrArg _ (State.replay_eq ..))
  case spaceFits =>
    rintro t s r rest u v rfl hen hw hput
    exact execReplyRingSpace_fits hen hw hput
  case spaceFull => exact fun t s v hv h => execReplyRingSpace_full hv h
  case irqTimer => exact fun t s t0 v hv hf hon hdue => execKeyIrqTimer_due hv hf hon hdue
  case sysReset => exact fun t s r v hv hr hdue => execSysResetExec_due hv hr hdue

end Sys2Proof.Machine
end

section
/-! SUPPORT. The system commands (R352, R357 to R359): each of them is what its own rules answer, and REG_READ and REG_WRITE go register by
register. -/

namespace Sys2Proof.Machine

/-! From a command's own rules to its statement. -/

/-- The boundary of a command that is not mirrored plays no part in its answer (R315). -/
theorem answeredOk_of_notMirrored {c : Cmd} (hm : c.mirrored = false) (h : Hdr) (p : Bytes) (s v : State) (pl : Bytes) (n m : Nat) :
    answeredOk c h p s v pl n = answeredOk c h p s v pl m := by
  unfold answeredOk shared
  dsimp only
  rw [hm, Bool.false_and, Bool.false_and, if_neg (by decide), if_neg (by decide)]

/-- A command that is not mirrored, and that its own rules execute at once. -/
theorem completes_of_notMirrored {c : Cmd} {mk : Hdr → Bytes → Instr} {pre : CmdIn → State → Prop} {eff : CmdIn → State → State × Bytes}
    (hk : ∀ h p, keywayRow (mk h p) = some (c, h, p)) (hm : c.mirrored = false)
    (hr : ∀ i u, pre i u → ∃ n, c.run i u = .done (eff i u).1 (eff i u).2 n) : Completes c mk pre eff := by
  intro h p s ha hp
  obtain ⟨n, hn⟩ := hr _ _ hp
  rw [exec_keyway (hk h p), keyway_done c h p s _ _ n ha hn, answeredOk_of_notMirrored hm]

/-- A command that stops part way is refused in the state it has reached (R358). -/
theorem keyway_fail {c : Cmd} {h : Hdr} {p : Bytes} {s v : State} {st : Status} {pl : Bytes} (ha : accepted c h p s = true)
    (hv : c.run (inputOf c h p s) (taken c.op h p s) = .fail v st pl) :
    keyway c h p s = .next (v.countRefusal.answer (refOf c.op h p s) st false false pl) := by
  have hm : modeCheck (taken c.op h p s) c = true := by
    simp only [accepted, Bool.and_eq_true] at ha; exact ha.1.2
  rw [keyway_run c h p s ha, runCmd, if_pos hm, hv]
  rfl

/-! NOP and LOG_READ. -/

theorem nopRun_ok {i : CmdIn} {u : State} (h : u.nopWaits i.ref = false) : nopCmd.run i u = .ok u := if_neg (by simp [h])

theorem nopRun_held {i : CmdIn} {u : State} (h : u.nopWaits i.ref = true) :
    nopCmd.run i u = .held { u with key := { u.key with nops := u.key.nops ++ [i.ref] } } := if_pos h

theorem logReadRun_done {i : CmdIn} {u : State} (hz : zeroAt i.body 6 2 = true) (hlo : 1 ≤ rd16 i.body 4) (hhi : rd16 i.body 4 ≤ 63)
    (hhead : u.intg.head ≤ rd32 i.body 0 + 65536) :
    logReadRun i u = .done u (leB 4 u.intg.head ++
      ((List.range (min (rd16 i.body 4) (u.intg.head - rd32 i.body 0))).map fun k => u.logBytes (rd32 i.body 0 + k)).flatten)
      (u.tick + 1) := by
  unfold logReadRun
  dsimp only
  rw [if_neg (by simp [hz]; omega)]

/-! REG_READ (R358). -/

/-- Registers that answer give their values, and nothing changes. -/
theorem regReadGo_ok (ref : ReplyRef) {n a : Nat} {u : State} (acc : Bytes) (h : ∀ k < n, u.bar0Code (a + 4 * k) = some 0) :
    regReadGo ref n a acc u = .done u (acc ++ ((List.range n).map fun k => leB 4 (u.readReg (a + 4 * k))).flatten) (u.tick + 1) := by
  induction n generalizing a acc with
  | zero => simp [regReadGo]
  | succ n ih =>
    have hrest : ∀ k < n, u.bar0Code (a + 4 + 4 * k) = some 0 := fun k hk => by
      rw [show a + 4 + 4 * k = a + 4 * (k + 1) by omega]
      exact h (k + 1) (by omega)
    have hvals : ((List.range n).map fun k => leB 4 (u.readReg (a + 4 + 4 * k))) =
        (List.range n).map fun k => leB 4 (u.readReg (a + 4 * (k + 1))) :=
      List.map_congr_left fun k _ => by rw [show a + 4 + 4 * k = a + 4 * (k + 1) by omega]
    rw [regReadGo, show u.bar0Code a = some 0 from h 0 (by omega)]
    dsimp only
    rw [ih _ hrest, hvals, List.range_succ_eq_map, List.map_cons, List.flatten_cons, List.map_map, List.append_assoc]
    rfl

theorem regReadRun_go {i : CmdIn} {u : State} (hz : zeroAt i.body 6 2 = true) (ha : rd32 i.body 0 % 4 = 0) (hlo : 1 ≤ rd16 i.body 4)
    (hhi : rd16 i.body 4 ≤ 256) : regReadRun i u = regReadGo i.ref (rd16 i.body 4) (rd32 i.body 0) [] u := by
  unfold regReadRun
  dsimp only
  rw [if_neg (by simp [hz, ha]; omega)]

/-- An address without a register reads 0, and the error is recorded (R498, R499). -/
theorem regReadGo_unmapped (ref : ReplyRef) {a : Nat} {u : State} (h : u.bar0Code a = some 2) :
    regReadGo ref 1 a [] u = .done (u.coreErr a 2 false) (zeros 4) ((u.coreErr a 2 false).tick + 1) := by
  rw [regReadGo, h]
  rfl

/-- A first register that answers GATED or DOMAIN_OFF stops the command. -/
theorem regReadGo_stops (ref : ReplyRef) {n a e : Nat} {acc : Bytes} {u : State} (h : u.bar0Code a = some e) (he : e = 3 ∨ e = 4) :
    regReadGo ref (n + 1) a acc u = .fail (u.coreErr a e false) .busError (leB 4 a ++ leB 4 e) := by
  rw [regReadGo, h]
  rcases he with rfl | rfl <;> rfl

/-! REG_WRITE (R358). -/

theorem rd8_drop (b : Bytes) (m i : Nat) : rd8 (b.drop m) i = rd8 b (m + i) := by
  simp only [rd8, getD'_eq, List.getElem?_drop]

theorem rdLE_drop (b : Bytes) (m i n : Nat) : rdLE (b.drop m) i n = rdLE b (m + i) n := by
  induction n generalizing i with
  | zero => rfl
  | succ n ih => rw [rdLE, rdLE, rd8_drop, ih, Nat.add_assoc]

/-- An address that answers OK lies in a block. -/
theorem State.bar0Block_of_code {u : State} {a : Nat} (h : u.bar0Code a = some 0) : ∃ b, bar0Block a = some b := by
  cases hb : bar0Block a with
  | some b => exact ⟨b, rfl⟩
  | none => simp [State.bar0Code, hb] at h

/-- A register that answers takes the first value, and the next ones follow. -/
theorem regWriteGo_step (ref : ReplyRef) {n a base len d g blk : Nat} {vs : Bytes} {u : State} (hcode : u.bar0Code a = some 0)
    (hblock : bar0Block a = some (base, len, d, g, blk)) :
    regWriteGo ref (n + 1) a vs u = regWriteGo ref n (a + 4) (vs.drop 4) (u.writeReg blk (a - base) (rd32 vs 0)) := by
  rw [regWriteGo, hcode, hblock]
  rfl

/-- Registers that answer take their values in order: from value `k` on, in the state that has taken those before it. -/
theorem regWriteGo_ok (ref : ReplyRef) {a : Nat} {b : Bytes} {u : State} (n k : Nat)
    (h : ∀ j, k ≤ j → j < k + n → (u.writeRegs a b j).bar0Code (a + 4 * j) = some 0) :
    regWriteGo ref n (a + 4 * k) (b.drop (8 + 4 * k)) (u.writeRegs a b k) = .ok (u.writeRegs a b (k + n)) := by
  induction n generalizing k with
  | zero => rfl
  | succ n ih =>
    have hcode := h k le_rfl (by omega)
    obtain ⟨⟨base, len, d, g, blk⟩, hblock⟩ := State.bar0Block_of_code hcode
    have hstep : (u.writeRegs a b k).writeReg blk (a + 4 * k - base) (rd32 (b.drop (8 + 4 * k)) 0) = u.writeRegs a b (k + 1) := by
      rw [State.writeRegs, hblock, rd32, rdLE_drop]
      rfl
    have hrest := ih (k + 1) fun j hj hlt => h j (by omega) (by omega)
    rw [regWriteGo_step ref hcode hblock, hstep, List.drop_drop, show k + (n + 1) = k + 1 + n by omega]
    exact hrest

theorem regWriteRun_ok {i : CmdIn} {u : State} (hz : zeroAt i.body 6 2 = true) (ha : rd32 i.body 0 % 4 = 0) (hlo : 1 ≤ rd16 i.body 4)
    (hhi : rd16 i.body 4 ≤ 64) (hw : ∀ k < rd16 i.body 4, u.regWritable (rd32 i.body 0 + 4 * k) = true)
    (hs : ∀ k < rd16 i.body 4, badSetting (rd32 i.body 0 + 4 * k) (rd32 i.body (8 + 4 * k)) = false)
    (hc : ∀ k < rd16 i.body 4, (u.writeRegs (rd32 i.body 0) i.body k).bar0Code (rd32 i.body 0 + 4 * k) = some 0) :
    regWriteRun i u = .ok (u.writeRegs (rd32 i.body 0) i.body (rd16 i.body 4)) := by
  have hgood : ((List.range (rd16 i.body 4)).any fun k => badSetting (rd32 i.body 0 + 4 * k) (rd32 i.body (8 + 4 * k))) = false := by
    simpa using hs
  have hwritable : ((List.range (rd16 i.body 4)).any fun k => !u.regWritable (rd32 i.body 0 + 4 * k)) = false := by
    simpa using hw
  have hgo := regWriteGo_ok i.ref (a := rd32 i.body 0) (b := i.body) (u := u) (rd16 i.body 4) 0
    fun j _ hj => hc j (by omega)
  unfold regWriteRun
  dsimp only
  rw [if_neg (by simp [hz, ha]; omega), hgood, Bool.and_false, if_neg (by decide), hwritable, if_neg (by decide)]
  rw [Nat.zero_add] at hgo
  exact hgo

/-- Settles O1: each command by what its own rules answer where the spec admits it. -/
theorem systemCommandsComplete : Obligations.SystemCommandsComplete := by
  refine ⟨?sysInfo, ?sysReset, ?nop, ?nopWaits, ?logRead, ?regRead, ?regReadUnmapped, ?regReadStops, ?regWrite⟩
  case sysInfo => exact completes_of_run (fun _ _ => rfl) fun _ _ _ => rfl
  case sysReset => exact completes_of_notMirrored (fun _ _ => rfl) rfl fun _ _ _ => ⟨_, rfl⟩
  case nop => exact completes_of_ok (fun _ _ => rfl) (fun _ _ => rfl) fun _ _ h => nopRun_ok h
  case nopWaits =>
    rintro h p s u rfl ha hw
    rw [exec_keyway (i := .nop h p) rfl]
    exact keyway_held nopCmd h p s _ ha (nopRun_held hw)
  case logRead => exact completes_of_run (fun _ _ => rfl) fun i u ⟨hz, hlo, hhi, hhead⟩ => logReadRun_done hz hlo hhi hhead
  case regRead =>
    exact completes_of_run (fun _ _ => rfl) fun i u ⟨hz, ha, hlo, hhi, hcode⟩ => (regReadRun_go hz ha hlo hhi).trans (regReadGo_ok _ _ hcode)
  case regReadUnmapped =>
    refine completes_of_notMirrored (fun _ _ => rfl) rfl fun i u ⟨hz, ha, hone, hcode⟩ =>
      ⟨(u.coreErr (rd32 i.body 0) 2 false).tick + 1, (regReadRun_go hz ha (by omega) (by omega)).trans ?_⟩
    rw [hone]
    exact regReadGo_unmapped _ hcode
  case regReadStops =>
    rintro h p s u e rfl ha hz halign hlo hhi hcode he
    rw [exec_keyway (i := .regRead h p) rfl]
    refine keyway_fail ha ((regReadRun_go (i := inputOf regReadCmd h p s) hz halign hlo hhi).trans ?_)
    obtain ⟨n, hn⟩ := Nat.exists_eq_add_of_le' hlo
    exact (congrArg (regReadGo _ · _ _ _) hn).trans (regReadGo_stops _ hcode he)
  case regWrite =>
    refine completes_of_notMirrored (fun _ _ => rfl) rfl fun i u h => ?_
    simp only [forall_and] at h
    obtain ⟨hz, ha, hlo, hhi, hw, hs, hc⟩ := h
    exact ⟨_, regWriteRun_ok hz ha hlo hhi hw hs hc⟩

end Sys2Proof.Machine
end

section
/-! SUPPORT. The network and time commands (R390, R392, R399 to R402, R410, R417, R437, R440, R442): each of them is what its own rules
answer where the spec admits it. -/

namespace Sys2Proof.Machine

/-! NET_ADDR and VLAN_SET. -/

theorem State.onMac_tick (u : State) (port : Nat) (f : MacSt → MacSt) : (u.onMac port f).tick = u.tick := by simp

/-- The address that NET_ADDR gives: the address, the prefix length and the gateway (R390). -/
abbrev netAddrOf (p : Bytes) : Nat × Nat × Nat := (rdBE p 4 4, rd8 p 1, rdBE p 8 4)

/-- Every address but that of MGMT given over MGMT is taken at once (R390, log 32). -/
theorem netAddrRun_now {i : CmdIn} {u : State} (hport : rd8 i.body 0 ≤ 2) (hm : rd8 i.body 0 ≠ 2 → u.sys.mode = .staged)
    (hsrc : rd8 i.body 0 = 2 → i.ref.src = .pcie) (hr : inRange 8 30 (rd8 i.body 1) = true) (hz : zeroAt i.body 2 2 = true) :
    netAddrRun i u = .ok (u.setAddr (rd8 i.body 0) (netAddrOf i.body)) := by
  unfold netAddrRun
  dsimp only
  rw [if_neg (by omega), if_neg (by simpa using hm), if_neg (by simp [hr, hz])]
  split
  · next ip port hmgmt =>
    have hother : rd8 i.body 0 ≠ 2 := fun h2 => by rw [hsrc h2] at hmgmt; cases hmgmt
    rw [if_neg hother]
  · rfl

/-- The address of MGMT given over MGMT waits for the reply (R390). -/
theorem netAddrRun_afterReply {i : CmdIn} {u : State} {ip port : Nat} (hport : rd8 i.body 0 = 2) (hsrc : i.ref.src = .mgmt ip port)
    (hr : inRange 8 30 (rd8 i.body 1) = true) (hz : zeroAt i.body 2 2 = true) :
    netAddrRun i u = .ok (u.onMac 2 fun m => { m with ipNext := some (netAddrOf i.body) }) := by
  unfold netAddrRun
  dsimp only
  rw [hport, if_neg (by decide), if_neg (by simp), if_neg (by simp [hr, hz]), hsrc]
  rfl

theorem vlanSetRun_ok {i : CmdIn} {u : State} (hm : u.sys.mode = .staged) (hentry : rd8 i.body 0 ≤ 63) (hpcp : rd8 i.body 1 ≤ 7)
    (hvid : rd16 i.body 2 ≤ 4094) :
    vlanSetRun i u = .ok { u with net := { u.net with
      vlan := tabSet 0 u.net.vlan (rd8 i.body 0) (rd16 i.body 2 + 4096 * rd8 i.body 1) } } := by
  unfold vlanSetRun
  dsimp only
  rw [if_neg (by simp [hm]), if_neg (by simp; omega)]

/-! FLOW_IN_SET and FLOW_OUT_SET. -/

/-- The entry that a flow command names. -/
abbrev flowEntry (p : Bytes) : Nat := rd16 p 0

/-- The record that a flow command gives. -/
abbrev flowRecord (p : Bytes) : Bytes := slice p 4 192

/-- The parameters that FLOW_IN_SET admits for boundary `n` (R399, R400): an entry of the table and a record that it can hold, with room
for its channels. -/
def State.FlowInAdmitted (u : State) (n : Nat) (p : Bytes) : Prop :=
  flowEntry p < 1024 ∧ zeroAt p 2 2 = true ∧ u.fiOk (flowEntry p) n (flowRecord p) = true ∧
    u.fiFull (flowEntry p) n (flowRecord p) = false

theorem flowInSetRun_now {i : CmdIn} {u : State} (hs : u.staged = true) (h : u.FlowInAdmitted u.tick i.body) :
    flowInSetRun i u = .ok (u.setFlowIn (flowEntry i.body) (flowRecord i.body) false) := by
  obtain ⟨hk, hz, hok, hroom⟩ := h
  unfold flowEntry flowRecord at *
  unfold flowInSetRun
  dsimp only
  rw [if_pos hs, if_neg (by simp [hz, hok]; omega), if_neg (by simp [hs]), if_pos hs, if_neg (by simp [hroom])]

/-- Outside STAGED the change waits for its boundary, and the fixed term covers the packet time (R155, R401). -/
theorem flowInSetRun_later {i : CmdIn} {u : State} {n : Nat} (hs : u.staged = false) (hb : u.boundary i u.firstFlow = .ok n)
    (h : u.FlowInAdmitted n i.body)
    (hterm : frOn (flowRecord i.body) = true → frKind (flowRecord i.body) = 0 →
      ingressTerm u.rnd.rate96 (frPtime (flowRecord i.body)) ≤ u.rte.ingress) :
    flowInSetRun i u = .done (u.flowPend (flowEntry i.body) n (flowRecord i.body)) [] n := by
  obtain ⟨hk, hz, hok, hroom⟩ := h
  unfold flowEntry flowRecord at *
  have hjudged : (if u.staged then u.tick else (u.judged i u.firstFlow).getD u.tick) = n := by
    rw [hs, judged_of_boundary u i _ n hb]
    rfl
  unfold flowInSetRun
  dsimp only
  rw [hjudged, if_neg (by simp [hz, hok]; omega), if_neg (by simpa [hs] using hterm), if_neg (by simp [hs]), hb]
  dsimp only
  rw [if_neg (by simp [hroom])]

theorem State.setFlowIn_tick (u : State) (k : Nat) (r : Bytes) (running : Bool) : (u.setFlowIn k r running).tick = u.tick := rfl

theorem flowOutSetRun_ok {i : CmdIn} {u : State} (hm : u.sys.mode = .staged) (hk : flowEntry i.body < 1024) (hz : zeroAt i.body 2 2 = true)
    (hok : u.foOk (flowEntry i.body) (flowRecord i.body) = true) :
    flowOutSetRun i u = .ok { u with net := { u.net with
      flowOut := tabSet [] u.net.flowOut (flowEntry i.body) (recKeep (flowRecord i.body)) } } := by
  unfold flowEntry flowRecord at *
  unfold flowOutSetRun
  dsimp only
  rw [if_neg (by simp [hm]), if_neg (by simp [hz, hok]; omega)]

/-! FLOW_QUERY: by the direction that it names (R417). -/

theorem flowQueryRun_in {i : CmdIn} {u : State} (hdir : rd8 i.body 0 = 0) (hz : rd8 i.body 1 = 0) (hk : rd16 i.body 2 < 1024) :
    flowQueryRun i u = .done u (slice (tabGet [] (if u.rendering then u.net.seenIn else u.net.flowIn) (rd16 i.body 2)) 0 192 ++
      (u.statIn (rd16 i.body 2)).bytes false) (u.tick + 1) := by
  unfold flowQueryRun
  dsimp only
  rw [if_neg (by simp [hdir, hz, hk]), hdir]
  cases u.rendering <;> rfl

theorem flowQueryRun_out {i : CmdIn} {u : State} (hdir : rd8 i.body 0 = 1) (hz : rd8 i.body 1 = 0) (hk : rd16 i.body 2 < 1024) :
    flowQueryRun i u = .done u (slice (tabGet [] (if u.rendering then u.net.seenOut else u.net.flowOut) (rd16 i.body 2)) 0 192 ++
      (u.statOut (rd16 i.body 2)).bytes true) (u.tick + 1) := by
  unfold flowQueryRun
  dsimp only
  rw [if_neg (by simp [hdir, hz, hk]), hdir]
  cases u.rendering <;> rfl

/-! PTP_CONFIG, SCENE_TIME and TIME_CONVERT. -/

/-- The configuration that PTP_CONFIG gives (R442). -/
def ptpCfgOf (p : Bytes) : PtpCfg :=
  { profile := rd8 p 0, domain := rd8 p 1, delayMode := rd8 p 2, ports := rd8 p 3, slew := rd16 p 4, lockWin := rd16 p 6,
    offsetLim := rd32 p 8, asymA := rdS32 p 12, asymB := rdS32 p 16, vlanA := rd8 p 20, vlanB := rd8 p 21 }

/-- The parameters that PTP_CONFIG admits (R442). -/
def PtpCfgAdmitted (p : Bytes) : Prop :=
  (rd8 p 0 ≤ 1 ∧ rd8 p 1 ≤ 127 ∧ rd8 p 2 ≤ 1 ∧ 1 ≤ rd8 p 3 ∧ rd8 p 3 ≤ 3 ∧ rd8 p 20 ≤ 63 ∧ rd8 p 21 ≤ 63) ∧
    inRange 1 200 (rd16 p 4) = true ∧ inRange 50 10000 (rd16 p 6) = true ∧ inRange 10000 10000000 (rd32 p 8) = true ∧
    zeroAt p 22 2 = true

theorem ptpConfigRun_ok {i : CmdIn} {u : State} (hm : u.sys.mode = .staged) (h : PtpCfgAdmitted i.body) :
    ptpConfigRun i u = .ok { u with ptm := { u.ptm with cfg := ptpCfgOf i.body } } := by
  obtain ⟨hfields, hslew, hwin, hlim, hz⟩ := h
  unfold ptpConfigRun
  dsimp only
  rw [if_neg (by simp [hm]), if_neg (by simp [hfields, hslew, hwin, hlim, hz])]
  rfl

/-- The scene time that SCENE_TIME gives (R437). -/
def sceneOf (p : Bytes) : Scene :=
  { num := rd32 p 0, den := rd32 p 4, lines := rd16 p 8, strobe := rd8 p 10 == 1, falling := rd8 p 11 == 1 }

/-- The parameters that SCENE_TIME admits (R437): a rate from 1 to 240 frames a second, its lines, and the edge of a strobe. -/
def SceneAdmitted (p : Bytes) : Prop :=
  (1 ≤ rd32 p 0 ∧ rd32 p 0 ≤ 240000 ∧ 1 ≤ rd32 p 4 ∧ rd32 p 4 ≤ 1001 ∧ rd32 p 4 ≤ rd32 p 0 ∧
    rd32 p 0 ≤ 240 * rd32 p 4 ∧ 1 ≤ rd16 p 8 ∧ rd16 p 8 ≤ 4500) ∧ rd8 p 10 ≤ 1 ∧ rd8 p 11 ≤ rd8 p 10

theorem sceneTimeRun_ok {i : CmdIn} {u : State} (hm : u.sys.mode = .staged) (h : SceneAdmitted i.body) :
    sceneTimeRun i u = .ok { u with ptm := { u.ptm with phi := 0, scene := some (sceneOf i.body) } } := by
  obtain ⟨hrate, hedge⟩ := h
  unfold sceneTimeRun
  dsimp only
  rw [if_neg (by simp [hm]), if_neg (by simp [hrate, hedge])]
  rfl

/-- A sample index answers with its tick and the media time of its boundary (R440). -/
theorem timeConvertRun_done {i : CmdIn} {u : State} {m : Nat} (hform : rd8 i.body 0 ≤ 2) (hz : zeroAt i.body 1 7 = true)
    (hw : rd64 i.body 8 ≠ 0) (hm : u.whenSample (rd8 i.body 0) (rd64 i.body 8) = some m) :
    timeConvertRun i u = .done u (leB 8 m ++ leB 8 (tickOf m) ++ leB 8 (u.sampleTime (16 * tickOf m))) (u.tick + 1) := by
  unfold timeConvertRun
  dsimp only
  rw [if_neg (by simp [hz, hw]; omega), hm]

/-- Settles O9: each command by what its own rules answer where the spec admits it. -/
theorem networkAndTimeCommandsComplete : Obligations.NetworkAndTimeCommandsComplete := by
  refine ⟨?addrMedia, ?addrPcie, ?addrMgmt, ?vlan, ?flowInNow, ?flowInLater, ?flowOut, ?queryIn, ?queryOut, ?ptp, ?scene, ?timeQuery,
    ?timeConvert⟩
  case addrMedia =>
    exact completes_of_ok (fun _ _ => rfl) (fun _ _ => State.onMac_tick ..) fun i u ⟨hport, hm, hr, hz⟩ =>
      netAddrRun_now (by omega) (fun _ => hm) (fun h2 => by omega) hr hz
  case addrPcie =>
    exact completes_of_ok (fun _ _ => rfl) (fun _ _ => State.onMac_tick ..) fun i u ⟨hport, hsrc, hr, hz⟩ =>
      (netAddrRun_now hport.le (absurd hport) (fun _ => hsrc) hr hz).trans (by rw [hport]; rfl)
  case addrMgmt =>
    exact completes_of_ok (fun _ _ => rfl) (fun _ _ => State.onMac_tick ..) fun i u ⟨hport, ⟨_, _, hsrc⟩, hr, hz⟩ =>
      netAddrRun_afterReply hport hsrc hr hz
  case vlan =>
    exact completes_of_ok (fun _ _ => rfl) (fun _ _ => rfl) fun i u ⟨hm, hentry, hpcp, hvid⟩ => vlanSetRun_ok hm hentry hpcp hvid
  case flowInNow =>
    exact completes_of_ok (fun _ _ => rfl) (fun _ _ => State.setFlowIn_tick ..) fun i u ⟨hs, hk, hz, hok, hroom⟩ =>
      flowInSetRun_now hs ⟨hk, hz, hok, hroom⟩
  case flowInLater =>
    exact completesFor_of_run (fun _ _ => rfl) fun i u n ⟨hs, hb, hk, hz, hok, hroom, hterm⟩ =>
      flowInSetRun_later hs hb ⟨hk, hz, hok, hroom⟩ hterm
  case flowOut =>
    exact completes_of_ok (fun _ _ => rfl) (fun _ _ => rfl) fun i u ⟨hm, hk, hz, hok⟩ => flowOutSetRun_ok hm hk hz hok
  case queryIn => exact completes_of_run (fun _ _ => rfl) fun i u ⟨hdir, hz, hk⟩ => flowQueryRun_in hdir hz hk
  case queryOut => exact completes_of_run (fun _ _ => rfl) fun i u ⟨hdir, hz, hk⟩ => flowQueryRun_out hdir hz hk
  case ptp =>
    exact completes_of_ok (fun _ _ => rfl) (fun _ _ => rfl)
      fun i u ⟨hm, hprofile, hdomain, hdelay, hlo, hhi, hvlanA, hvlanB, hslew, hwin, hlim, hz⟩ =>
        ptpConfigRun_ok hm ⟨⟨hprofile, hdomain, hdelay, hlo, hhi, hvlanA, hvlanB⟩, hslew, hwin, hlim, hz⟩
  case scene =>
    exact completes_of_ok (fun _ _ => rfl) (fun _ _ => rfl) fun i u ⟨hm, hn, hn', hd, hd', hlo, hhi, hl, hl', hstrobe, hedge⟩ =>
      sceneTimeRun_ok hm ⟨⟨hn, hn', hd, hd', hlo, hhi, hl, hl'⟩, hstrobe, hedge⟩
  case timeQuery => exact completes_of_run (fun _ _ => rfl) fun _ _ _ => rfl
  case timeConvert =>
    exact completes_of_run (fun _ _ => rfl) fun i u ⟨hform, hz, hw, hsome⟩ => by
      obtain ⟨m, hm⟩ := Option.isSome_iff_exists.1 hsome
      rw [hm]
      exact timeConvertRun_done hform hz hw hm

end Sys2Proof.Machine
end

section
/-! SUPPORT. The host frame rings of MGMT (R393, R394, R418): the enables share one register, and a producer index posts the slots up to
it. -/

namespace Sys2Proof.Machine

/-! The enables. -/

/-- The write of MACM_HCTL that answers. -/
theorem hostRegWrite_hctl {t x : Nat} {s v : State} (hv : v = s.at t) (hw : v.writable 0x80100 8 = true) :
    hostRegWrite t 0x80100 x s = macWrite v 2 0x100 x := hostRegWrite_open (b := 0x80000) (by decide) hv hw

/-- MACM_HCTL with its two enables. -/
theorem macWrite_hctl (v : State) (rx tx : Bool) :
    macWrite v 2 0x100 (flags [rx, tx]) =
      if rx && !v.net.hrx.en && !ringSizeOk v.net.hrx.size || tx && !v.net.htx.en && !ringSizeOk v.net.htx.size then v.wdiscard
      else (v.setRxEn rx).setTxEn tx := by
  cases rx <;> cases tx <;> rfl

theorem State.setRxEn_same (v : State) : v.setRxEn v.net.hrx.en = v := if_pos (beq_self_eq_true _)

theorem State.setTxEn_same (v : State) : v.setTxEn v.net.htx.en = v := if_pos (beq_self_eq_true _)

/-- The write of the receive ring's enable leaves the transmit ring's as it is. -/
theorem macWrite_rxEn (v : State) :
    macWrite v 2 0x100 (flags [true, v.net.htx.en]) =
      if !v.net.hrx.en && !ringSizeOk v.net.hrx.size then v.wdiscard else (v.setRxEn true).setTxEn v.net.htx.en := by
  rw [macWrite_hctl, Bool.and_not_self, Bool.false_and, Bool.or_false, Bool.true_and]

/-- The write of the transmit ring's enable leaves the receive ring's as it is. -/
theorem macWrite_txEn (v : State) (on : Bool) :
    macWrite v 2 0x100 (flags [v.net.hrx.en, on]) =
      if on && !v.net.htx.en && !ringSizeOk v.net.htx.size then v.wdiscard else v.setTxEn on := by
  rw [macWrite_hctl, State.setRxEn_same, Bool.and_not_self, Bool.false_and, Bool.false_or]

/-- A ring that is enabled starts at index 0 on its first pass, without slots (R393). -/
def HostRing.started (r : HostRing) : HostRing := { r with en := true, pi := 0, ci := 0, phase := true, slots := [] }

theorem State.setRxEn_on {v : State} (hoff : v.net.hrx.en = false) (hsize : ringSizeOk v.net.hrx.size = true) :
    v.setRxEn true = { v with net := { v.net with hrx := v.net.hrx.started } } := by
  unfold State.setRxEn
  dsimp only
  rw [hoff, hsize]
  rfl

theorem State.setTxEn_on {v : State} (hoff : v.net.htx.en = false) (hsize : ringSizeOk v.net.htx.size = true) :
    v.setTxEn true = { v with net := { v.net with htx := v.net.htx.started } } := by
  unfold State.setTxEn
  dsimp only
  rw [hoff, hsize]
  rfl

theorem State.setTxEn_off {v : State} (hon : v.net.htx.en = true) :
    v.setTxEn false = { v.abortTx with net := { v.abortTx.net with htx := { v.abortTx.net.htx with en := false } } } := by
  unfold State.setTxEn
  dsimp only
  rw [hon]
  rfl

/-! The producer indexes (R394). -/

theorem State.pcieUp_of_writable {v : State} {a blk : Nat} (h : v.writable a blk = true) :
    (v.pcieUp && v.bar0Code a == some 0) = true := (Bool.and_eq_true_iff.1 h).1

theorem State.postRx_inside {v : State} {x : Nat} (hen : v.net.hrx.en = true) (hx : x < v.net.hrx.size) (slots : List Bytes) :
    v.postRx x slots = { v with net := { v.net with
      hrx := { v.net.hrx with pi := x, slots := v.net.hrx.slots ++ postedSlots v.net.hrx x slots } } } := by
  unfold State.postRx
  dsimp only
  rw [if_neg (by simp [hen, hx])]

/-- The number of slots that a new producer index posts. -/
theorem length_postedSlots (r : HostRing) (x : Nat) (slots : List Bytes) :
    (postedSlots r x slots).length = (x + r.size - r.pi) % r.size := by
  simp [postedSlots]

theorem getD'_postedSlots (r : HostRing) (x : Nat) (slots : List Bytes) {k : Nat} (hk : k < (x + r.size - r.pi) % r.size) (d : Bytes) :
    getD' (postedSlots r x slots) k d = getD' slots k (zeros 32) := by
  simp [getD'_eq, postedSlots, hk]

/-- The frame that posted slot `k` of the transmit ring hands to queue 2: the bytes of its buffer, VLAN entry and launch time (R394). -/
def hostTxFrame (r : HostRing) (slots frames : List Bytes) (k : Nat) : TxFrame :=
  let sl := getD' slots k (zeros 32)
  { TxFrame.udp 2 0 0 0 ((getD' frames k []).take (rd16 sl 8)) with
    launch := rd64 sl 16, vlan := rd8 sl 10, ttl := 0, slot := some ((r.pi + k) % r.size) }

theorem State.postTx_inside {v : State} {x : Nat} (hen : v.net.htx.en = true) (hx : x < v.net.htx.size) (slots frames : List Bytes) :
    v.postTx x slots frames =
      State.onMac { v with net := { v.net with
          htx := { v.net.htx with pi := x, slots := v.net.htx.slots ++ postedSlots v.net.htx x slots } } } 2 fun m =>
        { m with queue := m.queue ++
            (List.range ((x + v.net.htx.size - v.net.htx.pi) % v.net.htx.size)).map (hostTxFrame v.net.htx slots frames) } := by
  have hframes : ((List.range (postedSlots v.net.htx x slots).length).map fun k =>
        let sl := getD' (postedSlots v.net.htx x slots) k []
        { TxFrame.udp 2 0 0 0 ((getD' frames k []).take (rd16 sl 8)) with
          launch := rd64 sl 16, vlan := rd8 sl 10, ttl := 0, slot := some ((v.net.htx.pi + k) % v.net.htx.size) }) =
      (List.range ((x + v.net.htx.size - v.net.htx.pi) % v.net.htx.size)).map (hostTxFrame v.net.htx slots frames) := by
    rw [length_postedSlots]
    refine List.map_congr_left fun k hk => ?_
    rw [getD'_postedSlots _ _ _ (List.mem_range.1 hk)]
    rfl
  unfold State.postTx
  dsimp only at hframes ⊢
  rw [if_neg (by simp [hen, hx]), hframes]

/-- Settles O18: each enable is the write of MACM_HCTL, and each producer index posts its slots. -/
theorem hostFrameRingsAct : Obligations.HostFrameRingsAct := by
  refine ⟨?rxOn, ?rxOnSize, ?txOn, ?txOnSize, ?txOff, ?rxPi, ?txPi⟩
  case rxOn =>
    rintro t s v rfl hw hoff hsize
    refine congrArg _ ((hostRegWrite_hctl rfl hw).trans ((macWrite_rxEn _).trans ((if_neg (by rw [hsize]; simp)).trans ?_)))
    rw [State.setRxEn_on hoff hsize]
    exact State.setTxEn_same _
  case rxOnSize =>
    rintro t s v rfl hw hoff hsize
    exact congrArg _ ((hostRegWrite_hctl rfl hw).trans ((macWrite_rxEn _).trans (if_pos (by rw [hoff, hsize]; rfl))))
  case txOn =>
    rintro t s v rfl hw hoff hsize
    exact congrArg _ ((hostRegWrite_hctl rfl hw).trans ((macWrite_txEn _ true).trans
      ((if_neg (by rw [hsize]; simp)).trans (State.setTxEn_on hoff hsize))))
  case txOnSize =>
    rintro t s v rfl hw hoff hsize
    exact congrArg _ ((hostRegWrite_hctl rfl hw).trans ((macWrite_txEn _ true).trans (if_pos (by rw [hoff, hsize]; rfl))))
  case txOff =>
    rintro t s v rfl hw hon
    exact congrArg _ ((hostRegWrite_hctl rfl hw).trans ((macWrite_txEn _ false).trans (State.setTxEn_off hon)))
  case rxPi =>
    rintro t x slots s v rfl hw hen hx
    exact congrArg _ ((if_pos (State.pcieUp_of_writable hw)).trans (State.postRx_inside hen hx slots))
  case txPi =>
    rintro t x slots frames s v rfl hw hen hx
    exact congrArg _ ((if_pos (State.pcieUp_of_writable hw)).trans (State.postTx_inside hen hx slots frames))

end Sys2Proof.Machine
end

section
/-! SUPPORT. The events of the ports (R388 to R397, R401, R414 to R418): what an open port does with a frame by its VID and its protocol,
and what its timers and its transmitter do. -/

namespace Sys2Proof.Machine

/-! Frames that arrive. -/

/-- A frame with a known VID, which on HASP is no tag, is counted and handled (R387, R392, log 99). -/
theorem State.receive_known {v : State} {port vid : Nat} (ho : v.portOpen port = true) (hhasp : port = 3 → vid = 0)
    (hvid : v.vidKnown vid = true) (f : State → State) : v.receive port vid true f = f (v.rxCount port) := by
  have hvid' : (v.rxCount port).vidKnown vid = true := by simpa [State.vidKnown] using hvid
  unfold State.receive
  dsimp only
  rw [if_neg (by simp [ho]), if_neg (by simpa using hhasp), if_neg (by simp [hvid']), if_pos rfl]

/-- A frame with an unknown VID is counted and dropped (R392). -/
theorem State.receive_unknown {v : State} {port vid : Nat} (ho : v.portOpen port = true) (hport : port ≠ 3)
    (hvid : v.vidKnown vid = false) (serves : Bool) (f : State → State) :
    v.receive port vid serves f = (v.rxCount port).vidDrop port := by
  have hvid' : (v.rxCount port).vidKnown vid = false := by simpa [State.vidKnown] using hvid
  unfold State.receive
  dsimp only
  rw [if_neg (by simp [ho]), if_neg (by simp [hport]), if_pos (by simp [hvid'])]

/-- HASP takes no tags (R387). -/
theorem State.receive_taggedHasp {v : State} {vid : Nat} (ho : v.portOpen 3 = true) (hvid : vid ≠ 0) (serves : Bool)
    (f : State → State) : v.receive 3 vid serves f = (v.rxCount 3).rxDropped 3 := by
  unfold State.receive
  dsimp only
  rw [if_neg (by simp [ho]), if_pos (by simp [hvid])]

/-- What MGMT does not claim is a drop (R393). -/
theorem State.receive_unclaimed {v : State} (ho : v.portOpen 2 = true) (f : State → State) :
    v.receive 2 0 false f = (v.rxCount 2).rxDropped 2 := by
  have hvid : (v.rxCount 2).vidKnown 0 = true := by simp [State.vidKnown]
  unfold State.receive
  dsimp only
  rw [if_neg (by simp [ho]), if_neg (by decide), if_neg (by simp [hvid]), if_neg (by decide), if_pos rfl]

/-- A datagram that fits its frame, on a port whose protocol is served, is counted and handled (R387). -/
theorem State.receiveUdp_fits {v : State} {u : Udp} (ho : v.portOpen u.port = true) (hhasp : u.port ≠ 3) (hvid : v.vidKnown u.vid = true)
    (hlen : udpLen u.body.length (u.vid != 0) ≤ frameMax u.port) (f : State → State) :
    v.receiveUdp u true f = f (v.rxCount u.port) := by
  unfold State.receiveUdp
  rw [State.receive_known ho (absurd · hhasp) hvid, if_neg (by omega), if_pos rfl]

/-- A count of a received frame leaves all of a MAC but the count. -/
theorem State.mac_rxCount (v : State) (port : Nat) :
    (v.rxCount port).mac port = { v.mac port with rxFrame := (v.mac port).rxFrame + 1 } := State.mac_setMac ..

theorem State.portIp_rxCount (v : State) (port : Nat) : (v.rxCount port).portIp port = v.portIp port := by
  unfold State.portIp
  rw [State.mac_rxCount]
  simp

/-! What is dropped (R388, R392, R395). -/

/-- A counted frame that is dropped. -/
theorem State.rxDropped_rxCount (v : State) (port : Nat) :
    (v.rxCount port).rxDropped port = v.onMac port fun m => { m with rxFrame := m.rxFrame + 1, rxDrop := m.rxDrop + 1 } :=
  State.onMac_onMac ..

theorem State.vidDrop_rxCount (v : State) (port : Nat) :
    (v.rxCount port).vidDrop port =
      v.onMac port fun m => { m with rxFrame := m.rxFrame + 1, rxVlan := m.rxVlan + 1, evt := setBit m.evt 4 } :=
  State.onMac_onMac ..

theorem State.rxNobuf_rxCount (v : State) (port : Nat) :
    (v.rxCount port).rxNobuf port =
      v.onMac port fun m => { m with rxFrame := m.rxFrame + 1, rxNobuf := m.rxNobuf + 1, evt := setBit m.evt 1 } :=
  State.onMac_onMac ..

theorem execDroppedFrame_known {t port : Nat} {d : FrameDrop} {s v : State} (hv : v = s.at t) (ho : v.portOpen port = true)
    (hvid : v.vidKnown (d.vid.getD 0 % 4096) = true) (hhasp : port = 3 → d.vid.getD 0 % 4096 = 0) :
    execDroppedFrame t port d s = .next (if d.nobuf then (v.rxCount port).rxNobuf port else (v.rxCount port).rxDropped port) := by
  subst hv
  exact congrArg _ (State.receive_known ho hhasp hvid _)

/-! Links and low-power idle (R415, R418). -/

theorem execLinkChange_down {t port : Nat} {s v : State} (hv : v = s.at t) (hport : port < 4) (hlink : (v.mac port).link = true) :
    execLinkChange t port false s = .next (v.onMac port fun m =>
      { m with evt := setBit m.evt 0, link := false, txLpi := false, rxLpi := false, pausedTo := none }) := by
  subst hv
  exact congrArg _ ((if_neg (by simpa using hport)).trans (if_neg (by simp [hlink])))

theorem execLinkChange_up {t port : Nat} {s v : State} (hv : v = s.at t) (hport : port < 4) (hlink : (v.mac port).link = false)
    (ho : v.portOpen port = true) (hpll : (v.pll (if port < 2 then 5 else 6)).coast = false) :
    execLinkChange t port true s = .next (v.onMac port fun m => { m with evt := setBit m.evt 0, link := true }) := by
  subst hv
  exact congrArg _ ((if_neg (by rw [ho, hpll]; simpa using hport)).trans (if_neg (by simp [hlink])))

/-- The link partner enters or leaves low-power idle. -/
theorem execLowPowerIdle_partner {t port : Nat} {x : Bool} {s v : State} (hv : v = s.at t) (ho : v.portOpen port = true)
    (hlink : (v.mac port).link = true) (heee : (v.mac port).eeeEn = true) :
    execLowPowerIdle t { port := port, partner := some x } s = .next (v.onMac port fun m => { m with rxLpi := x }) := by
  subst hv
  exact congrArg _ (if_pos (by rw [ho, hlink, heee]; rfl))

/-- A transmitter without a frame that may start enters low-power idle. -/
theorem execLowPowerIdle_own {t port : Nat} {s v : State} (hv : v = s.at t) (ho : v.portOpen port = true)
    (hlink : (v.mac port).link = true) (hnot : v.inLpi port = false) (hmay : v.lpiAllowed port = true)
    (hidle : ∀ f ∈ (v.mac port).queue, v.media < f.launch) :
    execLowPowerIdle t { port := port, partner := none } s = .next (v.onMac port fun m => { m with txLpi := true, lpi := m.lpi + 1 }) := by
  have hqueue : ((v.mac port).queue.all fun f => decide (v.media < f.launch)) = true := by simpa using hidle
  subst hv
  exact congrArg _ (if_pos (by rw [ho, hlink, hnot, hmay, hqueue]; rfl))

/-! The answers of a port that serves (R391, R414, R415). -/

/-- The sender of an ARP frame for the port is learned, and what was asked for it is settled (R391). -/
def State.learnArp (v : State) (port sip smac : Nat) : State :=
  v.onMac port fun m => { m with arp := tabSet none m.arp sip (some smac), asked := tabSet none m.asked sip none }

theorem State.learnArp_rxCount (v : State) (port sip smac : Nat) :
    (v.rxCount port).learnArp port sip smac = v.onMac port fun m =>
      { m with rxFrame := m.rxFrame + 1, arp := tabSet none m.arp sip (some smac), asked := tabSet none m.asked sip none } :=
  State.onMac_onMac ..

/-- A frame for the port's address is learned from, and a request is answered (R391, log 100). -/
theorem execArpFrame_serves {t port vid sip smac : Nat} {request : Bool} {s v : State} (hv : v = s.at t)
    (hserves : v.portServes port = true) (hvid : v.vidKnown vid = true) (hhasp : port = 3 → vid = 0) (hip : v.portIp port ≠ 0) :
    execArpFrame t port vid request sip smac (v.portIp port) s =
      .next (let w := (v.rxCount port).learnArp port sip smac
        if request then w.post port (.made 3 0 0 (.arp false sip)) else w) := by
  unfold execArpFrame
  rw [← hv]
  dsimp only
  rw [hserves, State.receive_known (State.portOpen_of_serves hserves) hhasp hvid, State.portIp_rxCount, if_neg (by simp [hip])]
  rfl

/-- An address that was asked for and is not resolved is asked for again. -/
theorem execArpRetry_asks {t port ip : Nat} {s v : State} (hv : v = s.at t) (hserves : v.portServes port = true)
    (hasked : (tabGet none (v.mac port).asked ip).isSome = true) (hnone : tabGet none (v.mac port).arp ip = none) :
    execArpRetry t port ip s = .next (v.askArp port ip) := by
  subst hv
  exact congrArg _ (if_pos (by rw [hserves, hasked, hnone]; rfl))

theorem execIcmpEcho_answers {u : Udp} {s v : State} (hv : v = s.at u.t) (hserves : v.portServes u.port = true) (hhasp : u.port ≠ 3)
    (hvid : v.vidKnown u.vid = true) (hip : v.portIp u.port ≠ 0) (hdst : u.dst = v.portIp u.port)
    (hlen : udpLen u.body.length (u.vid != 0) ≤ frameMax u.port) :
    execIcmpEcho u s = .next ((v.rxCount u.port).post u.port (.made 3 u.src 0 (.icmp u.body))) := by
  have hfor : (v.portServes u.port && u.port != 3) = true := by simp [hserves, hhasp]
  unfold execIcmpEcho
  rw [← hv]
  dsimp only
  rw [hfor, State.receiveUdp_fits (State.portOpen_of_serves hserves) hhasp hvid hlen, State.portIp_rxCount, if_neg (by simp [hip, hdst])]

/-- A query is answered with every membership that it asks for (R414). -/
theorem execIgmpQuery_answers {t port group src : Nat} {s v : State} (hv : v = s.at t) (hserves : v.portServes port = true)
    (hport : port < 2) :
    execIgmpQuery t port group src s = .next ((v.net.members.filter fun g =>
        g.1 == port && (group == 0 || g.2.1 == group) && (src == 0 || g.2.2 == 0 || g.2.2 == src)).foldl
      (fun u g => u.sendIgmp port true g.2.1 g.2.2) (v.rxCount port)) := by
  have hnet : (v.rxCount port).net = v.net := by simp
  unfold execIgmpQuery
  rw [← hv]
  dsimp only
  rw [hserves, decide_eq_true hport, Bool.and_self, State.receive_served (State.portOpen_of_serves hserves), hnet]

/-- What is due is taken out of a list of timers. -/
theorem partition_due {α : Type} (l : List α) (time : α → Nat) (now : Nat) :
    (l.partition fun x => decide (time x ≤ now)) =
      (l.filter fun x => decide (time x ≤ now), l.filter fun x => decide (now < time x)) := by
  have hrest : (not ∘ fun x => decide (time x ≤ now)) = fun x => decide (now < time x) := by
    funext x
    rw [Function.comp_apply, ← decide_not, decide_eq_decide, not_le]
  rw [List.partition_eq_filter_filter, hrest]

/-- The reports that are due leave, where they still hold (R414, log 100). -/
theorem execIgmpRepeat_due {t : Nat} {s v : State} (hv : v = s.at t) (htx : v.mediaTx = true) :
    execIgmpRepeat t s = .next ((v.net.repeats.filter fun r => decide (r.2.2.2.2 ≤ v.now)).foldl
      (fun u r => if u.net.members.contains (r.1, r.2.1, r.2.2.1) = r.2.2.2.1 then u.sendIgmp r.1 r.2.2.2.1 r.2.1 r.2.2.1 else u)
      { v with net := { v.net with repeats := v.net.repeats.filter fun r => decide (v.now < r.2.2.2.2) } }) := by
  unfold execIgmpRepeat
  rw [← hv]
  dsimp only
  rw [htx, if_neg (by decide), partition_due v.net.repeats fun r => r.2.2.2.2]
  simp only [beq_iff_eq]

/-- The groups whose 64 samples have passed are left (R401). -/
theorem execIgmpLeave_due {t : Nat} {s v : State} (hv : v = s.at t) (htx : v.mediaTx = true) :
    execIgmpLeave t s = .next (State.leaveUnneeded
      { v with net := { v.net with leaves := v.net.leaves.filter fun l => decide (v.sampleNow < l.2.2.2) } }
      ((v.net.leaves.filter fun l => decide (l.2.2.2 ≤ v.sampleNow)).map fun l => (l.1, l.2.1, l.2.2.1))) := by
  unfold execIgmpLeave
  rw [← hv]
  dsimp only
  rw [htx, if_neg (by decide), partition_due v.net.leaves fun l => l.2.2.2]

/-- The wake time is negotiated and the module's own LLDP frame answers; one that is not agreed keeps it (log 100). -/
theorem execLldpFrame_answers {t port tw : Nat} {agreed : Bool} {s v : State} (hv : v = s.at t) (hserves : v.portServes port = true)
    (hport : port ≠ 3) (him : v.imageRuns = true) :
    execLldpFrame t port tw agreed s = .next
      ((v.onMac port fun m => { m with rxFrame := m.rxFrame + 1, eeeAgreed := agreed, twUs := if agreed then tw % 65536 else m.twUs }).post
        port (.made 0 0 0 .lldp)) := by
  have hfor : (port != 3 && v.imageRuns && v.portServes port) = true := by simp [hport, him, hserves]
  unfold execLldpFrame
  rw [← hv]
  dsimp only
  rw [hfor, State.receive_served (State.portOpen_of_serves hserves), State.rxCount, State.onMac_onMac]

/-! PAUSE (R416). -/

/-- The line rate of a port is not the number of frames that it has received. -/
theorem State.portRate_rxCount (v : State) (port : Nat) : (v.rxCount port).portRate port = v.portRate port := by
  unfold State.portRate State.lineRate
  rw [State.mac_rxCount]

theorem execPauseFrame_stops {t port q : Nat} {s v : State} (hv : v = s.at t) (ho : v.portOpen port = true) (hport : port ≠ 3) :
    execPauseFrame t port q s = .next (v.onMac port fun m =>
      { m with rxFrame := m.rxFrame + 1, rxPause := m.rxPause + 1, evt := setBit m.evt 2
               pausedTo := if m.pauseEn = false then m.pausedTo else if q % 65536 = 0 then none
                 else some (v.now + q % 65536 * 512 * 1000000000 / v.portRate port) }) := by
  have hnow : (v.rxCount port).now = v.now := by simp
  unfold execPauseFrame
  rw [← hv]
  dsimp only
  rw [ho, if_neg (by decide), if_neg hport, State.portRate_rxCount, hnow, State.rxCount, State.onMac_onMac]
  simp only [Bool.not_eq_true']

theorem execPauseFrame_hasp {t q : Nat} {s v : State} (hv : v = s.at t) (ho : v.portOpen 3 = true) :
    execPauseFrame t 3 q s = .next ((v.rxCount 3).rxDropped 3) := by
  subst hv
  exact congrArg _ ((if_neg (by rw [ho]; decide)).trans (if_pos rfl))

theorem execPauseQuantaEnd_due {t port e : Nat} {s v : State} (hv : v = s.at t) (hport : port < 4) (he : (v.mac port).pausedTo = some e)
    (hdue : e ≤ v.now) : execPauseQuantaEnd t port s = .next (v.onMac port fun m => { m with pausedTo := none }) := by
  unfold execPauseQuantaEnd
  rw [← hv]
  dsimp only
  rw [he, if_pos (by simp [hport, hdue])]

/-! Host frames (R393 to R395). -/

/-- An IPv4 frame that fits a frame of MGMT goes to the posted buffers, whether they hold it or not (R395). -/
theorem execHostRxFrame_fills {t : Nat} {frame : Bytes} {s v : State} (hv : v = s.at t) (ho : v.portOpen 2 = true)
    (him : v.imageRuns = true) (hen : v.net.hrx.en = true) (htype : etherType frame = 0x0800) (hlen : frame.length ≤ 1518) :
    execHostRxFrame t none frame s = .next
      (let fits := decide (frame.length ≤ sumN (v.net.hrx.slots.map fun sl => rd16 sl 8))
       State.rxFill fits false 0 v.net.hrx.slots true frame (if fits then v.rxCount 2 else (v.rxCount 2).rxNobuf 2)) := by
  have hfor : (v.imageRuns && v.net.hrx.en) = true := by rw [him, hen]; rfl
  have hnet : (v.rxCount 2).net = v.net := rfl
  unfold execHostRxFrame
  rw [← hv]
  dsimp only
  rw [hfor, State.receive_known ho (by decide) (by simp [State.vidKnown]), if_neg (by simp [htype, frameMax, b2n]; omega), hnet]
  cases decide (frame.length ≤ sumN (v.net.hrx.slots.map fun sl => rd16 sl 8)) <;> rfl

/-- A frame that the module does not claim, of another kind or too long, is a drop (R388, R393, log 153). -/
theorem execHostRxFrame_drops {t : Nat} {frame : Bytes} {s v : State} (hv : v = s.at t) (ho : v.portOpen 2 = true)
    (hdrop : v.imageRuns = true → v.net.hrx.en = true → etherType frame ≠ 0x0800 ∨ 1518 < frame.length) :
    execHostRxFrame t none frame s = .next ((v.rxCount 2).rxDropped 2) := by
  unfold execHostRxFrame
  rw [← hv]
  dsimp only
  cases hfor : v.imageRuns && v.net.hrx.en with
  | false => exact congrArg _ (State.receive_unclaimed ho _)
  | true =>
    obtain ⟨him, hen⟩ := Bool.and_eq_true_iff.1 hfor
    have hbad := hdrop him hen
    rw [State.receive_known ho (by decide) (by simp [State.vidKnown]), if_pos (by simp [frameMax, b2n]; omega)]

/-! The transmit queues (R396, R397). -/

theorem execFrameLaunch_starts {t port : Nat} {s v : State} {f : TxFrame} (hv : v = s.at t) (hr : v.txReady port = true)
    (hf : v.nextFrame port = some f) : execFrameLaunch t port s = .next (v.launch port f) := by
  unfold execFrameLaunch
  rw [← hv]
  dsimp only
  rw [hr, if_neg (by decide), hf]

/-- Settles O25: each event by what its port does with its frame, or by its timer or its queue. -/
theorem portEventsAct : Obligations.PortEventsAct := by
  refine ⟨?linkDown, ?linkUp, ?unknownVid, ?dropped, ?noBuffer, ?taggedHasp, ?fcs, ?arpAnswer, ?arpRequest, ?arpRetry, ?icmp, ?igmpQuery,
    ?igmpRepeat, ?igmpLeave, ?lldp, ?pause, ?pauseHasp, ?pauseEnd, ?lpiPartner, ?lpiOwn, ?hostFits, ?hostNoBuffer, ?hostDrop, ?launch⟩
  case linkDown => exact fun t port s v hv hport hlink => execLinkChange_down hv hport hlink
  case linkUp => exact fun t port s v hv hport hlink ho hpll => execLinkChange_up hv hport hlink ho hpll
  case unknownVid =>
    rintro t port vid b s v rfl ho hport hvid
    exact congrArg _ ((State.receive_unknown ho hport hvid ..).trans (State.vidDrop_rxCount ..))
  case dropped =>
    intro t port d s v hv ho hvid hhasp hb
    exact (execDroppedFrame_known hv ho hvid hhasp).trans
      (congrArg _ ((if_neg (by rw [hb]; decide)).trans (State.rxDropped_rxCount ..)))
  case noBuffer =>
    intro t port d s v hv ho hvid hhasp hb
    exact (execDroppedFrame_known hv ho hvid hhasp).trans (congrArg _ ((if_pos hb).trans (State.rxNobuf_rxCount ..)))
  case taggedHasp =>
    rintro t vid b s v rfl ho hvid
    exact congrArg _ ((State.receive_taggedHasp ho hvid ..).trans (State.rxDropped_rxCount ..))
  case fcs =>
    rintro t port s v rfl ho
    exact congrArg _ (if_pos ho)
  case arpAnswer =>
    intro t port vid sip smac s v hv hserves hvid hhasp hip
    exact (execArpFrame_serves hv hserves hvid hhasp hip).trans (congrArg _ (State.learnArp_rxCount ..))
  case arpRequest =>
    intro t port vid sip smac s v hv hserves hvid hhasp hip
    rw [← State.learnArp_rxCount]
    exact execArpFrame_serves hv hserves hvid hhasp hip
  case arpRetry => exact fun t port ip s v hv hserves hasked hnone => execArpRetry_asks hv hserves hasked hnone
  case icmp => exact fun u s v hv hserves hhasp hvid hip hdst hlen => execIcmpEcho_answers hv hserves hhasp hvid hip hdst hlen
  case igmpQuery => exact fun t port group src s v hv hserves hport _ => execIgmpQuery_answers hv hserves hport
  case igmpRepeat => exact fun t s v hv htx => execIgmpRepeat_due hv htx
  case igmpLeave => exact fun t s v hv htx => execIgmpLeave_due hv htx
  case lldp => exact fun t port tw agreed s v hv hserves hport him => execLldpFrame_answers hv hserves hport him
  case pause => exact fun t port q s v hv ho hport => execPauseFrame_stops hv ho hport
  case pauseHasp => exact fun t q s v hv ho => (execPauseFrame_hasp hv ho).trans (congrArg _ (State.rxDropped_rxCount ..))
  case pauseEnd => exact fun t port s e v hv hport he hdue => execPauseQuantaEnd_due hv hport he hdue
  case lpiPartner => exact fun t port x s v hv ho hlink heee => execLowPowerIdle_partner hv ho hlink heee
  case lpiOwn => exact fun t port s v hv ho hlink hnot hmay hidle => execLowPowerIdle_own hv ho hlink hnot hmay hidle
  case hostFits =>
    intro t frame s v hv ho him hen htype hlen hroom
    rw [exec, execHostRxFrame_fills hv ho him hen htype hlen, decide_eq_true hroom]
    rfl
  case hostNoBuffer =>
    intro t frame s v hv ho him hen htype hlen hroom
    rw [exec, execHostRxFrame_fills hv ho him hen htype hlen, decide_eq_false (Nat.not_le.2 hroom), ← State.rxNobuf_rxCount]
    rfl
  case hostDrop =>
    exact fun t frame s v hv ho hdrop => (execHostRxFrame_drops hv ho hdrop).trans (congrArg _ (State.rxDropped_rxCount ..))
  case launch => exact fun t port s f v hv hr hf => execFrameLaunch_starts hv hr hf

end Sys2Proof.Machine
end

section
/-! SUPPORT. Media and S-ADM packets, and what leaves for the entries of the egress table (R398, R404 to R406, R409, R411, R412). -/

namespace Sys2Proof.Machine

/-! Packets that arrive (R404, R409). -/

/-- A datagram that fits its frame on a media port is counted and handled while the tick runs. -/
theorem State.receiveUdp_media {v : State} {u : Udp} (hport : u.port < 2) (ho : v.portOpen u.port = true) (hvid : v.vidKnown u.vid = true)
    (hlen : udpLen u.body.length (u.vid != 0) ≤ 1522) (f : State → State) :
    v.receiveUdp u (decide (u.port < 2)) f = f (v.rxCount u.port) := by
  have hmax : frameMax u.port = 1522 := if_neg (by omega)
  rw [decide_eq_true hport]
  exact State.receiveUdp_fits ho (by omega) hvid (by rw [hmax]; exact hlen) f

/-- Which entries a datagram matches is not a matter of the frames counted. -/
theorem State.fiMatch_rxCount (v : State) (port k : Nat) (r : Bytes) (u : Udp) (p : Rtp) :
    (v.rxCount port).fiMatch k r u p = v.fiMatch k r u p := by
  simp [State.fiMatch]

theorem State.ticking_rxCount (v : State) (port : Nat) : (v.rxCount port).ticking = v.ticking := by
  simp [State.ticking, State.rendering]

/-- An audio packet goes to every entry that it matches, in order, while the tick runs; otherwise it is counted alone (R404). -/
theorem execSt2110Packet_passes {u : Udp} {s v : State} (hv : v = s.at u.t) (hport : u.port < 2) (ho : v.portOpen u.port = true)
    (hvid : v.vidKnown u.vid = true) (hlen : udpLen u.body.length (u.vid != 0) ≤ 1522) :
    execSt2110Packet u s = .next (if v.ticking then
      (v.rxEntries.filter fun e => v.fiMatch 0 e.2 u (rtpOf u.body)).foldl
        (fun w e => w.audioPacket e.1 u.port e.2 (rtpOf u.body)) (v.rxCount u.port) else v.rxCount u.port) := by
  have hentries : (v.rxCount u.port).rxEntries = v.rxEntries := by simp [State.rxEntries]
  unfold execSt2110Packet
  rw [← hv]
  dsimp only
  rw [State.receiveUdp_media hport ho hvid hlen, State.ticking_rxCount, hentries]
  simp only [State.fiMatch_rxCount]
  cases v.ticking <;> rfl

/-- An S-ADM packet goes to every enabled entry that it matches, in order (R409). -/
theorem execSadmPacket_ticking {u : Udp} {fs : List AdmFrame} {s v : State} (hv : v = s.at u.t) (hport : u.port < 2)
    (ho : v.portOpen u.port = true) (hvid : v.vidKnown u.vid = true) (hlen : udpLen u.body.length (u.vid != 0) ≤ 1522)
    (htick : v.ticking = true) :
    execSadmPacket u fs s = .next ((v.flowsIn.filter fun e => v.fiMatch 1 e.2 u (rtpOf u.body)).foldl
      (fun w e => w.sadmPart e.1 u.port e.2 (rtpOf u.body) fs) (v.rxCount u.port)) := by
  have hflows : (v.rxCount u.port).flowsIn = v.flowsIn := by simp [State.flowsIn]
  unfold execSadmPacket
  rw [← hv]
  dsimp only
  rw [State.receiveUdp_media hport ho hvid hlen, State.ticking_rxCount, htick, if_neg (by decide), hflows]
  simp only [State.fiMatch_rxCount]

/-! Packets that leave (R398, R411, R412). -/

/-- An audio entry whose packet has been read out, and whose launch time has come, sends it (R398, R411). -/
theorem execMediaPacketLaunch_sends {t e i : Nat} {r : Bytes} {s v : State} (hv : v = s.at t) (hstreams : v.streams = true)
    (hr : r = v.flowOut e) (hon : frOn r = true) (hkind : frKind r = 0) (hi : i = v.stamp r (tabGet 0 v.rnd.pktNext e))
    (hready : v.packetReady r i = true) (hlaunch : (v.launchTime r i : Int) ≤ v.media) :
    execMediaPacketLaunch t e s = .next (State.sendFlow
      { v with rnd := { v.rnd with pktNext := tabSet 0 v.rnd.pktNext e (tabGet 0 v.rnd.pktNext e + 1) } } e 6 r (v.launchTime r i)
      (rtpBytes (foPt r) ((i / frLen v.rnd.rate96 r + foSeq r) % 65536) (i % 2 ^ 32) (foSsrc r) false (v.packetBody r i))) := by
  unfold execMediaPacketLaunch
  rw [← hv]
  dsimp only
  rw [← hr, ← hi, if_neg (by simp [hstreams, hon, hkind, hready, hlaunch])]
  rfl

/-- A relay without rendering or without an entry of its kind discards the frame (R412). -/
theorem execSadmRelaySend_discards {t e : Nat} {f : Nat × List Bytes × Nat} {s v : State} (hv : v = s.at t)
    (hf : (v.net.relayed.find? fun f => f.1 == e) = some f)
    (hoff : v.rendering = false ∨ frOn (v.flowOut e) = false ∨ frKind (v.flowOut e) ≠ 1) :
    execSadmRelaySend t e s = .next { v with net := { v.net with relayed := v.net.relayed.erase f } } := by
  have hcond : (!v.rendering || !frOn (v.flowOut e) || frKind (v.flowOut e) != 1) = true := by
    simpa [or_assoc] using hoff
  unfold execSadmRelaySend
  rw [← hv]
  dsimp only
  rw [hf]
  exact congrArg _ (if_pos hcond)

/-- Streams run only in a rendering mode (R306). -/
theorem State.rendering_of_streams {v : State} (h : v.streams = true) : v.rendering = true := by
  unfold State.streams State.ticking at h
  simp only [Bool.and_eq_true] at h
  obtain ⟨⟨⟨hr, -⟩, -⟩, -⟩ := h
  exact hr

/-- A frame of one part leaves as one packet with the marker (R412). -/
theorem execSadmRelaySend_single {t e ts : Nat} {b r : Bytes} {s v : State} (hv : v = s.at t)
    (hf : (v.net.relayed.find? fun f => f.1 == e) = some (e, [b], ts)) (hstreams : v.streams = true) (hr : r = v.flowOut e)
    (hon : frOn r = true) (hkind : frKind r = 1) :
    execSadmRelaySend t e s = .next
      (let seq := tabGet 0 v.net.relaySeq e
       let up := (2 * v.fixed125 * 90000 + v.fs) / (2 * v.fs)
       State.sendFlow { v with net := { v.net with
           relayed := v.net.relayed.erase (e, [b], ts), relaySeq := tabSet 0 v.net.relaySeq e ((seq + 1) % 65536) } } e 5 r 0
         (rtpBytes (foPt r) ((seq + foSeq r) % 65536) ((ts + up) % 2 ^ 32) (foSsrc r) true b)) := by
  have hcond : ¬ ((!v.rendering || !frOn r || frKind r != 1) = true) := by
    simp [State.rendering_of_streams hstreams, hon, hkind]
  unfold execSadmRelaySend
  rw [← hv]
  dsimp only
  rw [hf, ← hr]
  exact congrArg _ ((if_neg hcond).trans (if_pos hstreams))

/-- Settles O27: each packet by its port and the entries that it matches, and each entry by what it has to send. -/
theorem mediaEventsAct : Obligations.MediaEventsAct := by
  refine ⟨?audio, ?audioIdle, ?sadm, ?launch, ?relayOff, ?relay⟩
  case audio =>
    exact fun u s v hv hport ho hvid hlen htick => (execSt2110Packet_passes hv hport ho hvid hlen).trans (congrArg _ (if_pos htick))
  case audioIdle =>
    intro u s v hv hport ho hvid hlen htick
    exact (execSt2110Packet_passes hv hport ho hvid hlen).trans (congrArg _ (if_neg (by rw [htick]; decide)))
  case sadm => exact fun u fs s v hv hport ho hvid hlen htick => execSadmPacket_ticking hv hport ho hvid hlen htick
  case launch =>
    exact fun t e i s v hv hstreams hon hkind hi hready hlaunch =>
      execMediaPacketLaunch_sends hv hstreams rfl hon hkind hi hready hlaunch
  case relayOff => exact fun t e s f v hv hf hoff => execSadmRelaySend_discards hv hf hoff
  case relay => exact fun t e b ts s v hv hf hstreams hon hkind => execSadmRelaySend_single hv hf hstreams rfl hon hkind

end Sys2Proof.Machine
end

section
/-! SUPPORT. Counts of 32 bits, and the boundary that a WHEN names (R66, R68, R421, R440). -/

namespace Sys2Proof.Machine

/-! Counts of 32 bits (R421). -/

/-- The extension differs from the count by whole wraps of it. -/
theorem ext32_sub (x r : Nat) : ext32 x r - x = 2 ^ 32 * -(((x : Int) - r + 2 ^ 31) / 2 ^ 32) := by
  have hdivision := Int.mul_ediv_add_emod ((x : Int) - r + 2 ^ 31) (2 ^ 32)
  unfold ext32
  linarith

/-- The remainder that the extension adds to its reference spans one wrap, half of it on each side. -/
theorem ext32_range (x r : Nat) : (r : Int) - 2 ^ 31 ≤ ext32 x r ∧ ext32 x r < (r : Int) + 2 ^ 31 := by
  have hlo := Int.emod_nonneg ((x : Int) - r + 2 ^ 31) (b := 2 ^ 32) (by decide)
  have hhi := Int.emod_lt_of_pos ((x : Int) - r + 2 ^ 31) (b := 2 ^ 32) (by decide)
  unfold ext32
  omega

/-- Settles O51: the extension is the count less whole wraps, and its reference plus a remainder of one wrap. -/
theorem extensionIsTheNearestCongruentValue : Obligations.ExtensionIsTheNearestCongruentValue :=
  fun x r => ⟨by rw [ext32_sub, Int.mul_emod_right], ext32_range x r⟩

/-! Boundaries (R440). -/

/-- The tick of a sample index's boundary is the first one at or after it. -/
theorem le_tickOf (m : Nat) : m ≤ 16 * tickOf m ∧ 16 * tickOf m < m + 16 := by
  unfold tickOf ceilDiv
  omega

theorem tickOf_lt_iff {m n : Nat} : tickOf m < n ↔ m + 16 ≤ 16 * n := by
  unfold tickOf ceilDiv
  omega

section
variable {s : State} {c : CmdIn} {first m : Nat} (hown : c.mirror = none)
include hown

/-- Without a WHEN a command of the module's own takes the first admissible boundary. -/
theorem State.boundary_first (hw : c.when = 0) : s.boundary c first = .ok first := by
  rw [State.boundary, hown, if_pos hw]

theorem State.boundary_unnamed (hw : c.when ≠ 0) (hm : s.whenSample c.form c.when = none) : s.boundary c first = .bad := by
  rw [State.boundary, hown, if_neg hw, hm]

/-- A WHEN that names a sample index takes that index's boundary, unless the first admissible one lies behind it. -/
theorem State.boundary_named (hw : c.when ≠ 0) (hm : s.whenSample c.form c.when = some m) :
    s.boundary c first = if tickOf m < first then .late else .ok (tickOf m) := by
  rw [State.boundary, hown, if_neg hw, hm]

end

/-- Settles O50: a command without a WHEN, one whose WHEN names no sample index, and one whose WHEN names one, late or not. -/
theorem whenResolvesToTheFirstBoundaryAtOrAfterIt : Obligations.WhenResolvesToTheFirstBoundaryAtOrAfterIt := by
  intro s c first hown
  have hforms : (c.form = 0 → s.whenSample c.form c.when = some ((c.when * s.fs + 999999999) / 1000000000)) ∧
      (c.form = 1 → s.whenSample c.form c.when = some c.when) :=
    ⟨fun hf => by rw [hf, State.whenSample, if_pos rfl, ceilDiv, Nat.add_sub_assoc (by decide)], fun hf => by rw [hf]; rfl⟩
  by_cases hw : c.when = 0
  · rw [State.boundary_first hown hw]
    refine ⟨?_, by simp [hw], by simp [hw], hforms⟩
    rintro n ⟨⟩
    exact ⟨le_rfl, fun _ => rfl, absurd hw⟩
  cases hm : s.whenSample c.form c.when with
  | none =>
    rw [State.boundary_unnamed hown hw hm]
    exact ⟨nofun, by simp, by simp [hw], hm ▸ hforms⟩
  | some m =>
    rw [State.boundary_named hown hw hm]
    by_cases hlate : tickOf m < first
    · rw [if_pos hlate]
      exact ⟨nofun, ⟨fun _ => ⟨hw, m, rfl, tickOf_lt_iff.1 hlate⟩, fun _ => rfl⟩, by simp, hm ▸ hforms⟩
    · rw [if_neg hlate]
      have hat : ¬ m + 16 ≤ 16 * first := mt tickOf_lt_iff.2 hlate
      refine ⟨?_, by simpa using fun _ => hat, by simp, hm ▸ hforms⟩
      rintro n ⟨⟩
      exact ⟨not_lt.1 hlate, fun h => absurd h hw, fun _ => ⟨m, rfl, le_tickOf m⟩⟩

end Sys2Proof.Machine
end

section
/-! SUPPORT. The registers right after reset (R291, R545 to R547, R550): the deadbolt's settings read their reset values, so that their
digest is the stated one. -/

namespace Sys2Proof.Machine

/-! Registers by offset. -/

theorem regAt_none {off : Nat} {l : List (Nat × Nat)} (h : ∀ e ∈ l, e.1 ≠ off) : regAt off l = none := by
  rw [regAt, List.find?_eq_none.2 fun e he => by simpa using h e he]
  rfl

theorem regArr_element {base step n k : Nat} (f : Nat → Nat) (hstep : 0 < step) (hk : k < n) :
    regArr (base + step * k) base step n f = some (f k) := by
  unfold regArr
  rw [Nat.add_sub_cancel_left, Nat.mul_div_cancel_left k hstep, if_pos ⟨Nat.le_add_right .., Nat.mul_mod_right .., hk⟩]

theorem regArr_outside {off base step n : Nat} (f : Nat → Nat) (hstep : 0 < step) (h : off < base ∨ base + step * n ≤ off) :
    regArr off base step n f = none := by
  unfold regArr
  rw [if_neg]
  rintro ⟨hbase, -, hn⟩
  have hbelow := (Nat.div_lt_iff_lt_mul hstep).1 hn
  rw [Nat.mul_comm] at hbelow
  omega

/-! The reset values of the settings (R291). -/

/-- The settings of the feeds and the whitelist lie above the caps. -/
theorem regAt_caps {off : Nat} (h : 0x1000 ≤ off) : regAt off [(0xC, 0x01044914), (0x10, 0), (0x14, 0), (0x18, 0)] = none :=
  regAt_none fun e he => by
    simp only [List.mem_cons, List.not_mem_nil, or_false] at he
    rcases he with rfl | rfl | rfl | rfl <;> dsimp only <;> omega

/-- CEIL, FLOOR, DC_LIM and RISE of a feed. -/
theorem dbltDflt_feed {f : Nat} (hf : f < 768) :
    dbltDflt (0x1000 + 4 * f) = some 0x7FFFFFFF ∧ dbltDflt (0x2000 + 4 * f) = some 0x7FFFFFFF ∧
    dbltDflt (0x3000 + 4 * f) = some 0x0147AE14 ∧ dbltDflt (0x4000 + 4 * f) = some 0 := by
  have hbelow {k base n : Nat} (g : Nat → Nat) (h : k + 4 * f < base) : regArr (k + 4 * f) base 4 n g = none :=
    regArr_outside g (by decide) (.inl h)
  have habove {k base : Nat} (g : Nat → Nat) (h : base + 4 * 768 ≤ k) : regArr (k + 4 * f) base 4 768 g = none :=
    regArr_outside g (by decide) (.inr (by omega))
  have hat {base : Nat} (g : Nat → Nat) : regArr (base + 4 * f) base 4 768 g = some (g f) := regArr_element g (by decide) hf
  have hcaps {k : Nat} (h : 0x1000 ≤ k) := regAt_caps (off := k + 4 * f) (by omega)
  refine ⟨?_, ?_, ?_, ?_⟩ <;> simp [dbltDflt, hcaps, hat, habove, regOr]

theorem dbltDflt_whitelist {i : Nat} (hi : i < 2048) : dbltDflt (0x8000 + 4 * i) = some 0 := by
  have habove {base : Nat} (g : Nat → Nat) (h : base ≤ 0x4000) : regArr (0x8000 + 4 * i) base 4 768 g = none :=
    regArr_outside g (by decide) (.inr (by omega))
  simp [dbltDflt, regAt_caps (off := 0x8000 + 4 * i) (by omega), habove, regArr_element _ (by decide : 0 < 4) hi, regOr]

theorem State.reset_dbltGet {off d : Nat} (h : dbltDflt off = some d) : State.reset.dbltGet off = (wd d).toNat := by
  simp only [State.dbltGet, h]
  rfl

/-! The digest (R550). -/

theorem dbltDflt_of_mem_order {off : Nat} (h : off ∈ dbltOrder) : ∃ d, dbltDflt off = some d ∧ (wd d).toNat = d := by
  simp only [dbltOrder, List.mem_append, List.mem_flatten, List.mem_map, List.mem_range] at h
  rcases h with (hcap | ⟨l, ⟨base, hbase, rfl⟩, hmem⟩) | ⟨i, hi, rfl⟩
  · revert off
    decide
  · obtain ⟨f, hf, rfl⟩ := List.mem_map.1 hmem
    obtain ⟨hceil, hfloor, hlim, hrise⟩ := dbltDflt_feed (List.mem_range.1 hf)
    simp only [List.mem_cons, List.not_mem_nil, or_false] at hbase
    rcases hbase with rfl | rfl | rfl | rfl
    · exact ⟨_, hceil, rfl⟩
    · exact ⟨_, hfloor, rfl⟩
    · exact ⟨_, hlim, rfl⟩
    · exact ⟨_, hrise, rfl⟩
  · exact ⟨_, dbltDflt_whitelist hi, rfl⟩

theorem dbltCrc_congr {f g : Nat → Nat} (h : ∀ off ∈ dbltOrder, f off = g off) : dbltCrc f = dbltCrc g := by
  rw [dbltCrc, dbltCrc, List.map_congr_left fun off ho => congrArg (leB 4) (h off ho)]

/-- The digest of the reset settings is the constant that it is referred to. -/
theorem State.reset_dbltDigest : State.reset.dbltDigest = 0x6C492E5F := by
  have hsettings : dbltCrc State.reset.dbltGet = dbltCrc fun o => (dbltDflt o).getD 0 :=
    dbltCrc_congr fun off ho => by
      obtain ⟨d, hd, hfits⟩ := dbltDflt_of_mem_order ho
      rw [State.reset_dbltGet hd, hd, hfits]
      rfl
  rw [State.dbltDigest, hsettings, BitVec.xor_assoc, BitVec.xor_self, BitVec.xor_zero]

/-- Settles O38: the registers of the tables one by one, the settings by their arrays, and their digest. -/
theorem resetShowsTheStatedRegisterValues : Obligations.ResetShowsTheStatedRegisterValues := by
  refine ⟨rfl, rfl, rfl, rfl, rfl, rfl, rfl, rfl, rfl, rfl, rfl, rfl, ?feeds, ?whitelist, rfl, State.reset_dbltDigest, rfl⟩
  case feeds =>
    intro f hf
    obtain ⟨hceil, hfloor, hlim, hrise⟩ := dbltDflt_feed hf
    exact ⟨State.reset_dbltGet hceil, State.reset_dbltGet hfloor, State.reset_dbltGet hlim, State.reset_dbltGet hrise⟩
  case whitelist => exact fun i hi => State.reset_dbltGet (dbltDflt_whitelist hi)

end Sys2Proof.Machine
end

section
/-! SUPPORT. The power commands (R464 to R466, R472 to R475, R482): each of them is what its own rules answer. -/

namespace Sys2Proof.Machine

/-! From a command's own rules to its statement. -/

/-- A command whose own rules, which see its opcode, accept it for a boundary. -/
theorem defers_of_opRun {c : Cmd} {mk : Hdr → Bytes → Instr} {pre : CmdIn → State → Nat → Prop} {eff : CmdIn → State → Nat → State}
    (hk : ∀ h p, keywayRow (mk h p) = some (c, h, p))
    (hr : ∀ i u n, i.op = c.op → pre i u n → c.run i u = .defer (eff i u n) n) : Defers c mk pre eff := by
  intro h p s n ha hp hdue
  rw [exec_keyway (hk h p)]
  exact keyway_defer c h p s _ _ ha (hr _ _ _ rfl hp) hdue

/-! Replies. -/

section
variable {α : Type} {f : State → α} (hkey : ∀ (s : State) (k : KeySt), f { s with key := k } = f s)
  (hsend : ∀ (s : State) (src : CmdSrc) (r : Reply), f (s.sendReply src r) = f s)
include hkey hsend

/-- What neither the keyway's own registers nor the sending of a reply touch, the replies that come free leave alone. -/
theorem State.settleReplies_keeps (n : Nat) (s : State) : f (State.settleReplies n s) = f s := by
  induction n generalizing s with
  | zero => rfl
  | succ n ih =>
    unfold State.settleReplies
    split
    · exact (ih _).trans ((hsend ..).trans (hkey ..))
    · split
      · exact (ih _).trans ((hsend ..).trans (hkey ..))
      · rfl

/-- What neither the keyway's own registers nor the sending of a reply touch, an answer leaves alone. -/
theorem State.answer_keeps (s : State) (ref : ReplyRef) (st : Status) (deferred relayed : Bool) (pl : Bytes) :
    f (s.answer ref st deferred relayed pl) = f s := by
  unfold State.answer
  dsimp only
  split_ifs
  · rfl
  · exact hkey ..
  · exact (State.settleReplies_keeps hkey hsend ..).trans ((hsend ..).trans (hkey ..))

end

theorem State.sendReply_tick (s : State) (src : CmdSrc) (r : Reply) : (s.sendReply src r).tick = s.tick := by
  cases src with
  | relay n => exact (State.postTwin_frame ..).1
  | _ => rw [State.sendReply_frame _ _ _ (by simp)]

theorem State.answer_tick (s : State) (ref : ReplyRef) (st : Status) (deferred relayed : Bool) (pl : Bytes) :
    (s.answer ref st deferred relayed pl).tick = s.tick :=
  State.answer_keeps (f := State.tick) (fun _ _ => rfl) State.sendReply_tick ..

/-! PWR_QUERY (R482). -/

/-- The power registers lie in the fourth block of BAR0. -/
theorem State.readReg_pwr (u : State) {a : Nat} (ha : a < 0x10000) : u.readReg (0x30000 + a) = (pwrView u a).getD 0 := by
  have hblock : bar0Block (0x30000 + a) = some (0x30000, 0x10000, 0, 15, 3) := by
    have hbefore : (bar0Blocks.take 3).find? (fun b => decide (b.1 ≤ 0x30000 + a ∧ 0x30000 + a < b.1 + b.2.1)) = none := by
      have hend : ∀ b ∈ bar0Blocks.take 3, b.1 + b.2.1 ≤ 0x30000 := by decide
      exact List.find?_eq_none.2 fun b hb => by have := hend b hb; rw [decide_eq_true_iff]; omega
    rw [bar0Block, ← List.take_append_drop 3 bar0Blocks, List.find?_append, hbefore, Option.none_or]
    exact List.find?_cons_of_pos (decide_eq_true (by dsimp only; omega))
  rw [State.readReg, hblock]
  show (blockView u 3 (0x30000 + a - 0x30000)).getD 0 = _
  rw [Nat.add_sub_cancel_left]
  rfl

theorem pwrQueryRun_done (i : CmdIn) (u : State) :
    pwrQueryCmd.run i u = .done u (([0, 0xC, 0x10, 0x14, 0x18, 0x20].map fun a => leB 4 (u.readReg (0x30000 + a))).flatten) (u.tick + 1) := by
  have hoffsets : ∀ a ∈ [0, 0xC, 0x10, 0x14, 0x18, 0x20], a < 0x10000 := by decide
  rw [List.map_congr_left fun a ha => congrArg (leB 4) (u.readReg_pwr (hoffsets a ha))]
  rfl

/-! PWR_SLEEP, PWR_DEEP and PWR_WAKE (R472 to R475). -/

/-- The request that a power command makes; PWR_DEEP alone carries a time. -/
def pwrReqOf (op : Nat) (i : CmdIn) : PwrReq := { op := op, after := if op = 0x911 then rd32 i.body 0 else 0, ref := i.ref }

/-- A request with no transition running or queued, in a mode that admits it, starts its transition. -/
theorem pwrRun_starts {ok : Bytes → Bool} {i : CmdIn} {u : State} (ht : u.pwr.trans = 0) (hq : u.pwr.queued = none)
    (hok : ok i.body = true) (hmay : u.pwrRefusal i.op = none) :
    pwrRun ok i u = .defer (u.pwrStart (pwrReqOf i.op i)) (u.tick + 1) := by
  have hidle : (decide (u.pwr.trans = 0) && u.pwr.queued.isNone) = true := by simp [ht, hq]
  have hform : ¬ ((!ok i.body) = true) := by simp [hok]
  unfold pwrRun
  dsimp only
  rw [if_pos hidle, hmay]
  exact if_neg hform

/-- A request waits in place of the queued one, which is answered SUPERSEDED (R473). -/
def State.queuePwr (u : State) (r : PwrReq) : State :=
  let v := match u.pwr.queued with
    | some q => (u.answer q.ref .superseded true false []).pwrEvt 6
    | none => u
  { v with pwr := { v.pwr with queued := some r } }

theorem State.queuePwr_tick (u : State) (r : PwrReq) : (u.queuePwr r).tick = u.tick := by
  unfold State.queuePwr
  cases u.pwr.queued with
  | none => rfl
  | some q => exact u.answer_tick ..

theorem pwrRun_queues {ok : Bytes → Bool} {i : CmdIn} {u : State} (hbusy : u.pwr.trans ≠ 0 ∨ u.pwr.queued.isSome = true)
    (hok : ok i.body = true) : pwrRun ok i u = .defer (u.queuePwr (pwrReqOf i.op i)) (u.tick + 1) := by
  have hnot : ¬ ((decide (u.pwr.trans = 0) && u.pwr.queued.isNone) = true) := by
    rcases hbusy with h | h
    · simp [h]
    · simp [Option.isSome_iff_ne_none.1 h]
  have hform : ¬ ((!ok i.body) = true) := by simp [hok]
  unfold pwrRun
  dsimp only
  rw [if_neg hnot, if_neg hform]
  show Verdict.defer (u.queuePwr (pwrReqOf i.op i)) ((u.queuePwr (pwrReqOf i.op i)).tick + 1) = _
  rw [State.queuePwr_tick]

section
variable {op len : Nat} {ok : Bytes → Bool} {mk : Hdr → Bytes → Instr} {pre : CmdIn → State → Nat → Prop}
  (hk : ∀ h p, keywayRow (mk h p) = some (pwrCmd op len ok, h, p))
include hk

/-- A power command that starts its transition where `pre` holds. -/
theorem pwrCmd_starts (hpre : ∀ i u n, pre i u n →
      u.pwr.trans = 0 ∧ u.pwr.queued = none ∧ ok i.body = true ∧ u.pwrRefusal op = none ∧ n = u.tick + 1) :
    Defers (pwrCmd op len ok) mk pre fun i u _ => u.pwrStart (pwrReqOf op i) :=
  defers_of_opRun hk fun i u n hop hp => by
    obtain ⟨ht, hq, hok, hmay, rfl⟩ := hpre i u n hp
    obtain rfl : i.op = op := hop
    exact pwrRun_starts ht hq hok hmay

/-- A power command that takes the place of the queued one where `pre` holds. -/
theorem pwrCmd_queues (hpre : ∀ i u n, pre i u n →
      (u.pwr.trans ≠ 0 ∨ u.pwr.queued.isSome = true) ∧ ok i.body = true ∧ n = u.tick + 1) :
    Defers (pwrCmd op len ok) mk pre fun i u _ => u.queuePwr (pwrReqOf op i) :=
  defers_of_opRun hk fun i u n hop hp => by
    obtain ⟨hbusy, hok, rfl⟩ := hpre i u n hp
    obtain rfl : i.op = op := hop
    exact pwrRun_queues hbusy hok

end

/-- Where PWR_SLEEP may start: STAGED or PAUSED, without a twin, and with nothing of the routing or the correction under way (R472). -/
theorem State.pwrRefusal_sleep {u : State} (hm : u.sys.mode = .staged ∨ u.sys.mode = .paused) (hj : u.twn.state ≠ .joining)
    (hl : u.twn.state ≠ .lockstep) (hr : u.rnd.pend.any (·.resume) = false) (hp : u.rte.pend = none) (hh : u.rte.hinge = none)
    (hc : u.cor.pend = []) (hrun : u.cor.running = []) : u.pwrRefusal 0x910 = none := by
  have hmode : ¬ ((u.sys.mode != .staged && u.sys.mode != .paused) = true) := by rcases hm with h | h <;> simp [h]
  unfold State.pwrRefusal
  rw [if_pos rfl, if_neg hmode, if_neg (by simp [hj, hl]), if_neg (by simp [hr, hp, hh, hc, hrun])]

theorem State.pwrRefusal_deep {u : State} (hm : u.sys.mode = .staged ∨ u.sys.mode = .sleep) : u.pwrRefusal 0x911 = none := by
  have hmode : (u.sys.mode == .staged || u.sys.mode == .sleep) = true := by rcases hm with h | h <;> simp [h]
  unfold State.pwrRefusal
  rw [if_neg (by decide), if_pos rfl, if_pos hmode]

theorem State.pwrRefusal_wakeFromSleep {u : State} (hm : u.sys.mode = .sleep) : u.pwrRefusal 0x912 = none := by
  unfold State.pwrRefusal
  rw [if_neg (by decide), if_neg (by decide), if_pos (by simp [hm])]

/-! FEED_EXERCISE (R464 to R466). -/

/-- FEED_B has been good for 500 ms (R464). -/
def State.feedBQualified (u : State) : Bool := u.pwr.bSince.any fun b => decide (b + 500000000 ≤ u.now)

section
variable {i : CmdIn} {u : State} (he : u.pwr.exercise = none) (ht : u.pwr.trans = 0) (hq : u.pwr.queued = none)
include he ht hq

theorem feedExerciseRun_moves (hs : u.pwr.source = 0) (hb : u.feedBQualified = true) :
    feedExerciseRun i u = .defer { u with pwr := { u.pwr with
      exercise := some { ref := i.ref, start := u.now, minB := 0xFFFF, maxB := 0, maxI := 0, transferred := false, fell := false }
      exerciseCnt := u.pwr.exerciseCnt + 1, source := 1, lastSwitch := u.ts32, srcAt := u.now } } (u.tick + 1) := by
  have hb' : (u.pwr.bSince.any fun b => decide (b + 500000000 ≤ u.now)) = true := hb
  unfold feedExerciseRun
  dsimp only
  rw [if_neg (by simp [he, ht, hq]), if_neg (by simp [hs]), if_neg (by simp [hs, hb']), State.setSource, if_neg (by simp [hs])]
  rfl

theorem feedExerciseRun_fromB (hs : u.pwr.source = 1) :
    feedExerciseRun i u = .done (u.exerciseEmpty 4 0).2 (u.exerciseEmpty 4 0).1 (u.tick + 1) := by
  unfold feedExerciseRun
  dsimp only
  rw [if_neg (by simp [he, ht, hq]), if_pos hs]
  rfl

theorem feedExerciseRun_unqualified (hs : u.pwr.source = 2 ∨ u.pwr.source = 0 ∧ u.feedBQualified = false) :
    feedExerciseRun i u = .done (u.exerciseEmpty 5 0).2 (u.exerciseEmpty 5 0).1 (u.tick + 1) := by
  have hskip : (decide (u.pwr.source = 2) || !u.feedBQualified) = true := by
    rcases hs with h | ⟨-, h⟩ <;> simp [h]
  have hload : u.pwr.source ≠ 1 := by omega
  unfold feedExerciseRun
  dsimp only
  rw [if_neg (by simp [he, ht, hq]), if_neg hload]
  exact if_pos hskip

end

/-- Settles O11: each command by what its own rules answer where the spec admits it. -/
theorem powerCommandsComplete : Obligations.PowerCommandsComplete := by
  refine ⟨?query, ?sleepStarts, ?deepStarts, ?wakeStarts, ?sleepQueues, ?deepQueues, ?wakeQueues, ?exerciseMoves, ?exerciseFromB,
    ?exerciseUnqualified⟩
  case query => exact completes_of_run (fun _ _ => rfl) fun i u _ => pwrQueryRun_done i u
  case sleepStarts =>
    exact pwrCmd_starts (fun _ _ => rfl) fun i u n ⟨ht, hq, hm, hj, hl, hr, hp, hh, hc, hrun, hn⟩ =>
      ⟨ht, hq, rfl, State.pwrRefusal_sleep hm hj hl hr hp hh hc hrun, hn⟩
  case deepStarts =>
    exact pwrCmd_starts (fun _ _ => rfl) fun i u n ⟨ht, hq, hm, hafter, hn⟩ =>
      ⟨ht, hq, decide_eq_true hafter, State.pwrRefusal_deep hm, hn⟩
  case wakeStarts =>
    exact pwrCmd_starts (fun _ _ => rfl) fun i u n ⟨ht, hq, hm, hn⟩ => ⟨ht, hq, rfl, State.pwrRefusal_wakeFromSleep hm, hn⟩
  case sleepQueues => exact pwrCmd_queues (fun _ _ => rfl) fun i u n ⟨hbusy, hn⟩ => ⟨hbusy, rfl, hn⟩
  case deepQueues =>
    exact pwrCmd_queues (fun _ _ => rfl) fun i u n ⟨hbusy, hafter, hn⟩ => ⟨hbusy, decide_eq_true hafter, hn⟩
  case wakeQueues => exact pwrCmd_queues (fun _ _ => rfl) fun i u n ⟨hbusy, hn⟩ => ⟨hbusy, rfl, hn⟩
  case exerciseMoves =>
    exact defers_of_run (fun _ _ => rfl) fun i u n ⟨he, ht, hq, hs, hb, hn⟩ => hn ▸ feedExerciseRun_moves he ht hq hs hb
  case exerciseFromB =>
    exact completes_of_run (fun _ _ => rfl) fun i u ⟨he, ht, hq, hs⟩ => feedExerciseRun_fromB he ht hq hs
  case exerciseUnqualified =>
    exact completes_of_run (fun _ _ => rfl) fun i u ⟨he, ht, hq, hs⟩ => feedExerciseRun_unqualified he ht hq hs

end Sys2Proof.Machine
end

section
/-! SUPPORT. The events of the power path (R459 to R470, R480): each of them acts where its conditions hold. -/

namespace Sys2Proof.Machine

/-! The load (R460 to R462). -/

/-- A change of SOURCE is a switch of the load. -/
theorem State.setSource_ne {v : State} {src : Nat} (h : v.pwr.source ≠ src) :
    v.setSource src = { v with pwr := { v.pwr with source := src, lastSwitch := v.ts32, srcAt := v.now } } := if_neg h

/-- Without an exercise there is none to end. -/
theorem State.exerciseDone_none {v : State} (h : v.pwr.exercise = none) (r : Nat) : v.exerciseDone r = v := by
  rw [State.exerciseDone, h]

theorem execFeedSwitchB_switches {t : Nat} {s v : State} (hv : v = s.at t) (hs : v.pwr.source = 0) (hb : v.pwr.bOk = true) :
    execFeedSwitchB t s = .next { v with pwr := { v.pwr with
      aOk := false, switchCnt := v.pwr.switchCnt + 1, evt := setBit (setBit v.pwr.evt 3) 0, source := 1, lastSwitch := v.ts32, srcAt := v.now } } := by
  subst hv
  refine congrArg _ ((if_pos (by rw [hs, hb]; rfl)).trans ?_)
  rw [State.toFeedB, State.setSource_ne (by show (s.at t).pwr.source ≠ 1; omega)]
  rfl

/-- FEED_B has failed, and FEED_A carries the load again. -/
theorem execFeedBFailReturn_returns {t : Nat} {s v : State} (hv : v = s.at t) (hs : v.pwr.source = 1) (ha : v.pwr.aOk = true) :
    execFeedBFailReturn t s = .next (State.exerciseDone { v with pwr := { v.pwr with
      bOk := false, bSince := none, evt := setBit (setBit v.pwr.evt 4) 1, source := 0, lastSwitch := v.ts32, srcAt := v.now } } 1) := by
  subst hv
  refine congrArg _ ((if_pos (by rw [hs, ha]; rfl)).trans ?_)
  rw [State.setSource_ne (by show (s.at t).pwr.source ≠ 0; omega)]
  rfl

theorem execFeedReturnA_returns {t : Nat} {s v : State} (hv : v = s.at t) (hs : v.pwr.source = 1) (he : v.pwr.exercise = none) :
    execFeedReturnA t s = .next { v with pwr := { v.pwr with
      aOk := true, returnCnt := v.pwr.returnCnt + 1, evt := setBit v.pwr.evt 1, source := 0, lastSwitch := v.ts32, srcAt := v.now } } := by
  subst hv
  refine congrArg _ ((if_pos (by rw [hs, he]; rfl)).trans ?_)
  rw [State.setSource_ne (by show (s.at t).pwr.source ≠ 0; omega)]
  rfl

theorem execHoldupCarry_carries {t : Nat} {s v : State} (hv : v = s.at t)
    (h : v.pwr.source = 0 ∧ v.pwr.bOk = false ∨ v.pwr.source = 1 ∧ v.pwr.aOk = false) :
    execHoldupCarry t s = .next ((((v.feedFailed (v.pwr.source == 1)).setSource 2).pwrEvt 2).exerciseDone 6) := by
  subst hv
  exact congrArg _ (if_pos (by simpa using h))

theorem execHoldupEnd_ends {t : Nat} {a b : Bool} {s v : State} (hv : v = s.at t) (hs : v.pwr.source = 2) (hd : v.domainOn 0 = true)
    (hab : (a || b) = true) :
    execHoldupEnd t a b s = .next { v with pwr := { v.pwr with
      aOk := a, bOk := b, holdupCnt := v.pwr.holdupCnt + 1, source := if a then 0 else 1, lastSwitch := v.ts32, srcAt := v.now } } := by
  subst hv
  refine congrArg _ ((if_pos (by rw [hd, hab, hs]; rfl)).trans ?_)
  rw [State.setSource_ne (by show (s.at t).pwr.source ≠ _; split <;> omega)]
  rfl

/-- After 2 ms on the store everything goes off (R462). -/
theorem execHoldupExhausted_off {t : Nat} {s v : State} (hv : v = s.at t) (hs : v.pwr.source = 2) (hd : v.domainOn 0 = true)
    (hdue : v.pwr.srcAt + 2000000 ≤ v.now) :
    execHoldupExhausted t s = .next { v with
      pwr := { v.pwr with off := true, bring := none, stuck := false, domains := 0, trans := 0, cur := none, queued := none
                          exercise := none, wakeAt := none, transAt := v.now, rail := 0, tries := 0, holdupReady := false }
      sys := { v.sys with mode := .cold }, dac := { v.dac with clamped := true } } := by
  subst hv
  exact congrArg _ (if_pos (by rw [hd, hs, decide_eq_true hdue]; rfl))

theorem execFeedQualified_starts {t : Nat} {a b : Bool} {s v : State} (hv : v = s.at t) (hoff : v.pwr.off = true)
    (hd : v.domainOn 0 = false) (hab : (a || b) = true) :
    execFeedQualified t a b s = .next
      (State.startBring ({ v with pwr := { v.pwr with aOk := a, bOk := b } }.setSource (if a then 0 else 1)) 0 1) := by
  subst hv
  exact congrArg _ (if_pos (by rw [hoff, hd, hab]; rfl))

/-- A feed that does not carry the load fails (R459); FEED_A's failure ends an exercise (R465). -/
theorem execFeedFail_idle {t : Nat} {b : Bool} {s v : State} (hv : v = s.at t) (hs : v.pwr.source ≠ if b then 1 else 0)
    (hd : v.domainOn 0 = true) :
    execFeedFail t b s = .next (if b then v.feedFailed b else (v.feedFailed b).exerciseDone 6) := by
  subst hv
  exact congrArg _ (if_neg (by rw [hd, decide_eq_false hs]; decide))

/-! The monitor and the exercise (R461, R463 to R466). -/

/-- What a sample of the monitor writes before the means. -/
def State.monitored (v : State) (av ai bv bi hv : Nat) : State :=
  { v with pwr := { v.pwr with
      aOk := v.pwr.aOk || feedIn av, bOk := v.pwr.bOk || feedIn bv
      bSince := if 10800 ≤ bv ∧ bv ≤ 13200 then some (v.pwr.bSince.getD v.now) else none
      holdupMv := min 0xFFFF hv, holdupReady := decide (28000 ≤ hv)
      samples := v.pwr.samples ++ [(av, ai, bv, bi)]
      exercise := v.pwr.exercise.map fun e => e.sample v.now ai bv bi } }

/-- Each sample is written, and every tenth ends a mean. -/
theorem execPowerMonitorSample_on {t av ai bv bi hv : Nat} {s v : State} (hv' : v = s.at t) (hd : v.domainOn 0 = true) :
    execPowerMonitorSample t av ai bv bi hv s = .next (if v.pwr.samples.length + 1 < 10 then v.monitored av ai bv bi hv
      else (v.monitored av ai bv bi hv).powerMeans (v.pwr.samples ++ [(av, ai, bv, bi)])) := by
  subst hv'
  refine congrArg _ ((if_neg (by rw [hd]; decide)).trans ?_)
  dsimp only
  rw [List.length_append, List.length_singleton]
  rfl

/-- An exercise that has run for 200 ms ends with the result that R466 states. -/
theorem execFeedExerciseEnd_due {t r : Nat} {s v : State} {e : Exercise} (hv : v = s.at t) (he : v.pwr.exercise = some e)
    (hdue : e.start + 200000000 ≤ v.now) (hr : v.exerciseResult e = (r, v)) :
    execFeedExerciseEnd t s = .next ((v.setSource 0).exerciseDone r) := by
  unfold execFeedExerciseEnd
  rw [← hv]
  dsimp only
  rw [he]
  dsimp only
  rw [if_neg (Nat.not_lt.2 hdue), hr]

theorem State.exerciseResult_ok {e : Exercise} (v : State) (hmin : 10800 ≤ e.minB) (hmax : e.maxB ≤ 13200) (ht : e.transferred = true) :
    v.exerciseResult e = (0, v) := by
  rw [State.exerciseResult, if_pos (by simp [hmin, hmax, ht])]

theorem State.exerciseResult_low {e : Exercise} (v : State) (hlo : 10200 ≤ e.minB) (hhi : e.minB < 10800) :
    v.exerciseResult e = (2, v) := by
  rw [State.exerciseResult, if_neg (by simp; omega), if_pos ⟨hlo, hhi⟩]

theorem State.exerciseResult_notMoved {e : Exercise} (v : State) (hmin : 10800 ≤ e.minB ∨ e.minB < 10200) (ht : e.transferred = false)
    (hf : e.fell = false) : v.exerciseResult e = (3, v) := by
  rw [State.exerciseResult, if_neg (by simp [ht]), if_neg (by omega), if_pos (by simp [hf])]

/-! Bring-up and the rails (R468, R470, R480). -/

theorem execBringupStep_next {t k src : Nat} {s v : State} (hv : v = s.at t) (hb : v.pwr.bring = some (k, src))
    (hdue : v.pwr.transAt ≤ v.now) (hready : k = 11 → v.pwr.holdupReady = true) :
    execBringupStep t s = .next (if k = 12 then v.resetTo src
      else { v with pwr := { v.pwr with bring := some (k + 1, src), transAt := v.pwr.transAt + bringGap (k + 1) } }) := by
  unfold execBringupStep
  rw [← hv]
  dsimp only
  rw [hb]
  dsimp only
  rw [if_neg]
  simp only [Bool.or_eq_true, decide_eq_true_eq, Bool.and_eq_true, beq_iff_eq, Bool.not_eq_true', not_or, not_and, Bool.not_eq_false]
  exact ⟨Nat.not_lt.2 hdue, hready⟩

theorem execRailFault_down {t rail : Nat} {s v : State} (hv : v = s.at t) (hon : v.railOn rail = true) :
    execRailFault t rail s = .next
      (let u := v.powerDown true (decide (3 ≤ v.failedTries))
       { u with pwr := { u.pwr with rail, tries := v.failedTries } }) := by
  subst hv
  exact congrArg _ (if_neg (by rw [hon]; decide))

theorem execRailRetry_starts {t : Nat} {s v : State} (hv : v = s.at t) (hoff : v.pwr.off = true) (hb : v.pwr.bring = none)
    (hstuck : v.pwr.stuck = false) (hd : v.domainOn 0 = true) (hr : v.pwr.rail ≠ 0) (hdue : v.pwr.transAt + 1000000000 ≤ v.now) :
    execRailRetry t s = .next (v.startBring 0 1) := by
  subst hv
  exact congrArg _ (if_pos (by rw [hoff, hb, hstuck, hd, bne_iff_ne.2 hr, decide_eq_true hdue]; rfl))

/-- Settles O21: each event by what it does where its conditions hold. -/
theorem powerPathEventsAct : Obligations.PowerPathEventsAct := by
  refine ⟨?switchB, ?returnFromB, ?returnEnds, ?returnA, ?carry, ?holdupEnd, ?exhausted, ?qualified, ?failB, ?failA, ?sample, ?mean,
    ?exerciseOk, ?exerciseLow, ?exerciseNotMoved, ?bringStep, ?bringDone, ?railFault, ?railRetry, ?wakePin, ?wakeTimer⟩
  case switchB => exact fun t s v hv hs hb => execFeedSwitchB_switches hv hs hb
  case returnFromB =>
    exact fun t s v hv hs ha he => (execFeedBFailReturn_returns hv hs ha).trans (congrArg _ (State.exerciseDone_none (by exact he) 1))
  case returnEnds => exact fun t s e v hv hs ha _ => execFeedBFailReturn_returns hv hs ha
  case returnA => exact fun t s v hv hs he => execFeedReturnA_returns hv hs he
  case carry => exact fun t s v hv h => execHoldupCarry_carries hv h
  case holdupEnd => exact fun t a b s v hv hs hd hab => execHoldupEnd_ends hv hs hd hab
  case exhausted => exact fun t s v hv hs hd hdue => execHoldupExhausted_off hv hs hd hdue
  case qualified => exact fun t a b s v hv hoff hd hab => execFeedQualified_starts hv hoff hd hab
  case failB => exact fun t s v hv hs hd => execFeedFail_idle (b := true) hv hs hd
  case failA => exact fun t s v hv hs hd => execFeedFail_idle (b := false) hv hs hd
  case sample =>
    exact fun t av ai bv bi hv s v hv' hd hfew => (execPowerMonitorSample_on hv' hd).trans (congrArg _ (if_pos hfew))
  case mean =>
    exact fun t av ai bv bi hv s v hv' hd hten =>
      (execPowerMonitorSample_on hv' hd).trans (congrArg _ (if_neg (Nat.not_lt.2 hten)))
  case exerciseOk =>
    exact fun t s e v hv he hdue hmin hmax ht => execFeedExerciseEnd_due hv he hdue (v.exerciseResult_ok hmin hmax ht)
  case exerciseLow =>
    exact fun t s e v hv he hdue hlo hhi => execFeedExerciseEnd_due hv he hdue (v.exerciseResult_low hlo hhi)
  case exerciseNotMoved =>
    exact fun t s e v hv he hdue hmin ht hf => execFeedExerciseEnd_due hv he hdue (v.exerciseResult_notMoved hmin ht hf)
  case bringStep =>
    exact fun t s k src v hv hb hdue hready hlast => (execBringupStep_next hv hb hdue hready).trans (congrArg _ (if_neg hlast))
  case bringDone =>
    exact fun t s src v hv hb hdue => (execBringupStep_next hv hb hdue (absurd · (by decide))).trans (congrArg _ (if_pos rfl))
  case railFault => exact fun t rail s v hv hon => execRailFault_down hv hon
  case railRetry => exact fun t s v hv hoff hb hstuck hd hr hdue => execRailRetry_starts hv hoff hb hstuck hd hr hdue
  case wakePin =>
    rintro t s v rfl h
    exact congrArg _ (if_pos h)
  case wakeTimer =>
    rintro t s w v rfl h hw hdue
    exact congrArg _ (if_pos (by rw [h, hw]; simpa using hdue))

end Sys2Proof.Machine
end

section
/-! SUPPORT. The events of the monitor outputs (R509 to R517): a single span change at each of its instants, and the modulators and clamps. -/

namespace Sys2Proof.Machine

/-! Span changes (R514, R515). -/

/-- The span changes are these. -/
def State.setReqs (v : State) (l : List SpanReq) : State := { v with dac := { v.dac with reqs := l } }

section
variable {t : Nat} {s v : State} {r : SpanReq} (hv : v = s.at t) (hr : v.dac.reqs = [r])
include hv hr

theorem execDacSpanSwitch_due (hphase : r.phase ≠ 0) (hnot : r.switched = false) (hat : v.atConnector (16 * r.start + 96) = true) :
    execDacSpanSwitch t s = .next ((v.setReqs [{ r with switched := true }]).setSpan r.mask r.span) := by
  unfold execDacSpanSwitch
  rw [← hv]
  dsimp only
  rw [hr, List.foldl_cons, List.foldl_nil, if_pos (by simp [hphase, hnot, hat]), hr, List.map_singleton, if_pos rfl]
  rfl

theorem execDacSpanFadeUp_due (hphase : r.phase = 1) (hdue : 16 * r.start + 64 + v.spanZ ≤ v.sampleNow) :
    execDacSpanFadeUp t s = .next ((v.setReqs [{ r with phase := 3 }]).answer r.ref .ok true false (leB 8 r.start)) := by
  unfold execDacSpanFadeUp
  rw [← hv]
  dsimp only
  rw [hr, List.foldl_cons, List.foldl_nil, if_pos (by simp [hphase, hdue]), hr, List.map_singleton, if_pos rfl]
  rfl

/-- The change is done, and a pending one may start at its last boundary. -/
theorem execDacSpanDone_due {e : Nat} (hphase : r.phase = 3) (he : e = r.start + (128 + v.spanZ) / 16) (hdue : 16 * e ≤ v.sampleNow) :
    execDacSpanDone t s = .next (let w := (v.setReqs []).dacEvt 0
      if e ≤ v.tick then w.spanStart e else w) := by
  unfold execDacSpanDone
  rw [← hv]
  dsimp only
  rw [hr, List.foldl_cons, List.foldl_nil, ← he, if_pos (by simp [hphase, hdue]), hr, List.filter_cons_of_neg (by simp), List.filter_nil]
  rfl

end

/-- Settles O30: each event by what it does where its conditions hold. -/
theorem monitorEventsAct : Obligations.MonitorEventsAct := by
  refine ⟨?switch, ?fadeUp, ?done, ?modulator, ?clamp⟩
  case switch => exact fun t s r v hv hr hphase hnot hat => execDacSpanSwitch_due hv hr hphase hnot hat
  case fadeUp => exact fun t s r v hv hr hphase hdue => execDacSpanFadeUp_due hv hr hphase hdue
  case done => exact fun t s r e v hv hr hphase he hdue => execDacSpanDone_due hv hr hphase he hdue
  case modulator =>
    rintro t ch s v rfl hrun hch
    exact congrArg _ (if_pos (by rw [hrun, decide_eq_true hch]; rfl))
  case clamp =>
    rintro t s v rfl hrender hclamped hat
    exact congrArg _ (if_pos (by rw [hrender, hclamped, hat]; rfl))

end Sys2Proof.Machine
end

section
/-! SUPPORT. The events of the clocks and the gates (R448 to R456, R477): the muxes, references and gates act where their conditions hold, and
a monitor window without an error writes its counts clock by clock. -/

namespace Sys2Proof.Machine

/-! Muxes and references (R448 to R452). -/

theorem execMuxSwitch_runs {t p : Nat} {x alive : Bool} {s v : State} (hv : v = s.at t) (hp : p < 3) (hx : (v.pll p).bypass ≠ x)
    (hoff : v.pwr.off = false) :
    execMuxSwitch t p x alive s = .next (if alive then v.onPll p fun q => { q with bypass := x, forced := false } else v.clkEvt 2) := by
  have hrefuse : ¬ ((decide (3 ≤ p) || (v.pll p).bypass == x || v.pwr.off) = true) := by simp [hx, hoff, hp]
  subst hv
  refine congrArg _ ((if_neg hrefuse).trans ?_)
  cases alive <;> rfl

theorem execMuxForcedSwitch_forces {t p : Nat} {s v : State} (hv : v = s.at t) (hp : p < 3) (hb : (v.pll p).bypass = false)
    (hoff : v.pwr.off = false) :
    execMuxForcedSwitch t p true s = .next
      (let u := v.onPll p fun q => { q with bypass := true, forced := true }
       { u with clk := { u.clk with evt := setBit u.clk.evt 1, forcedCnt := u.clk.forcedCnt + 1 } }) := by
  have hrefuse : ¬ ((decide (3 ≤ p) || !true || (v.pll p).bypass || v.pwr.off) = true) := by simp [hb, hoff, hp]
  subst hv
  exact congrArg _ (if_neg hrefuse)

/-- A reference that is lost lets its PLL coast, with what that means for its clock. -/
theorem execPllRefLoss_coasts {t : Nat} {l : RefLoss} {s v : State} (hv : v = s.at t) (hp : l.pll < 8) (hc : (v.pll l.pll).coast = false)
    (hpow : v.powered = true) :
    execPllRefLoss t l s = .next (((v.onPll l.pll fun q => { q with coast := true }).clkEvt 0).coastEffect l.pll l.outstanding) := by
  subst hv
  exact congrArg _ (if_neg (by simp [hc, hpow]; omega))

theorem execPllRelock_locks {t p : Nat} {s v : State} (hv : v = s.at t) (hlo : 5 ≤ p) (hhi : p ≤ 7) (hc : (v.pll p).coast = true)
    (hpow : v.powered = true) : execPllRelock t p s = .next ((v.onPll p fun q => { q with coast := false }).clkEvt 5) := by
  subst hv
  exact congrArg _ (if_pos (by rw [decide_eq_true hlo, decide_eq_true hhi, hc, hpow]; rfl))

/-! The monitor window (R453). -/

theorem getD'_modAt {α : Type} (l : List α) (p q : Nat) (f : α → α) (d : α) :
    getD' (modAt l q f) p d = if p = q ∧ p < l.length then f (getD' l p d) else getD' l p d := by
  induction l generalizing p q with
  | nil => simp [modAt]
  | cons x l ih => cases p <;> cases q <;> simp [modAt, getD', ih]

theorem length_modAt {α : Type} (l : List α) (q : Nat) (f : α → α) : (modAt l q f).length = l.length := by
  induction l generalizing q with
  | nil => rfl
  | cons x l ih => cases q <;> simp [modAt, ih]

theorem State.pll_onPll (v : State) (p q : Nat) (f : Pll → Pll) :
    (v.onPll q f).pll p = if p = q ∧ p < v.clk.plls.length then f (v.pll p) else v.pll p := getD'_modAt ..

/-- What a window without an error writes for clock `p`. -/
def Pll.measured (khz : List Nat) (locked : List Bool) (p : Nat) (x : Pll) : Pll :=
  { x with khz := getD' khz p 0 % 2 ^ 32, lock := getD' locked p false, freqErr := false }

/-- The clocks of a list are measured without an error. -/
def State.measureAll (v : State) (khz : List Nat) (locked : List Bool) (l : List Nat) : State :=
  l.foldl (fun u p => u.onPll p (Pll.measured khz locked p)) v

section
variable (khz : List Nat) (locked : List Bool)

/-- A measurement tells nothing of what the count of a clock should be. -/
theorem State.freqBad_measured (v : State) (p q k : Nat) : (v.onPll q (Pll.measured khz locked q)).freqBad p k = v.freqBad p k := by
  have hcoast : ((v.onPll q (Pll.measured khz locked q)).pll p).coast = (v.pll p).coast := by
    rw [State.pll_onPll]
    split <;> rfl
  unfold State.freqBad State.expectKhz
  rw [hcoast]
  rfl

theorem State.measureAll_clocks (v : State) (l : List Nat) :
    (v.measureAll khz locked l).clk.evt = v.clk.evt ∧ (v.measureAll khz locked l).intg = v.intg ∧
    ∀ p, (v.measureAll khz locked l).pll p =
      if p ∈ l ∧ p < v.clk.plls.length then Pll.measured khz locked p (v.pll p) else v.pll p := by
  induction l generalizing v with
  | nil => exact ⟨rfl, rfl, fun p => by simp [State.measureAll]⟩
  | cons q l ih =>
    obtain ⟨hevt, hintg, hpll⟩ := ih (v.onPll q (Pll.measured khz locked q))
    refine ⟨hevt, hintg, fun p => (hpll p).trans ?_⟩
    have hlen : (v.onPll q (Pll.measured khz locked q)).clk.plls.length = v.clk.plls.length := length_modAt ..
    rw [hlen, State.pll_onPll]
    by_cases hp : p < v.clk.plls.length
    · by_cases hq : p = q
      · subst hq
        by_cases hl : p ∈ l <;> simp [hp, hl, Pll.measured]
      · simp [hp, hq]
    · simp [hp]

end

/-- What a window writes for clock `p`, and the error that it flags. -/
def State.measure (khz : List Nat) (locked : List Bool) (u : State) (p : Nat) : State :=
  let k := getD' khz p 0 % 2 ^ 32
  let bad := u.freqBad p k
  let u := u.onPll p fun x => { x with khz := k, lock := getD' locked p false, freqErr := bad }
  if bad then u.clkEvt 4 else u

theorem foldl_measure {khz : List Nat} {locked : List Bool} (l : List Nat) (v : State)
    (hok : ∀ p ∈ l, v.freqBad p (getD' khz p 0 % 2 ^ 32) = false) :
    l.foldl (State.measure khz locked) v = v.measureAll khz locked l := by
  induction l generalizing v with
  | nil => rfl
  | cons q l ih =>
    have hq : State.measure khz locked v q = v.onPll q (Pll.measured khz locked q) := by
      unfold State.measure
      dsimp only
      rw [hok q List.mem_cons_self]
      rfl
    rw [List.foldl_cons, hq, ih _ fun p hp => (v.freqBad_measured khz locked p q _).trans (hok p (List.mem_cons_of_mem q hp))]
    rfl

/-- A window in which every count lies within its limit measures the nine clocks and does no more. -/
theorem execFreqMonWindow_clean {t : Nat} {khz : List Nat} {locked : List Bool} {s v : State} (hv : v = s.at t) (hpow : v.powered = true)
    (hok : ∀ p < 9, v.freqBad p (getD' khz p 0 % 2 ^ 32) = false) (hlen : v.clk.plls.length = 9) :
    execFreqMonWindow t khz locked s = .next (v.measureAll khz locked (List.range 9)) := by
  obtain ⟨-, -, hpll⟩ := v.measureAll_clocks khz locked (List.range 9)
  have hmedia : ((v.measureAll khz locked (List.range 9)).pll 8).freqErr = false := by
    rw [hpll, if_pos ⟨by decide, by omega⟩]
    rfl
  have hfold := foldl_measure (khz := khz) (locked := locked) (List.range 9) v fun p hp => hok p (List.mem_range.1 hp)
  have hrest : (let u := (List.range 9).foldl (State.measure khz locked) v
      if (u.pll 8).freqErr then u.selfFault else u) = v.measureAll khz locked (List.range 9) := by
    rw [hfold]
    exact if_neg (by rw [hmedia]; decide)
  subst hv
  exact congrArg _ ((if_neg (by rw [hpow]; decide)).trans hrest)

/-! The crystal (R451). -/

/-- A cause of a yield, where none is decided, is recorded and decides one for the next boundary. -/
theorem State.yieldFault_decides {v : State} (hpend : v.intg.yieldPend = none) (hm : v.sys.mode ≠ .yielded) (reason kind : Nat) :
    v.yieldFault reason kind =
      { v.logClock kind 6 with intg := { (v.logClock kind 6).intg with yieldPend := some (v.tick + 1, reason) } } :=
  if_neg (by
    show ¬ ((v.intg.yieldPend.isSome || v.sys.mode == .yielded) = true)
    simp [hpend, hm])

theorem execXtalFail_decides {t : Nat} {s v : State} (hv : v = s.at t) (hx : v.clk.xtalOk = true) (hpow : v.powered = true)
    (hpend : v.intg.yieldPend = none) (hm : v.sys.mode ≠ .yielded) :
    execXtalFail t s = .next
      (let w := State.logClock { v with clk := { v.clk with xtalOk := false } } 11 6
       { w with intg := { w.intg with yieldPend := some (v.tick + 1, 1) } }) := by
  have hrefuse : ¬ ((!v.clk.xtalOk || !v.powered) = true) := by rw [hx, hpow]; decide
  subst hv
  exact congrArg _ ((if_neg hrefuse).trans (State.yieldFault_decides (v := { s.at t with clk := { (s.at t).clk with xtalOk := false } }) hpend hm 1 11))

/-! Gates (R456, R477). -/

theorem execGateCloseTimeout_opens {t g : Nat} {s v : State} (hv : v = s.at t) (hg : g < 15) (hp : (v.gate g).st = .pending) :
    execGateCloseTimeout t g s = .next
      (let u := v.onGate g fun x => { x with st := .opened, timeout := true }
       let w := { u with clk := { u.clk with evt := setBit u.clk.evt 3, timeoutCnt := u.clk.timeoutCnt + 1 } }
       (if v.pwr.trans = 1 then { w with pwr := { w.pwr with heldGates := w.pwr.heldGates ||| 2 ^ g, evt := setBit w.pwr.evt 7 } }
        else w).settleGate g) := by
  subst hv
  exact congrArg _ (if_neg (by simp [hg, hp]))

/-- Settles O24: each event by what it does where its conditions hold. -/
theorem clockAndGateEventsAct : Obligations.ClockAndGateEventsAct := by
  refine ⟨?mux, ?deadSource, ?forced, ?refLoss, ?relock, ?window, ?xtal, ?gateIdle, ?gateTimeout, ?gateHeld⟩
  case mux => exact fun t p x s v hv hp hx hoff => execMuxSwitch_runs hv hp hx hoff
  case deadSource => exact fun t p x s v hv hp hx hoff => execMuxSwitch_runs hv hp hx hoff
  case forced => exact fun t p s v hv hp hb hoff => execMuxForcedSwitch_forces hv hp hb hoff
  case refLoss => exact fun t l s v hv hp hc hpow => execPllRefLoss_coasts hv hp hc hpow
  case relock => exact fun t p s v hv hlo hhi hc hpow => execPllRelock_locks hv hlo hhi hc hpow
  case window =>
    intro t khz locked s v hv hpow hok hlen
    obtain ⟨hevt, hintg, hpll⟩ := v.measureAll_clocks khz locked (List.range 9)
    refine ⟨_, execFreqMonWindow_clean hv hpow hok hlen, hevt, hintg, fun p hp => ?_⟩
    rw [hpll, if_pos ⟨List.mem_range.2 hp, hlen ▸ hp⟩]
    exact ⟨rfl, rfl, rfl⟩
  case xtal => exact fun t s v hv hx hpow hpend hmode => ⟨_, execXtalFail_decides hv hx hpow hpend hmode, rfl, rfl, rfl, rfl, rfl⟩
  case gateIdle =>
    rintro t g s v rfl hg hp
    exact congrArg _ (if_pos (by simp [hg, hp]))
  case gateTimeout =>
    intro t g s v hv hg hp ht
    exact (execGateCloseTimeout_opens hv hg hp).trans (congrArg (fun w => Host.Outcome.next (State.settleGate w g)) (if_neg ht))
  case gateHeld =>
    intro t g s v hv hg hp ht
    exact (execGateCloseTimeout_opens hv hg hp).trans (congrArg (fun w => Host.Outcome.next (State.settleGate w g)) (if_pos ht))

end Sys2Proof.Machine
end

section
/-! SUPPORT. PTP and the frame strobe (R318, R423 to R431, R438): messages on a configured port of the domain, the choice of the master, the
loss of the reference, and the strobe's edges. -/

namespace Sys2Proof.Machine

/-! Messages (R423, R424). -/

/-- A PTP message arrives where the module takes it: on an open media port with a known VID, in a mode that processes PTP, and of the
configured domain, port and VLAN (R442). -/
structure State.Hears (v : State) (m : PtpMsg) : Prop where
  port : m.port < 2
  isOpen : v.portOpen m.port = true
  vid : v.vidKnown m.vid = true
  on : v.ptpOn = true
  takes : v.ptpTakes m = true

theorem State.hears_of {v : State} {m : PtpMsg} (hport : m.port < 2) (ho : v.portOpen m.port = true) (hvid : v.vidKnown m.vid = true)
    (hon : v.ptpOn = true) (hdom : m.domain = v.ptm.cfg.domain) (hcfg : bit v.ptm.cfg.ports m.port = true)
    (hvlan : tabGet 0 v.net.vlan (v.ptpVlan m.port) % 4096 = m.vid) : v.Hears m :=
  ⟨hport, ho, hvid, hon, by rw [State.ptpTakes, hdom, hcfg, hvlan]; simp⟩

/-- A message that the module takes is counted and acts. -/
theorem State.ptpReceive_hears {v : State} {m : PtpMsg} (h : v.Hears m) (f : State → State) :
    v.ptpReceive m f = f (v.rxCount m.port) := by
  have hport := h.port
  have htakes : (v.rxCount m.port).ptpTakes m = true := by
    have hrx : (v.rxCount m.port).ptpTakes m = v.ptpTakes m := by simp [State.ptpTakes, State.ptpVlan]
    rw [hrx, h.takes]
  rw [State.ptpReceive, if_neg (Nat.not_le.2 hport), h.on, State.receive_known h.isOpen (by omega) h.vid, if_pos htakes]

theorem State.ptpPort_rxCount (v : State) (p port : Nat) : (v.rxCount p).ptpPort port = v.ptpPort port := by
  simp [State.ptpPort]

theorem State.onPtp_onPtp (v : State) (port : Nat) (f g : PtpPort → PtpPort) :
    (v.onPtp port f).onPtp port g = v.onPtp port fun q => g (f q) := by
  unfold State.onPtp
  split_ifs <;> rfl

/-- The ingress capture of a message at the connector (R425). -/
def State.captured (v : State) (m : PtpMsg) : Int :=
  m.rx - ((Config.ptmLat (m.port == 1) (v.mac m.port).speed).toNat % 65536 * 4096 : Nat)

section
variable {m : PtpMsg} {s v : State} (hv : v = s.at m.t) (h : v.Hears m)
include hv h

/-- An Announce keeps its data, and the best master is chosen anew. -/
theorem execPtpAnnounce_chooses (hok : m.ann.ok = true) :
    execPtpAnnounce m s = .next
      (let u := (v.rxCount m.port).setMasters m.port (hearMaster (v.ptpPort m.port).foreign
        { source := m.source, ip := m.ip, ann := m.ann, heardAt := v.now, known := false })
       { u with ptm := { u.ptm with utc := m.ann.utc } }) := by
  have hnow : (v.rxCount m.port).now = v.now := by simp
  unfold execPtpAnnounce
  rw [← hv]
  dsimp only
  rw [State.ptpReceive_hears h, if_neg (by rw [hok]; decide), State.ptpPort_rxCount, hnow]

/-- A Sync of a supported rate is kept for its Follow_Up, or used at once. -/
theorem execPtpSync_takes (hlo : -7 ≤ m.logInterval) (hhi : m.logInterval ≤ 1) :
    execPtpSync m s = .next
      (let w := v.rxCount m.port
       let u := w.onPtp m.port fun q => { q with syncInt := m.logInterval }
       if m.twoStep then u.onPtp m.port fun q => { q with wait := some (m.seq, w.captured m, m.corr) }
       else u.sync m.port m.source (m.stamp + m.corr) (w.captured m)) := by
  unfold execPtpSync
  rw [← hv]
  dsimp only
  rw [State.ptpReceive_hears h, if_neg (by simp; omega)]
  rfl

theorem execPtpFollowUp_completes {rx corr : Int} (hw : (v.ptpPort m.port).wait = some (m.seq, rx, corr)) :
    execPtpFollowUp m s = .next (((v.rxCount m.port).onPtp m.port fun q => { q with wait := none }).sync m.port m.source
      (m.stamp + corr + m.corr) rx) := by
  unfold execPtpFollowUp
  rw [← hv]
  dsimp only
  rw [State.ptpReceive_hears h, State.ptpPort_rxCount, hw]
  exact congrArg _ (if_neg (by simp))

theorem execPtpDelayResp_pairs {t3 : Int} (hsrc : m.source = (v.ptpPort m.port).parent)
    (hreq : ((v.ptpPort m.port).reqs.find? fun r => r.1 == m.seq) = some (m.seq, t3)) :
    execPtpDelayResp m s = .next ((v.rxCount m.port).onPtp m.port fun q => { q with
      resp := some (t3, m.stamp - m.corr, (v.rxCount m.port).now), reqInt := max (-7) m.logInterval
      reqs := q.reqs.filter fun r => r.1 != m.seq }) := by
  have hfrom : (m.source == (v.ptpPort m.port).parent) = true := by simpa using hsrc
  unfold execPtpDelayResp
  rw [← hv]
  dsimp only
  rw [State.ptpReceive_hears h, State.ptpPort_rxCount]
  simp only [hfrom, Bool.and_true, hreq]

end

/-! Delay_Req (R423, R425). -/

@[simp] theorem State.post_now (v : State) (port : Nat) (f : TxFrame) : (v.post port f).now = v.now := by
  unfold State.post
  split_ifs <;> simp

theorem State.noArp_now (v : State) (port dst : Nat) : (v.noArp port dst).now = v.now := by
  unfold State.noArp State.askArp
  dsimp only
  split
  · split_ifs <;> simp
  · simp

/-- No frame that starts moves the time. -/
theorem State.startFrame_now (v : State) (port : Nat) (f : TxFrame) : (v.startFrame port f).2.now = v.now := by
  unfold State.startFrame
  split_ifs
  · exact State.noArp_now ..
  · rfl
  · rcases v.portGuard_cases port f.dst f.dport (f.len (v.tagged f)) f.exempt f.ptp with h | h | h | ⟨tok, -, h⟩ <;> rw [h] <;> simp

/-- A Delay_Req that passes is noted with its egress at the connector; one that does not is no request. -/
theorem execPtpDelayReqSend_asks {t port : Nat} {tx : Int} {s v : State} {f : TxFrame} (hv : v = s.at t) (hmay : v.mayAsk port = true)
    (hf : f = { TxFrame.made 7 (v.delayDst port) 319 (.delayReq (v.ptpPort port).nextReq) with vlan := v.ptpVlan port }) :
    execPtpDelayReqSend t port tx s = .next
      (let seq := (v.ptpPort port).nextReq
       let lat := (Config.ptmLat (port == 1) (v.mac port).speed).toNat / 65536 * 4096
       let u := (v.startFrame port f).2
       if (v.startFrame port f).1 then u.onPtp port fun q =>
         { q with reqs := ((seq, tx + lat) :: q.reqs).take 16, nextReq := (seq + 1) % 65536, reqAt := some v.now }
       else u) := by
  subst hv
  rw [← State.startFrame_now (s.at t) port f, hf]
  exact congrArg _ (if_neg (by rw [hmay]; decide))

/-! Timers (R424, R429). -/

/-- The masters of the port whose receipt timeout has not expired stay. -/
theorem execAnnounceTimeout_keeps {t port : Nat} {s v : State} {l : List Foreign} (hv : v = s.at t)
    (hl : l = (v.ptpPort port).foreign.filter fun x => decide (v.now < x.heardAt + x.ann.timeout)) :
    execAnnounceTimeout t port s =
      .next (if decide (port < 2) && v.ptpOn && l != (v.ptpPort port).foreign then v.setMasters port l else v) := by
  subst hv hl
  rfl

/-- Every master stays exactly where none has expired. -/
theorem filter_unexpired_eq_self {l : List Foreign} {now : Nat} :
    (l.filter fun x => decide (now < x.heardAt + x.ann.timeout)) = l ↔ (l.any fun x => decide (x.heardAt + x.ann.timeout ≤ now)) = false := by
  simp [List.filter_eq_self]

theorem execPtpPortSwitch_switches {t : Nat} {s v : State} {c : PtpPort} (hv : v = s.at t) (hon : v.ptpOn = true)
    (hsees : v.seesGm (if v.ptm.activeB then v.ptm.a else v.ptm.b) = true) (hc : c = if v.ptm.activeB then v.ptm.b else v.ptm.a)
    (hsilent : c.silent v.now (4 * logNs c.syncInt) = true) :
    execPtpPortSwitch t s = .next { v with ptm := { v.ptm with activeB := !v.ptm.activeB, evt := setBit v.ptm.evt 6 } } := by
  have hother : ¬ ((v.ptm.activeB == !v.ptm.activeB) = true) := by cases v.ptm.activeB <;> decide
  subst hv hc
  exact congrArg _ ((if_pos (by rw [hon, hsees, hsilent]; rfl)).trans (if_neg hother))

/-! The loss of the reference (R318, R429, R430). -/

@[simp] theorem State.post_ptm (v : State) (port : Nat) (f : TxFrame) : (v.post port f).ptm = v.ptm := by
  unfold State.post
  split_ifs <;> simp

@[simp] theorem State.postOn_ptm (v : State) (path : TwinPath) (seq : Nat) (m : TwinMsg) (n : Nat) :
    (v.postOn path seq m n).ptm = v.ptm := by
  unfold State.postOn
  cases path <;> dsimp only <;> split_ifs <;> simp

theorem State.postTwin_ptm (v : State) (seq : Nat) (m : TwinMsg) (n : Nat) : (v.postTwin seq m n).ptm = v.ptm := by
  unfold State.postTwin
  split_ifs <;> simp

theorem State.mirrorOut_ptm (v : State) (n : Nat) (a : MirAct) (len : Nat) : (v.mirrorOut n a len).ptm = v.ptm :=
  State.postTwin_ptm ..

theorem State.mirrorOut_dblt (v : State) (n : Nat) (a : MirAct) (len : Nat) : (v.mirrorOut n a len).dblt = v.dblt :=
  State.postTwin_dblt ..

/-- A change of the reference is declared, and nothing else of media time or of the deadbolt changes with it. -/
theorem State.refChange_only (v : State) : (∃ l, v.refChange.ptm = { v.ptm with declared := l }) ∧ v.refChange.dblt = v.dblt := by
  unfold State.refChange
  dsimp only
  generalize (if v.mirrors then v.firstAhead 20 else v.tick + 1) = n
  split_ifs
  · exact ⟨⟨_, rfl⟩, rfl⟩
  · exact ⟨⟨_, State.mirrorOut_ptm ..⟩, State.mirrorOut_dblt ..⟩
  · exact ⟨⟨_, rfl⟩, rfl⟩

theorem bit_setBit {i : Nat} (hi : i < 32) (w : Word) : bit (setBit w i).toNat i = true := by
  have hbit : (setBit w i).toNat.testBit i = true := by
    rw [BitVec.testBit_toNat, setBit]
    simp [hi]
  rw [Nat.testBit_eq_decide_div_mod_eq, decide_eq_true_iff] at hbit
  rw [bit, hbit]
  rfl

/-- The loss is flagged and counted, the lock state is holdover, and the settings of the deadbolt stay. -/
theorem State.loseRef_flags {v : State} (hr : v.rendering = true) (hl : v.ptm.lost = false) :
    v.loseRef.ptm.lost = true ∧ v.loseRef.ptm.lock = 3 ∧ v.loseRef.ptm.lossCnt = v.ptm.lossCnt + 1 ∧
    bit v.loseRef.ptm.evt.toNat 1 = true ∧ v.loseRef.dblt.settings = v.dblt.settings := by
  unfold State.loseRef
  rw [if_neg (by rw [hr, hl]; decide)]
  dsimp only
  obtain ⟨⟨l, hptm⟩, hdblt⟩ := State.refChange_only
    ((({ v with ptm := { v.ptm with lost := true, lock := 3, lossCnt := v.ptm.lossCnt + 1, within := 0, slewing := false } }).ptmEvt 1).steer 0)
  rw [hptm, hdblt]
  exact ⟨rfl, rfl, rfl, bit_setBit (by decide) v.ptm.evt, rfl⟩

theorem execSyncTimeout_loses {t : Nat} {s v : State} (hv : v = s.at t) (ha : v.ptm.a.silent v.now 1000000000 = true)
    (hb : v.ptm.b.silent v.now 1000000000 = true) : execSyncTimeout t s = .next v.loseRef := by
  subst hv
  exact congrArg _ (if_pos (Bool.and_eq_true_iff.2 ⟨ha, hb⟩))

/-! The frame strobe (R438). -/

/-- An edge is timestamped in its polarity. -/
def State.stampEdge (v : State) (falling : Bool) : State :=
  { v with ptm := if falling then { v.ptm with edgeFall := some v.now, fallAt := some v.media.toNat }
                  else { v.ptm with edgeRise := some v.now, riseAt := some v.media.toNat } }

/-- What the scene makes of an edge at media time `e`: one of its polarity is live, and while the tick runs compared with φ. -/
def State.sceneEdge (v : State) (falling : Bool) (e : Nat) : State :=
  match v.ptm.scene with
  | none => v
  | some sc =>
    if sc.falling != falling then v
    else
      let w := { v with ptm := { v.ptm with strobeLive := true } }
      if sc.strobe && w.ticking then w.judgeEdge sc e else w

theorem execFrameStbEdge_taken {t : Nat} {falling : Bool} {s v : State} (hv : v = s.at t) (him : v.imageRuns = true)
    (hpow : v.powered = true) (hgate : (v.gate 10).st = .opened) (hlast : (if falling then v.ptm.edgeFall else v.ptm.edgeRise) = none) :
    execFrameStbEdge t falling s = .next ((v.stampEdge falling).sceneEdge falling v.media.toNat) := by
  have hmay : ¬ ((!v.imageRuns || !v.powered || (v.gate 10).st != .opened ||
      (if falling then v.ptm.edgeFall else v.ptm.edgeRise).any fun l => decide (v.now ≤ l + 1000)) = true) := by
    rw [him, hpow, hgate, hlast]
    exact Bool.false_ne_true
  subst hv
  exact congrArg _ (if_neg hmay)

theorem State.sceneEdge_none {v : State} (h : v.ptm.scene = none) (falling : Bool) (e : Nat) : v.sceneEdge falling e = v := by
  rw [State.sceneEdge, h]

theorem State.sceneEdge_live {v : State} {sc : Scene} {falling : Bool} (h : v.ptm.scene = some sc) (hf : sc.falling = falling) (e : Nat) :
    v.sceneEdge falling e =
      (let w := { v with ptm := { v.ptm with strobeLive := true } }
       if sc.strobe && v.ticking then w.judgeEdge sc e else w) := by
  rw [State.sceneEdge, h]
  exact if_neg (by simp [hf])

/-- An edge within 1 µs of the one before is ignored. -/
theorem execFrameStbEdge_ignored {t l : Nat} {s v : State} (hv : v = s.at t) (hl : v.ptm.edgeRise = some l) (hnear : v.now ≤ l + 1000) :
    execFrameStbEdge t false s = .next v := by
  have hlast : (v.ptm.edgeRise.any fun l => decide (v.now ≤ l + 1000)) = true := by rw [hl]; exact decide_eq_true hnear
  subst hv
  exact congrArg _ (if_pos (Bool.or_eq_true_iff.2 (.inr hlast)))

theorem execStrobeSilent_silent {t e : Nat} {sc : Scene} {s v : State} (hv : v = s.at t) (hsc : v.ptm.scene = some sc)
    (hlive : v.ptm.strobeLive = true) (he : v.lastEdge sc = some e) (hdue : (e + sc.twoFrames : Int) ≤ v.media) :
    execStrobeSilent t s = .next { v with ptm := { v.ptm with
      strobeLive := false, evt := if sc.strobe then setBit v.ptm.evt 7 else v.ptm.evt } } := by
  have hsilent : (v.ptm.strobeLive && (v.lastEdge sc).all fun e => decide ((e + sc.twoFrames : Int) ≤ v.media)) = true := by
    rw [hlive, he]
    exact decide_eq_true hdue
  unfold execStrobeSilent
  rw [← hv]
  dsimp only
  rw [hsc]
  refine congrArg _ ((if_pos hsilent).trans ?_)
  cases sc.strobe <;> rfl

theorem execStrobeSilent_noScene {t : Nat} {s v : State} (hv : v = s.at t) (hsc : v.ptm.scene = none) : execStrobeSilent t s = .next v := by
  unfold execStrobeSilent
  rw [← hv]
  dsimp only
  rw [hsc]

/-- Settles O26: each message by what the module makes of it, and each timer and edge by its condition. -/
theorem ptpEventsAct : Obligations.PtpEventsAct := by
  refine ⟨?announce, ?syncKept, ?syncUsed, ?followUp, ?delayResp, ?delayReq, ?delayReqDropped, ?announceTimeout, ?announceKept, ?syncTimeout,
    ?portSwitch, ?edgeNoScene, ?edgeLive, ?edgeJudged, ?edgeNear, ?strobeSilent, ?strobeNoScene⟩
  case announce =>
    exact fun m s v hv hport ho hvid hon hdom hcfg hvlan hok =>
      execPtpAnnounce_chooses hv (State.hears_of hport ho hvid hon hdom hcfg hvlan) hok
  case syncKept =>
    intro m s v hv hport ho hvid hon hdom hcfg hvlan hlo hhi htwo
    refine (execPtpSync_takes hv (State.hears_of hport ho hvid hon hdom hcfg hvlan) hlo hhi).trans (congrArg _ ?_)
    exact (if_pos htwo).trans (State.onPtp_onPtp ..)
  case syncUsed =>
    intro m s v hv hport ho hvid hon hdom hcfg hvlan hlo hhi htwo
    refine (execPtpSync_takes hv (State.hears_of hport ho hvid hon hdom hcfg hvlan) hlo hhi).trans (congrArg _ ?_)
    exact if_neg (by rw [htwo]; decide)
  case followUp =>
    exact fun m rx corr s v hv hport ho hvid hon hdom hcfg hvlan hw =>
      execPtpFollowUp_completes hv (State.hears_of hport ho hvid hon hdom hcfg hvlan) hw
  case delayResp =>
    intro m t3 s v hv hport ho hvid hon hdom hcfg hvlan hsrc hreq
    exact execPtpDelayResp_pairs hv (State.hears_of hport ho hvid hon hdom hcfg hvlan) hsrc hreq
  case delayReq =>
    exact fun t port tx s f v hv hmay hf hpass => (execPtpDelayReqSend_asks hv hmay hf).trans (congrArg _ (if_pos hpass))
  case delayReqDropped =>
    exact fun t port tx s f v hv hmay hf hdrop =>
      (execPtpDelayReqSend_asks hv hmay hf).trans (congrArg _ (if_neg (by rw [hdrop]; decide)))
  case announceTimeout =>
    intro t port s v hv hport hon hexpired
    have hchanged : ((v.ptpPort port).foreign.filter fun x => decide (v.now < x.heardAt + x.ann.timeout)) ≠ (v.ptpPort port).foreign :=
      fun h => by rw [filter_unexpired_eq_self.1 h] at hexpired; cases hexpired
    refine (execAnnounceTimeout_keeps hv rfl).trans (congrArg _ (if_pos ?_))
    rw [decide_eq_true hport, hon, bne_iff_ne.2 hchanged]
    rfl
  case announceKept =>
    intro t port s v hv hnone
    refine (execAnnounceTimeout_keeps hv rfl).trans (congrArg _ (if_neg ?_))
    rw [filter_unexpired_eq_self.2 hnone]
    simp
  case syncTimeout => exact fun t s v hv ha hb hr hl => ⟨_, execSyncTimeout_loses hv ha hb, State.loseRef_flags hr hl⟩
  case portSwitch => exact fun t s c v hv hon hsees hc hsilent => execPtpPortSwitch_switches hv hon hsees hc hsilent
  case edgeNoScene =>
    intro t s v hv him hpow hgate hlast hsc
    have hnone := State.sceneEdge_none (v := v.stampEdge false) hsc false v.media.toNat
    exact (execFrameStbEdge_taken (falling := false) hv him hpow hgate hlast).trans (congrArg _ hnone)
  case edgeLive =>
    intro t s sc v hv him hpow hgate hlast hsc hf hidle
    have hlive := State.sceneEdge_live (v := v.stampEdge true) hsc hf v.media.toNat
    exact (execFrameStbEdge_taken (falling := true) hv him hpow hgate hlast).trans
      (congrArg _ (hlive.trans (if_neg (Bool.eq_false_iff.1 hidle))))
  case edgeJudged =>
    intro t s sc v hv him hpow hgate hlast hsc hf hstrobe htick
    have hlive := State.sceneEdge_live (v := v.stampEdge true) hsc hf v.media.toNat
    exact (execFrameStbEdge_taken (falling := true) hv him hpow hgate hlast).trans
      (congrArg _ (hlive.trans (if_pos (Bool.and_eq_true_iff.2 ⟨hstrobe, htick⟩))))
  case edgeNear => exact fun t s l v hv hl hnear => execFrameStbEdge_ignored hv hl hnear
  case strobeSilent =>
    intro t s sc e v hv hsc hlive he hdue
    obtain ⟨n, hn, ⟨⟩⟩ := Option.bind_eq_some_iff.1 he
    exact execStrobeSilent_silent hv hsc hlive hn hdue
  case strobeNoScene => exact fun t s v hv hsc => execStrobeSilent_noScene hv hsc

end Sys2Proof.Machine
end
